-- ==== Sys2Proof/Word.lean ====
section
/-! DEFINITION. The word types, the index types (lanes, planes, cores) and the small product types that hold
one thing per lane, per plane and per core. Arithmetic and access functions stand in `Sys2Proof/Machine/`. -/

namespace Sys2Proof

/-- One byte. -/
abbrev Byte := BitVec 8
/-- A 16-bit field. -/
abbrev U16 := BitVec 16
/-- A 24-bit signature or stamp (R80, R82). -/
abbrev U24 := BitVec 24
/-- A 32-bit register or counter. -/
abbrev U32 := BitVec 32
/-- A 48-bit counter (R310). -/
abbrev U48 := BitVec 48
/-- A 64-bit register, code or signature. -/
abbrev U64 := BitVec 64
/-- A coded word `c` of the Tally machine, a signed 64-bit integer (R81). -/
abbrev Coded := BitVec 64
/-- A 128-bit key (R267). -/
abbrev Key := BitVec 128

/-- A sparse table in one canonical form: keys strictly rising, and no entry equal to what an unlisted key
reads as. -/
abbrev Tbl (α : Type) := List (Nat × α)

/-- Byte-addressed memory of the service chip (Table 16.3): (address, byte) pairs in canonical form. -/
abbrev Memory := Tbl Byte

/-- The three lanes (R13). -/
inductive LaneId where
  | l1 | l2 | l3
deriving DecidableEq, Repr

/-- The two Quayline planes, served by PIA and PIB. -/
inductive PlaneId where
  | a | b
deriving DecidableEq, Repr

/-- The four Tally cores of one lane; core p runs partition p (R99). -/
inductive CoreId where
  | c0 | c1 | c2 | c3
deriving DecidableEq, Repr

/-- One value per lane. -/
structure Tri (α : Type) where
  l1 : α
  l2 : α
  l3 : α
deriving DecidableEq, Repr

/-- One value per plane. -/
structure Duo (α : Type) where
  a : α
  b : α
deriving DecidableEq, Repr

/-- One value per core. -/
structure Quad (α : Type) where
  c0 : α
  c1 : α
  c2 : α
  c3 : α
deriving DecidableEq, Repr

/-- The eight module states of Table 0.4. -/
inductive ModState where
  | powerOff | boot | closed | test | restricted | operational | standby | halt
deriving DecidableEq, Repr

/-- The five lane states of Table 7.1. -/
inductive LaneState where
  | inVote | outTest | outFault | rejoining | laneOff
deriving DecidableEq, Repr

/-- The coded fault causes of Table 3.11. -/
inductive CodedCause where
  | code | range | bool | index | unconf | owner | ckpt | passcmp | opcode | journal | ecc | route
deriving DecidableEq, Repr

/-- Why a lane is out of the vote: Table 7.3, and the three OUT-TEST causes (ROTATE R223, PILOT R109,
SHUTDOWN R478). -/
inductive Cause where
  | none
  | coded (c : CodedCause)
  | overrun | clock | clx | agree | sigcmp | silent | rejoin | test | power | exchange | halt
  | rotate | pilot | shutdown
deriving DecidableEq, Repr

/-- The two runs of each cycle within a lane (R21). -/
inductive Pass where
  | p1 | p2
deriving DecidableEq, Repr

/-- The memory spaces of Table 3.4. -/
inductive Space where
  | l | e | t | i | o | k | m
deriving DecidableEq, Repr

/-- The roles of Table 14.8. -/
inductive Role where
  | observer | maintainer | commissioner
deriving DecidableEq, Repr

/-- The dies of R426, and the carrier and the module as a whole. -/
inductive Die where
  | lc1 | lc2 | lc3 | pia | pib | svc | carrier | module
deriving DecidableEq, Repr

/-- The twelve power domains, in the bit order of PWR_STAT (Table 17.2). -/
inductive Domain where
  | aon | nvm | svc | l1c | l2c | l3c | l1i | l2i | l3i | neta | netb | vliof
deriving DecidableEq, Repr

/-- The record classes of Table 15.2. -/
inductive LogClass where
  | fault | warn | info | change | snap | bist | log
deriving DecidableEq, Repr

/-- The event names the manual uses. The service firmware's code table gives each one a CODE that the
manual does not state (R426), so an event is held by its name. -/
inductive EventName where
  -- power, clocks, start-up
  | feedLow | ibcFail | domainMissed | nvmFail | pllLockLoss | planeClock | svcClock | aonClock
  | bootTimeout | cfgDefaulted | manifestBad | comboUntested | loadCheck | unitCoding | pairLicence
  | unitChange | tempHigh | testOnly | noManifest | warmStart | coldStart | vliofStage
  | planeLost | svcLost | laneSupply | vliofLost
  -- lanes and the vote
  | exclusion | codedFault | voteLost | lanes2of2 | moduleHalt | moduleState
  | ovrWarn | ovrDisagree | budgetExceeded | minority | noMajority | disagree2 | lateInput
  | clxLinkFailed | exchangeDamaged | rejoinStart | rejoinDone | rejoinFailed | rotatingTest | testStep
  | testDeferred
  -- program and data
  | fieldRange | forcesCleared | forceApplied | forceRemoved | forceRefused | irelCommanded | irelExecuted
  | irelDiscarded | firstLapsed | commandRefused
  -- Quayline
  | planeNoTick | signLate | drift | driftCleared | barred | crossing | unitClash | relayLate | feedLimit
  | feedStart | feedStop | lossOfSignal | signalReturn | guardianCount | uplinkCount | ncBusy | overflow
  -- safe link and uplinks
  | slDrop | slUnsigned | slReplaced | slCheck | lanDiff | superseded | standbyRx
  -- PTP
  | jumpRefused | timeStep | incrRange | newMaster
  -- local I/O
  | switchClosed | midDiffers | inputTest | supplyLow | extSupply | statusChange | esCross | esStuck | esDisc
  -- Wharf bus
  | wbState | wbCounter96 | wbBusOff | wbBusOffLimit | wbTiming | tideFit
  -- pair
  | takeover | rollback | handover | claimLost | hawserLost | pairManifest
  -- manifests, access
  | login | loginFailed | accountLock | logout | accountCreated | accountRemoved | passwordChanged
  | keyEnrolled | keyRemoved | manifestLoaded | manifestRefused | manifestVerified | manifestActivated
  | manifestSelected | firmwareLoaded | firmwareActivated | firmwareRefused | firmwareFallback
  | onlineCommanded | onlineRefused | onlineSwitched | restart | testEntry | testExit | pilotSession
  | pilotRefused | pilotFault | wakeFault | powerDown
  -- logbook, black box, self-test, registers
  | logDrop | torn | snapFrame | bistItem | bistDue | bistOverdue | lockedWrite | shutdownReady | eventsLost
deriving DecidableEq, Repr

end Sys2Proof
end

