-- ==== Sys2Proof/Syntax/Types.lean ====
section
/-! DEFINITION. The plain data a command carries: the manifest (chapter 14), instruction fields, records of the
cross-lane exchange, maintenance commands and the readings a command brings from outside. -/

namespace Sys2Proof

/-! ## The manifest (R392) -/

/-- How a telegram field or a generic word is declared (R95, R156). -/
inductive FieldKind where
  | bool | unsigned | signed
deriving DecidableEq, Repr

/-- One field of a telegram payload (R95): the frame word it fills, its declared kind, the bit offset of its
most significant bit counted from bit 7 of payload byte 0, its width and its restrictive value (R96). -/
structure FieldCfg where
  word : Nat
  kind : FieldKind
  bit : Nat
  width : Nat
  restrictive : Int
deriving DecidableEq, Repr

/-- One region of a partition's region table (R93). -/
structure Region where
  space : Space
  base : Nat
  stride : Nat
  length : Nat
deriving DecidableEq, Repr

/-- Partition header (Table 3.9); `crcOk` says whether its CRC-32C verifies. -/
structure PartHdr where
  number : Nat
  codeLen : Nat
  w : Nat
  tR : Nat
  stores : Nat
  ckpts : Nat
  regions : List Region
  crcOk : Bool
deriving DecidableEq, Repr

/-- Route engine header (R491). -/
structure RouteHdr where
  stores : Nat
  crcOk : Bool
deriving DecidableEq, Repr

/-- One configured memory word of the lane image: its signature, owner code (Table 3.5), initial plain value,
declared kind, and for an L variable the persistent variable ID (Table 14.6). -/
structure WordCfg where
  b : U24
  owner : Nat
  x : Int
  kind : FieldKind
  varId : Option Nat
deriving DecidableEq, Repr

/-- Element types of Table 5.1. -/
inductive ElemType where
  | sect | point | signal | crossing | generic | esPair
deriving DecidableEq, Repr

/-- What the field map says of one element for the generated code of R156, R163-R166 and R493: its partition,
the source field of its main state word, the main word of a generic element, its individual command word in L,
and the output field its command goes to. -/
structure ElemCfg where
  type : ElemType
  partition : CoreId
  srcField : Option Nat
  mainWord : Option Nat
  indivL : Option Nat
  cmdOut : Option (Nat × Nat)
  proceed : Nat
deriving DecidableEq, Repr

/-- One configured controller of the Quayline schedule (R227, R263). -/
structure CtrlCfg where
  segment : Nat
  slot : Nat
  upMax : Nat
  limit : Nat
  upLen : Nat
  downLen : Nat
  map : U16
  up : List FieldCfg
  down : List FieldCfg
deriving DecidableEq, Repr

/-- One inbound or outbound message of a connection (R292). -/
structure MsgCfg where
  msg : Nat
  frame : Nat
  len : Nat
  fields : List FieldCfg
deriving DecidableEq, Repr

/-- One safe-link connection (R292), with its launch period and phase in ns (R314). -/
structure ConnCfg where
  port : Nat
  peerIp : U32
  peerSite : U64
  peerTags : List Nat
  tmax : Nat
  pout : Nat
  inbound : List MsgCfg
  outbound : List MsgCfg
  launch : Option (Nat × Nat)
deriving DecidableEq, Repr

/-- Mode of one VLIO channel (Table 11.1). -/
inductive ChanMode where
  | unused | input | output
deriving DecidableEq, Repr

/-- Cross-voltage reaction of a group (Table 11.1). -/
inductive Xreact where
  | group | report
deriving DecidableEq, Repr

/-- Local I/O configuration (Table 11.1). Channels are numbered 0-47: 16 × (g − 1) + c − 1. Filter counts are
the N of R323; `tdMs` the discrepancy time; `setOf` maps a member channel to its lead. -/
structure LocalIoCfg where
  modes : Tbl ChanMode
  filterN : Tbl Nat
  setOf : Tbl Nat
  xreact : Tri Xreact
  sdrEs1 : List Nat
  sdrEs2 : List Nat
  sdrMc : List Nat
  td1Ms : Nat
  td2Ms : Nat
deriving DecidableEq, Repr

/-- Modes of a Wharf bus channel (Table 12.1). -/
inductive WbMode where
  | off | listen | normal | tide
deriving DecidableEq, Repr

/-- Bit timing of a Wharf bus channel (Table 12.2). -/
structure WbTiming where
  prescaler : Nat
  tq : Nat
  samplePct : Nat
  sjw : Nat
  seg2 : Nat
  dPrescaler : Nat
  dTq : Nat
  dSamplePct : Nat
  dSjw : Nat
  dSeg2 : Nat
  tdcOffset : Nat
deriving DecidableEq, Repr

/-- A tide table (R360): rows, column lengths in µs, and the 16-bit cells of each row (Table 12.7). -/
structure TideTable where
  rows : Nat
  cols : List Nat
  cells : List (List U16)
deriving DecidableEq, Repr

/-- A CAN frame as it stands on the bus (R347). -/
structure CanFrame where
  ide : Bool
  id : Nat
  fdf : Bool
  brs : Bool
  esi : Bool
  remote : Bool
  dlc : Nat
  data : List Byte
deriving DecidableEq, Repr

/-- Manifest configuration of one Wharf bus channel (R349). -/
structure WbCfg where
  mode : WbMode
  shared : Bool
  timing : WbTiming
  filters : List U64
  tide : Option TideTable
  refId : Nat
  /-- Frames of the exclusive buffers as configured (R362). -/
  exclusive : Tbl CanFrame
  privileged : Bool
  retryLimit : Nat
  holdOffMs : Nat
deriving DecidableEq, Repr

/-- One entry of COMBO: lane, service and plane firmware revision (R392, R401). -/
structure Combo where
  lane : U32
  svc : U32
  plane : U32
deriving DecidableEq, Repr

/-- Manifest header (Table 14.1). `reservedZero` says whether every reserved byte is 0. -/
structure ManHeader where
  magic : U32
  format : U16
  hdrLen : U16
  reservedZero : Bool
  site : U64
  number : U32
  base : U32
  buildTime : U64
  tc : Nat
  testOnly : Bool
  qlKeyset : U16
  slKeyset : U16
  qlPrev : U16
  slPrev : U16
  bodyLen : Nat
  iv : BitVec 96
  gcmTag : BitVec 128
  bodyHash : BitVec 384
  signerId : U64
  ephemeral : BitVec 776
  /-- WRAP: die identity and wrapped content key. -/
  wrap : List (U64 × BitVec 320)
  comboCount : Nat
  combo : List Combo
  signature : BitVec 768
deriving DecidableEq, Repr

/-- Manifest body (the contents named at the head of chapter 14). Memory words and the code are keyed by the
machine's flat keys; `timers` maps a timer ID to its declared duration in cycles; `edges` lists the configured
detectors; `firstNew` lists the FIRST_NEW words (R413); `demand` maps a route to its L demand word (R178); `slots` is the length of each partition's
presentation list. -/
structure ManBody where
  parts : List PartHdr
  routeHdr : RouteHdr
  code : Tbl U64
  words : Tbl WordCfg
  elems : Tbl ElemCfg
  ctrls : Tbl CtrlCfg
  conns : Tbl ConnCfg
  localIo : LocalIoCfg
  wb : Tbl WbCfg
  timers : Tbl Nat
  edges : List Nat
  demand : Tbl Nat
  firstNew : List Nat
  routePart : Tbl Nat
  slots : Quad Nat
  laneKeys : Tri (Tbl Key)
  testIntervalH : Nat
  ipv4 : U32
  /-- Gateway of LAN A and of LAN B (R288). -/
  gateways : Duo U32
  vlan : Option Nat
  ptpDomain : Nat
  partner : Bool
deriving DecidableEq, Repr

/-- A manifest (R392). -/
structure Manifest where
  hdr : ManHeader
  body : ManBody
deriving DecidableEq, Repr

/-! ## Instruction fields (Table 4.3) -/

/-- The fields of one Tally instruction word other than its opcode, which the command names. -/
structure Fields where
  dst : BitVec 6
  src1 : BitVec 6
  src2 : BitVec 6
  opnd : BitVec 38
deriving DecidableEq, Repr

/-! ## Cross-lane exchange -/

/-- The local input bits a lane sends beside its records (R202): the local bit vector of Table 11.5 in bits 127-0, and its
readings of fields 7-9 of the module status frame, which are agreed bit by bit as well (R480), in bits 130-128. -/
abbrev LocalBits := BitVec 131

/-- Agreement record (Table 7.4). `input` is the frame number, or 8192 + command sequence number for a command,
whose FRAME is 8 191 on the wire, or 8 190 for a copy record (R373). -/
structure AgreeRec where
  input : Nat
  present : Bool
  planeA : Bool
  planeB : Bool
  digest : U64
deriving DecidableEq, Repr

/-- Consensus record (Table 7.7). `intact` says whether its CRC verifies at the receiver. -/
structure ConsRec where
  cn : U32
  sig : U64
  out : U64
  ovr : Bool
  views : Tri LaneState
deriving DecidableEq, Repr

/-! ## Maintenance commands that reach the lanes (Table 14.9, R198) -/

/-- What a force or its removal names: an element's TFORCE, a VLIO output channel or an SDR output. -/
inductive ForceTarget where
  | elem (id : Nat)
  | channel (ch : Nat)
  | sdr (j : Nat)
deriving DecidableEq, Repr

/-- A command delivered by SVC for agreement (R198). -/
inductive LaneCmd where
  | restrictiveForce (elem : Nat)
  | removeRestrictive (elem : Nat)
  | forceValue (tgt : ForceTarget) (value : Int)
  | removeForced (tgt : ForceTarget)
  | individualRelease (route : Nat)
  | onlineChange
deriving DecidableEq, Repr

/-- A command as SVC delivers it: its command sequence number (R200), the account and role it came from (R421),
and the command. -/
structure SentCmd where
  seq : U32
  account : Nat
  role : Role
  cmd : LaneCmd
deriving DecidableEq, Repr

/-! ## Readings that a command brings from outside -/

/-- Midpoint levels of a switch pair (R318). -/
inductive Mid where
  | low | mid | high
deriving DecidableEq, Repr

/-- One raw comparator level as sampled (R322): ON, OFF, or between. -/
inductive RawLevel where
  | on | off | between
deriving DecidableEq, Repr

/-- One sample of a lane's comparator paths (R323, R336, R342): the VLIO terminals, overload bits, SDR
terminals and overloads, mirror contacts, the four field supplies in mV, the filtered and the raw level of the
four ES channels, and COMM_IN. -/
structure Sample where
  vlio : Tbl RawLevel
  overload : Tbl Bool
  sdr : Tbl RawLevel
  sdrOverload : Tbl Bool
  mc : Tbl RawLevel
  supplyMv : List Nat
  esFiltered : List Bool
  esRaw : List Bool
  commIn : Bool
  stagesOk : Bool
deriving DecidableEq, Repr

/-- What one lane shows at the end of BOOT (R477): its checks and its tick, what it read back, and the unit coding as
it reads UNITSEL_A and UNITSEL_B (R24, R484). -/
structure LaneBoot where
  firmwareOk : Bool
  fwRev : U32
  readbackOk : Bool
  factoryOk : Bool
  fullChecksOk : Bool
  tickNear : Bool
  unitA : Bool
  unitB : Bool
deriving DecidableEq, Repr

/-- Marker round trips in ns that a calibration takes on the CLX links 1-2, 2-3 and 1-3 (R53). -/
abbrev Trips := Tri (List Nat)

/-- What BOOT observes outside the lanes: the running service and plane firmware, whether their images verify
and the previous set's revisions, and the marker round trips of the CLX links (R53). -/
structure BootObs where
  lanes : Tri LaneBoot
  svcRev : U32
  piaRev : U32
  pibRev : U32
  imagesOk : Bool
  prevSet : Combo
  trips : Trips
deriving DecidableEq, Repr

/-- Midpoint voltages in mV that step 6 of the rotating lane test reads of one own switch, on a channel 0-51 in a pair
(0 for 1&2, 1 for 2&3, 2 for 1&3): with the switch closed alone and after it has opened again, by the lane under test and
by the other lane of the pair (R320). -/
structure MidTest where
  ch : Nat
  pair : Nat
  closedMv : Nat
  openedMv : Nat
  peerClosedMv : Nat
  peerOpenedMv : Nat
deriving DecidableEq, Repr

/-- What a step of the rotating lane test shows (R223): its own verdict; in step 6 the midpoints of the lane's switches
(R320); in step 7 the marker round trips (R53). -/
structure TestReading where
  passed : Bool
  mids : List MidTest
  trips : Trips
deriving DecidableEq, Repr

/-- STATUS content (Table 13.2). -/
structure HwStatus where
  unitB : Bool
  state : ModState
  clm : U32
  cn : U32
  /-- COPY: RESYNC, READY, or NONE when neither; with the last applied cycle k. -/
  resync : Bool
  ready : Bool
  lastApplied : U32
  inVote : Nat
  testRunning : Bool
  svcOk : Bool
  holderDown : Bool
  signature : BitVec 768
  /-- Segments of the sending chip's plane on which far-end feed runs or is due (R258): Table 13.2 does not list the report;
  log entry 107. -/
  fed : BitVec 8
deriving DecidableEq, Repr

/-- The start of a controller's frame: SFD instant in its main clock and in the Breakwater's own clock, and byte-times on the
wire (R238, R250). -/
structure LaunchAt where
  start : Nat
  guard : Nat
  bytes : Nat
deriving DecidableEq, Repr

/-- A key set as the commissioning interface loads it into a controller (R267, Table 9.4). -/
structure KeyLoad where
  number : U16
  lanes : Tri Key
  up1 : Key
  up2 : Key
deriving DecidableEq, Repr

/-- A fault of a controller channel's AES datapath at one telegram: its verdict on SC1 and on SC2 is wrong (R271). -/
structure ChanFault where
  code1 : Bool
  code2 : Bool
deriving DecidableEq, Repr

/-- Head of a frame on a hawser port, its length in bytes, and the verdict on its FCS (R368). -/
structure HawserHead where
  etherType : U16
  version : Byte
  type : Byte
  length : Nat
  fcsOk : Bool
deriving DecidableEq, Repr

/-- Header of a hawser copy (Table 13.4). -/
structure CopyHdr where
  cn : U32
  clm : U32
  unitB : Bool
  epoch : U32
  cnE : U32
  state : ModState
  tc : Nat
  signature : BitVec 768
  laneViews : Tri LaneState
  lanes2of2 : Bool
  skipped : Bool
  transfer : Bool
deriving DecidableEq, Repr

/-- One record of a hawser copy: a header, an update record (flat key and plain value), a safe-link frame with
its status and field values, or a word of a resync chunk (Table 13.4). -/
inductive CopyRec where
  | header (h : CopyHdr)
  | update (key : Nat) (x : Int)
  | frame (f : Nat) (status : Int) (fields : List (Nat × Int))
  | chunk (k : Nat) (words : List (Nat × Int))
  /-- What the supervisor's L words hold of a safe-link connection (R301, R302): the peer's epoch, SEQ and digest of each
  inbound message number, and the age bound and cycle of its last agreed-present message. -/
  | conn (k : Nat) (peerEpoch : Option U32) (seqs : List (Nat × U32 × U64)) (bounds : List (Nat × Nat × U32))
  /-- What the hidden L words of the generated code hold (R164-R166, R178): pending commands (element, position,
  start and DATA_OK since), cycles without data, presentation lists and standing demands. -/
  | gen (pend : List (Nat × Nat × Option (U32 × Bool))) (noData : List (Nat × Nat)) (present : List (Nat × List Nat))
      (demanded : List Nat)
deriving DecidableEq, Repr

/-- A SEAL frame (R371). -/
structure Seal where
  lane : LaneId
  clm : U32
  cn : U32
  crc : U64
  sig : U64
  out : U64
  transfer : Bool
  code : U64
deriving DecidableEq, Repr

/-- How a frame on the bus ended (R358). An error has its kind (0 bit, 1 stuff, 2 CRC, 3 form, 4 acknowledgement), the
number of further errors about its error flag, each of which counts 8 more, and whether it is a stuff error in arbitration
(ISO 11898-1). -/
inductive CanEnd where
  | ok | lost | error (kind eights : Nat) (arb : Bool)
deriving DecidableEq, Repr

/-- What a channel receives: a frame free of errors, or an error with its kind and the number of dominant bits about its
error flag that count 8 each (ISO 11898-1). -/
inductive CanRx where
  | frame (f : CanFrame) | error (kind eights : Nat)
deriving DecidableEq, Repr

/-- What a frame on an uplink port is (R288): the five kinds that the module accepts, and the kinds by which it counts the
frames that it discards. -/
inductive UplinkKind where
  | arp | icmpEcho | prpSupervision | ptp | safeLink
  /-- TCP, other UDP, other ICMP, other IPv4, another VLAN, a bad FCS or checksum, another EtherType. -/
  | tcp | udpOther | icmpOther | ipOther | vlanOther | damaged | other
deriving DecidableEq, Repr

/-- What a PTP message shows of the options it uses (R307, Table 10.5): domainNumber, whether it came over IEEE 802.3 to
01-80-C2-00-00-0E without a VLAN tag, its log interval, and whether it is unicast or carries a TLV other than Follow_Up
information. -/
structure PtpHdr where
  domain : Nat
  annexE : Bool
  logInterval : Int
  unicast : Bool
  tlv : Bool
deriving DecidableEq, Repr

/-- A PTP Sync as it reaches the servo (R311): master identity, sequenceId, offset in ns (not known yet of a two-step
Sync), and whether it is two-step. -/
structure PtpSync where
  hdr : PtpHdr
  master : U64
  seq : Nat
  offset : Int
  twoStep : Bool
deriving DecidableEq, Repr

/-- A PTP Follow_Up: master identity, sequenceId, and the offset in ns that it and its Sync give (R311). -/
structure PtpFollowUp where
  hdr : PtpHdr
  master : U64
  seq : Nat
  offset : Int
deriving DecidableEq, Repr

/-- An Announce dataset used by the best master clock algorithm (R308), in comparison order. -/
structure PtpAnnounce where
  hdr : PtpHdr
  priority1 : Nat
  clockClass : Nat
  accuracy : Nat
  variance : Nat
  priority2 : Nat
  identity : U64
  stepsRemoved : Nat
  utcOffset : Int
  utcValid : Bool
deriving DecidableEq, Repr

/-- A CLX link, named by its two lanes. -/
inductive ClxLink where
  | l12 | l23 | l13
deriving DecidableEq, Repr

/-- Sources of SNAP (R433, Table 15.6). -/
inductive SnapSource where
  | tally (ln : LaneId) | exclusion (ln : LaneId) | register (haltEntry : Bool) | snapIn
deriving DecidableEq, Repr

/-- What BIST marks unusable (Table 15.8). -/
inductive Mark where
  | lane (ln : LaneId) | slot (ln : LaneId) (n : Nat) | retention (ln : LaneId) | link (l : ClxLink)
  | channel (ch : Nat) | sdr (j : Nat) | stage (n : Nat) | plane (pl : PlaneId) | port (pl : PlaneId) (n : Nat)
  | svc | recordSlot (n : Nat) | frameSlot (n : Nat) | supercap | svcPort (n : Nat)
deriving DecidableEq, Repr

/-- Verdict of a self-test item (R443). -/
inductive BistResult where
  | pass | fail | cut | notRun
deriving DecidableEq, Repr

/-- What a Pilot session reads or writes (R111): V, P and X registers, a memory word, and for reading the special
registers PC, CN and SG of Table 3.1. -/
inductive PilotTarget where
  | v (n : Nat) | p (n : Nat) | x (n : Nat)
  | word (key : Nat)
  | pc | cn | sg
deriving DecidableEq, Repr

/-- A service register block (Table 16.1). -/
inductive Blk where
  | upl | ptp | wb | chk | que | snp | pwr | bist | log | qla | qlb
deriving DecidableEq, Repr

end Sys2Proof
end

