-- ==== Sys2Proof/Syntax.lean ====
section
/-! DEFINITION. The commands of the block: one constructor per row of the operation and event table, in the
table's order. An operand `t` is an instant of operating time in ns; other operands are what the outside brings:
a lane, a plane, a number, a frame, a reading. -/

namespace Sys2Proof

/-- The operations and events of the table. -/
inductive Instr where
  /-- A feed (0 PF1, 1 PF2) now measures `mv` millivolts (R467). -/
  | feedLevelChange (feed mv : Nat)
  /-- Both feeds have stayed below 15.0 V for 200 µs (R467, R468). -/
  | powerFailWarning
  /-- 30 ms after the warning (R468). -/
  | domainPowerDown
  /-- A feed has stayed above 16.8 V for 100 ms; `offUs` is how long power was off, in µs (R471, R405). -/
  | powerGood (t offUs : Nat)
  /-- A switched-on domain reaches power-good (R473); `trips` are the marker round trips of a lane that then starts
  (R53). -/
  | domainPowerGood (d : Domain) (trips : Trips)
  /-- A switched-on domain missed power-good for 50 ms (R473). -/
  | domainPgTimeout (d : Domain)
  /-- BOOT ends (R477). -/
  | bootComplete (t : Nat) (o : BootObs)
  /-- No agreed tick 10 s after power-good or the restart command (R477). -/
  | bootTimeout (t : Nat)
  /-- A lane PLL loses lock (R475). -/
  | pllLockLoss (ln : LaneId)
  /-- A lane supply leaves its limits: LnC, or LnI when `ofLnI` (R196, R472). -/
  | laneSupplyLoss (ln : LaneId) (ofLnI : Bool)
  /-- The lane's t0; `mids` are the midpoint voltages the lane reads, for those that half the group supply does not hold:
  (channel 0-51, pair 0 for 1&2, 1 for 2&3, 2 for 1&3, mV) (R44, R318, R319). -/
  | agreedTick (ln : LaneId) (t : Nat) (mids : List (Nat × Nat × Nat))
  /-- A peer's tick marker arrives `rx` ns after the lane's own tick (R52). -/
  | tickMarkerRx (ln src : LaneId) (rx : Int)
  /-- The wake cell raises its request (R59). -/
  | wakeRequest (ln : LaneId)
  /-- 1.0 µs before PASS1: which gates acknowledged (R59). -/
  | wakeDeadline (ln : LaneId) (coresAck reAck : Bool)
  /-- P-AGREE opens in a lane (R200). -/
  | pAgreeStart (ln : LaneId)
  /-- An agreement record of a peer, or `none` when the exchange arrived damaged after its resend (R51). -/
  | agreementRecordRx (ln src : LaneId) (rec : Option AgreeRec) (bits : LocalBits)
  /-- A peer's echo of the records it received from the third lane (R201). -/
  | agreementEchoRx (ln src : LaneId) (crc : U64)
  /-- The lane decides every input (R202). -/
  | inputAgreement (ln : LaneId)
  /-- A repaired payload from a majority lane (R203). -/
  | repairPayloadRx (ln src : LaneId) (input : Nat) (payload : List Byte)
  /-- The minority limits of a lane are judged (R204). -/
  | agreeMinorityLimit (ln : LaneId)
  /-- A controller frame's AGE is judged against UPMAX (R279). -/
  | uplinkAgeLimit (ln : LaneId) (frame : Nat)
  /-- A safe-link frame's age bound is judged against TMAX (R302). -/
  | safeLinkAgeExpiry (ln : LaneId) (frame : Nat)
  /-- The PASS1 phase-start strobe (R77). -/
  | pass1Start (ln : LaneId)
  /-- The PASS2 phase-start strobe (R42). -/
  | pass2Start (ln : LaneId)
  /-- Pass start + B (R63). -/
  | passBudgetCheck (ln : LaneId)
  /-- P-CONS opens in a lane (R207). -/
  | pConsStart (ln : LaneId)
  /-- A peer's consensus record; `none` when damaged (R208, R51). -/
  | consensusRecordRx (ln src : LaneId) (rec : Option ConsRec)
  /-- The exchange deadline (R208). -/
  | exchangeDeadline (ln : LaneId)
  /-- The lanes decide (R208). -/
  | consensusDecision
  /-- A second skipped cycle in the next CN (R68). -/
  | secondSkipHalt
  /-- P-CONS ends in a lane (R209). -/
  | pConsEnd (ln : LaneId)
  /-- P-SIGN opens in a lane (R212). -/
  | pSignStart (ln : LaneId)
  /-- The supervisor refreshes the mirror window (R449). -/
  | mirrorRefresh (ln : LaneId)
  /-- An exclusion notice of `src` arrives (R210). -/
  | exclusionNoticeRx (ln src : LaneId)
  /-- A CLX link fails (R28), or carries a damaged exchange when `damaged` (R51). -/
  | clxLinkFailure (link : ClxLink) (damaged : Bool)
  /-- 1.0 s after exclusion (R197), with the marker round trips the lane's calibration takes (R53). -/
  | laneRestart (ln : LaneId) (t : Nat) (trips : Trips)
  /-- A state chunk as it arrived: flat keys and plain values (R218). -/
  | rejoinChunkRx (ln : LaneId) (chunk : List (Nat × Int))
  /-- The I frame state as it arrived: address in the I space and plain value of every configured word (R218). -/
  | rejoinFrameStateRx (ln : LaneId) (frames : List (Nat × Int))
  /-- The third consecutive matching shadow cycle (R219). -/
  | rejoinComplete (ln : LaneId)
  /-- A rejoin failure of R220 shown by the lane. -/
  | rejoinFailure (ln : LaneId)
  /-- The rotating test interval has run (R222). -/
  | rotatingTestStart (t : Nat)
  /-- A rotating test step ends, with what it has shown (R223). -/
  | testStepEnd (ln : LaneId) (r : TestReading)
  /-- 120 s after the start of the rotating test (R223). -/
  | rotatingTestTimeout (t : Nat)
  /-- A tick strobe reaches a plane chip at `t` (R31). -/
  | tickStrobeRx (pl : PlaneId) (ln : LaneId) (t : Nat)
  /-- Fewer than two strobes within 1.0 µs of the due plane tick (R31). -/
  | planeNoTick (pl : PlaneId)
  /-- An uplink frame arrives at instant `t` in slot `slot` of segment `seg` (R241). -/
  | uplinkGuardian (pl : PlaneId) (seg slot t : Nat) (frame : List Byte)
  /-- 16 cycles after the DSET with DRIFT still set (R248). -/
  | barred (pl : PlaneId) (ctrl : Nat)
  /-- An uplink missing in 16 consecutive cycles (R245). -/
  | delayUnknown (pl : PlaneId) (ctrl : Nat)
  /-- A lane's body and code for a slot (R213). -/
  | laneBodyRx (pl : PlaneId) (ln : LaneId) (seg slot : Nat) (body : List Byte) (code : List Byte)
  /-- A downlink slot opens (R213). -/
  | downlinkSlotOpen (pl : PlaneId) (seg slot : Nat)
  /-- A Q-DYN window 0-3 opens at `t` (R236). -/
  | qDynWindowStart (pl : PlaneId) (win t : Nat)
  /-- DREQ leaves on `seg` at `t1` (R243). -/
  | dreqSend (pl : PlaneId) (seg win : Nat) (t1 : Nat)
  /-- A DRESP is stamped at `t4` (R243). -/
  | drespRx (pl : PlaneId) (seg : Nat) (frame : List Byte) (t4 : Nat)
  /-- The window ends without a DRESP (R243). -/
  | drespMissing (pl : PlaneId) (seg : Nat)
  /-- A DREQ with MOD = 1 of the partner; the chip's turnaround is `turn` (R256). -/
  | lineDreqRx (pl : PlaneId) (seg : Nat) (frame : List Byte) (turn : Nat)
  /-- A sync frame of another module reaches a port at `t` (R254). -/
  | moduleSyncRx (pl : PlaneId) (seg : Nat) (frame : List Byte) (t : Nat)
  /-- The listen time ends (R255). -/
  | quaylineListenEnd (t : Nat)
  /-- SVC queues a non-cyclic request (R283). -/
  | ncRequestQueue (pl : PlaneId) (ctrl : Nat) (payload : List Byte)
  /-- A non-cyclic response reaches a port at `t` (R283). -/
  | ncResponseRx (pl : PlaneId) (seg : Nat) (frame : List Byte) (t : Nat)
  /-- A lane checks the uplink copy at the front of its forwarding ring (R277). -/
  | uplinkTelegramRx (ln : LaneId) (pl : PlaneId)
  /-- A controller receives a sync frame on its port 0 or 1, at `t` by its main clock and `tb` by its Breakwater's (R237). -/
  | controllerSyncRx (ctrl : Nat) (pl : PlaneId) (port : Nat) (frame : List Byte) (t tb : Nat)
  /-- A controller misses a sync, at `t` and `tb` of its two clocks (R239). -/
  | controllerCoast (ctrl : Nat) (pl : PlaneId) (t tb : Nat)
  /-- No valid sync for 1.0 s, at `t` and `tb` of the two clocks (R245). -/
  | controllerSyncLoss (ctrl : Nat) (pl : PlaneId) (t tb : Nat)
  /-- The launch instants of a controller's near and far copies, with its input payload fields (bytes 2 on); `guardFails`
  is an internal fault of the Breakwater that shows at it (R238, R250). -/
  | controllerLaunch (ctrl : Nat) (pl : PlaneId) (near far : LaunchAt) (inputs : List Byte) (guardFails : Bool)
  /-- A downlink copy reaches a controller on a port at `t`, with the faults of the two channels' AES datapaths (R270,
  R271). -/
  | controllerDownlinkRx (ctrl : Nat) (pl : PlaneId) (port : Nat) (frame : List Byte) (t : Nat) (ch1 ch2 : ChanFault)
  /-- The effective age is judged (R274). -/
  | controllerAgeExpiry (ctrl : Nat)
  /-- Downlinks accepted in 8 consecutive cycles (R264). -/
  | rstClear (ctrl : Nat)
  /-- A DREQ reaches a controller on `port`; its turnaround is `turn` by its corrected clock and `tb` by its Breakwater's
  (R243). -/
  | controllerDreqRx (ctrl : Nat) (pl : PlaneId) (port : Nat) (frame : List Byte) (turn tb : Nat)
  /-- A DSET reaches a controller (R244). -/
  | controllerDsetRx (ctrl : Nat) (pl : PlaneId) (port : Nat) (frame : List Byte)
  /-- A DNOTE reaches a controller (R247). -/
  | controllerDnoteRx (ctrl : Nat) (pl : PlaneId) (port : Nat) (frame : List Byte)
  /-- A BAR reaches a controller (R248). -/
  | controllerBarRx (ctrl : Nat) (pl : PlaneId) (port : Nat) (frame : List Byte)
  /-- A controller answers an IDENT request that reached it at `t` of its Breakwater's clock, `turn` ns later (R282). -/
  | ident (ctrl : Nat) (pl : PlaneId) (port : Nat) (frame : List Byte) (t turn : Nat)
  /-- A controller answers a COUNTERS request (R282). -/
  | counters (ctrl : Nat) (pl : PlaneId) (port : Nat) (frame : List Byte) (t turn : Nat)
  /-- A controller answers a CLRCNT request (R282). -/
  | clrcnt (ctrl : Nat) (pl : PlaneId) (port : Nat) (frame : List Byte) (t turn : Nat)
  /-- A controller answers a request for a designer service, with the designer's `data`, or for a code not used (R282). -/
  | ncDesigner (ctrl : Nat) (pl : PlaneId) (port : Nat) (frame : List Byte) (data : List Byte) (t turn : Nat)
  /-- The partner's far tick (R257). -/
  | farTick (pl : PlaneId) (t : Nat)
  /-- A far-tick strobe reaches a standby lane `phi` ns after its own t0 (R376). -/
  | farTickStrobeRx (ln : LaneId) (phi : Int)
  /-- No direct sync on a segment by far time 3.0 µs (R258). -/
  | farEndFeedStart (pl : PlaneId) (seg : Nat)
  /-- 16 consecutive direct syncs on a fed segment (R258). -/
  | farEndFeedStop (pl : PlaneId) (seg : Nat)
  /-- A RELAY frame: an uplink copy, or a downlink telegram when `down` (R258). -/
  | relayRx (pl : PlaneId) (down : Bool) (seg slot : Nat) (hd : HawserHead) (frame : List Byte) (t : Nat)
  /-- The partner's slot opens in far time (R258). -/
  | relaySlotOpen (pl : PlaneId) (seg slot : Nat) (t : Nat)
  /-- A COPY frame on a hawser port: its place in the copy and its record (R373). -/
  | copyRx (ln : LaneId) (port idx : Nat) (hd : HawserHead) (rec : CopyRec)
  /-- A SEAL frame (R371). -/
  | sealRx (ln : LaneId) (port : Nat) (hd : HawserHead) (sl : Seal) (count : Nat)
  /-- A STATUS frame of the partner (R368). -/
  | hawserStatusRx (port : Nat) (hd : HawserHead) (st : HwStatus)
  /-- Far time T_c − 0.10 ms (R373). -/
  | copyDecision
  /-- Far time 3.0 µs of a cycle: a takeover trigger is judged (R378). -/
  | takeover
  /-- ROLLBACK_HOLD is judged (R382). -/
  | rollbackHoldClear
  /-- A Maintainer commands a handover (R384). -/
  | handover (sess : Nat)
  /-- The automatic handover conditions are judged (R384). -/
  | autoHandover
  /-- A lane's cycle-start notice reaches SVC (R298). -/
  | cycleStartNotice (ln : LaneId) (t : Nat)
  /-- A frame with a safe-link copy arrives at uplink port 0-3 (R298). -/
  | safeLinkFrameRx (port : Nat) (frame : List Byte) (t : Nat)
  /-- 20 µs after the cut-off (R298). -/
  | batchClose
  /-- A lane checks the oldest copy that SVC has forwarded to it (R299). -/
  | safeLinkCopyCheck (ln : LaneId)
  /-- TMAX has passed since the arrival of held copies (R298). -/
  | slCopyExpire (t : Nat)
  /-- SVC sends a message (R305). -/
  | safeLinkSend (conn msg : Nat)
  /-- 50 µs after the end of P-SIGN (R305). -/
  | slUnsigned (conn msg : Nat)
  /-- PTP time mod P_L = φ for a connection (R314). -/
  | timedLaunch (conn t : Nat)
  /-- A frame on uplink port 0-3 (UA1, UA2, UB1, UB2) (R288, R289). -/
  | uplinkFrameRx (port : Nat) (frame : List Byte) (t : Nat)
  /-- The 2 s supervision period ends (R287). -/
  | prpSupervisionSend (t : Nat)
  /-- SVC restarts alone and reports its revision (R403). -/
  | svcRestart (rev : U32)
  /-- SVC recovers (R431). -/
  | svcRecovery
  /-- A Sync reaches the servo on LAN A or B (R311). -/
  | ptpSyncRx (lanB : Bool) (sync : PtpSync) (t : Nat)
  /-- A Follow_Up completes a two-step Sync with the corrected offset (R307). -/
  | ptpFollowUpRx (lanB : Bool) (fup : PtpFollowUp) (t : Nat)
  /-- An Announce (R308). -/
  | ptpAnnounceRx (lanB : Bool) (ann : PtpAnnounce) (t : Nat)
  /-- One announce receipt timeout without a qualified master on a LAN (R308, R311). -/
  | announceReceiptTimeout (lanB : Bool) (t : Nat)
  /-- A port sends Pdelay_Req at `t1` (R307). -/
  | pdelayReqSend (port t1 : Nat)
  /-- A port answers a Pdelay_Req received at `rx` and sent at `tx` (R309). -/
  | pdelayReqRx (port seq rx tx : Nat)
  /-- A Pdelay response: its turnaround and its arrival (R309). -/
  | pdelayRespRx (port seq turn t4 : Nat)
  /-- A Sync is forwarded from `port` with its ingress and egress stamps (R309). -/
  | transparentClockForward (port ingress egress : Nat) (correction : Int)
  /-- A frame ends on the bus without error at a channel that did not send it (R352). -/
  | canFrameRx (ch : Nat) (rx : CanRx) (sofTime : U48)
  /-- A complete request stands in a channel's request queue (R355). -/
  | txRequestAdmit (ch : Nat) (t : Nat)
  /-- A start opportunity with `leftUs` left in the window (R356, R362). -/
  | frameStart (ch : Nat) (leftUs : Nat) (t : Nat)
  /-- The frame of a channel ends (R358). -/
  | canFrameEnd (ch : Nat) (r : CanEnd) (t : Nat)
  /-- The hold-off time ends (R366). -/
  | busOffHoldoffEnd (ch : Nat) (t : Nat)
  /-- 128 × 11 recessive bits have been seen (R366). -/
  | busOffRecovery (ch : Nat) (t : Nat)
  /-- The bus-offs of the last 60 s are judged (R366). -/
  | busoffLimit (ch : Nat) (t : Nat)
  /-- A tide row starts (R361). -/
  | tideRowStart (ch t : Nat)
  /-- A window opens at column `col` (R362). -/
  | exclusiveWindow (ch col : Nat)
  /-- The bus is idle: the mode due takes effect (R349). -/
  | channelModeChange (ch : Nat)
  /-- One 0.1 ms sample of a lane's comparator paths (R323). -/
  | comparatorSample (ln : LaneId) (sm : Sample) (t : Nat)
  /-- A third frame without a dip ends for channel 0-3 (R342). -/
  | esStuck (ln : LaneId) (ch : Nat)
  /-- The discrepancy time of a pair ends (R343). -/
  | esDisc (ln : LaneId) (pair : Nat)
  /-- The injection test of an input path: what it read ON and OFF (R324). -/
  | inputTest (ln : LaneId) (ch : Nat) (onRead offRead : Bool)
  /-- One run of the 1 kHz supervisor task (R338). -/
  | esTask (ln : LaneId)
  /-- A login attempt (R416). -/
  | login (account : Nat) (password : List Byte) (t : Nat)
  /-- 300 s after an account lock (R416). -/
  | accountUnlock (account : Nat) (t : Nat)
  /-- A session logs out (R415). -/
  | logout (sess : Nat)
  /-- 30 min without a command (R416). -/
  | sessionTimeout (sess : Nat) (t : Nat)
  /-- A Commissioner creates an account (R415). -/
  | accountCreate (sess account : Nat) (role : Role) (password : List Byte)
  /-- A Commissioner removes an account (R415). -/
  | accountRemove (sess account : Nat)
  /-- A password is set (R416). -/
  | passwordChange (sess account : Nat) (password : List Byte)
  /-- A reader reads states and counters (R415). -/
  | readState (sess : Nat)
  /-- A reader reads a logbook slot (R415); whether the CRC of the record there verifies (R430). -/
  | readLogbook (sess slot : Nat) (crcOk : Bool)
  /-- A reader reads a black-box frame slot (R438). -/
  | readBlackbox (sess slot : Nat)
  /-- Chartroom confirms an export up to SEQ (R424). -/
  | logExport (sess : Nat) (seq : U32)
  /-- A frame slot is exported (R438). -/
  | blackboxExport (sess slot : Nat)
  /-- A signing key is enrolled (R394). -/
  | signingKeyEnrol (sess : Nat) (signer : U64) (key : BitVec 776)
  /-- A signing key is removed (R394). -/
  | signingKeyRemove (sess : Nat) (signer : U64)
  /-- A manifest header arrives; per lane, whether SIGNATURE verifies (R397). -/
  | manifestLoad (sess : Nat) (hdr : ManHeader) (sigOk : Tri Bool)
  /-- The body write ends; per lane, whether SHA-384 equals BODY_HASH (R398). -/
  | manifestBodyWritten (man : Manifest) (hashOk : Tri Bool)
  /-- The background checks end; per lane, whether the body decrypts and GCM_TAG verifies (R399). -/
  | manifestVerified (slot : Nat) (gcmOk : Tri Bool)
  /-- The delta of an online change is staged: each lane's CRC-64 over it (R409). -/
  | manifestStaged (crcs : Tri U64)
  /-- A Commissioner selects a slot (R396). -/
  | slotSelect (sess slot : Nat) (t : Nat)
  /-- PENDING is set to 1 or 2 for a slot (R400). -/
  | activatePending (sess slot pending : Nat)
  /-- A warm restart command (R406). -/
  | restartWarm (sess : Nat) (t : Nat)
  /-- A cold restart command (R404). -/
  | restartCold (sess : Nat) (t : Nat)
  /-- A firmware set is loaded; whether each image verifies (R421). -/
  | firmwareLoad (sess : Nat) (set : Combo) (sigOk : Bool)
  /-- The loaded firmware set is activated (R401). -/
  | firmwareActivate (sess : Nat)
  /-- An agreed online change command (R410). -/
  | onlineChange (sess : Nat)
  /-- The end of P-SIGN of s − 1 (R410). -/
  | switchDecision
  /-- A Commissioner enters TEST (R476). -/
  | enterTest (sess : Nat) (t : Nat)
  /-- A Commissioner leaves TEST (R161). -/
  | leaveTest (sess : Nat) (t : Nat)
  /-- A Commissioner closes the module (R476). -/
  | moduleClose (sess : Nat)
  /-- A restrictive force command (R159). -/
  | restrictiveForce (sess elem : Nat)
  /-- Removal of a restrictive force, one message of two (R418). -/
  | removeRestrictiveForce (sess elem : Nat)
  /-- A force value command (R161). -/
  | forceValue (sess : Nat) (tgt : ForceTarget) (value : Int)
  /-- Removal of a forced value, one message of two (R418). -/
  | removeForcedValue (sess : Nat) (tgt : ForceTarget)
  /-- An individual release, one message of two (R419). -/
  | individualRelease (sess route : Nat)
  /-- 60 s after its agreement a first message lapses (R418). -/
  | firstMessageLapse (ln : LaneId)
  /-- The release time of an individual release has passed (R419). -/
  | irelEntry (ln : LaneId)
  /-- A Maintainer commands a rejoin (R197), with the marker round trips of the lane's calibration (R53). -/
  | rejoinCommand (sess : Nat) (ln : LaneId) (trips : Trips)
  /-- A Maintainer defers the rotating test by `ns` (R222). -/
  | deferTest (sess ns : Nat)
  /-- A Pilot session opens (R109). -/
  | pilotOpen (sess : Nat)
  /-- A breakpoint is set (R111). -/
  | pilotBreakpointSet (core : CoreId) (idx occ : Nat)
  /-- The debugger steps one instruction (R111). -/
  | pilotStep (core : CoreId)
  /-- The debugger reads (R111). -/
  | pilotRead (core : CoreId) (tgt : PilotTarget)
  /-- The debugger writes (R111). -/
  | pilotWrite (core : CoreId) (tgt : PilotTarget) (value : Int)
  /-- Pass 1 of Lane 1 reaches a breakpoint (R111). -/
  | pilotBreakpointHit (core : CoreId)
  /-- The captured cycle is run again (R113). -/
  | pilotRerun
  /-- The session ends (R114). -/
  | pilotClose
  /-- A Maintainer starts a planned shutdown (R439). -/
  | plannedShutdown (sess : Nat) (t : Nat)
  /-- A Maintainer aborts the BIST (R439). -/
  | bistAbort (sess : Nat) (t : Nat)
  /-- An item of a unit (0-2 lanes, 3 PIA, 4 PIB, 5 SVC) ends: STEP, compactor, whether its precondition was there,
  the parts in which it met a failure, and the field supplies 0-3 absent while it ran (R442, R443, R446). -/
  | bistItemEnd (unit item step : Nat) (compactor : U64) (ready : Bool) (durMs : Nat) (found : List Mark)
      (absent : List Nat)
  /-- An item runs beyond twice its duration (R444). -/
  | bistItemOvertime (unit item step durMs : Nat)
  /-- The BIST is complete (R483). -/
  | shutdownReady
  /-- The logbook controller takes the next event of Q120 (R428). -/
  | logEvent (t : Nat)
  /-- A SNAP request reaches the network at `t` (R433). -/
  | snapRequest (src : SnapSource) (t : Nat)
  /-- SNAPIN has risen and held for `heldNs` (R433). -/
  | snapinEdge (heldNs t : Nat)
  /-- 10 µs after the first request (R433). -/
  | snapWindowEnd
  /-- 2 µs without a network acknowledgement (R435). -/
  | snapLocalLatch (ln : LaneId)
  /-- The assembled frame is written (R437). -/
  | blackboxFrameWritten
  /-- A write to LOCK_KEY of a block (R450). -/
  | lockKeyWrite (blk : Blk) (v : U32) (t : Nat)
  /-- A read of LOCK of a block (R450). -/
  | lockRead (blk : Blk)
  /-- The 10 ms of an unlocked block are judged (R450). -/
  | lockTimeout (blk : Blk) (t : Nat)
  /-- A service write of `bits` 32 or 64 at a service address (R16, R448). -/
  | registerWrite (addr : Nat) (bits : Nat) (v : U64) (t : Nat)
  /-- A read of QUE_DATA of queue q (R451). -/
  | queDataRead (q : Nat)
  /-- A push to queue q (R452). -/
  | quePush (q : Nat) (w : BitVec 63)
  /-- A write of FLUSH to queue q (R453). -/
  | queFlush (q : Nat) (t : Nat)
  /-- A write of EN to queue q (R453). -/
  | queEnable (q : Nat) (en : Bool)
  /-- A write to QUE_WM of queue q (R455). -/
  | queWmWrite (q : Nat) (v : U32) (t : Nat)
  /-- A write to QUE_CFG of queue q (R455). -/
  | queCfgWrite (q : Nat) (v : U32) (t : Nat)
  /-- A read of QUE_ERR of queue q (R15). -/
  | queErrRead (q : Nat)
  /-- A write of START to engine n (R457). -/
  | chkStart (n : Nat) (fromInit : Bool)
  /-- A write of ABORT to engine n (R459). -/
  | chkAbort (n : Nat)
  /-- A write to CHK_VALUE of engine n (R458). -/
  | chkValueWrite (n : Nat) (v : U64)
  /-- A scan ends: normally, or on an uncorrectable error in the word at offset `err` (R458, R459). -/
  | chkScanEnd (n : Nat) (err : Option Nat)
  /-- A write to SNP_TRIG (R462). -/
  | snpTrigGo (v : U32) (t : Nat)
  /-- A write to SNP_STAT (R462). -/
  | snpBankRelease (v : U32)
  /-- An on-request of PWR_REQ with MASK (R463). -/
  | pwrReqOn (mask : BitVec 12) (t : Nat)
  /-- An off-request of PWR_REQ with MASK (R463). -/
  | pwrReqOff (mask : BitVec 12) (t : Nat)
  /-- A write to PTP_MODE (R464). -/
  | ptpModeWrite (v : U32) (t : Nat)
  /-- A write to PTP_INCR (R464). -/
  | ptpIncrWrite (v : U64)
  | cadd (ln : LaneId) (core : CoreId) (f : Fields)
  | csub (ln : LaneId) (core : CoreId) (f : Fields)
  | cmulk (ln : LaneId) (core : CoreId) (f : Fields)
  | ccmpEq (ln : LaneId) (core : CoreId) (f : Fields)
  | ccmpNe (ln : LaneId) (core : CoreId) (f : Fields)
  | ccmpLt (ln : LaneId) (core : CoreId) (f : Fields)
  | ccmpLe (ln : LaneId) (core : CoreId) (f : Fields)
  | band (ln : LaneId) (core : CoreId) (f : Fields)
  | bor (ln : LaneId) (core : CoreId) (f : Fields)
  | bnot (ln : LaneId) (core : CoreId) (f : Fields)
  | bsel (ln : LaneId) (core : CoreId) (f : Fields)
  | ldl (ln : LaneId) (core : CoreId) (f : Fields)
  | stl (ln : LaneId) (core : CoreId) (f : Fields)
  | lde (ln : LaneId) (core : CoreId) (f : Fields)
  | ste (ln : LaneId) (core : CoreId) (f : Fields)
  | ldi (ln : LaneId) (core : CoreId) (f : Fields)
  | sto (ln : LaneId) (core : CoreId) (f : Fields)
  | tmsStart (ln : LaneId) (core : CoreId) (f : Fields)
  | tmsRestart (ln : LaneId) (core : CoreId) (f : Fields)
  | tmsCancel (ln : LaneId) (core : CoreId) (f : Fields)
  | tmx (ln : LaneId) (core : CoreId) (f : Fields)
  | edg (ln : LaneId) (core : CoreId) (f : Fields)
  | rrq (ln : LaneId) (core : CoreId) (f : Fields)
  | brf (ln : LaneId) (core : CoreId) (f : Fields)
  | loopnInit (ln : LaneId) (core : CoreId) (f : Fields)
  | loopnClose (ln : LaneId) (core : CoreId) (f : Fields)
  | ckpt (ln : LaneId) (core : CoreId) (f : Fields)
  | snap (ln : LaneId) (core : CoreId) (f : Fields)
  | endp (ln : LaneId) (core : CoreId) (f : Fields)
  /-- The route engine of a lane evaluates the SET request at the head of its queue (R185). -/
  | routeSet (ln : LaneId)
  /-- The CANCEL request at the head of the queue (R188). -/
  | routeCancel (ln : LaneId)
  /-- The CHECK request at the head of the queue (R186). -/
  | routeCheck (ln : LaneId)
  /-- The IREL request at the head of the queue (R419). -/
  | irel (ln : LaneId)
  /-- A running domain other than a lane's loses power-good (R472). -/
  | domainPgLoss (d : Domain)
  /-- An intermediate bus converter 1 or 2 fails (R465). -/
  | ibcFail (n : Nat)
  /-- A primary stage 1 or 2 of the VLIOF converter fails (R40). -/
  | vliofStageFail (n : Nat)
  /-- Loss of signal on a segment's line, or its return (R260). -/
  | lossOfSignal (pl : PlaneId) (seg : Nat) (lost : Bool)
  /-- Both hawser ports lose their link (R385). -/
  | hawserLost
  /-- An object controller restarts, with the key set loaded through its commissioning interface, and the segment, slot and
  controller ID stored in its Breakwater, where they are (R264, R267, R249). -/
  | controllerRestart (ctrl : Nat) (load : Option KeyLoad) (place : Option (Nat × Nat × Nat))
  /-- The unit coding pins change after BOOT (R484). -/
  | unitselChange (pinA pinB : Bool)
  /-- A die (0-5) measures a temperature in °C (R489). -/
  | tempHigh (die : Nat) (celsius : Int)
deriving DecidableEq, Repr

end Sys2Proof
end

