-- ==== Sys2Proof/Decode.lean ====
section
/-! DEFINITION. The host's view of the command table: no row of the table gives bits, so no word spells a command. -/

namespace Sys2Proof

/-- The command that a word spells by the table's bits: none, since no row of the table gives any (log entry 5). -/
def decodeTableWord (nbits w : Nat) : Option Instr :=
  match nbits, w with
  | _, _ => none

end Sys2Proof
end

