-- ==== Sys2Proof/Config.lean ====
section
/-! DEFINITION. What an implementation fixes and what the manual leaves open: uninterpreted constants with no
body. No statement can rest on a value of one of them. -/

namespace Sys2Proof

/-- The ordinary running value of a data-dependent physical quantity the manual does not fix (a random salt,
R416): the n-th free value drawn. Log entry 4. -/
opaque Config.freeSalt : Nat → Key

/-- The compactor value of a self-test item is the die's own; the firmware's expected signature is not given
(R443). Log entry 4. -/
opaque Config.bistExpected : Nat → U64

/-- The terminal step count T of a self-test item (R443); the manual gives it for item 3 only. Log entry 4. -/
opaque Config.bistTerminal : Nat → Nat

/-- What a self-test item that is cut short by the loss of power had reached, at the n-th such cut: STEP, SIGF and its
duration in ms (R443, R444). Log entry 4. -/
opaque Config.cutReading : Nat → Nat × U64 × Nat

/-- Which of FRESH and STALE a retention age cell reads between 1.6 s and 2.0 s of off time (R405). The
arguments are the lane's number and the draw counter. Log entry 4. -/
opaque Config.ageCellReads : Nat → Nat → Bool

/-- The event's CODE in its class and the BLOCK number within the die it names (Table 15.1): the service firmware
release carries the code table, the manual does not (R426). Log entry 4. -/
opaque Config.eventCode : EventName → Nat × Nat

/-- The bytes in which the values of an event stand in DATA: Table 15.3 names the values and not their widths. Log entry
129. -/
opaque Config.eventBytes : EventName → List Int → List Byte

/-- The characters of the name of an account, by its number. Log entry 129. -/
opaque Config.accountName : Nat → List Byte

/-- The eight bytes of REASON of a lane for a partition, an instruction index and a reason code, and for the REASON of an
SNP_TRIG write: Table 15.6 gives them no widths, nor a place for the second (R462). Log entry 129. -/
opaque Config.reasonBytes : Option (Nat × Nat × Nat) → Nat → List Byte

/-- CRC-32C of a section of a frame, by FRAME_SEQ and the section: the manual gives the banks no layout (R436). Log entry
129. -/
opaque Config.sectionCrc : U32 → Nat → U32

/-- Payload bytes of a command record: the command together with its sequence number (R200). The manual gives the
bytes no layout; only their equality matters. Log entry 4. -/
opaque Config.cmdPayload : SentCmd → List Byte

/-- Bytes a scan of a check engine has processed when an ABORT reaches it, as the n-th abort finds it (R459). Log
entry 4. -/
opaque Config.scanProgress : Nat → Nat

/-- Destination address on a LAN (`true` LAN B) of a frame for an IPv4 address of which the module has learned none: the
manual does not say how it finds it (R288). Log entry 117. -/
opaque Config.macOf : U32 → Bool → U48

/-- The firmware asks for the step that an accepted offset calls for in the GX2-compatible mode, as the n-th such offset finds
it (R313). Log entry 122. -/
opaque Config.firmwareStep : Nat → Bool

/-- What a word written into the window of a Wharf bus channel configures. -/
inductive WbField where
  /-- A word with no effect by its write alone. -/
  | plain
  /-- The bit timing, and the configured mode (R350). -/
  | timing (t : WbTiming)
  | mode (m : WbMode)
  /-- Filter pair `n` (R352). -/
  | pair (n : Nat) (v : U64)
  /-- The data bytes of exclusive buffer `n`, whose DLC is fixed (R362). -/
  | buffer (n : Nat) (data : List Byte)
  /-- The last word of a tide table (R363). -/
  | tide (t : TideTable)
  /-- The restart of a channel that stands at BUSOFF_LIMIT (R366). -/
  | restart
deriving DecidableEq, Repr, Inhabited

/-- What a word written at an address configures, with the words already stored in the block: the manual gives the WB_
registers no layout. Log entry 128. -/
opaque Config.wbField : Tbl U64 → Nat → U32 → WbField

/-- Deviation of INCR from nominal that the hardware servo sets at a Sync, before its slew limit: the manual gives the
limit and no servo law (R311). Log entry 4. -/
opaque Config.servoStep : Nat → Int

/-- Clk_t that the generated code of one element takes (R492): Chartroom generates the code, and the manual gives no
listing of it. Log entry 12. -/
opaque Config.genClk : ElemType → Nat

/-- SG records that the generated code of an element feeds (R103), by the element and the plain values it reads and
writes. Log entry 12. -/
opaque Config.genRecs : Nat → List Int → List U64

/-- Clk_t that the route presentation code of a partition takes before its first RRQ, by the number of its routes (R178,
R492). Log entry 12. -/
opaque Config.presentClk : Nat → Nat

/-- SG records that the route presentation code feeds before its RRQ, by the partition and the plain values it reads. Log
entry 12. -/
opaque Config.presentRecs : Nat → List Int → List U64

end Sys2Proof
end

