-- ==== Sys2Proof/Machine/Bits.lean ====
section
/-! DEFINITION. Sparse tables, access to the per-lane, per-plane and per-core triples, the wraparound compare,
byte order, bit fields and the two check codes of the manual. -/

namespace Sys2Proof

/-! ## Sparse tables -/

/-- The value at a key: `d` where the key is not listed. -/
def Tbl.get {α : Type} (d : α) : Tbl α → Nat → α
  | [], _ => d
  | (k', v) :: r, k => if k = k' then v else Tbl.get d r k

/-- Enter a value at a key, in the order of the keys. -/
def Tbl.insert {α : Type} : Tbl α → Nat → α → Tbl α
  | [], k, v => [(k, v)]
  | (k', v') :: r, k, v =>
    if k < k' then (k, v) :: (k', v') :: r
    else if k = k' then (k, v) :: r
    else (k', v') :: Tbl.insert r k v

/-- Write one key and keep the canonical form: writing `d` removes the entry. -/
def Tbl.set {α : Type} [DecidableEq α] (d : α) (t : Tbl α) (k : Nat) (v : α) : Tbl α :=
  if v = d then t.filter (fun e => decide (e.1 ≠ k)) else Tbl.insert t k v

/-- Rewrite the value at one key. -/
def Tbl.upd {α : Type} [DecidableEq α] (d : α) (t : Tbl α) (k : Nat) (f : α → α) : Tbl α :=
  t.set d k (f (t.get d k))

/-- Every listed key lies above `lo`, keys rise strictly, and no entry holds `d`. -/
def Tbl.wfFrom {α : Type} [DecidableEq α] (d : α) (lo : Option Nat) : Tbl α → Bool
  | [] => true
  | (k, v) :: r =>
    (match lo with
      | none => true
      | some l => decide (l < k)) && decide (v ≠ d) && Tbl.wfFrom d (some k) r

/-- The canonical form of a table. -/
def Tbl.wf {α : Type} [DecidableEq α] (d : α) (t : Tbl α) : Bool := t.wfFrom d none

/-- Build a table from a list of writes, the last one of a key standing. -/
def Tbl.ofList {α : Type} [DecidableEq α] (d : α) (l : List (Nat × α)) : Tbl α :=
  l.foldl (fun t e => t.set d e.1 e.2) []

/-- Keys listed, in order. -/
def Tbl.keys {α : Type} (t : Tbl α) : List Nat := t.map (·.1)

/-- Canonical form of the service memory. -/
def Memory.wf (m : Memory) : Bool := Tbl.wf 0 m

/-- One byte; an unlisted address reads 0 (log entry 2). -/
def Memory.read (m : Memory) (a : Nat) : Byte := Tbl.get 0 m a

/-- Write one byte. -/
def Memory.write (m : Memory) (a : Nat) (b : Byte) : Memory := Tbl.set 0 m a b

/-- Bytes from an address, as many as given. -/
def Memory.writeBytes (m : Memory) (a : Nat) : List Byte → Memory
  | [] => m
  | b :: r => Memory.writeBytes (Memory.write m a b) (a + 1) r

/-- `n` bytes from an address. -/
def Memory.readBytes (m : Memory) (a : Nat) : Nat → List Byte
  | 0 => []
  | n + 1 => Memory.read m a :: Memory.readBytes m (a + 1) n

/-! ## Lanes, planes, cores -/

/-- All lanes, in order. -/
def LaneId.all : List LaneId := [.l1, .l2, .l3]

/-- Lane number less 1. -/
def LaneId.idx : LaneId → Nat
  | .l1 => 0 | .l2 => 1 | .l3 => 2

/-- Lane number 1-3, which is also its lane tag (R213). -/
def LaneId.num (ln : LaneId) : Nat := ln.idx + 1

/-- The die of a lane. -/
def LaneId.die : LaneId → Die
  | .l1 => .lc1 | .l2 => .lc2 | .l3 => .lc3

/-- The other two lanes, the lower-numbered first. -/
def LaneId.others : LaneId → List LaneId
  | .l1 => [.l2, .l3] | .l2 => [.l1, .l3] | .l3 => [.l1, .l2]

/-- Bit of the switch pair of two lanes: 0 pair 1&2, 1 pair 2&3, 2 pair 1&3; 3 where there is none (R34). -/
def pairBit : LaneId → LaneId → Nat
  | .l1, .l2 => 0 | .l2, .l1 => 0 | .l2, .l3 => 1 | .l3, .l2 => 1 | .l1, .l3 => 2 | .l3, .l1 => 2
  | .l1, .l1 => 3 | .l2, .l2 => 3 | .l3, .l3 => 3

/-- Ends of a CLX link, the lower-numbered first. -/
def ClxLink.ends : ClxLink → LaneId × LaneId
  | .l12 => (.l1, .l2) | .l23 => (.l2, .l3) | .l13 => (.l1, .l3)

def Tri.get {α : Type} (t : Tri α) : LaneId → α
  | .l1 => t.l1 | .l2 => t.l2 | .l3 => t.l3

def Tri.set {α : Type} (t : Tri α) (ln : LaneId) (v : α) : Tri α :=
  match ln with
  | .l1 => { t with l1 := v }
  | .l2 => { t with l2 := v }
  | .l3 => { t with l3 := v }

def Tri.map {α β : Type} (t : Tri α) (f : α → β) : Tri β := ⟨f t.l1, f t.l2, f t.l3⟩

/-- Map with the lane known. -/
def Tri.mapI {α β : Type} (t : Tri α) (f : LaneId → α → β) : Tri β := ⟨f .l1 t.l1, f .l2 t.l2, f .l3 t.l3⟩

def Tri.ofFn {α : Type} (f : LaneId → α) : Tri α := ⟨f .l1, f .l2, f .l3⟩

def Tri.toList {α : Type} (t : Tri α) : List α := [t.l1, t.l2, t.l3]

/-- CLX link entry of a triple kept per link in the order 1-2, 2-3, 1-3. -/
def Tri.link {α : Type} (t : Tri α) : ClxLink → α
  | .l12 => t.l1 | .l23 => t.l2 | .l13 => t.l3

def Tri.setLink {α : Type} (t : Tri α) (l : ClxLink) (v : α) : Tri α :=
  match l with
  | .l12 => { t with l1 := v }
  | .l23 => { t with l2 := v }
  | .l13 => { t with l3 := v }

/-- The link between two lanes; `none` for a lane and itself. -/
def linkOf : LaneId → LaneId → Option ClxLink
  | .l1, .l2 => some .l12 | .l2, .l1 => some .l12 | .l2, .l3 => some .l23 | .l3, .l2 => some .l23
  | .l1, .l3 => some .l13 | .l3, .l1 => some .l13
  | .l1, .l1 => none | .l2, .l2 => none | .l3, .l3 => none

def Duo.get {α : Type} (t : Duo α) : PlaneId → α
  | .a => t.a | .b => t.b

def Duo.set {α : Type} (t : Duo α) (pl : PlaneId) (v : α) : Duo α :=
  match pl with
  | .a => { t with a := v }
  | .b => { t with b := v }

def Duo.map {α β : Type} (t : Duo α) (f : α → β) : Duo β := ⟨f t.a, f t.b⟩

/-- The other plane. -/
def PlaneId.other : PlaneId → PlaneId
  | .a => .b | .b => .a

/-- The die of a plane chip. -/
def PlaneId.die : PlaneId → Die
  | .a => .pia | .b => .pib

/-- PLANE bit of a telegram: 0 plane A, 1 plane B. -/
def PlaneId.bit : PlaneId → Bool
  | .a => false | .b => true

def CoreId.all : List CoreId := [.c0, .c1, .c2, .c3]

def CoreId.idx : CoreId → Nat
  | .c0 => 0 | .c1 => 1 | .c2 => 2 | .c3 => 3

def Quad.get {α : Type} (t : Quad α) : CoreId → α
  | .c0 => t.c0 | .c1 => t.c1 | .c2 => t.c2 | .c3 => t.c3

def Quad.set {α : Type} (t : Quad α) (c : CoreId) (v : α) : Quad α :=
  match c with
  | .c0 => { t with c0 := v }
  | .c1 => { t with c1 := v }
  | .c2 => { t with c2 := v }
  | .c3 => { t with c3 := v }

def Quad.map {α β : Type} (t : Quad α) (f : α → β) : Quad β := ⟨f t.c0, f t.c1, f t.c2, f t.c3⟩

def Quad.toList {α : Type} (t : Quad α) : List α := [t.c0, t.c1, t.c2, t.c3]

/-! ## Numbers -/

/-- Signed difference of two n-bit counters (R11). -/
def sdiff {n : Nat} (a b : BitVec n) : Int := (a - b).toInt

/-- `a` is later than `b` (R11). -/
def later {n : Nat} (a b : BitVec n) : Bool := decide (0 < sdiff a b)

/-- `a` is equal to or later than `b` (R11). -/
def notEarlier {n : Nat} (a b : BitVec n) : Bool := decide (0 ≤ sdiff a b)

/-- Clamp to a range. -/
def clampInt (lo hi x : Int) : Int := if x < lo then lo else if hi < x then hi else x

/-- The signed 32-bit range. -/
def inS32 (x : Int) : Bool := decide (-2147483648 ≤ x) && decide (x ≤ 2147483647)

/-- Median of three integers. -/
def median3 (a b c : Int) : Int := max (min a b) (min (max a b) c)

/-! ## Bytes and bit fields -/

/-- The low `n` bytes of a number, most significant first (network byte order, R10). -/
def beBytes : Nat → Nat → List Byte
  | 0, _ => []
  | n + 1, v => BitVec.ofNat 8 (v / 256 ^ n) :: beBytes n v

/-- The low `n` bytes of a number, least significant first (service registers, R10). -/
def leBytes : Nat → Nat → List Byte
  | 0, _ => []
  | n + 1, v => BitVec.ofNat 8 v :: leBytes n (v / 256)

/-- A number from bytes, most significant first. -/
def beNat (bs : List Byte) : Nat := bs.foldl (fun a b => a * 256 + b.toNat) 0

/-- `n` bytes from offset `i`. -/
def slice (bs : List Byte) (i n : Nat) : List Byte := (bs.drop i).take n

/-- The number in `n` bytes at offset `i`, network byte order. -/
def beAt (bs : List Byte) (i n : Nat) : Nat := beNat (slice bs i n)

/-- The bit `i` counted from bit 7 of byte 0 (R95). -/
def bitAt (bs : List Byte) (i : Nat) : Bool := (bs.getD (i / 8) 0).toNat.testBit (7 - i % 8)

/-- The `w`-bit field whose most significant bit is bit `i` counted from bit 7 of byte 0. -/
def fieldAt (bs : List Byte) (i : Nat) : Nat → Nat
  | 0 => 0
  | w + 1 => fieldAt bs i w * 2 + (if bitAt bs (i + w) then 1 else 0)

/-- Write one bit counted from bit 7 of byte 0. -/
def setBitAt (bs : List Byte) (i : Nat) (b : Bool) : List Byte :=
  let m : Nat := 2 ^ (7 - i % 8)
  let v := (bs.getD (i / 8) 0).toNat
  let c := if v.testBit (7 - i % 8) then v - m else v
  bs.set (i / 8) (BitVec.ofNat 8 (if b then c + m else c))

/-- Write a `w`-bit field whose most significant bit is bit `i`. -/
def setFieldAt (bs : List Byte) (i : Nat) : Nat → Nat → List Byte
  | 0, _ => bs
  | w + 1, v => setBitAt (setFieldAt bs i w (v / 2)) (i + w) (v % 2 == 1)

/-- Two's-complement reading of a `w`-bit number. -/
def toSigned (w v : Nat) : Int := if v < 2 ^ (w - 1) then (v : Int) else (v : Int) - (2 ^ w : Nat)

/-- A `w`-bit two's-complement pattern. -/
def ofSigned (w : Nat) (x : Int) : Nat := (x % (2 ^ w : Nat)).toNat

/-! ## Check codes -/

/-- Polynomial of ECMA-182 (R102). -/
def crc64Poly : U64 := 0x42F0E1EBA9EA3693

/-- `n` shifts of an unreflected CRC of width 64. -/
def crc64Shift (poly : U64) : Nat → U64 → U64
  | 0, c => c
  | n + 1, c => crc64Shift poly n (if c.msb then (c <<< 1) ^^^ poly else c <<< 1)

/-- One byte into the CRC-64 of R102. -/
def crc64Byte (c : U64) (b : Byte) : U64 := crc64Shift crc64Poly 8 (c ^^^ (b.setWidth 64 <<< 56))

/-- The CRC-64 of R102 over bytes, from a value. -/
def crc64From (c : U64) (bs : List Byte) : U64 := bs.foldl crc64Byte c

/-- The CRC-64 of R102 over bytes, from 0. -/
def crc64 (bs : List Byte) : U64 := crc64From 0 bs

/-- One 64-bit record into the CRC-64, most significant byte first (R103). -/
def crc64Word (c : U64) (v : U64) : U64 := crc64From c (beBytes 8 v.toNat)

/-- `n` shifts of the reflected CRC-32C. -/
def crc32cShift : Nat → U32 → U32
  | 0, c => c
  | n + 1, c => crc32cShift n (if c.getLsbD 0 then (c >>> 1) ^^^ 0x82F63B78 else c >>> 1)

/-- CRC-32C: polynomial 0x1EDC_6F41, reflected, initial value and final XOR 0xFFFF_FFFF (R426). -/
def crc32c (bs : List Byte) : U32 :=
  (bs.foldl (fun c b => crc32cShift 8 (c ^^^ b.setWidth 32)) 0xFFFFFFFF) ^^^ 0xFFFFFFFF

end Sys2Proof
end

