-- ==== Sys2Proof/Machine/State/Lane.lean ====
section
/-! DEFINITION. The state of one lane controller: Tally cores, coded memory, route engine, check engines,
supervisor, exchange buffers, local I/O, flash and retention store. A field's default is its reset value. -/

namespace Sys2Proof.Machine

open Sys2Proof

/-- A V or P register: coded word, signature tag, and whether the tag parity is good (Table 3.1). -/
structure VReg where
  c : Coded := 0x7FFFFFFFFFFFFFFF
  tag : U24 := 0
  parityOk : Bool := true
deriving DecidableEq, Repr

/-- An X register: value, parity, written mark (Table 3.1). -/
structure XReg where
  val : U32 := 0
  parityOk : Bool := true
  written : Bool := false
deriving DecidableEq, Repr

/-- An entry of the loop stack (R143). -/
structure LoopEntry where
  start : Nat
  close : Nat
  counter : Nat
  bound : Nat
deriving DecidableEq, Repr

/-- One Tally core (Table 3.1, R99, R101, R104). -/
structure Core where
  /-- V0-V63; an unlisted register is as at pass start. -/
  v : Tbl VReg := []
  /-- P0-P7. -/
  p : Tbl VReg := []
  /-- X0-X7. -/
  x : Tbl XReg := []
  /-- Instruction index, 18 bits. -/
  pc : Nat := 0
  /-- Signature context of the pass. -/
  sg : U64 := 0
  /-- clk_t counted from the phase-start strobe. -/
  clk : Nat := 0
  loops : List LoopEntry := []
  /-- Valid checkpoint slots with the SG stored in pass 1. -/
  ckptSlots : Tbl (Option U64) := []
  /-- CKPT instructions executed in this pass, and in pass 1. -/
  ckptCount : Nat := 0
  ckptPass1 : Nat := 0
  /-- The clock gate is open and the pass has not ended for this core (R58). -/
  running : Bool := false
  /-- ENDP flag, and the SG handed over at ENDP (R105). -/
  endp : Bool := false
  finalSg : U64 := 0
  /-- Times each index has issued in this pass (Pilot occurrence counts, R111). -/
  occ : Tbl Nat := []
  /-- Elements whose generated code has run in this pass (R492). -/
  gen : Nat := 0
deriving DecidableEq, Repr

/-- Signature entry (Table 3.5). -/
structure SigEntry where
  b : U24 := 0
  owner : Nat := 7
  parityOk : Bool := true
deriving DecidableEq, Repr

/-- A request in the route engine's queue (R138): partition (5 for an IREL), index, route, kind, and the clk_t
at which the engine may start it. -/
structure RouteReq where
  part : Nat
  idx : Nat
  route : Nat
  kind : Nat
  ready : Nat
deriving DecidableEq, Repr

/-- The route engine (R176-R181, R193). -/
structure RouteEngine where
  queue : List RouteReq := []
  /-- RRQ accepted in this pass (R140). -/
  accepted : Nat := 0
  sg : U64 := 0
  /-- clk_t at which the last evaluation ends (R179). -/
  busyUntil : Nat := 0
  gated : Bool := true
deriving DecidableEq, Repr

/-- A check engine (chapter 16). -/
structure CheckEngine where
  poly : U64 := 0
  init : U64 := 0
  xorout : U64 := 0
  refout : Bool := false
  refin : Bool := false
  width : Nat := 0
  value : U64 := 0
  addr : Nat := 0
  len : Nat := 0
  busy : Bool := false
  done : Bool := false
  startIgn : Bool := false
  code : Nat := 0
  remain : Nat := 0
deriving DecidableEq, Repr

/-- A pre-image of the journal (R67): which copy, flat key, the coded word before the store, and the requester
(0-3 a core, 4 the route engine) with the clk_t of its store (R91). -/
structure JEntry where
  pass : Pass
  key : Nat
  pre : Coded
  req : Nat
  clk : Nat
deriving DecidableEq, Repr

/-- Fault record (R107 step 6); `unit` 0-3 a core, 4 the route engine, 5 the supervisor. -/
structure FaultRec where
  cause : CodedCause
  unit : Nat
  pass : Pass
  idx : Nat
  cn : U32
  clk : Nat
  word : Coded
  b : U24
  d : U24
deriving DecidableEq, Repr

/-- A lane's local view of one input before P-AGREE (R199). -/
structure View where
  present : Bool := false
  planeA : Bool := false
  planeB : Bool := false
  digest : U64 := 0
  payload : List Byte := []
deriving DecidableEq, Repr

/-- A filtered bit: its value and the number of consecutive samples of the other level (R323). -/
structure Filt where
  value : Bool := false
  count : Nat := 0
deriving DecidableEq, Repr

/-- The lane's own input paths: VIO and SDR blocks (R322-R326, R336, R342). -/
structure InPaths where
  /-- VLIO terminals 0-47, SDR terminals 48-51. -/
  term : Tbl Filt := []
  overload : Tbl Filt := []
  mc : Tbl Filt := []
  /-- SUPPLY_OK and SUPPLY_FULL of FS1, FS2, FS3, FSS: bit 2 × supply (+ 1). -/
  supply : Tbl Filt := []
  /-- Last level of each path between its thresholds (R322, R336). -/
  level : Tbl Bool := []
  commission : Filt := {}
  /-- Failed injection tests: passed tests in a row still wanted (R324). -/
  testFail : Tbl Nat := []
  /-- Sample slot of the second of the lane's phase timer, 0-9 999 (R324). -/
  slot : Nat := 0
  /-- The VLIOF converter gives the field side its power. -/
  vliofOk : Bool := true
  /-- ES channels 0-3: filtered level closed, frames without a dip, a dip seen in the own window now running. -/
  esClosed : Tbl Bool := []
  esNoDip : Tbl Nat := []
  esDip : Tbl Bool := []
  /-- 0.1 ms samples for which the channels of a pair have differed. -/
  esDiff : Tbl Nat := []
  /-- Channel reading of the latest 1 kHz sample (R338). -/
  esSample : Tbl Bool := []
  /-- Latched pulse and discrepancy faults per pair 0, 1 (R342, R343). -/
  cross : Tbl Bool := []
  stuck : Tbl Bool := []
  disc : Tbl Bool := []
  /-- Both channels have read open since the latch (R343). -/
  openSeen : Tbl Bool := []
  /-- Stage record of each pair (R167). -/
  stage : Tbl Nat := []
  /-- Local bit vector latched at t0 (Table 11.5). -/
  latched : BitVec 128 := 0
  /-- Own readings of fields 7-9 of the module status frame latched at t0: PF1_OK, PF2_OK, COMMISSION (R480). -/
  latchedIn : BitVec 3 := 0
deriving DecidableEq, Repr

/-- Output supervision as this lane derives it (R330-R332). Channels 0-47 and SDR 48-51. -/
structure OutSup where
  status : Tbl Nat := []
  overload : Tbl Bool := []
  extVoltage : Tbl Bool := []
  groupOff : Tri Bool := ⟨false, false, false⟩
  /-- Consecutive t0 that met EXT_SUPPLY, EXT_VOLTAGE, PARALLEL, NO_OUTPUT. -/
  cntExtSupply : Tbl Nat := []
  cntExtVoltage : Tbl Nat := []
  cntParallel : Tbl Nat := []
  cntNoOutput : Tbl Nat := []
  /-- SDR: 1 while its command is on, and 1 more at each t0 after it turned off, 0 before it has been on; and the t0 since
  its terminal became TRUE (R340). -/
  sinceOff : Tbl Nat := []
  sinceOn : Tbl Nat := []
  /-- Reset commands of the previous completed cycle: groups 0-2, SDR 3 (R332). -/
  prevReset : Tbl Bool := []
  /-- Agreed local bit vector of the current cycle. -/
  agreed : BitVec 128 := 0
deriving DecidableEq, Repr

/-- Safe-link state of one connection (R296, R301, R302, R304). -/
structure Conn where
  /-- Recorded peer epoch; `none` before the first accepted message. -/
  peerEpoch : Option U32 := none
  /-- Echo record: TS and the cycle of its acceptance. -/
  echo : Option (U32 × U32) := none
  /-- Peer's last accepted value of the module's epoch is carried back as ECHO_EPOCH: the peer's EPOCH. -/
  echoEpoch : U32 := 0
  /-- Last accepted SEQ and digest of each inbound message number. -/
  seqs : Tbl (Option (U32 × U64)) := []
  /-- Age bound A and cycle of the last agreed-present message of each inbound message number. -/
  bounds : Tbl (Option (Nat × U32)) := []
  /-- Last SEQ sent in this epoch. -/
  outSeq : U32 := 0
  /-- Outbound message number: cycle in which it was last sent and the payload then sent. -/
  lastSent : Tbl (Option (U32 × List Byte)) := []
  /-- Agreed under the present EPOCH since a takeover (R382). -/
  agreedNew : Bool := false
deriving DecidableEq, Repr

/-- A first message of a two-message command, with the cycle of its agreement (R418). -/
structure FirstMsg where
  cmd : LaneCmd
  cn : U32
deriving DecidableEq, Repr

/-- Plain state the supervisor prepares at P-AGREE and enters in the committed state at commit (R209, R301). -/
structure Sup where
  /-- Plain value of every I word: frame × 32 + word. -/
  frames : Tbl Int := []
  conns : Tbl Conn := []
  outs : OutSup := {}
  firsts : List FirstMsg := []
  /-- Pending individual releases: route and due cycle (R419). -/
  irels : List (Nat × U32) := []
  /-- Output forces in TEST: channel 0-51 and value (R331). -/
  outForces : Tbl (Option Bool) := []
  /-- Agreed COMMISSION key, PF1_OK and PF2_OK (R480). -/
  keyClosed : Bool := false
  /-- The module was in TEST at the last agreement (R161). -/
  inTest : Bool := false
  pfOk : List Bool := [false, false]
  /-- Consecutive cycles with an uplink claim later than the module's (R386). -/
  laterClm : Nat := 0
  /-- What the generated code keeps in hidden words, per element: the last commanded position (or closure) with
  the pending command's first CN and whether DATA_OK has stood since it, and the consecutive cycles of DATA_OK
  FALSE (R164-R166). -/
  pend : Tbl (Option (Nat × Option (U32 × Bool))) := []
  noData : Tbl Nat := []
  /-- Presentation list of each partition, and the routes whose demand stood in the last pass (R178). -/
  present : Tbl (List Nat) := []
  demanded : List Nat := []
  /-- Committed commands of the last 64 (R421). -/
  lastCmds : List (SentCmd × U32) := []
deriving DecidableEq, Repr

/-- Where a lane stands in its cycle (R41). -/
inductive Phase where
  | idle | pAgree | pass1 | pass2 | waitCons | pCons | judged | pSign | signed
deriving DecidableEq, Repr

/-- Progress of a rejoin (R217-R220). -/
structure Rejoin where
  /-- Chunks received; 64 when the transfer is complete. -/
  chunks : Nat := 0
  /-- CN of the donors' cycle that the last chunk came from: one chunk for each cycle (R218). -/
  chunkCn : Option U32 := none
  framesDone : Bool := false
  matching : Nat := 0
  shadow : Nat := 0
deriving DecidableEq, Repr

/-- The configuration record (Table 14.2). -/
structure CfgRec where
  seq : U32 := 0
  activeMan : Option Nat := none
  activeFw : Nat := 0
  prevFw : Option Nat := none
  pending : Nat := 0
  slot0No : U32 := 0
  slot1No : U32 := 0
  /-- 0 EMPTY, 1 LOADED, 2 VERIFIED, 3 BAD. -/
  slot0State : Nat := 0
  slot1State : Nat := 0
deriving DecidableEq, Repr

/-- A retention record (R405): plain words, CN, manifest identity, check word. -/
structure Retention where
  words : Tbl Int
  cn : U32
  identity : BitVec 768
  check : U64
  /-- Supervisor state committed with it. -/
  sup : Sup
deriving DecidableEq, Repr

/-- A stored self-test result (Table 15.3, BIST). -/
structure BistRec where
  item : Nat
  result : BistResult
  step : Nat
  terminal : Nat
  sigf : U64
  durMs : Nat
  /-- Field supplies 0-3 absent while item 9 ran: NOT_RUN for their channels (R442). -/
  absent : List Nat := []
deriving DecidableEq, Repr

/-- Lane NOR flash (Table 1.3): manifest slots, firmware slots' revisions, identity area. -/
structure LaneFlash where
  man0 : Option Manifest := none
  man1 : Option Manifest := none
  fw0 : U32 := 0
  fw1 : U32 := 0
  /-- The two alternating copies of the configuration record; `none` when its check word fails. -/
  cfgA : Option CfgRec := some {}
  cfgB : Option CfgRec := none
  claim : U32 := 0
  claimSite : U64 := 0
  epoch : U32 := 0
  signers : List (U64 × BitVec 776) := []
  dieId : U64 := 0
  /-- The die's factory P-384 private key, under which it decrypts manifests (R25, R393). It leaves the die by no
  meaning. -/
  dieKey : BitVec 384 := 0
  pairLicence : Bool := true
  /-- Units marked unusable, with the item that failed (R446). -/
  marks : List (Nat × Mark) := []
  bist : List BistRec := []
deriving DecidableEq, Repr

/-- An event on its way to the logbook (R428), with the time it carries when deferred (R427, R431). -/
structure Event where
  cls : LogClass
  name : EventName
  die : Die
  data : List Int
  cn : Option U32
  deferred : Option Nat
deriving DecidableEq, Repr

/-- A hardware queue (chapter 16). -/
structure Queue where
  words : List (BitVec 63) := []
  en : Bool := true
  above : Bool := false
  high : Nat := 64
  low : Nat := 32
  depth64 : Nat := 1
  ovf : Nat := 0
  drop : Nat := 0
deriving DecidableEq, Repr

/-- What a lane's network bank latches (Table 16.5). -/
structure LaneBank where
  cores : Quad Core
  route : RouteEngine
  phase : Phase
  views : Tri LaneState
  lanes2of2 : Bool
  journal : Nat
  ovr : Bool
  corrections : List Int
  ces : Tbl CheckEngine
  vector : BitVec 128
  /-- ES_CROSS, ES_STUCK and ES_DISC latches of the emergency-stop pairs; the output latches are in `outs`. -/
  latches : Tbl Bool × Tbl Bool × Tbl Bool
  cn : U32
  outs : OutSup
  switches : Tbl (BitVec 3)
  upCounts : Tbl Nat
  /-- Records in the receive ring of each link engine. -/
  rx : Nat × Nat
  queues : Tbl Queue
deriving DecidableEq, Repr

/-- A safe-link copy (R298): its LAN, the addresses of its frame, the PDU and its arrival at the port. -/
structure SlCopy where
  lanB : Bool
  srcIp : U32
  port : Nat
  pdu : List Byte
  arrived : Nat
deriving DecidableEq, Repr

/-- A record of an uplink forwarding ring or receive ring: the telegram, and the descriptor with the CN of the plane cycle,
the arrival offset e, the RELAY mark and the guardian status, accepted (R284). -/
structure UpRec where
  frame : List Byte
  cn : U32
  e : Int
  relay : Bool
  accepted : Bool
deriving DecidableEq, Repr

/-- One lane. -/
structure Lane where
  /-- Own view of each lane's state; the entry of the lane itself is its state (R195). -/
  views : Tri LaneState := ⟨.laneOff, .laneOff, .laneOff⟩
  /-- Why this lane is out of the vote. -/
  cause : Cause := .none
  cn : U32 := 0
  phase : Phase := .idle
  /-- Tick alignment (R52-R54): peer offsets in ns for the coming correction, calibrated one-way latency of
  each link, the last corrections in ns, the rate trim in ppb, the offset of the next tick in ns, and whether
  the lane sends tick strobes. -/
  theta : Tri (Option Int) := ⟨none, none, none⟩
  /-- Offsets of markers that have arrived before the lane's own tick, which is still to come (R52). -/
  thetaNext : Tri (Option Int) := ⟨none, none, none⟩
  latency : Tri Int := ⟨0, 0, 0⟩
  corrections : List Int := []
  trim : Int := 0
  tickMove : Int := 0
  /-- Tick strobes sent to the planes: CN of the last (R56). -/
  strobeCn : Option U32 := none
  wakeRequested : Bool := false
  cores : Quad Core := ⟨{}, {}, {}, {}⟩
  route : RouteEngine := {}
  /-- The pass that is running, and whether an overrun has been found in this cycle (R64). -/
  pass : Option Pass := none
  ovr : Bool := false
  /-- Pass signatures of CE0 and CE1 as closed (R105). -/
  sig1 : U64 := 0
  sig2 : U64 := 0
  /-- Check engines CE0-CE5. -/
  ces : Tbl CheckEngine := []
  /-- The two coded copies, keyed by flat key; an unlisted word holds 0. -/
  copy1 : Tbl Coded := []
  copy2 : Tbl Coded := []
  /-- Signature entries, keyed by flat key, shared by the copies (R89). -/
  sigs : Tbl SigEntry := []
  /-- Code memory: core number × 2^18 + index. -/
  code : Tbl U64 := []
  /-- Uncorrectable SRAM errors: flat keys of copy 1, copy 2, signature entries, code words. -/
  eccCopy1 : List Nat := []
  eccCopy2 : List Nat := []
  eccSig : List Nat := []
  eccCode : List Nat := []
  /-- Single-bit errors still in place, of data words, signature entries and code words, and corrected ones counted
  (R117). -/
  eccSoft : List Nat := []
  eccCount : Nat := 0
  /-- Pre-image journal of both passes, newest first (R67). -/
  journal : List JEntry := []
  /-- Values of E words before the supervisor's own writes of this cycle, newest first (R67). -/
  supUndo : List (Nat × Coded × Coded) := []
  sup : Sup := {}
  supC : Sup := {}
  /-- Cross-check sweep position (R153). -/
  sweep : Nat := 0
  /-- First Tally SNAP of the cycle: clk_t, partition, index, reason (R147). -/
  snapTally : Option (Nat × Nat × Nat × Nat) := none
  faultRec : Option FaultRec := none
  /-- Uplink copies admitted for this cycle: controller → telegram, per plane; counts of Table 9.7 by
  (controller × 2 + plane) × 16 + cause (R277, R278). -/
  upA : Tbl (List Byte) := []
  upB : Tbl (List Byte) := []
  /-- Uplink receive ring of each link engine: the records of the cycle, newest first (Table 9.11). -/
  rx : Duo (List UpRec) := ⟨[], []⟩
  upCounts : Tbl Nat := []
  /-- Safe-link copies that passed Table 10.2 in this cycle (LAN B mark and PDU), and counts by
  connection × 16 + cause. -/
  slValid : List (Bool × List Byte) := []
  /-- Safe-link copies that SVC has forwarded and the lane has not yet checked, with the CN of their batch (R298). -/
  slIn : List (U32 × SlCopy) := []
  slCounts : Tbl Nat := []
  /-- The batch of this cycle is complete at this lane (R199), with its commands. -/
  batch : Option (List SentCmd) := none
  /-- Local views, and agreement records held of each lane (R200). -/
  localViews : Tbl View := []
  recs : Tri (Tbl (Option AgreeRec)) := ⟨[], [], []⟩
  /-- Lanes whose records and bit vectors are held for this P-AGREE. -/
  recsFrom : List LaneId := []
  vectors : Tri LocalBits := ⟨0, 0, 0⟩
  /-- The lane has decided its inputs in this cycle; `localViews` then holds the agreed views (R202). -/
  decided : Bool := false
  /-- Arrivals counted LATE since the last agreement summary (Table 15.5). -/
  late : Nat := 0
  /-- Lanes left out of the decision (R201). -/
  leftOut : List LaneId := []
  /-- Input → agreed digest still wanted by repair (R203). -/
  repairs : Tbl (Option U64) := []
  /-- Inputs in the minority now, and consecutive cycles in the minority (R204). -/
  minority : Nat := 0
  minorityRun : Nat := 0
  /-- Agreed safe-link messages and commands to report at P-SIGN (R206). -/
  reportMsgs : List (Nat × Nat × U32 × U32) := []
  reportCmds : List Nat := []
  agreedCmds : List SentCmd := []
  /-- Change log events of the commands of this cycle, written at commit (R421). -/
  pendEvents : List (LogClass × EventName × List Int) := []
  /-- Consensus: own record and those held (R207), the last 64 of each lane (R432), damaged links. -/
  consRecs : Tri (Option ConsRec) := ⟨none, none, none⟩
  consHistory : List (LaneId × ConsRec) := []
  /-- This lane committed the current cycle (R209), and a cycle has completed since BOOT or takeover (R66). -/
  committed : Bool := false
  /-- CN of the last completed P-CONS (R405). -/
  cnC : U32 := 0
  everCompleted : Bool := false
  /-- Cycles the last body has been repeated for: AGE of the downlinks (R66). -/
  bodyAge : Nat := 0
  /-- Committed switch command vector (R207 item 2) of the last and the preceding output instant. -/
  vec : BitVec 56 := 0
  prevVec : BitVec 56 := 0
  prevVec2 : BitVec 56 := 0
  /-- The vector this lane formed at P-CONS start, issued at P-CONS end (R207, R209). -/
  newVec : BitVec 56 := 0
  /-- Words of L, E, T and M committed in this cycle, and the safe-link frames it changed (R218, R370). -/
  updated : List Nat := []
  slChanged : List Nat := []
  /-- Downlink bodies with this lane's code, by controller, as signed at P-SIGN (R212). -/
  signedDown : Tbl (List Byte) := []
  /-- Own switches closed: channel → bits of pairs 1&2, 2&3, 1&3. -/
  switches : Tbl (BitVec 3) := []
  /-- SWITCH_CLOSED reports that the last tick gave, as the lane's front panel indicator shows them: channel, pair and
  the lane whose switch has stuck (R319, R40). -/
  stuckShown : List (List Int) := []
  inp : InPaths := {}
  rejoin : Rejoin := {}
  /-- Instant of the last exclusion, and the last instant at which the lane was OUT-FAULT before it, in ns of
  operating time (R197). -/
  faultAt : Option Nat := none
  outFaultEnd : Option Nat := none
  /-- The image in SRAM: a manifest, or `none` for the factory CLOSED image. -/
  image : Option Manifest := none
  epoch : U32 := 0
  cnE : U32 := 0
  /-- First completed cycle after a cold start, or a warm start or takeover (Table 17.5a). -/
  startCold : Bool := false
  startWarm : Bool := false
  /-- Retention MRAM and the age cell (R405). -/
  retention : Option Retention := none
  fresh : Bool := false
  flash : LaneFlash := {}
  /-- Events held while SVC is down (R431), and how many were lost. -/
  heldEvents : List Event := []
  lostEvents : Nat := 0
  /-- Change log events of the last 64 commands that SVC could not log, newest first (R421). -/
  lateChanges : List Event := []
  /-- Snapshot banks (R432-R435): frozen network bank, frozen exclusion bank (fault record and history), and
  exclusions counted while it was frozen. -/
  bank : Option LaneBank := none
  xbank : Option (Option FaultRec × List (LaneId × ConsRec)) := none
  xmissed : Nat := 0
  /-- A SNAP request not yet acknowledged by the network (R435). -/
  snapUnacked : Bool := false
  /-- Agreement summaries of the last 64 cycles: MINORITY, NO_MAJORITY, DISAGREE2, LATE (Table 15.5). -/
  summaries : List (Nat × Nat × Nat × Nat) := []
  /-- Copy being received in STANDBY (R373): records by place and the seals, with the record count named. -/
  copyRecs : Tbl (Option CopyRec) := []
  copySeals : List (Seal × Nat) := []
  /-- Standby tick offset φ (R376). -/
  phi : Option Int := none
  zeroised : Bool := false
deriving DecidableEq, Repr

end Sys2Proof.Machine
end

