-- ==== Sys2Proof/Machine/State/Plane.lean ====
section
/-! DEFINITION. The state of the plane chips PIA and PIB, of the object controllers on the lines, and of the
pair. A field's default is its reset value. -/

namespace Sys2Proof.Machine

open Sys2Proof

/-- A sync frame as it left a port (Table 8.6). -/
structure SyncOut where
  clm : U32
  cn : U32
  tc : Nat
  cold : Bool
  far : Bool
  step : Bool
  test : Bool
  unitB : Bool
deriving DecidableEq, Repr

/-- An open delay measurement of a segment (R243). -/
structure OpenReq where
  ctrl : Nat
  far : Bool
  mod : Bool
  seq : Nat
  t1 : Nat
  /-- End of its window (R241). -/
  until_ : Nat
deriving DecidableEq, Repr

/-- Delay measurement and line state of one segment of one plane (R236, R243-R246, R256-R258). -/
structure Seg where
  openReq : Option OpenReq := none
  seq : Nat := 0
  /-- Results waiting for their DSET, near and far end. -/
  dsetNear : Option (Nat × Nat × Nat) := none
  dsetFar : Option (Nat × Nat × Nat) := none
  /-- Controller next in turn (by slot order) for each end. -/
  turnNear : Nat := 0
  turnFar : Nat := 0
  /-- Controllers that did not answer, moved to the end of their group. -/
  deferred : List Nat := []
  /-- Port-to-port delay of a paired line (R256). -/
  dL : Option Nat := none
  /-- The claim holder has answered a line request of the partner since its STATUS showed STANDBY (R256). -/
  lineAnswered : Bool := false
  /-- CN of the last cycle in which a line request passed on this segment. -/
  lineCn : Option U32 := none
  /-- Loss of signal reported (R260). -/
  lost : Bool := false
  /-- Far-end feed runs; consecutive cycles with direct sync; direct sync seen in this far cycle (R258). -/
  feed : Bool := false
  feedNext : Bool := false
  directRun : Nat := 0
  directSeen : Bool := false
  /-- Direct sync of the claim holder heard on this segment for the next far tick, with its arrival (R257). -/
  heard : Option (Nat × SyncOut) := none
  /-- Frames sent on this segment in Q-DYN of this cycle, from destination address to FCS. -/
  sent : List (List Byte) := []
deriving DecidableEq, Repr

/-- What a plane chip keeps for one controller (R241, R245, R247, R248, R286). -/
structure PCtrl where
  early : Nat := 0
  late : Nat := 0
  second : Nat := 0
  wrongSlot : Nat := 0
  /-- Arrival errors e of the last 16 arrivals, newest first. -/
  errs : List Int := []
  /-- Whether e lay outside ±400 ns in each of the last 16 uplink slots, newest first. -/
  outs : List Bool := []
  drift : Bool := false
  noteDue : Bool := false
  /-- A measurement has been made since DRIFT was set (R248). -/
  measured : Bool := false
  /-- Cycles since the DSET of the measurement that followed DRIFT. -/
  sinceDset : Option Nat := none
  barred : Bool := false
  missing : Nat := 0
  knownNear : Bool := false
  knownFar : Bool := false
  signLate : Nat := 0
  overflow : Nat := 0
deriving DecidableEq, Repr

/-- A downlink store entry: bodies and codes as the lanes delivered them (Table 9.11). -/
structure StoreEntry where
  bodies : List (LaneId × List Byte × List Byte) := []
deriving DecidableEq, Repr

/-- Why a plane does not run. -/
inductive PlaneStop where
  | notStarted | noTick | clock | crossing | standby | powerFail
deriving DecidableEq, Repr

/-- One plane chip. -/
structure Plane where
  /-- Strobes received for the tick now due; the set of the last tick and of the tick before it (R31, R232). -/
  strobes : List LaneId := []
  curSet : List LaneId := []
  prevSet : List LaneId := []
  /-- The plane runs its cycle; otherwise why it does not. -/
  running : Bool := false
  stop : PlaneStop := .notStarted
  /-- Instant of the last plane tick, the last 16 intervals in clk_q, and CN of the plane cycle. -/
  lastTick : Option Nat := none
  lastInterval : Option Nat := none
  intervals : List Nat := []
  /-- Increment of plane time per clk_q in 2^-32 ns (R231). -/
  incr : Nat := 34359738368
  cn : U32 := 0
  /-- The module sends direct sync frames and telegrams on this plane; the next sync carries COLD. -/
  sending : Bool := false
  coldNext : Bool := false
  stepNow : Bool := false
  /-- Sync frames of this cycle by segment, from destination address to FCS. -/
  syncs : Tbl (List Byte) := []
  /-- Telegrams sent in this cycle by segment × 512 + slot, from destination address to FCS. -/
  sentDown : Tbl (List Byte) := []
  /-- Uplinks accepted and forwarded in this cycle by segment × 512 + slot, and the slots in which a frame has
  arrived at the own port. -/
  fwd : Tbl (List Byte) := []
  slotSeen : List Nat := []
  /-- Uplink forwarding ring of each lane, oldest first (Table 9.11). -/
  rings : Tri (List UpRec) := ⟨[], [], []⟩
  /-- Telegrams relayed over the hawser in this cycle by segment × 512 + slot: uplinks by a partner, downlinks by a
  claim holder (R258). -/
  relayOut : Tbl (List Byte) := []
  ctrls : Tbl PCtrl := []
  segs : Tbl Seg := []
  store : Tbl StoreEntry := []
  /-- Relayed telegrams held for their slot, with the instant of arrival (R258). -/
  relayStore : Tbl (Option (List Byte × Nat)) := []
  relayLate : Nat := 0
  /-- Far time (R257): instant and CN of the far tick, claim and T_c of the holder's sync, the last 16 intervals in clk_q, and
  whether it was derived or coasted. -/
  farTick : Option Nat := none
  farCn : U32 := 0
  farClm : U32 := 0
  farTc : Nat := 20
  farIntervals : List Nat := []
  farCoast : Bool := false
  /-- Downlinks with the claim holder's claim accepted in this far cycle, and in the cycle before (R382). -/
  sawDownlink : Bool := false
  sawDownlinkPrev : Bool := false
  /-- Non-cyclic requests that wait for a response, by controller: service code and end of the window (R241, R283). -/
  ncOpen : Tbl (Option (Byte × Nat)) := []
  zeroised : Bool := false
deriving DecidableEq, Repr

/-- Class A time and delays of one plane, as one of a controller's two timekeepers holds them: its main timing, or its
Breakwater (R237-R239, R244, R249, R251, R252). Instants are in the timekeeper's own clock. -/
structure ATime where
  /-- Instant of the tick it counts from, last valid sync and the port it came by, CN count m. -/
  tick : Option Nat := none
  lastSync : Option Nat := none
  lastPort : Nat := 0
  m : Option U32 := none
  /-- Sync frames missed since the last valid one (R237). -/
  coasts : Nat := 0
  tc : Nat := 20
  /-- Last 8 valid sync intervals (R237). -/
  intervals : List Nat := []
  /-- The tick rests on a FAR sync; it rests on a port whose delay is not held (R258). -/
  onFar : Bool := false
  noDelay : Bool := false
  /-- Source of the last direct sync (CLM, unit B, port), its instant, and the CN of the last valid one (R251, R252). -/
  source : Option (U32 × Bool × Nat) := none
  lastDirect : Option Nat := none
  directCn : Option U32 := none
  fullCycle : Bool := false
  crossing : Bool := false
  nearPort : Nat := 0
  dNear : Option Nat := none
  dFar : Option Nat := none
  /-- The last DSET of each end that was not adopted (R244). -/
  candNear : Option Nat := none
  candFar : Option Nat := none
  joined : Bool := false
  /-- Injection is stopped until the plane has been joined again (R250, R251, R248). -/
  silent : Bool := true
deriving DecidableEq, Repr

/-- A frame a controller has sent on a port, and whether the Breakwater cut it (R250). -/
structure SentFrame where
  bytes : List Byte
  cut : Bool
deriving DecidableEq, Repr

/-- What a controller keeps for one plane (R237-R252, R270). -/
structure CPlane where
  main : ATime := {}
  /-- The Breakwater's own class A time and delays (R249). -/
  guard : ATime := {}
  /-- Frame last forwarded out of each port (R226). -/
  out : Tbl (List Byte) := []
  /-- Counters of Table 9.6: 0-10 steps 1-11, 11 DUPLICATE, 12 DIVERGE; each wraps at 2^32. -/
  counts : Tbl U32 := []
  driftNote : Option (Int × Nat) := none
  /-- DRESP sent last, with its port (R243). -/
  dresp : Option (Nat × List Byte) := none
  /-- Uplink telegram launched last, and its near and far copies as they left. -/
  sent : Option (List Byte) := none
  sentNear : Option SentFrame := none
  sentFar : Option SentFrame := none
deriving DecidableEq, Repr

/-- The keys of one set that a controller channel holds: K(L1,c), K(L2,c), K(L3,c) and its own K(Un,c) (Table 9.4). -/
structure ChanKeys where
  number : U16
  lanes : Tri Key
  up : Key
deriving DecidableEq, Repr

/-- A downlink telegram applied by a controller. -/
structure Applied where
  frame : List Byte
  cn : U32
  age : Nat
  limit : Nat
  clm : U32
  unitB : Bool
deriving DecidableEq, Repr

/-- One object controller (R262-R276, R282). -/
structure Ctrl where
  planes : Duo CPlane := ⟨{}, {}⟩
  /-- The Breakwater's stored segment, slot and controller ID, and its internal fault (R249, R250). -/
  stored : Option (Nat × Nat × Nat) := none
  guardFault : Bool := false
  /-- Key store of each channel: at most two sets, the last one loaded first (R267, R271). -/
  chan1 : List ChanKeys := []
  chan2 : List ChanKeys := []
  lastKeyset : Option U16 := none
  /-- RST, cycles in a row with an accepted downlink, the cycle last counted (R264). -/
  rst : Bool := false
  okRun : Nat := 0
  okCn : Option U32 := none
  /-- Claim record: (CLM, unit B, CN of the last arrival) (R272). -/
  claims : List (U32 × Bool × U32) := []
  applied : Option Applied := none
  /-- The objects are in their restrictive state (R274). -/
  restrictive : Bool := true
  /-- CLM and CN of the last telegram accepted (R262, R264). -/
  lastClm : U32 := 0
  lastAck : U32 := 0
  /-- Identity data (Table 9.9): designer number, type, firmware revision. -/
  designer : U32 := 0
  ctype : U32 := 0
  fwRev : U32 := 0
  /-- Non-cyclic responses sent: plane, port, frame. -/
  responses : List (PlaneId × Nat × List Byte) := []
deriving DecidableEq, Repr

/-- Copy state of the partner (R375). -/
inductive CopyState where
  | none
  | resync (accepted : Nat)
  | ready (k : U32)
deriving DecidableEq, Repr

/-- State of the pair function (chapter 13). -/
structure Pair where
  /-- Ordering variant RDY-GX3-P (Table 0.1), and the unit read at BOOT. -/
  variantP : Bool := true
  unitB : Bool := false
  unitPins : Bool × Bool := (true, false)
  clm : U32 := 0
  /-- The module holds the claim (R236). -/
  holder : Bool := false
  /-- Last STATUS of the partner on each hawser port, and whether the link is up. -/
  status : Duo (Option HwStatus) := ⟨none, none⟩
  linkUp : Duo Bool := ⟨false, false⟩
  copy : CopyState := .none
  /-- CN of the far cycle in which STATUS with HOLDER_DOWN last came (R378). -/
  holderDownAt : Option U32 := none
  /-- TRANSFER was set in the copy accepted last (R378). -/
  transferSeen : Bool := false
  /-- The copy of the last far cycle was accepted. -/
  lastAccepted : Bool := false
  copyHdr : Option CopyHdr := none
  /-- The holder sets TRANSFER in its next seals (R384). -/
  transferNext : Bool := false
  rollbackHold : Bool := false
  takeoverCn : Option U32 := none
  /-- Direct sync is withheld until the far tick of this CN (R379). -/
  syncFrom : Option U32 := none
  /-- Consecutive cycles with the SVC link silent, and with loss of signal on every segment (R384). -/
  svcSilent : Nat := 0
  losCycles : Nat := 0
  /-- STATUS frames sent, last of each plane chip; HOLDER_DOWN raised (R368, R381). -/
  statusOut : Duo (Option HwStatus) := ⟨none, none⟩
  /-- Copy sent: its records and seals (R370, R371). -/
  copyOut : List CopyRec := []
  sealsOut : List Seal := []
  /-- What each lane reported last: the controllers whose uplink CLM differs from the module's claim (R277). -/
  clmReports : Tri (List (Nat × U32)) := ⟨[], [], []⟩
  /-- Quayline listening: when it ends (R253). -/
  listenUntil : Option Nat := none
deriving DecidableEq, Repr

end Sys2Proof.Machine
end

