-- ==== Sys2Proof/Machine/State/Service.lean ====
section
/-! DEFINITION. The state of the service side: SVC and its blocks, power and clocks, the logbook, the black-box
store, the self-test, maintenance access and the change functions. A field's default is its reset value. -/

namespace Sys2Proof.Machine

open Sys2Proof

/-- Lock state of one block (R450). -/
structure Lock where
  seq1 : Bool := false
  unlocked : Bool := false
  /-- The later of the unlock and the last RWL write, in ns. -/
  since : Nat := 0
  lastOffset : Nat := 0
  lwCount : Nat := 0
deriving DecidableEq, Repr

/-- A held safe-link copy with its TMAX, and the batch in which it last went to the lanes (R298). -/
structure HeldCopy extends SlCopy where
  tmaxNs : Nat
  sentIn : Option U32
deriving DecidableEq, Repr

/-- Egress of one uplink port (R289): when the frame on the wire and its gap have gone, the frames that wait with their
class, oldest first, and the last 64 frames sent with the instants of their first bits, newest first. -/
structure NetPort where
  freeAt : Nat := 0
  queue : List (Nat × List Byte) := []
  out : List (Nat × List Byte) := []
deriving DecidableEq, Repr

/-- A message held for its launch (R314): connection × 512 + message, PDU, and the PTP time of its launch. -/
structure HeldLaunch where
  key : Nat
  pdu : List Byte
  at_ : U48
deriving DecidableEq, Repr

/-- An outbound message at SVC: bodies and code fields as the lanes delivered them (R214, R305). -/
structure OutMsg where
  parts : List (LaneId × List Byte × List Byte)
  sent : Bool
deriving DecidableEq, Repr

/-- Uplink ports, safe link and commands on SVC (chapter 10). -/
structure Uplink where
  /-- SVC runs, and the lanes accept its link (R403). -/
  up : Bool := false
  linkAccepted : Bool := true
  /-- BIST marked SVC: only the maintenance port and the logbook start (Table 15.8). -/
  limited : Bool := false
  cycleStart : Option Nat := none
  /-- Mean of the lanes' notices shows SVC more than 200 ppm off (R475). -/
  notices : List Nat := []
  cn : U32 := 0
  cutoffPassed : Bool := false
  /-- Copies held, oldest first, and the batch of the cycle closed last, by CN. -/
  held : List HeldCopy := []
  batch : List HeldCopy := []
  batchCn : Option U32 := none
  slDrop : Nat := 0
  standbyRx : Nat := 0
  slUnsigned : Nat := 0
  slReplaced : Nat := 0
  /-- Commands not yet reported, with their sequence numbers, and the next number (R200). -/
  cmds : List SentCmd := []
  cmdSeq : U32 := 0
  out : Tbl (Option OutMsg) := []
  /-- Non-cyclic requests waiting per plane (Q100, Q101): controller and data; and responses that came (Q102), with their
  controller (R283). -/
  ncQueue : Duo (List (Nat × List Byte)) := ⟨[], []⟩
  ncResponses : List (Nat × List Byte) := []
  /-- Messages held for timed launch (R314). -/
  launchHeld : List HeldLaunch := []
  /-- PDU sent last on both LANs of each message, newest first, as (connection × 512 + message, PDU). -/
  sent : List (Nat × List Byte) := []
  /-- The module's one MAC address on the uplinks (R287). DESIGN CHOICE, log entry 117: the manual gives no value. -/
  mac : U48 := 0x020000020000
  /-- Egress of ports UA1, UA2, UB1, UB2 (0-3). -/
  ports : Tbl NetPort := []
  /-- Frames taken and answered, frames discarded per kind, and second copies discarded under PRP. -/
  taken : Nat := 0
  answered : Nat := 0
  discarded : Tbl Nat := []
  twins : Nat := 0
  echoTimes : List Nat := []
  /-- Where a station was last seen: LAN × 2^48 + address → (port, instant) (R289); the PRP node table: address →
  instant (R287). -/
  seen : Tbl (Option (Nat × Nat)) := []
  nodes : Tbl (Option Nat) := []
  /-- Copies taken under PRP: source, sequence number, LAN and instant; and the module's own next sequence number. -/
  copies : List (U48 × Nat × Bool × Nat) := []
  prpSeq : Nat := 0
  /-- MAC addresses learned by ARP: LAN × 2^32 + IPv4 address → MAC address. -/
  macs : Tbl (Option U48) := []
  lastSupervision : Option Nat := none
  supervisionSent : Nat := 0
deriving DecidableEq, Repr

/-- A master heard on a LAN: its last Announce and the instants of the last two (R307). -/
structure Foreign where
  ann : PtpAnnounce
  last : Nat
  before : Option Nat
deriving DecidableEq, Repr

/-- PTP clock and its registers (R307-R315, R464). -/
structure Ptp where
  gx2 : Bool := false
  slew500 : Bool := false
  /-- Modes in effect: they follow the registers at the next Sync. -/
  gx2Now : Bool := false
  slew500Now : Bool := false
  incr : BitVec 40 := 0x800000000
  time : U48 := 0
  /-- Wraps of the counter, by which the firmware extends it to full PTP time (R310). -/
  wraps : Int := 0
  /-- Fraction of a ns in 2^-32, and the operating time of the last clk_p edge counted (R310). -/
  frac : Nat := 0
  edgeAt : Nat := 0
  thresholdUs : Nat := 1000
  locked : Bool := false
  incrRange : Bool := false
  /-- INCR writes refused (R313), and messages ignored for their options (R307). -/
  incrRefused : Nat := 0
  ignored : Nat := 0
  jumpRefused : Bool := false
  goodSyncs : Nat := 0
  /-- Master LAN and identity; consistent syncs counted for a new master, and its last offset (R312). -/
  lanB : Bool := false
  master : Option U64 := none
  consistent : Nat := 0
  isNew : Bool := true
  lastOffset : Option Int := none
  /-- Masters heard per LAN, and the instant since which a LAN has heard no qualified master. -/
  heard : Duo (List Foreign) := ⟨[], []⟩
  quiet : Duo Nat := ⟨0, 0⟩
  /-- One announce receipt timeout has passed without a qualified master (R308). -/
  timedOut : Duo Bool := ⟨false, false⟩
  /-- Log interval of the last Announce of a LAN, and since when no Sync has been accepted (R307, R311). -/
  annLog : Duo Nat := ⟨1, 1⟩
  syncAt : Nat := 0
  /-- Master and sequenceId of a two-step Sync that waits for its Follow_Up. -/
  twoStep : Duo (Option (U64 × Nat)) := ⟨none, none⟩
  pdelaySeq : Tbl Nat := []
  pdelayT1 : Tbl Nat := []
  linkDelay : Tbl Nat := []
  pdelayAnswered : Tbl Nat := []
  /-- Last correctionField written on a forwarded Sync per egress port. -/
  correction : Tbl Int := []
  utcOffset : Int := 0
  utcValid : Bool := false
deriving DecidableEq, Repr

/-- An event frame of a Wharf bus channel with its TAG, LIFE and time of request (R355). -/
structure TxReq where
  frame : CanFrame
  tag : Nat
  lifeMs : Nat
  entered : Nat
  attempts : Nat
deriving DecidableEq, Repr

/-- Bus state of ISO 11898-1 (R364). -/
inductive BusState where
  | active | passive | busOff
deriving DecidableEq, Repr

/-- One Wharf bus channel (chapter 12). -/
structure WbChan where
  mode : WbMode := .off
  /-- Configured mode, and the SHARED mark (R349). -/
  cfgMode : WbMode := .off
  shared : Bool := false
  timing : Option WbTiming := none
  /-- Filter pairs 0-31. -/
  filters : Tbl U64 := []
  pending : List TxReq := []
  /-- Privileged frame latched for its next attempt (R357, R365). -/
  retry : Option TxReq := none
  onBus : Option TxReq := none
  onBusExclusive : Bool := false
  /-- The frame on the bus is the reference message of the row (R361). -/
  onBusRef : Bool := false
  /-- What an online change configures the channel as at the next bus idle: nothing, where it takes the channel out (R349). -/
  next : Option (Option WbCfg) := none
  privileged : Bool := false
  retryLimit : Nat := 0
  tec : Nat := 0
  rxErr : Nat := 0
  bus : BusState := .active
  warned : Bool := false
  holdOffMs : Nat := 100
  busOffAt : Option Nat := none
  holdOffDone : Bool := false
  busOffs : List Nat := []
  errs : Tbl Nat := []
  rxRemote : Nat := 0
  rxNoMatch : Nat := 0
  rxOverflow : Nat := 0
  refFail : Nat := 0
  missed : Nat := 0
  tide : Option TideTable := none
  shadow : Option TideTable := none
  row : Nat := 0
  col : Nat := 0
  refId : Nat := 0
  exclusive : Tbl (Option CanFrame) := []
  tideRunning : Bool := false
  waitRow : Bool := false
  status : Nat := 0
  marked : Bool := false
deriving DecidableEq, Repr

/-- An account (R415, R416). -/
structure Account where
  role : Role
  salt : Key
  hash : Option (BitVec 256)
  fails : Nat
  lockedAt : Option Nat
deriving DecidableEq, Repr

/-- A session (R416). -/
structure Session where
  account : Nat
  role : Role
  last : Nat
deriving DecidableEq, Repr

/-- Maintenance access (R415, R416). -/
structure Access where
  accounts : Tbl (Option Account) := [(0, some ⟨.commissioner, 0, none, 0, none⟩)]
  sessions : Tbl (Option Session) := []
  saltDraw : Nat := 0
  /-- What the last read command returned (R415). -/
  reply : List Int := []
deriving DecidableEq, Repr

/-- The time of a record or a frame (bytes 4-29 of Table 15.1, but for REPEAT). -/
structure LogStamp where
  opsec : Nat
  subsec : Nat
  pwrcyc : Nat
  utcValid : Bool
  utcFlagged : Bool
  deferred : Bool
  cn : Option U32
  utcNs : Nat
deriving DecidableEq, Repr

/-- A logbook record (Table 15.1). -/
structure LogRec where
  seq : U32
  time : LogStamp
  rep : Nat
  event : Event
  unitB : Bool
  state : ModState
  vote : BitVec 3
  lastOpsec : Nat
  lastSubsec : Nat
  lastCn : Option U32
deriving DecidableEq, Repr

/-- The logbook (R422-R431). -/
structure Logbook where
  /-- Events waiting in Q120, oldest first. -/
  q : List Event := []
  dropped : Nat := 0
  slots : Tbl (Option LogRec) := []
  next : Nat := 0
  seq : U32 := 0
  newest : Option Nat := none
  /-- Control cell in the service flash: OPSEC as the last power-fail warning wrote it, PWRCYC, export mark (R424). -/
  opsecCell : Nat := 0
  pwrcyc : Nat := 0
  /-- Operating ns that OPSEC leaves out: those of a power-up whose end no warning announced (R427). -/
  opsecOff : Nat := 0
  exportMark : Option U32 := none
  atRisk : Bool := false
  stopped : Bool := true
  /-- Record slots and frame slots skipped under Table 15.8. -/
  skip : List Nat := []
deriving DecidableEq, Repr

/-- What a plane chip's network bank latches (Table 16.5). -/
structure PlaneBank where
  lastTick : Option Nat
  cn : U32
  ctrls : Tbl PCtrl
  feeds : List Nat
  incr : Nat
deriving DecidableEq, Repr

/-- What the network bank of the SVC blocks latches (Table 16.5): check engines, queues, the PTP clock and the Wharf
bus channels. -/
structure SvcBank where
  chk : Tbl CheckEngine
  queues : Tbl Queue
  ptp : Ptp
  wb : Tbl WbChan
deriving DecidableEq, Repr

/-- A black-box frame (Table 15.5, Table 15.6). -/
structure BbFrame where
  seq : U32
  time : LogStamp
  sources : BitVec 16
  reasons : Tri (Option (Nat × Nat × Nat))
  regReason : Nat
  followers : Nat
  prot : Bool
  exported : Bool
  networkLost : Bool
  deferred : Bool
  banks : Tri (Option LaneBank)
  xbanks : Tri (Option (Option FaultRec × List (LaneId × ConsRec)))
  planeBanks : Duo (Option PlaneBank)
  svcBank : Option SvcBank
  summaries : Tri (List (Nat × Nat × Nat × Nat))
  newest : List LogRec
deriving DecidableEq, Repr

/-- The snapshot network and the black-box store (R433-R438, R462). The lanes' banks stand in the lanes; a bank
that is there is frozen. -/
structure Snap where
  /-- The grouping window of the trigger taken: instant of its first request. -/
  windowAt : Option Nat := none
  /-- The frame in assembly. -/
  staged : Option BbFrame := none
  /-- A lane has latched locally since the last frame (R435). -/
  networkLost : Bool := false
  planeBanks : Duo (Option PlaneBank) := ⟨none, none⟩
  svcBank : Option SvcBank := none
  bankSel : Nat := 0
  frameSeq : U32 := 0
  ring : Tbl (Option BbFrame) := []
  supercapOk : Bool := true
deriving DecidableEq, Repr

/-- The shutdown self-test (R439-R447). Units: 0-2 lanes, 3 PIA, 4 PIB, 5 SVC. -/
structure Bist where
  running : Bool := false
  /-- The module is at SHUTDOWN_READY, or waits for the shutdown to reach CLOSED. -/
  ready : Bool := false
  shutdownDue : Bool := false
  /-- Items not yet ended, by unit. -/
  left : Tbl (List Nat) := []
  /-- ZEROISED of SVC; the lanes and plane chips hold their own (R440). -/
  svcZeroised : Bool := false
  /-- Every item ended so far reached PASS or FAIL. -/
  full : Bool := true
  /-- Results in the service flash, by unit × 32 + item, and its marks with the same numbers (R445, R446). -/
  results : Tbl (Option BistRec) := []
  stored : List (Nat × Mark) := []
  /-- Marks in effect since the last BOOT, and those this BIST has set. -/
  marks : List Mark := []
  newMarks : List Mark := []
  /-- Operating ns at the last BIST in which every item reached PASS or FAIL. -/
  lastFull : Nat := 0
  due : Bool := false
deriving DecidableEq, Repr

/-- Power, feeds, domains (R465-R475, R463). -/
structure Power where
  feedMv : Nat × Nat := (0, 0)
  pfOk : Bool × Bool := (false, false)
  holdUpOn : Bool := false
  /-- A power-fail warning has been raised and the domains are not yet down. -/
  pfw : Bool := false
  on : BitVec 12 := 0
  pg : BitVec 12 := 0
  /-- Domains still to be switched on by the sequence in progress, in order. -/
  seq : List Domain := []
  /-- The sequence was started by PWR_REQ, and has met a time-out. -/
  seqByReq : Bool := false
  seqMissed : Bool := false
  offByReq : BitVec 12 := 0
  reqMask : BitVec 12 := 0
  reqOff : Bool := false
  resultDone : Bool := false
  resultCode : Nat := 0
  ibcOk : Bool × Bool := (true, true)
  stageOk : Bool × Bool := (true, true)
  svcClock : Bool := true
  /-- Instant at which the pulse-feed timer of the carrier started (R341). -/
  feedAt : Nat := 0
  temps : Tbl Int := []
deriving DecidableEq, Repr

/-- A Pilot session (R109-R114). -/
structure Pilot where
  capturedCn : U32
  /-- Breakpoints: core number, index, occurrence count (0 for none). -/
  breakpoints : List (Nat × Nat × Nat) := []
  /-- Replay journal: core, index, occurrence, target, value. -/
  journal : List (Nat × Nat × Nat × PilotTarget × Int) := []
  ended : Bool := false
  stoppedAt : Option (Nat × Nat) := none
  reply : Option Int := none
  /-- Lane 1's registers, and the supervisor's words, as they stood when the session captured its cycle. -/
  cores0 : Quad Core
  route0 : RouteEngine
  sup0 : Sup
deriving DecidableEq, Repr

/-- Manifest, firmware and online change (chapter 14). -/
structure Change where
  /-- A header whose checks passed and whose body is being written; lanes whose target slot takes it. -/
  loading : Option ManHeader := none
  /-- Account and role of the load, of the agreed online change, and of the Pilot session (R421). -/
  loader : List Int := [-1, 0]
  changer : List Int := [-1, 0]
  pilotBy : List Int := [-1, 0]
  loadLanes : List LaneId := []
  /-- Staged delta: entry count. -/
  staged : Option Nat := none
  /-- Switch cycle of an agreed online change. -/
  switchCn : Option U32 := none
  /-- Cycle in which FIRST_NEW reads TRUE (R413). -/
  firstNewCn : Option U32 := none
  /-- Firmware sets: running, loaded, previous. -/
  running : Combo := ⟨0, 0, 0⟩
  planeRevs : U32 × U32 := (0, 0)
  loaded : Option Combo := none
  previous : Option Combo := none
  cfgDefaulted : Bool := false
  /-- Start of BOOT, and whether a cold restart was commanded. -/
  bootAt : Nat := 0
  coldAsked : Bool := false
  fullChecksPassed : Bool := false
deriving DecidableEq, Repr

/-- Rotating lane test (R222, R223). -/
structure RotTest where
  active : Option LaneId := none
  step : Nat := 0
  started : Nat := 0
  lastEnd : Nat := 0
  next : LaneId := .l1
  deferNs : Nat := 0
  /-- Since when all three lanes have been IN-VOTE. -/
  threeSince : Option Nat := none
deriving DecidableEq, Repr

/-- What the lanes agreed of the module at the last P-CONS, from which fields 1-4, 10 and 11 of the module status
frame are derived (R480). -/
structure AtCons where
  module : ModState := .powerOff
  /-- Lanes IN-VOTE. -/
  votes : Nat := 0
  rollbackHold : Bool := false
  holder : Bool := false
  partnerReady : Bool := false
deriving DecidableEq, Repr

/-- Service registers that have no behaviour of their own, and access counts (R14, R448, R449, R456). -/
structure Regs where
  /-- Stored words of UPL_, WB_, BIST_, LOG_, QLA_, QLB_ by service address. -/
  file : Tbl U64 := []
  locks : Tbl Lock := []
  accWidth : Nat := 0
  mirrorWr : Nat := 0
  wmRefused : Nat := 0
  cfgRefused : Nat := 0
  fcmap : U32 := 0
  fcpol : BitVec 4 := 0
  /-- Mirror windows: CN of the last refresh and the bank contents copied (R449). -/
  mirrors : Tri (Option LaneBank) := ⟨none, none, none⟩
  mirrorCn : Tri U32 := ⟨0, 0, 0⟩
  /-- Value the last service read returned. -/
  readOut : U64 := 0
deriving DecidableEq, Repr

end Sys2Proof.Machine
end

