-- ==== Sys2Proof/Machine/State.lean ====
section
/-! DEFINITION. The state of the block, the fault and refusal names, and the state right after reset. -/

namespace Sys2Proof.Machine

open Sys2Proof

/-- The state of the module, its controllers and its queue of commands. -/
structure State where
  /-- Commands waiting, first in, first out. -/
  pending : List Instr
  /-- Operating time in ns, as the commands' instants show it. -/
  now : Nat
  module : ModState
  /-- LANES_2OF2 (R19). -/
  lanes2of2 : Bool
  lanes : Tri Lane
  /-- CLX links 1-2, 2-3, 1-3 in service (R28). -/
  clxOk : Tri Bool
  /-- CN of the last skipped cycle, with no completed one since (R68). -/
  skippedCn : Option U32
  /-- The module as agreed at the last P-CONS (R480). -/
  atCons : AtCons
  rot : RotTest
  pilot : Option Pilot
  /-- A session has been opened and waits for the P-AGREE of the cycle it captures (R110). -/
  pilotDue : Bool
  planes : Duo Plane
  ctrls : Tbl Ctrl
  pair : Pair
  uplink : Uplink
  ptp : Ptp
  wb : Tbl WbChan
  access : Access
  change : Change
  log : Logbook
  snap : Snap
  bist : Bist
  power : Power
  queues : Tbl Queue
  chk : Tbl CheckEngine
  /-- Memory of the scan map (Table 16.3); an unlisted byte reads 0. -/
  mem : Memory
  regs : Regs
  /-- Counter of the free values drawn (the model's own field). -/
  draw : Nat
deriving DecidableEq, Repr

/-- Why the block stops with a fault. No command of this block does (the manual gives every one an effect), so
the type has one constructor that no meaning raises: safe. -/
inductive Fault where
  /-- Raised by no meaning; safe. -/
  | unreachable
deriving DecidableEq, Repr

/-- Why a command is refused. -/
inductive Refusal where
  /-- A command whose arm in the dispatch has no meaning yet; safe. -/
  | notModelled (mnemonic : String)
deriving DecidableEq, Repr

/-- Right after reset: a factory-new module without power, before the first power-good (R18, Table 0.4), every
field at its reset value. The values the manual does not state are named in log entries 1 and 2. -/
def State.reset : State where
  pending := []
  now := 0
  module := .powerOff
  lanes2of2 := false
  lanes := ⟨ { flash := { dieId := 1 } }, { flash := { dieId := 2 } }, { flash := { dieId := 3 } } ⟩
  clxOk := ⟨true, true, true⟩
  skippedCn := none
  atCons := {}
  rot := {}
  pilot := none
  pilotDue := false
  planes := ⟨{}, {}⟩
  ctrls := []
  pair := {}
  uplink := {}
  ptp := {}
  wb := []
  access := {}
  change := {}
  log := {}
  snap := {}
  bist := {}
  power := {}
  queues := []
  chk := []
  mem := []
  regs := {}
  draw := 0

end Sys2Proof.Machine
end

