-- ==== Sys2Proof/Machine/Operands.lean ====
section
/-! DEFINITION. Coded words: the two multipliers, the dynamic stamp, the code check, the flat keys of the memory
spaces, signature entries, and reading and writing coded words of a lane (R79-R93). -/

namespace Sys2Proof.Machine

open Sys2Proof

/-! ## The code (R79-R84) -/

/-- Pass multiplier A. -/
def multA : Pass → Int
  | .p1 => 32757175
  | .p2 => 30009509

/-- Dynamic stamp D of a cycle (R80). -/
def stamp (cn : U32) : Int := (cn.toNat * 7293467 % 16777216 : Nat)

/-- The integer A·x + B + D. -/
def codeInt (p : Pass) (x : Int) (b : U24) (d : Int) : Int := multA p * x + b.toNat + d

/-- A coded word. -/
def encodeWord (p : Pass) (x : Int) (b : U24) (d : Int) : Coded := BitVec.ofInt 64 (codeInt p x b d)

/-- The code check of an exact integer against B and D (R81): the plain value, or the cause. -/
def checkInt (p : Pass) (c : Int) (b : U24) (d : Int) : Except CodedCause Int :=
  let r := c - b.toNat - d
  if r % multA p ≠ 0 then .error .code
  else if inS32 (r / multA p) then .ok (r / multA p) else .error .range

/-- The code check of a word (R81). -/
def checkWord (p : Pass) (c : Coded) (b : U24) (d : Int) : Except CodedCause Int := checkInt p c.toInt b d

/-- TRUE (R84). -/
def vTrue : Int := 13769
/-- FALSE (R84). -/
def vFalse : Int := 2614

/-- The plain value of a boolean. -/
def ofBool (b : Bool) : Int := if b then vTrue else vFalse

/-- The BOOL check (R85). -/
def checkBool (x : Int) : Except CodedCause Bool :=
  if x = vTrue then .ok true else if x = vFalse then .ok false else .error .bool

/-! ## Addresses (Table 3.4) -/

/-- Space number in a flat key. -/
def spaceIdx : Space → Nat
  | .l => 0 | .e => 1 | .t => 2 | .i => 3 | .o => 4 | .k => 5 | .m => 6

/-- Words per copy. -/
def spaceWords : Space → Nat
  | .l => 131072 | .e => 262144 | .t => 327680 | .i => 155648 | .o => 155648 | .k => 262144 | .m => 49152

/-- I words are held dated (R88). -/
def spaceDated : Space → Bool
  | .i => true
  | .l => false | .e => false | .t => false | .o => false | .k => false | .m => false

/-- Flat key of a word: space number × 2^19 + word address. -/
def flatKey (sp : Space) (a : Nat) : Nat := spaceIdx sp * 524288 + a

/-- Space of a flat key; `none` above M. -/
def spaceOf (key : Nat) : Option Space :=
  match key / 524288 with
  | 0 => some .l | 1 => some .e | 2 => some .t | 3 => some .i | 4 => some .o | 5 => some .k | 6 => some .m
  | _ => none

/-- Word address of a flat key. -/
def keyAddr (key : Nat) : Nat := key % 524288

/-- Word `w` of element `id`. -/
def keyE (id w : Nat) : Nat := flatKey .e (16 * id + w)
/-- Word `w` of route `r`. -/
def keyRoute (r w : Nat) : Nat := flatKey .t (8 * r + w)
/-- Pool entry `n`. -/
def keyPool (n : Nat) : Nat := flatKey .t (65536 + n)
/-- Word `w` of I frame `f`. -/
def keyI (f w : Nat) : Nat := flatKey .i (32 * f + w)
/-- Word `w` of O frame `f`. -/
def keyO (f w : Nat) : Nat := flatKey .o (32 * f + w)
/-- State word of timer `n`. -/
def keyTimer (n : Nat) : Nat := flatKey .m (2 * n)
/-- Edge detector `m`. -/
def keyEdge (m : Nat) : Nat := flatKey .m (32768 + m)

/-! ## A lane's words -/

/-- Signature entry of a word; unconfigured where not listed. -/
def Lane.sig (L : Lane) (key : Nat) : SigEntry := Tbl.get {} L.sigs key

/-- The coded word of one copy. -/
def Lane.word (L : Lane) (p : Pass) (key : Nat) : Coded :=
  match p with
  | .p1 => Tbl.get 0 L.copy1 key
  | .p2 => Tbl.get 0 L.copy2 key

/-- Replace the coded word of one copy. -/
def Lane.setWord (L : Lane) (p : Pass) (key : Nat) (c : Coded) : Lane :=
  match p with
  | .p1 => { L with copy1 := Tbl.set 0 L.copy1 key c }
  | .p2 => { L with copy2 := Tbl.set 0 L.copy2 key c }

/-- The word is configured (R82). -/
def Lane.configured (L : Lane) (key : Nat) : Bool := decide ((L.sig key).b ≠ 0)

/-- D under which a word of the space is held (R88). -/
def dOf (key : Nat) (cn : U32) : Int :=
  match spaceOf key with
  | some sp => if spaceDated sp then stamp cn else 0
  | none => 0

/-- An uncorrectable SRAM error in a word of a copy (R106, R117). -/
def Lane.eccBad (L : Lane) (p : Pass) (key : Nat) : Bool :=
  match p with
  | .p1 => L.eccCopy1.contains key
  | .p2 => L.eccCopy2.contains key

/-- Decode a word of one copy by its signature entry. -/
def Lane.decode (L : Lane) (p : Pass) (key : Nat) : Except CodedCause Int :=
  checkWord p (L.word p key) (L.sig key).b (dOf key L.cn)

/-- Plain value of a word of one copy for the supervisor; 0 where the word does not decode. -/
def Lane.plainIn (L : Lane) (p : Pass) (key : Nat) : Int :=
  match L.decode p key with
  | .ok x => x
  | .error _ => 0

/-- Plain value as the pass 1 copy holds it. -/
def Lane.plain (L : Lane) (key : Nat) : Int := L.plainIn .p1 key

/-- The supervisor codes a plain value into both copies with the word's own B (R95, R150). An unconfigured word
is left alone. -/
def Lane.put (L : Lane) (key : Nat) (x : Int) : Lane :=
  if L.configured key then
    let b := (L.sig key).b
    let d := dOf key L.cn
    { L with copy1 := Tbl.set 0 L.copy1 key (encodeWord .p1 x b d)
             copy2 := Tbl.set 0 L.copy2 key (encodeWord .p2 x b d) }
  else L

/-- Code several plain values. -/
def Lane.putAll (L : Lane) (ws : List (Nat × Int)) : Lane := ws.foldl (fun L e => L.put e.1 e.2) L

/-- A supervisor write of an E word at P-AGREE, with its record of the value before (R67). -/
def Lane.putE (L : Lane) (key : Nat) (x : Int) : Lane :=
  if L.configured key then
    Lane.put { L with supUndo := (key, L.word .p1 key, L.word .p2 key) :: L.supUndo } key x
  else L

/-! ## Stores of a pass, and their undoing -/

/-- Entries the journal of a pass holds (R67). -/
def Lane.journalLen (L : Lane) (p : Pass) : Nat := (L.journal.filter (fun e => e.pass = p)).length

/-- A journaled store of a coded word by a requester at a clk_t (R67). -/
def Lane.store (L : Lane) (p : Pass) (key : Nat) (c : Coded) (req clk : Nat) : Lane :=
  Lane.setWord { L with journal := ⟨p, key, L.word p key, req, clk⟩ :: L.journal } p key c

/-- The word a requester reads at a clk_t: a store of another requester in the same or a later clk_t has not yet
been made (R91). -/
def Lane.wordAt (L : Lane) (p : Pass) (key req clk : Nat) : Coded :=
  L.journal.foldl
    (fun w e => if e.pass = p ∧ e.key = key ∧ e.req ≠ req ∧ clk ≤ e.clk then e.pre else w) (L.word p key)

/-- Put the pre-images back in reverse order, then the supervisor's own E writes (R67). -/
def Lane.restore (L : Lane) : Lane :=
  let L1 := L.journal.foldl (fun L e => L.setWord e.pass e.key e.pre) L
  let L2 := L1.supUndo.foldl (fun L e => (L.setWord .p1 e.1 e.2.1).setWord .p2 e.1 e.2.2) L1
  { L2 with journal := [], supUndo := [] }

/-- Code every configured I word from the supervisor's plain frames under the lane's CN (R95). -/
def Lane.codeFrames (L : Lane) : Lane :=
  L.sigs.foldl (fun M e =>
    if spaceOf e.1 = some .i then M.put e.1 (Tbl.get 0 L.sup.frames (keyAddr e.1)) else M) L

/-- Signature entries and both copies as the image and CN give them (R151). -/
def imageSigs (ws : Tbl WordCfg) : Tbl SigEntry := ws.map (fun e => (e.1, ⟨e.2.b, e.2.owner, true⟩))

/-- One coded copy of an image. -/
def imageCopy (p : Pass) (cn : U32) (ws : Tbl WordCfg) : Tbl Coded :=
  (ws.map (fun e => (e.1, encodeWord p e.2.x e.2.b (dOf e.1 cn)))).filter (fun e => e.2 ≠ 0)

/-- Words of the L, E, T and M spaces: what a retention record and a rejoin transfer carry (R218, R405). -/
def retained (key : Nat) : Bool :=
  match spaceOf key with
  | some .l => true | some .e => true | some .t => true | some .m => true
  | some .i => false | some .o => false | some .k => false
  | none => false

/-- Plain values of the retained configured words. -/
def Lane.retainedWords (L : Lane) : Tbl Int :=
  (L.sigs.filter (fun e => retained e.1 && decide (e.2.b ≠ 0))).map (fun e => (e.1, L.plain e.1))

/-- Bytes over which a retention check word or a chunk CRC runs: address and value of each word, in order. -/
def wordBytes (ws : List (Nat × Int)) : List Byte :=
  ws.flatMap (fun e => beBytes 4 e.1 ++ beBytes 4 (ofSigned 32 e.2))

end Sys2Proof.Machine
end

