-- ==== Sys2Proof/Machine/Flags.lean ====
section
/-! DEFINITION. Lane access, the flags computed from the lanes (LANES_2OF2, VOTE), operating time, and raising an
event toward the logbook. -/

namespace Sys2Proof.Machine

open Sys2Proof

/-! ## Lanes -/

/-- One lane. -/
def State.lane (s : State) (ln : LaneId) : Lane := s.lanes.get ln

/-- Replace one lane. -/
def State.putLane (s : State) (ln : LaneId) (L : Lane) : State := { s with lanes := s.lanes.set ln L }

/-- Rewrite one lane. -/
def State.updLane (s : State) (ln : LaneId) (f : Lane → Lane) : State := s.putLane ln (f (s.lane ln))

/-- Rewrite every lane. -/
def State.mapLanes (s : State) (f : LaneId → Lane → Lane) : State := { s with lanes := s.lanes.mapI f }

/-- State of a lane: its own view of itself (R195). -/
def State.laneState (s : State) (ln : LaneId) : LaneState := (s.lane ln).views.get ln

/-- The lane is IN-VOTE. -/
def State.votes (s : State) (ln : LaneId) : Bool := decide (s.laneState ln = .inVote)

/-- The lanes IN-VOTE. -/
def State.voters (s : State) : List LaneId := LaneId.all.filter s.votes

/-- VOTE of a record: bit n − 1 for each lane n IN-VOTE (Table 15.1). -/
def State.voteBits (s : State) : BitVec 3 :=
  BitVec.ofNat 3 ((if s.votes .l1 then 1 else 0) + (if s.votes .l2 then 2 else 0) + (if s.votes .l3 then 4 else 0))

/-- The lowest-numbered lane IN-VOTE; lane 1 where there is none. -/
def State.lead (s : State) : LaneId := s.voters.headD .l1

/-- A Bool as an event or a report carries it. -/
def flag (b : Bool) : Int := if b then 1 else 0

/-- The supervisor of a lane runs: its LnI domain has power. -/
def State.lnIOn (s : State) (ln : LaneId) : Bool := s.power.pg.getLsbD (6 + ln.idx)

/-! ## Time -/

/-- Advance operating time to an instant a command shows. -/
def State.touch (s : State) (t : Nat) : State := { s with now := max s.now t }

/-- OPSEC: whole seconds of powered operation (R427). -/
def State.opsec (s : State) : Nat := (s.now - s.log.opsecOff) / 1000000000

/-- SUBSEC: clk_a count within the second (Table 15.1). -/
def State.subsec (s : State) : Nat := (s.now - s.log.opsecOff) % 1000000000 * 32768 / 1000000000

/-! ## Events -/

/-- Capacity of Q120 in events of 12 words: 48 blocks of 64 words (Table 16.2, R428). -/
def logQueueCap : Nat := 256

/-- Events a lane holds while SVC is down (R431). -/
def heldCap : Nat := 256

/-- CN an event carries (R427): the lane's for a lane event, SVC's current cycle otherwise; none before the
lanes' first agreed tick. -/
def State.eventCn (s : State) (d : Die) : Option U32 :=
  if s.module = .powerOff ∨ s.module = .boot then none else
  match d with
  | .lc1 => some (s.lane .l1).cn
  | .lc2 => some (s.lane .l2).cn
  | .lc3 => some (s.lane .l3).cn
  | .pia => some s.uplink.cn
  | .pib => some s.uplink.cn
  | .svc => some s.uplink.cn
  | .carrier => some s.uplink.cn
  | .module => some s.uplink.cn

/-- Depth of a queue at reset in units of 64 words: Table 16.2 for SVC, 1 for the lanes (log entry 1). -/
def queueDepth64 (n : Nat) : Nat :=
  if n < 96 then 1 else if n = 96 then 32 else if n = 97 then 16 else if n < 100 then 8 else if n < 102 then 4
  else if n = 102 then 8 else if n = 103 then 4 else if n < 112 then 16 else if n < 116 then 8 else if n < 120 then 4
  else if n = 120 then 48 else if n < 123 then 4 else if n < 125 then 8 else 16

/-- A queue at reset (Table 16.2). -/
def queueReset (n : Nat) : Queue :=
  { depth64 := queueDepth64 n, high := 64 * queueDepth64 n, low := 32 * queueDepth64 n }

/-- A hardware queue. -/
def State.queue (s : State) (n : Nat) : Queue := Tbl.get (queueReset n) s.queues n

/-- Replace a hardware queue. -/
def State.putQueue (s : State) (n : Nat) (q : Queue) : State :=
  { s with queues := Tbl.set (queueReset n) s.queues n q }

/-- Put an event into Q120, or count it dropped when the queue is full (R428). -/
def Logbook.push (g : Logbook) (e : Event) : Logbook :=
  if g.q.length < logQueueCap then { g with q := g.q ++ [e] } else { g with dropped := g.dropped + 1 }

/-- The account and role with which the values of a change log event begin, where it has none: −1, and role 0 (Table
15.3). -/
def noWho : List Int := [-1, 0]

/-- An event raised on SVC, a plane chip or the carrier. It is logged while SVC works (R40); with Q120 disabled its 12
words are discarded and counted (R453). -/
def State.raise (s : State) (c : LogClass) (n : EventName) (d : Die) (data : List Int) : State :=
  if s.uplink.up then
    if (s.queue 120).en then { s with log := s.log.push ⟨c, n, d, data, s.eventCn d, none⟩ }
    else s.putQueue 120 { s.queue 120 with drop := min ((s.queue 120).drop + 12) 65535 }
  else s

/-- Hold an event in a lane; the 257th replaces the oldest and the loss is counted (R431). -/
def Lane.hold (L : Lane) (e : Event) : Lane :=
  if L.heldEvents.length < heldCap then { L with heldEvents := L.heldEvents ++ [e] }
  else { L with heldEvents := L.heldEvents.drop 1 ++ [e], lostEvents := L.lostEvents + 1 }

/-- An event raised by a lane: to the logbook, or held in the lane while SVC is down (R431). -/
def State.raiseLane (s : State) (ln : LaneId) (c : LogClass) (n : EventName) (data : List Int) : State :=
  if s.uplink.up then s.raise c n ln.die data
  else s.updLane ln (fun L => L.hold ⟨c, n, ln.die, data, s.eventCn ln.die, some s.opsec⟩)

/-- An event of the module as a whole, raised through the lead lane. -/
def State.raiseModule (s : State) (c : LogClass) (n : EventName) (data : List Int) : State :=
  if s.uplink.up then s.raise c n .module data
  else s.updLane s.lead (fun L => L.hold ⟨c, n, .module, data, s.eventCn s.lead.die, some s.opsec⟩)

/-- A change log event that SVC cannot log stays with the committed record of the last 64 commands (R421). -/
def Lane.noteChange (L : Lane) (e : Event) : Lane := { L with lateChanges := (e :: L.lateChanges).take 64 }

/-- A change log event of the commands that the lanes have agreed (R421): logged, or noted in every lane IN-VOTE. -/
def State.raiseChange (s : State) (d : Die) (n : EventName) (data : List Int) : State :=
  if s.uplink.up then s.raise .change n d data
  else s.mapLanes (fun ln L => if L.views.get ln = .inVote then L.noteChange ⟨.change, n, d, data, s.eventCn d, some s.opsec⟩ else L)

/-- Raise the events of a committed cycle: those of its commands, and those of a lane. -/
def State.raiseCommitted (s : State) (ln : LaneId) (es : List (LogClass × EventName × List Int)) : State :=
  es.foldl (fun s e => if e.1 = .change then s.raiseChange ln.die e.2.1 e.2.2 else s.raiseLane ln e.1 e.2.1 e.2.2) s

/-- Raise several events of one lane. -/
def State.raiseLaneAll (s : State) (ln : LaneId) (es : List (LogClass × EventName × List Int)) : State :=
  es.foldl (fun s e => s.raiseLane ln e.1 e.2.1 e.2.2) s

/-! ## Flags of the module -/

/-- LANES_2OF2 follows the lane states and is logged at each change (R19, R215); and since when all three lanes
have been IN-VOTE (R222). -/
def State.settle (s : State) : State :=
  let n := s.voters.length
  let two := decide (n = 2)
  let s1 := if s.lanes2of2 = two then s
            else { s.raiseModule .info .lanes2of2 [if two then 1 else 0] with lanes2of2 := two }
  { s1 with rot := { s1.rot with threeSince := if n = 3 then (s1.rot.threeSince.or (some s1.now)) else none } }

/-- STATE code of Table 15.1. -/
def modCode : ModState → Nat
  | .powerOff => 0 | .boot => 1 | .closed => 2 | .test => 3 | .restricted => 4 | .operational => 5
  | .standby => 6 | .halt => 7

/-- Cause code of Table 7.3; 0 for the causes of OUT-TEST and for none. -/
def causeCode : Cause → Nat
  | .none => 0
  | .coded c =>
    match c with
    | .code => 1 | .range => 2 | .bool => 3 | .index => 4 | .unconf => 5 | .owner => 6 | .ckpt => 7
    | .passcmp => 8 | .opcode => 9 | .journal => 10 | .ecc => 11 | .route => 12
  | .overrun => 0x10 | .clock => 0x11 | .clx => 0x12 | .agree => 0x13 | .sigcmp => 0x14 | .silent => 0x15
  | .rejoin => 0x16 | .test => 0x17 | .power => 0x18 | .exchange => 0x19 | .halt => 0x1A
  | .rotate => 0 | .pilot => 0 | .shutdown => 0

/-- Change of module state, logged as a state change (Table 15.2). -/
def State.setModule (s : State) (m : ModState) : State :=
  if s.module = m then s else { s.raiseModule .info .moduleState [(modCode m : Int)] with module := m }

/-- The module states in which the lanes run the cycle (R478, Table 0.4). -/
def runsCycle : ModState → Bool
  | .closed => true | .test => true | .restricted => true | .operational => true | .standby => true
  | .powerOff => false | .boot => false | .halt => false

/-- The module states that command the networks (Table 0.4). -/
def commandsNet : ModState → Bool
  | .test => true | .restricted => true | .operational => true
  | .powerOff => false | .boot => false | .closed => false | .standby => false | .halt => false

end Sys2Proof.Machine
end

