-- ==== Sys2Proof/Machine/Ops.lean ====
section
/-! DEFINITION. The shared operations of the block: the cycle layout, exclusion of a lane, loss of the vote and
HALT, the start of a rejoin, snapshot banks, the switch drive rule, the retention record and the session check. -/

namespace Sys2Proof.Machine

open Sys2Proof

/-- How a meaning ends that changes lane states: LANES_2OF2 is brought up to date. -/
def fin (s : State) : Host.Outcome State Fault Refusal := .next s.settle

/-- How any other meaning ends. -/
def ok (s : State) : Host.Outcome State Fault Refusal := .next s

/-! ## The running program and the cycle layout (R45-R48, R61) -/

/-- The manifest the module runs: the lead lane's image. -/
def State.man (s : State) : Option Manifest := (s.lane s.lead).image

/-- Body of the running manifest. -/
def State.body (s : State) : Option ManBody := s.man.map (·.body)

/-- T_c in 0.5 ms steps: the manifest's, 10.0 ms on the factory image (default of R45). -/
def tcOf (m : Option Manifest) : Nat :=
  match m with
  | some m => m.hdr.tc
  | none => 20

/-- T_c of the running program. -/
def State.tc (s : State) : Nat := tcOf s.man

/-- T_c in ns. -/
def tcNs (tc : Nat) : Nat := tc * 500000

/-- The sequential layout runs at T_c ≥ 10.0 ms (R47, R48). -/
def sequential (tc : Nat) : Bool := decide (20 ≤ tc)

/-- Pass length p in clk_t. -/
def passClk (tc : Nat) : Nat := if sequential tc then tc * 100000 - 960000 else tc * 100000 - 608000

/-- Budget B in clk_t (R61). -/
def budget (tc : Nat) : Nat := passClk tc - 4000

/-- Start of P-AGREE, in ns from t0. -/
def pAgreeNs : Nat := 1500000

/-- Start of PASS1, in ns from t0. -/
def pass1Ns (tc : Nat) : Nat := if sequential tc then 2000000 else 1620000

/-- Start of PASS2, in ns from t0. -/
def pass2Ns (tc : Nat) : Nat := pass1Ns tc + passClk tc * 5 / 2

/-- Start of P-CONS, in ns from t0. -/
def pConsNs (tc : Nat) : Nat := pass2Ns tc + passClk tc * 5 / 2

/-- End of P-CONS, which is the start of P-SIGN. -/
def pSignNs (tc : Nat) : Nat := pConsNs tc + (if sequential tc then 400000 else 100000)

/-- End of P-SIGN. -/
def pSignEndNs (tc : Nat) : Nat := pSignNs tc + 600000

/-- Opening of downlink slot 0, in ns from the plane tick (R47, R48). -/
def qDownNs (tc : Nat) : Nat := tcNs tc - (if sequential tc then 1800000 else 1280000)

/-- Opening of Q-DYN, in ns from the plane tick. -/
def qDynNs (tc : Nat) : Nat := if sequential tc then tcNs tc - 520000 else 1500000

/-! ## Gating and switches -/

/-- Gate the cores and the route engine of a lane. -/
def Lane.gate (L : Lane) : Lane :=
  { L with cores := L.cores.map (fun c => { c with running := false })
           route := { L.route with gated := true }
           pass := none }

/-- Open every switch of the lane. -/
def Lane.openAll (L : Lane) : Lane := { L with switches := [] }

/-- Open the lane's own switches in the pair it shares with another lane (R210). -/
def Lane.openPair (me src : LaneId) (L : Lane) : Lane :=
  { L with switches := (L.switches.map (fun e => (e.1, e.2 &&& ~~~((1 : BitVec 3) <<< pairBit me src)))).filter
             (fun e => e.2 ≠ 0) }

/-- Channels with a switch pair: VLIO 0-47, SDR 48-51. -/
def switchChannels : List Nat := List.range 52

/-- The switch drive rule (R211): the switches a lane closes for its command vector. -/
def driveTable (me : LaneId) (views : Tri LaneState) (vec : BitVec 56) : Tbl (BitVec 3) :=
  if views.get me = .inVote then
    let bits : Nat := me.others.foldl (fun a m => if views.get m = .inVote then a + 2 ^ pairBit me m else a) 0
    if bits = 0 then []
    else (switchChannels.filter (fun c => vec.getLsbD c)).map (fun c => (c, BitVec.ofNat 3 bits))
  else []

/-- Close and open the switches of a lane by its command vector. -/
def Lane.drive (me : LaneId) (L : Lane) : Lane := { L with switches := driveTable me L.views L.vec }

/-- A switch pair of a channel is complete: both of its lanes close (R34). -/
def State.pairClosed (s : State) (m n : LaneId) (ch : Nat) : Bool :=
  (Tbl.get 0 (s.lane m).switches ch).getLsbD (pairBit m n) &&
  (Tbl.get 0 (s.lane n).switches ch).getLsbD (pairBit m n)

/-- A unit is marked unusable: the union of all lanes' marks, and those of the service flash (R446). -/
def State.marked (s : State) (m : Mark) : Bool := s.bist.marks.contains m

/-- The field side has power: its domain is on and a converter stage works (R337, R40; a marked stage does not count,
Table 15.8). -/
def State.fieldOn (s : State) : Bool :=
  s.power.pg.getLsbD 11 &&
  ((s.power.stageOk.1 && !s.marked (.stage 1)) || (s.power.stageOk.2 && !s.marked (.stage 2)))

/-- A VLIO or SDR output is energised: at least one pair has both switches closed (R34), and the field side has
power (R337). -/
def State.energised (s : State) (ch : Nat) : Bool :=
  (s.pairClosed .l1 .l2 ch || s.pairClosed .l2 .l3 ch || s.pairClosed .l1 .l3 ch) && s.fieldOn

/-! ## Snapshot banks of a lane (R432-R435) -/

/-- What the lane's network bank holds when it latches. -/
def Lane.netBank (L : Lane) (qs : Tbl Queue) : LaneBank where
  cores := L.cores
  route := L.route
  phase := L.phase
  views := L.views
  lanes2of2 := decide ((LaneId.all.filter (fun ln => decide (L.views.get ln = .inVote))).length = 2)
  journal := L.journal.length
  ovr := L.ovr
  corrections := L.corrections
  ces := L.ces
  vector := L.inp.latched
  latches := (L.inp.cross, L.inp.stuck, L.inp.disc)
  cn := L.cn
  outs := L.sup.outs
  switches := L.switches
  upCounts := L.upCounts
  rx := (L.rx.a.length, L.rx.b.length)
  queues := qs

/-- Latch the exclusion bank; a frozen one is kept and the exclusion counted (R434). -/
def Lane.latchX (L : Lane) : Lane :=
  match L.xbank with
  | some _ => { L with xmissed := L.xmissed + 1 }
  | none => { L with xbank := some (L.faultRec, L.consHistory) }

/-- Latch the network bank unless it is frozen; `qs` holds the lane's own queues. -/
def Lane.latchNet (qs : Tbl Queue) (L : Lane) : Lane :=
  match L.bank with
  | some _ => L
  | none => { L with bank := some (L.netBank qs) }

/-! ## Exclusion (R107, R210) -/

/-- A lane leaves the vote: OUT-FAULT with its cause, gated, switches open, the exclusion bank latched and SNAP
requested. -/
def Lane.leave (me : LaneId) (c : Cause) (now : Nat) (L : Lane) : Lane :=
  let L1 := (L.gate.openAll).latchX
  { L1 with views := L1.views.set me .outFault, cause := c, faultAt := some now, snapUnacked := true
            rejoin := {}, phase := .idle, committed := false, minorityRun := 0 }

/-- Turn of the rotating test passes on (R222). -/
def nextLane : LaneId → LaneId
  | .l1 => .l2 | .l2 => .l3 | .l3 => .l1

/-- The rotating test of a lane ends (R222, R223). -/
def State.endTest (s : State) (ln : LaneId) : State :=
  if s.rot.active = some ln then
    { s with rot := { s.rot with active := none, step := 0, lastEnd := s.now, next := nextLane ln } }
  else s

/-- The lanes are stopped for the shutdown self-test (R478). -/
def State.testing (s : State) : Bool := s.bist.running || s.bist.ready

/-- A lane excludes itself for a cause: only a lane that is IN-VOTE, OUT-TEST or REJOINING (Table 7.2), and not one that
is stopped for the self-test. -/
def State.exclude (s : State) (ln : LaneId) (c : Cause) : State :=
  if s.testing then s else
  match s.laneState ln with
  | .outFault => s
  | .laneOff => s
  | .inVote =>
    ((s.updLane ln (Lane.leave ln c s.now)).raiseLane ln .fault .exclusion [ln.num, causeCode c]).endTest ln
  | .outTest =>
    ((s.updLane ln (Lane.leave ln c s.now)).raiseLane ln .fault .exclusion [ln.num, causeCode c]).endTest ln
  | .rejoining =>
    ((s.updLane ln (Lane.leave ln c s.now)).raiseLane ln .fault .exclusion [ln.num, causeCode c]).endTest ln

/-- A lane sees another lane excluded (R210): its view, its switches of the shared pair, its exclusion bank and
SNAP (R433). -/
def Lane.see (me src : LaneId) (L : Lane) : Lane :=
  if L.views.get src = .outFault then L
  else
    let L1 := (L.openPair me src).latchX
    { L1 with views := L1.views.set src .outFault, snapUnacked := true }

/-- Every lane that is IN-VOTE sees a lane excluded at a decision all of them make. -/
def State.seenByVoters (s : State) (src : LaneId) : State :=
  s.voters.foldl (fun s ln => if ln = src then s else s.updLane ln (Lane.see ln src)) s

/-- Exclusion of a lane decided by the lanes together. -/
def State.excludeAgreed (s : State) (ln : LaneId) (c : Cause) : State := (s.exclude ln c).seenByVoters ln

/-! ## Loss of the vote and HALT (R216, R478) -/

/-- A lane in HALT: every lane that is not LANE-OFF is OUT-FAULT with cause HALT, gated and open. -/
def Lane.halted (me : LaneId) (now : Nat) (L : Lane) : Lane :=
  match L.views.get me with
  | .laneOff => L.openAll
  | .outFault => { L.gate.openAll with cause := .halt, phase := .idle }
  | .inVote => Lane.leave me .halt now L
  | .outTest => Lane.leave me .halt now L
  | .rejoining => Lane.leave me .halt now L

/-- A lane's views follow the states of the lanes. -/
def State.shareViews (s : State) : State :=
  let v : Tri LaneState := Tri.ofFn s.laneState
  s.mapLanes (fun _ L => { L with views := v })

/-- The rotating test that runs ends here (R222). -/
def State.dropTest (s : State) : State :=
  match s.rot.active with
  | none => s
  | some ln => s.endTest ln

/-- A debugger target as the change log holds it. -/
def targetCode : PilotTarget → List Int
  | .v n => [0, ((n : Nat) : Int)]
  | .p n => [1, ((n : Nat) : Int)]
  | .x n => [2, ((n : Nat) : Int)]
  | .word k => [3, ((k : Nat) : Int)]
  | .pc => [4]
  | .cn => [5]
  | .sg => [6]

/-- Breakpoints and journal of a session as its change log record holds them. -/
def Pilot.values (p : Pilot) : List Int :=
  p.breakpoints.flatMap (fun b => [((b.1 : Nat) : Int), (b.2.1 : Nat), (b.2.2 : Nat)]) ++
  p.journal.flatMap (fun e => [((e.1 : Nat) : Int), (e.2.1 : Nat), (e.2.2.1 : Nat)] ++ targetCode e.2.2.2.1 ++
    [e.2.2.2.2])

/-- A Pilot session ends: its breakpoints, writes and journal go to the change log, and Lane 1's memory back to the
committed state (R110, R114). -/
def State.dropPilot (s : State) : State :=
  match s.pilot with
  | none => { s with pilotDue := false }
  | some p =>
    { (s.raise .change .pilotSession .svc (s.change.pilotBy ++ p.values)).updLane .l1 (fun L => L.gate.restore) with
      pilot := none, pilotDue := false }

/-- Entry to HALT: lanes by R478, plane chips send nothing, no test, session or change goes on. -/
def State.enterHalt (s : State) : State :=
  let s0 := s.dropTest.dropPilot
  let s1 := (s0.mapLanes (fun ln L => Lane.halted ln s0.now L)).shareViews
  let s2 := (s1.setModule .halt).raiseModule .fault .moduleHalt []
  { s2 with planes := s2.planes.map (fun p => { p with sending := false, coldNext := false })
            rot := { s2.rot with threeSince := none }
            change := { s2.change with switchCn := none, staged := none }
            bist := { s2.bist with shutdownDue := false }
            skippedCn := none }

/-- Loss of the vote (R216): HALT from any state in which the lanes run the cycle. Lanes stopped for the self-test have
no vote to lose. -/
def State.loseVote (s : State) : State :=
  if runsCycle s.module && !s.testing then (s.raiseModule .fault .voteLost []).enterHalt else s

/-- Loss of the vote where fewer than two lanes remain IN-VOTE. -/
def State.checkVote (s : State) : State := if s.voters.length < 2 then s.loseVote else s

/-! ## Rejoin (R217, R220) -/

/-- The identity of an image: the signature field of its header (R217). -/
def imageId (m : Option Manifest) : Option (BitVec 768) := m.map (·.hdr.signature)

/-- Both CLX links of a lane are in service (R53, R197). -/
def State.linksUp (s : State) (ln : LaneId) : Bool :=
  ln.others.all (fun m => match linkOf ln m with
    | some l => s.clxOk.link l
    | none => true)

/-- Rejoin conditions: exactly two lanes IN-VOTE, running the rejoining lane's manifest, and its links
calibrated (R217). -/
def State.rejoinOk (s : State) (ln : LaneId) : Bool :=
  decide (s.voters.length = 2) &&
  s.voters.all (fun v => decide (imageId (s.lane v).image = imageId (s.lane ln).image)) &&
  s.linksUp ln && runsCycle s.module

/-- Code and K space from the lane's own flash; the coded copies start from the image (R217). -/
def Lane.reload (cn : U32) (L : Lane) : Lane :=
  match L.image with
  | none => { L with cn := cn, code := [], sigs := [], copy1 := [], copy2 := [], journal := [], supUndo := [] }
  | some m =>
    { L with cn := cn, code := m.body.code, sigs := imageSigs m.body.words
             copy1 := imageCopy .p1 cn m.body.words, copy2 := imageCopy .p2 cn m.body.words
             eccCopy1 := [], eccCopy2 := [], eccSig := [], eccCode := [], eccSoft := []
             journal := [], supUndo := [] }

/-- Bit of a lane's LnC domain in PWR_STAT, and of its LnI domain (Table 17.2). -/
def lnC (ln : LaneId) : BitVec 12 := (1 : BitVec 12) <<< (3 + ln.idx)
/-- Bit of a lane's LnI domain. -/
def lnI (ln : LaneId) : BitVec 12 := (1 : BitVec 12) <<< (6 + ln.idx)

/-- The LnC domain of a lane restarts, while its LnI is on (R197, R473). -/
def Power.restartLnC (p : Power) (ln : LaneId) : Power :=
  if p.pg &&& lnI ln = 0 then p else { p with on := p.on ||| lnC ln, pg := p.pg ||| lnC ln }

/-- A lane becomes REJOINING; it fails at once with cause REJOIN where the conditions do not hold (R220). -/
def State.startRejoin (s : State) (ln : LaneId) : State :=
  let donor := s.lane s.lead
  let s1 := s.mapLanes (fun m L =>
    if m = ln then
      { Lane.reload donor.cn L.openAll with
          views := donor.views.set ln .rejoining
          cause := .none
          outFaultEnd := if L.views.get ln = .outFault then some s.now else L.outFaultEnd
          rejoin := {}
          corrections := [], trim := 0 }
    else { L with views := L.views.set ln .rejoining })
  let s2 := s1.raiseLane ln .info .rejoinStart [ln.num]
  let s3 : State := { s2 with power := s2.power.restartLnC ln }
  if s3.rejoinOk ln then s3 else s3.excludeAgreed ln .rejoin

/-- A lane goes LANE-OFF: unpowered, every switch open (Table 7.1). -/
def State.laneOff (s : State) (ln : LaneId) : State :=
  (s.mapLanes (fun m L =>
    if m = ln then
      { (L.gate.openAll) with
          views := L.views.set ln .laneOff
          cause := .none
          outFaultEnd := if L.views.get ln = .outFault then some s.now else L.outFaultEnd
          rejoin := {}, phase := .idle, bank := none, xbank := none, heldEvents := [], lateChanges := [] }
    else { L.openPair m ln with views := L.views.set ln .laneOff })).endTest ln

/-! ## Retention (R405) -/

/-- Check word over everything the record holds. -/
def retentionCheck (ws : Tbl Int) (cn : U32) (ident : BitVec 768) : U64 :=
  crc64 (wordBytes ws ++ beBytes 4 cn.toNat ++ beBytes 96 ident.toNat)

/-- The committed state of a lane before its retention write: a cycle not yet committed is undone (Table 17.1). -/
def Lane.toCommitted (L : Lane) : Lane := { L.restore with sup := L.supC }

/-- Write the retention record of a lane that runs a manifest. -/
def Lane.retain (L : Lane) : Lane :=
  let L1 := L.toCommitted
  match L1.image with
  | none => { L1 with retention := none }
  | some m =>
    let ws := L1.retainedWords
    { L1 with retention := some ⟨ws, L1.cnC, m.hdr.signature, retentionCheck ws L1.cnC m.hdr.signature, L1.supC⟩ }

/-! ## Sessions and roles (R415, R416) -/

/-- The open session, if any. -/
def State.session (s : State) (n : Nat) : Option Session := Tbl.get none s.access.sessions n

/-- The COMMISSION key input, as the lanes agreed it. -/
def State.keyClosed (s : State) : Bool := (s.lane s.lead).supC.keyClosed

/-- An account. -/
def State.account (s : State) (n : Nat) : Option Account := Tbl.get none s.access.accounts n

/-- The session of SVC may give commands: its account has a password (R416). -/
def State.reader (s : State) (n : Nat) : Bool :=
  s.uplink.up &&
  (match s.session n with
    | none => false
    | some e => (s.account e.account).any (fun a => a.hash.isSome))

/-- The session may give Maintainer commands. -/
def State.maintainer (s : State) (n : Nat) : Bool :=
  s.reader n &&
  (match s.session n with
    | none => false
    | some e => decide (e.role ≠ .observer))

/-- The session is a Commissioner's and the COMMISSION key is closed (Table 14.8). -/
def State.commissioner (s : State) (n : Nat) : Bool :=
  s.reader n &&
  (match s.session n with
    | none => false
    | some e => decide (e.role = .commissioner) && s.keyClosed)

/-- Role code of Table 15.3. -/
def roleCode : Role → Int
  | .observer => 1 | .maintainer => 2 | .commissioner => 3

/-- Account and role of a change log record (R421). -/
def State.who (s : State) (n : Nat) : List Int :=
  match s.session n with
  | none => [0, 0]
  | some e => [(e.account : Int), roleCode e.role]

/-- A change log event of a session. -/
def State.logChange (s : State) (n : Nat) (e : EventName) (vals : List Int) : State :=
  s.raise .change e .svc (s.who n ++ vals)

/-- A command keeps its session alive (R416). -/
def State.keepAlive (s : State) (n : Nat) : State :=
  match s.session n with
  | none => s
  | some e =>
    { s with access := { s.access with sessions := Tbl.set none s.access.sessions n (some { e with last := s.now }) } }

end Sys2Proof.Machine
end

