-- ==== Sys2Proof/Machine/ServiceRegs.lean ====
section
/-! DEFINITION. The service register blocks (chapter 16): the lock, the hardware queues, the check engines and the
service side of the PTP clock's registers. -/

namespace Sys2Proof.Machine

open Sys2Proof

/-- The SVC domain is powered, so its registers exist (Table 17.2). -/
def State.svcOn (s : State) : Bool := s.power.pg.getLsbD 2

/-! ## Lock (R450) -/

/-- Place of a block in the lock table. -/
def blkIdx : Blk → Nat
  | .upl => 0 | .ptp => 1 | .wb => 2 | .chk => 3 | .que => 4 | .snp => 5 | .pwr => 6 | .bist => 7 | .log => 8
  | .qla => 9 | .qlb => 10

/-- Lock of a block. -/
def State.lock (s : State) (b : Blk) : Lock := Tbl.get {} s.regs.locks (blkIdx b)

/-- Replace the lock of a block. -/
def State.putLock (s : State) (b : Blk) (k : Lock) : State :=
  { s with regs := { s.regs with locks := Tbl.set {} s.regs.locks (blkIdx b) k } }

/-- 10 ms after the later of the unlock and the last RWL write. -/
def lockNs : Nat := 10000000

/-- A write reaches the block between two words of the sequence: the sequence starts again. -/
def State.wrote (s : State) (b : Blk) : State := s.putLock b { s.lock b with seq1 := false }

/-- The lock after a word to LOCK_KEY at an instant. -/
def keyWord (k : Lock) (v : U32) (now : Nat) : Lock :=
  if v = 0 then { k with seq1 := false, unlocked := false }
  else if v = 0x0000A5C3 then { k with seq1 := true }
  else if v = 0x00003C5A ∧ k.seq1 then { k with seq1 := false, unlocked := true, since := now }
  else { k with seq1 := false }

/-- The lock once the 10 ms have run out before an instant. -/
def Lock.lapse (k : Lock) (now : Nat) : Lock :=
  if k.unlocked ∧ k.since + lockNs < now then { k with unlocked := false } else k

/-- LOCK_KEY_WRITE (R450). -/
def execLockKeyWrite (blk : Blk) (v : U32) (t : Nat) (s : State) : Host.Outcome State Fault Refusal :=
  if s.svcOn then
    let s0 := s.touch t
    ok (s0.putLock blk (keyWord ((s0.lock blk).lapse s0.now) v s0.now))
  else ok s

/-- Word that LOCK reads. -/
def Lock.word (k : Lock) : U64 :=
  BitVec.ofNat 64 (k.lastOffset % 65536 * 65536 + k.lwCount % 256 * 256 + (if k.seq1 then 2 else 0) +
    (if k.unlocked then 1 else 0))

/-- LOCK_READ (R450): LWCOUNT is returned and cleared. -/
def execLockRead (blk : Blk) (s : State) : Host.Outcome State Fault Refusal :=
  if s.svcOn then
    let k := s.lock blk
    let s1 := s.putLock blk { k with lwCount := 0 }
    ok { s1 with regs := { s1.regs with readOut := k.word } }
  else ok s

/-- LOCK_TIMEOUT (R450). -/
def execLockTimeout (blk : Blk) (t : Nat) (s : State) : Host.Outcome State Fault Refusal :=
  if s.svcOn then
    let s0 := s.touch t
    let k := s0.lock blk
    ok (if k.unlocked ∧ k.since + lockNs ≤ s0.now then s0.putLock blk { k with unlocked := false } else s0)
  else ok s

/-- Code of a block for LOCKED_WRITE. -/
def State.lockedWrite (s : State) (b : Blk) (off : Nat) : State :=
  let k := s.lock b
  (s.putLock b { k with lastOffset := off, lwCount := min (k.lwCount + 1) 255, seq1 := false }).raise
    .warn .lockedWrite .svc [((blkIdx b : Nat) : Int), ((off : Nat) : Int)]

/-- A write to an RWL field at an offset of a block: `f` while the block is unlocked, which restarts the 10 ms; else
the locked write is recorded (R16, R450). -/
def State.rwl (s : State) (b : Blk) (off t : Nat) (f : State → State) : State :=
  let s0 := s.touch t
  let k := (s0.lock b).lapse s0.now
  let s1 := s0.putLock b { k with seq1 := false }
  if k.unlocked then f (s1.putLock b { k with seq1 := false, since := s1.now }) else s1.lockedWrite b off

/-! ## Queues (R451-R456, Table 16.2) -/

/-- Count a refused or discarded word, saturating. -/
def sat16 (n : Nat) : Nat := min n 65535

/-- Words a queue holds. -/
def Queue.depth (q : Queue) : Nat := 64 * q.depth64

/-- ABOVE after a change of COUNT (R455). -/
def Queue.mark (q : Queue) : Queue :=
  { q with above := if q.high ≤ q.words.length then true else if q.words.length ≤ q.low then false else q.above }

/-- A push (R452). -/
def Queue.push (q : Queue) (w : BitVec 63) : Queue :=
  if !q.en then { q with drop := sat16 (q.drop + 1) }
  else if q.depth ≤ q.words.length then { q with ovf := sat16 (q.ovf + 1) }
  else Queue.mark { q with words := q.words ++ [w] }

/-- A pop: the word QUE_DATA returns, and the queue (R451). -/
def Queue.pop (q : Queue) : U64 × Queue :=
  match q.en, q.words with
  | true, w :: r => (w.setWidth 64 ||| 0x8000000000000000, Queue.mark { q with words := r })
  | _, _ => (0, q)

/-- A flush (R453): `items` further items of the queue's consumers or producers are discarded. -/
def Queue.flush (q : Queue) (items : Nat) : Queue :=
  { q with words := [], above := false, drop := sat16 (q.drop + q.words.length + items) }

/-- A hardware producer pushes an item whole, or reports that it does not fit (R452). -/
def Queue.pushItem (q : Queue) (ws : List (BitVec 63)) : Queue × Bool :=
  if q.en ∧ q.words.length + ws.length ≤ q.depth then
    (Queue.mark { q with words := q.words ++ ws }, true)
  else (q, false)

/-- Lane that holds a queue; `none` for the queues of SVC. -/
def queueLane (n : Nat) : Option LaneId :=
  if n < 32 then some .l1 else if n < 64 then some .l2 else if n < 96 then some .l3 else none

/-- The die that holds a queue has power. -/
def State.queueOn (s : State) (n : Nat) : Bool :=
  match queueLane n with
  | none => s.svcOn
  | some ln => s.power.pg.getLsbD (3 + ln.idx)

/-- Offset of a queue's registers in QUE_. -/
def queueOff (n reg : Nat) : Nat := 0x40 * (n - 96) + reg

/-- QUE_DATA_READ (R451). -/
def execQueDataRead (q : Nat) (s : State) : Host.Outcome State Fault Refusal :=
  if s.queueOn q then
    let p := (s.queue q).pop
    let s1 := s.putQueue q p.2
    ok { s1 with regs := { s1.regs with readOut := p.1 } }
  else ok s

/-- A write to the QUE_ block ends a started unlock sequence; lane queues have no service lock. -/
def State.queWrote (s : State) (q : Nat) : State := if (queueLane q).isNone then s.wrote .que else s

/-- QUE_PUSH (R452). -/
def execQuePush (q : Nat) (w : BitVec 63) (s : State) : Host.Outcome State Fault Refusal :=
  if s.queueOn q then ok ((s.queWrote q).putQueue q ((s.queue q).push w)) else ok s

/-- QUE_ENABLE (R453). -/
def execQueEnable (q : Nat) (en : Bool) (s : State) : Host.Outcome State Fault Refusal :=
  if s.queueOn q then ok ((s.queWrote q).putQueue q { s.queue q with en := en }) else ok s

/-- Store new watermarks, or count WM_REFUSED (R455). -/
def State.setWm (s : State) (q : Nat) (v : U32) : State :=
  let hi := (v.toNat / 65536) % 16384
  let lo := v.toNat % 16384
  let Q := s.queue q
  if hi ≤ lo ∨ Q.depth < hi then { s with regs := { s.regs with wmRefused := s.regs.wmRefused + 1 } }
  else s.putQueue q (Queue.mark { Q with high := hi, low := lo })

/-- QUE_WM_WRITE (R455). Lane firmware writes its own queues without a service lock. -/
def execQueWmWrite (q : Nat) (v : U32) (t : Nat) (s : State) : Host.Outcome State Fault Refusal :=
  if s.queueOn q then
    match queueLane q with
    | some _ => ok ((s.touch t).setWm q v)
    | none => ok (s.rwl .que (queueOff q 0x18) t (fun s => s.setWm q v))
  else ok s

/-- Words of the queue RAM of SVC. -/
def queueRam : Nat := 32768

/-- Sum of the depths of the SVC queues, with queue `q` at `d`. -/
def State.depthSum (s : State) (q d : Nat) : Nat :=
  ((List.range 32).map (fun i => if 96 + i = q then d else (s.queue (96 + i)).depth)).sum

/-- Store a new depth, or count CFG_REFUSED (R455). -/
def State.setDepth (s : State) (q : Nat) (v : U32) : State :=
  let d := v.toNat % 256
  let Q := s.queue q
  if Q.words ≠ [] ∨ Q.en ∨ d = 0 ∨ 128 < d ∨ ((queueLane q).isNone ∧ queueRam < s.depthSum q (64 * d)) then
    { s with regs := { s.regs with cfgRefused := s.regs.cfgRefused + 1 } }
  else s.putQueue q { Q with depth64 := d }

/-- QUE_CFG_WRITE (R455). -/
def execQueCfgWrite (q : Nat) (v : U32) (t : Nat) (s : State) : Host.Outcome State Fault Refusal :=
  if s.queueOn q then
    match queueLane q with
    | some _ => ok ((s.touch t).setDepth q v)
    | none => ok (s.rwl .que (queueOff q 0x1C) t (fun s => s.setDepth q v))
  else ok s

/-- QUE_ERR_READ (R15): both counts are returned and cleared. -/
def execQueErrRead (q : Nat) (s : State) : Host.Outcome State Fault Refusal :=
  if s.queueOn q then
    let Q := s.queue q
    let s1 := s.putQueue q { Q with ovf := 0, drop := 0 }
    ok { s1 with regs := { s1.regs with readOut := BitVec.ofNat 64 (Q.ovf * 65536 + Q.drop) } }
  else ok s

/-- Word that QUE_STAT reads. -/
def Queue.stat (q : Queue) : U32 :=
  BitVec.ofNat 32 ((if q.above then 2 ^ 31 else 0) + (if q.words.length = q.depth then 2 ^ 30 else 0) +
    (if q.words = [] then 2 ^ 29 else 0) + q.words.length)

/-- Level of flow-control pin FCk (R456). -/
def State.fcPin (s : State) (k : Nat) : Bool :=
  let m := s.regs.fcmap.toNat / 256 ^ k % 256
  let asserted := decide (128 ≤ m) && (s.queue (m % 128)).above
  asserted != s.regs.fcpol.getLsbD k

/-! ## Check engines (R457-R460) -/

/-- W of an engine. -/
def CheckEngine.w (e : CheckEngine) : Nat := 8 * 2 ^ e.width

/-- The low `w` bits of a number reversed. -/
def revBits : Nat → Nat → Nat
  | 0, _ => 0
  | w + 1, v => (v % 2) * 2 ^ w + revBits w (v / 2)

/-- `n` shifts of the running register of width `w`. -/
def chkShift (w poly : Nat) : Nat → Nat → Nat
  | 0, c => c
  | n + 1, c =>
    chkShift w poly n (if 2 ^ (w - 1) ≤ c then (c * 2 % 2 ^ w) ^^^ poly else c * 2)

/-- One byte into the running register. -/
def CheckEngine.byte (e : CheckEngine) (c : Nat) (b : Byte) : Nat :=
  let v := if e.refin then revBits 8 b.toNat else b.toNat
  chkShift e.w e.poly.toNat 8 (c ^^^ (v * 2 ^ (e.w - 8)))

/-- The running register over bytes. -/
def CheckEngine.run (e : CheckEngine) (bs : List Byte) : U64 := BitVec.ofNat 64 (bs.foldl e.byte e.value.toNat)

/-- Word that CHK_RESULT reads. -/
def CheckEngine.result (e : CheckEngine) : U64 :=
  (if e.refout then BitVec.ofNat 64 (revBits e.w e.value.toNat) else e.value) ^^^ e.xorout

/-- A scan of some bytes lies inside one region of Table 16.3. -/
def scanRegion (addr len : Nat) : Bool :=
  [(0x0000000000, 0x20000000), (0x0100000000, 0x04000000), (0x0200000000, 0x04000000), (0x0300000000, 0x01000000),
    (0x0380000000, 0x00040000)].any
    (fun (r : Nat × Nat) => decide (r.1 ≤ addr) && decide (addr < r.1 + r.2) && decide (addr + len ≤ r.1 + r.2))

/-- START on an engine (R457). -/
def CheckEngine.start (e : CheckEngine) (fromInit : Bool) : CheckEngine :=
  if e.busy then { e with startIgn := true }
  else if e.len = 0 then { e with done := true, code := 0, remain := 0 }
  else if 2 ^ e.w ≤ e.poly.toNat ∨ 2 ^ e.w ≤ e.init.toNat ∨ 2 ^ e.w ≤ e.xorout.toNat then
    { e with done := true, code := 2, remain := e.len }
  else if !scanRegion e.addr e.len then { e with done := true, code := 1, remain := e.len }
  else { e with value := if fromInit then e.init else e.value, busy := true, remain := e.len }

/-- The scan stops with `n` bytes processed. -/
def CheckEngine.stop (e : CheckEngine) (m : Memory) (n code : Nat) : CheckEngine :=
  { e with value := e.run (Memory.readBytes m e.addr n), busy := false, done := true, code := code, remain := e.len - n }

/-- ABORT with `p` bytes processed: the scan stops at the next 8-byte boundary of the address, or has reached its
end (R459). -/
def CheckEngine.abort (e : CheckEngine) (m : Memory) (p : Nat) : CheckEngine :=
  if e.busy then
    let n := (e.addr + p + 7) / 8 * 8 - e.addr
    if n < e.len then e.stop m n 3 else e.stop m e.len 0
  else e

/-- The scan ends, normally or on an uncorrectable error in the word that holds offset `err` (R458, R459). -/
def CheckEngine.finish (e : CheckEngine) (m : Memory) (err : Option Nat) : CheckEngine :=
  if e.busy then
    match err with
    | none => e.stop m e.len 0
    | some o => if o < e.len then e.stop m ((e.addr + o) / 8 * 8 - e.addr) 4 else e.stop m e.len 0
  else e

/-- A check engine of SVC. -/
def State.chkEngine (s : State) (n : Nat) : CheckEngine := Tbl.get {} s.chk n

/-- Replace a check engine of SVC. -/
def State.putChk (s : State) (n : Nat) (e : CheckEngine) : State := { s with chk := Tbl.set {} s.chk n e }

/-- CHK_START (R457). -/
def execChkStart (n : Nat) (fromInit : Bool) (s : State) : Host.Outcome State Fault Refusal :=
  if s.svcOn then ok ((s.wrote .chk).putChk n ((s.chkEngine n).start fromInit)) else ok s

/-- CHK_ABORT (R459). How far the scan has come is a free value. -/
def execChkAbort (n : Nat) (s : State) : Host.Outcome State Fault Refusal :=
  if s.svcOn then
    let s1 := (s.wrote .chk).putChk n ((s.chkEngine n).abort s.mem (Config.scanProgress s.draw))
    ok { s1 with draw := s.draw + 1 }
  else ok s

/-- A write to VALUE (R458). -/
def CheckEngine.setValue (e : CheckEngine) (v : U64) : CheckEngine :=
  if e.busy then { e with startIgn := true } else { e with value := v }

/-- CHK_VALUE_WRITE (R458). -/
def execChkValueWrite (n : Nat) (v : U64) (s : State) : Host.Outcome State Fault Refusal :=
  if s.svcOn then ok ((s.wrote .chk).putChk n ((s.chkEngine n).setValue v)) else ok s

/-- CHK_SCAN_END (R458, R459). -/
def execChkScanEnd (n : Nat) (err : Option Nat) (s : State) : Host.Outcome State Fault Refusal :=
  if s.svcOn then ok (s.putChk n ((s.chkEngine n).finish s.mem err)) else ok s

/-! ## PTP registers (R464, R311, R313) -/

/-- Largest deviation of INCR from nominal. -/
def slewLimit (slew500 : Bool) : Nat := if slew500 then 0x10624DD else 0x346DC6

/-- Nominal INCR: 8 ns. -/
def incrNominal : Nat := 0x800000000

/-- Full PTP time in ns: the counter extended by its wraps (R310). -/
def Ptp.full (p : Ptp) : Int := p.wraps * 2 ^ 48 + p.time.toNat

/-- Set the full time. -/
def Ptp.setFull (p : Ptp) (x : Int) : Ptp := { p with time := BitVec.ofInt 48 x, wraps := x / 2 ^ 48 }

/-- The counter at an instant: one INCR per clk_p edge, 8 ns apart (R310). -/
def Ptp.advance (p : Ptp) (now : Nat) : Ptp :=
  let n := (now - p.edgeAt) / 8
  let sum := n * p.incr.toNat + p.frac
  { p.setFull (p.full + (sum / 2 ^ 32 : Nat)) with frac := sum % 2 ^ 32, edgeAt := p.edgeAt + 8 * n }

/-- PTP_MODE_WRITE (R464): the modes take effect at the next Sync. -/
def execPtpModeWrite (v : U32) (t : Nat) (s : State) : Host.Outcome State Fault Refusal :=
  if s.svcOn then
    ok (s.rwl .ptp 0 t (fun s => { s with ptp := { s.ptp with gx2 := v.getLsbD 0, slew500 := v.getLsbD 1 } }))
  else ok s

/-- INCR after a service write (R464, R313). -/
def Ptp.writeIncr (p : Ptp) (v : U64) : Ptp :=
  if p.gx2Now then
    let x := v.toNat % 2 ^ 40
    if x + slewLimit p.slew500Now < incrNominal ∨ incrNominal + slewLimit p.slew500Now < x then
      { p with incrRange := true, incrRefused := p.incrRefused + 1 }
    else { p with incr := BitVec.ofNat 40 x }
  else p

/-- PTP_INCR_WRITE (R464). -/
def execPtpIncrWrite (v : U64) (s : State) : Host.Outcome State Fault Refusal :=
  if s.svcOn then
    let p := (s.ptp.advance s.now).writeIncr v
    let s1 : State := { s.wrote .ptp with ptp := p }
    ok (if p.incrRange && !s.ptp.incrRange then s1.raise .warn .incrRange .svc [] else s1)
  else ok s

end Sys2Proof.Machine
end

