-- ==== Sys2Proof/Machine/LogRecord.lean ====
section
/-! DEFINITION. The bytes of a logbook record and of the header of a black-box frame (Tables 15.1, 15.3, 15.5 and 15.6). -/

namespace Sys2Proof.Machine

open Sys2Proof

/-- Exactly `n` bytes: the rest is 0. -/
def fitTo (n : Nat) (bs : List Byte) : List Byte := (bs ++ List.replicate n 0).take n

/-- CLASS (Table 15.2). -/
def classCode : LogClass → Nat
  | .fault => 0 | .warn => 1 | .info => 2 | .change => 3 | .snap => 4 | .bist => 5 | .log => 6

/-- DIE (Table 15.1). -/
def dieCode : Die → Nat
  | .lc1 => 0 | .lc2 => 1 | .lc3 => 2 | .pia => 3 | .pib => 4 | .svc => 5 | .carrier => 6 | .module => 7

/-- Result code of Table 15.3. -/
def resultCode : BistResult → Nat
  | .pass => 0 | .fail => 1 | .cut => 2 | .notRun => 3

/-- A number of an event, as an unsigned field of `n` bytes. -/
def leInt (n : Nat) (v : Int) : List Byte := leBytes n (v % (256 ^ n : Nat)).toNat

/-- CN where there is one. -/
def cnField (c : Option U32) : List Byte := leBytes 4 ((c.map BitVec.toNat).getD 0)

/-- Bytes 4-29 of a record: its time and REPEAT. -/
def LogStamp.bytes (t : LogStamp) (rep : Nat) : List Byte :=
  leBytes 4 t.opsec ++ leBytes 2 (t.subsec % 32768) ++ leBytes 3 t.pwrcyc ++
  leBytes 1 ((if t.utcValid then 128 else 0) + (if t.utcFlagged then 64 else 0) + (if t.cn.isSome then 32 else 0) +
    (if t.deferred then 16 else 0)) ++
  leBytes 2 rep ++ cnField t.cn ++
  (if t.utcValid then leBytes 6 (t.utcNs / 1000000000) ++ leBytes 4 (t.utcNs % 1000000000) else List.replicate 10 0)

/-- DATA, bytes 44-119 (Table 15.3). -/
def Event.dataBytes (e : Event) : List Byte :=
  fitTo 76 (match e.cls, e.data with
    | .change, a :: r :: vs =>
      fitTo 16 (if a < 0 then [] else Config.accountName a.toNat) ++ leInt 1 r ++
      leBytes 1 (if e.deferred.isSome then 1 else 0) ++ Config.eventBytes e.name vs
    | .snap, [q, src, slot] => leInt 4 q ++ leInt 2 src ++ leInt 1 slot
    | .bist, [item, res, step, t, f, ms] =>
      leInt 1 item ++ leInt 1 res ++ [0, 0] ++ leInt 8 step ++ leInt 8 t ++ leInt 8 f ++ leInt 4 ms
    | _, vs => Config.eventBytes e.name vs)

/-- Bytes 0-123 of a record. -/
def LogRec.body (r : LogRec) : List Byte :=
  let code := Config.eventCode r.event.name
  leBytes 4 r.seq.toNat ++ r.time.bytes r.rep ++
  leBytes 2 (classCode r.event.cls * 4096 + code.1 % 4096) ++ leBytes 1 (dieCode r.event.die * 32 + code.2 % 32) ++
  leBytes 1 ((if r.unitB then 128 else 0) + modCode r.state * 16 + r.vote.toNat) ++
  leBytes 4 r.lastOpsec ++ leBytes 2 (r.lastSubsec % 32768) ++ cnField r.lastCn ++ r.event.dataBytes ++ [0, 0, 0, 0]

/-- A logbook record: 128 bytes, with their CRC-32C (R426). -/
def LogRec.bytes (r : LogRec) : List Byte := r.body ++ leBytes 4 (crc32c r.body).toNat

/-- Sections of a frame: their offset in units of 4 KiB, and whether the frame holds them (Table 15.5). -/
def BbFrame.sections (f : BbFrame) : List (Nat × Bool) :=
  [(1, f.banks.l1.isSome), (5, f.banks.l2.isSome), (9, f.banks.l3.isSome),
    (13, f.xbanks.l1.isSome), (17, f.xbanks.l2.isSome), (21, f.xbanks.l3.isSome),
    (25, f.planeBanks.a.isSome), (27, f.planeBanks.b.isSome), (29, f.svcBank.isSome), (33, true), (36, true)]

/-- DIRECTORY: 16 entries of 8 bytes. -/
def BbFrame.directory (f : BbFrame) : List Byte :=
  fitTo 128 (f.sections.zipIdx.flatMap (fun e =>
    leBytes 2 e.1.1 ++ leBytes 1 (if e.1.2 then 1 else 0) ++ [0] ++
    leBytes 4 (if e.1.2 then (Config.sectionCrc f.seq e.2).toNat else 0)))

/-- FLAGS of a frame. -/
def BbFrame.flags (f : BbFrame) : Nat :=
  (if f.prot then 1 else 0) + (if f.exported then 2 else 0) + (if f.networkLost then 4 else 0) + (if f.deferred then 8 else 0)

/-- REASON of one lane; 0 when absent, but for what the SNP_TRIG write that raised the frame puts there (R462). -/
def reasonField (reg : Nat) (r : Option (Nat × Nat × Nat)) : List Byte :=
  fitTo 8 (if r = none ∧ reg = 0 then [] else Config.reasonBytes r reg)

/-- Bytes 0-191 of a frame header (Table 15.6). -/
def BbFrame.head (f : BbFrame) : List Byte :=
  leBytes 4 0x534E4150 ++ leBytes 4 f.seq.toNat ++ f.time.bytes 0 ++ leBytes 2 f.sources.toNat ++
  f.reasons.toList.flatMap (reasonField f.regReason) ++ leBytes 2 f.followers ++ leBytes 1 f.flags ++ [0] ++ f.directory

/-- The frame header: 4 KiB, with its CRC-32C (R436). -/
def BbFrame.header (f : BbFrame) : List Byte :=
  let b := fitTo 4092 f.head
  b ++ leBytes 4 (crc32c b).toNat

end Sys2Proof.Machine
end

