-- ==== Sys2Proof/Machine/Logbook.lean ====
section
/-! DEFINITION. The logbook, the snapshot network and the black-box store (chapter 15, R422-R438, R462). -/

namespace Sys2Proof.Machine

open Sys2Proof

/-! ## Record slots (R422, R424, R425) -/

/-- Slots of the kept area, and of the circulating area. -/
def keptSlots : Nat := 262144

/-- Slot after a slot in the order of writing. -/
def slotAfter (n : Nat) : Nat := if n + 1 < 2 * keptSlots then n + 1 else keptSlots

/-- First slot from `n` on that is not skipped (Table 15.8). -/
def skipSlots (skip : List Nat) : Nat → Nat → Nat
  | 0, n => n
  | fuel + 1, n => if skip.contains n then skipSlots skip fuel (slotAfter n) else n

/-- Slot the next record goes to. -/
def Logbook.slot (g : Logbook) : Nat := skipSlots g.skip (g.skip.length + 1) g.next

/-- Writes until a slot is overwritten; `none` for a slot of the kept area already filled. -/
def Logbook.writesUntil (g : Logbook) (slot : Nat) : Option Nat :=
  if g.next < keptSlots then
    (if slot < g.next then none else some (slot - g.next))
  else if slot < keptSlots then none
  else some ((slot + keptSlots - g.next) % keptSlots)

/-- LOG_CHANGE_AT_RISK (R425). -/
def Logbook.risk (g : Logbook) : Bool :=
  g.slots.any (fun (e : Nat × Option LogRec) =>
    match e.2, g.writesUntil e.1 with
    | some r, some n =>
      decide (r.event.cls = .change) && decide (n < 16384) && decide (keptSlots ≤ e.1) &&
      (match g.exportMark with
        | none => true
        | some m => later r.seq m)
    | _, _ => false)

/-- Bring LOG_CHANGE_AT_RISK up to date. -/
def Logbook.judge (g : Logbook) : Logbook := { g with atRisk := g.risk }

/-! ## Writing and repeats (R426-R429) -/

/-- Ticks of clk_a for a time of OPSEC and SUBSEC. -/
def clkA (opsec subsec : Nat) : Nat := opsec * 32768 + subsec

/-- An event is a repeat of a record at a time (R429). -/
def isRepeat (r : LogRec) (e : Event) (opsec subsec : Nat) : Bool :=
  decide (r.event.cls = e.cls) && decide (r.event.name = e.name) && decide (r.event.die = e.die) &&
  decide (r.event.data = e.data) && decide (clkA opsec subsec ≤ clkA r.lastOpsec r.lastSubsec + 32768)

/-- UTC of a record in ns; 0 while the PTP clock is unlocked (R427, R310). -/
def State.utcNs (s : State) : Nat :=
  if s.ptp.locked then
    (((s.ptp.advance s.now).full - (if s.ptp.utcValid then s.ptp.utcOffset * 1000000000 else 0)).toNat)
  else 0

/-- The time of an event that carries a CN, and its own OPSEC where it is deferred (R427). -/
def State.stamp (s : State) (cn : Option U32) (deferred : Option Nat) : LogStamp where
  opsec := deferred.getD s.opsec
  subsec := s.subsec
  pwrcyc := s.log.pwrcyc
  utcValid := s.ptp.locked
  utcFlagged := s.ptp.locked && !s.ptp.utcValid
  deferred := deferred.isSome
  cn := cn
  utcNs := s.utcNs

/-- The record of an event. -/
def State.recordOf (s : State) (e : Event) : LogRec where
  seq := s.log.seq
  time := s.stamp e.cn e.deferred
  rep := 0
  event := e
  unitB := s.pair.unitB
  state := s.module
  vote := s.voteBits
  lastOpsec := e.deferred.getD s.opsec
  lastSubsec := s.subsec
  lastCn := e.cn

/-- Newest record, if any. -/
def Logbook.newestRec (g : Logbook) : Option LogRec :=
  match g.newest with
  | none => none
  | some n => Tbl.get none g.slots n

/-- Rewrite a record for a repeat. -/
def LogRec.again (r : LogRec) (opsec subsec : Nat) (cn : Option U32) : LogRec :=
  { r with rep := min (r.rep + 1) 65535, lastOpsec := opsec, lastSubsec := subsec, lastCn := cn }

/-- Write an event: a repeat into the newest record, any other into a new one. -/
def State.writeRecord (s : State) (e : Event) : State :=
  let g := s.log
  let at_ := e.deferred.getD s.opsec
  let fresh : Logbook :=
    { g with slots := Tbl.set none g.slots g.slot (some (s.recordOf e))
             newest := some g.slot, next := slotAfter g.slot, seq := g.seq + 1 }
  match g.newestRec, g.newest with
  | some r, some n =>
    if isRepeat r e at_ s.subsec then
      { s with log := Logbook.judge { g with slots := Tbl.set none g.slots n (some (r.again at_ s.subsec e.cn)) } }
    else { s with log := fresh.judge }
  | _, _ => { s with log := fresh.judge }

/-- The logbook controller writes: its domain is powered and no power-fail warning has stopped it (R430). -/
def State.logWrites (s : State) : Bool := s.uplink.up && s.power.pg.getLsbD 1 && !s.log.stopped

/-- LOG_EVENT (R428): after drops the next record, once there is space, is a LOG record with their number. -/
def execLogEvent (t : Nat) (s : State) : Host.Outcome State Fault Refusal :=
  let s := s.touch t
  if s.logWrites then
    if 0 < s.log.dropped ∧ s.log.q.length < logQueueCap then
      let e : Event := ⟨.log, .logDrop, .svc, [((s.log.dropped : Nat) : Int)], s.eventCn .svc, none⟩
      ok (State.writeRecord { s with log := { s.log with dropped := 0 } } e)
    else
      match s.log.q with
      | [] => ok s
      | e :: r => ok (State.writeRecord { s with log := { s.log with q := r } } e)
  else ok s

/-! ## The snapshot network (R432-R435) -/

/-- A lane's own queues. -/
def State.laneQueues (s : State) (ln : LaneId) : Tbl Queue :=
  s.queues.filter (fun e => decide (queueLane e.1 = some ln))

/-- Network bank of a plane chip. -/
def Plane.bank (p : Plane) : PlaneBank :=
  ⟨p.lastTick, p.cn, p.ctrls, (p.segs.filter (fun e => e.2.feed)).map (·.1), p.incr⟩

/-- Network bank of the SVC blocks. -/
def State.svcBankNow (s : State) : SvcBank :=
  ⟨s.chk, s.queues.filter (fun e => decide (queueLane e.1 = none)), s.ptp, s.wb⟩

/-- Some network bank is frozen. -/
def State.frozen (s : State) : Bool :=
  s.lanes.toList.any (fun L => L.bank.isSome) || s.snap.planeBanks.a.isSome || s.snap.planeBanks.b.isSome ||
  s.snap.svcBank.isSome

/-- A lane latches its network bank, if it has power. -/
def State.latchLane (s : State) (ln : LaneId) : State :=
  if s.laneState ln = .laneOff then s else s.updLane ln (Lane.latchNet (s.laneQueues ln))

/-- Every block latches (R434). -/
def State.latchAll (s : State) : State :=
  let s1 := LaneId.all.foldl State.latchLane s
  { s1 with snap := { s1.snap with
      planeBanks := ⟨if s.power.pg.getLsbD 9 then some s.planes.a.bank else none,
                     if s.power.pg.getLsbD 10 then some s.planes.b.bank else none⟩
      svcBank := some s.svcBankNow } }

/-- Bit of a source in SOURCES (Table 15.6). -/
def sourceBit : SnapSource → Nat
  | .tally ln => ln.idx
  | .exclusion ln => 3 + ln.idx
  | .register _ => 6
  | .snapIn => 7

/-- SOURCES of one source. -/
def sourceMask (x : SnapSource) : BitVec 16 := (1 : BitVec 16) <<< sourceBit x

/-- A frame of a source is PROTECTED (R438). -/
def protects : SnapSource → Bool
  | .exclusion _ => true
  | .register h => h
  | .tally _ => false
  | .snapIn => false

/-- REASON of a lane as its Tally SNAP latched it. -/
def Lane.reason (L : Lane) : Option (Nat × Nat × Nat) := L.snapTally.map (fun e => (e.2.1, e.2.2.1, e.2.2.2))

/-- The newest records of the logbook, at most 512. -/
def Logbook.newestRecs (g : Logbook) : List LogRec :=
  (g.slots.filterMap (fun (e : Nat × Option LogRec) => e.2)).filter (fun r => later (r.seq + 513) g.seq)

/-- A frame over the banks as they stand (R436). -/
def State.frame (s : State) (sources : BitVec 16) (prot deferred : Bool) (regReason : Nat)
    (reasons : Tri (Option (Nat × Nat × Nat))) : BbFrame where
  seq := s.snap.frameSeq
  time := { s.stamp (s.eventCn .svc) none with deferred := deferred }
  sources := sources
  reasons := reasons
  regReason := regReason
  followers := 0
  prot := prot
  exported := false
  networkLost := s.snap.networkLost
  deferred := deferred
  banks := s.lanes.map (·.bank)
  xbanks := s.lanes.map (·.xbank)
  planeBanks := s.snap.planeBanks
  svcBank := s.snap.svcBank
  summaries := s.lanes.map (·.summaries)
  newest := s.log.newestRecs

/-- Put a frame into assembly. -/
def State.stage (s : State) (f : BbFrame) : State :=
  { s with snap := { s.snap with staged := some f, networkLost := false, frameSeq := s.snap.frameSeq + 1 } }

/-- REASON of the lane a Tally SNAP came from. -/
def State.reasonsOf (s : State) (x : SnapSource) : Tri (Option (Nat × Nat × Nat)) :=
  match x with
  | .tally ln => Tri.set ⟨none, none, none⟩ ln (s.lane ln).reason
  | .exclusion _ => ⟨none, none, none⟩
  | .register _ => ⟨none, none, none⟩
  | .snapIn => ⟨none, none, none⟩

/-- Add a source to the frame in assembly; `count` when it is a trigger of its own (R434). -/
def BbFrame.join (f : BbFrame) (x : SnapSource) (count : Bool) (regReason : Nat)
    (reasons : Tri (Option (Nat × Nat × Nat))) : BbFrame :=
  { f with
    sources := f.sources ||| sourceMask x
    prot := f.prot || protects x
    regReason := if decide (sourceBit x = 6) && !f.sources.getLsbD 6 then regReason else f.regReason
    reasons := ⟨f.reasons.l1.or reasons.l1, f.reasons.l2.or reasons.l2, f.reasons.l3.or reasons.l3⟩
    followers := if count then min (f.followers + 1) 65535 else f.followers }

/-- The lane whose request the network acknowledges. -/
def sourceLane : SnapSource → Option LaneId
  | .tally ln => some ln
  | .exclusion ln => some ln
  | .register _ => none
  | .snapIn => none

/-- The network takes a request (R433-R435). -/
def State.snapTake (s : State) (x : SnapSource) (regReason : Nat) : State :=
  let reasons := s.reasonsOf x
  let s0 : State := match sourceLane x with
    | some ln => s.updLane ln (fun L => { L with snapUnacked := false })
    | none => s
  let joined (count : Bool) : Option BbFrame := s0.snap.staged.map (fun f => f.join x count regReason reasons)
  let inWindow : Bool := match s0.snap.windowAt with
    | none => false
    | some w => decide (s0.now ≤ w + 10000)
  if inWindow then { s0 with snap := { s0.snap with staged := joined false } }
  else if s0.frozen then
    { s0 with snap := { s0.snap with staged := joined true, windowAt := some s0.now } }
  else
    let s1 := s0.latchAll
    let s2 := s1.stage (s1.frame (sourceMask x) (protects x) false regReason reasons)
    { s2 with snap := { s2.snap with windowAt := some s2.now } }

/-- SNAP_REQUEST (R433). -/
def execSnapRequest (src : SnapSource) (t : Nat) (s : State) : Host.Outcome State Fault Refusal :=
  let s0 := s.touch t
  if s0.uplink.up then ok (s0.snapTake src 0) else ok s0

/-- SNAPIN_EDGE (R433): a rising edge that has held high for 10 µs. -/
def execSnapinEdge (heldNs t : Nat) (s : State) : Host.Outcome State Fault Refusal :=
  let s0 := s.touch t
  if s0.uplink.up ∧ 10000 ≤ heldNs then ok (s0.snapTake .snapIn 0) else ok s0

/-- SNAP_WINDOW_END (R433). -/
def execSnapWindowEnd (s : State) : Host.Outcome State Fault Refusal :=
  ok { s with snap := { s.snap with windowAt := none } }

/-- SOURCES of a lane that latched by itself. -/
def State.localSources (s : State) (ln : LaneId) : BitVec 16 :=
  (if s.laneState ln = .outFault then sourceMask (.exclusion ln) else 0) |||
  (if (s.lane ln).snapTally.isSome then sourceMask (.tally ln) else 0)

/-- SNAP_LOCAL_LATCH (R435). -/
def execSnapLocalLatch (ln : LaneId) (s : State) : Host.Outcome State Fault Refusal :=
  if (s.lane ln).snapUnacked then
    let s1 := (s.latchLane ln).updLane ln (fun L => { L with snapUnacked := false })
    let s2 : State := { s1 with snap := { s1.snap with networkLost := true } }
    let src := s2.localSources ln
    match s2.snap.staged with
    | some f =>
      ok { s2 with snap := { s2.snap with
            networkLost := false
            staged := some { f with networkLost := true, sources := f.sources ||| src, banks := s2.lanes.map (·.bank) } } }
    | none =>
      if s2.uplink.up then
        ok (s2.stage (s2.frame src (decide (s2.laneState ln = .outFault)) false 0
          (Tri.set ⟨none, none, none⟩ ln (s2.lane ln).reason)))
      else ok s2
  else ok s

/-- The frame that follows the recovery of SVC, over the banks the lanes latched meanwhile (Table 1.10, R437). -/
def State.stageDeferred (s : State) : State :=
  if s.lanes.toList.any (fun L => L.bank.isSome || L.xbank.isSome) ∧ s.snap.staged.isNone then
    let src := LaneId.all.foldl (fun a ln => a ||| s.localSources ln) 0
    s.stage (s.frame src (s.lanes.toList.any (fun L => L.xbank.isSome)) true 0 (s.lanes.map (·.reason)))
  else s

/-! ## Frame slots (R437, R438) -/

/-- Frame of a slot. -/
def Snap.frameAt (x : Snap) (n : Nat) : Option BbFrame := Tbl.get none x.ring n

/-- The older of two slots that both hold a frame. -/
def olderSlot (x : Snap) (a b : Nat) : Nat :=
  match x.frameAt a, x.frameAt b with
  | some f, some g => if later f.seq g.seq then b else a
  | none, _ => a
  | some _, none => b

/-- The oldest of some slots. -/
def oldestSlot (x : Snap) : List Nat → Option Nat
  | [] => none
  | n :: r =>
    match oldestSlot x r with
    | none => some n
    | some m => some (olderSlot x n m)

/-- Slots whose frame is, or is not, PROTECTED; an empty slot is not. -/
def Snap.slotsWith (x : Snap) (skip : List Nat) (prot : Bool) : List Nat :=
  (List.range 64).filter (fun n => !skip.contains n &&
    decide ((match x.frameAt n with
      | none => false
      | some f => f.prot) = prot))

/-- Unprotect the oldest PROTECTED frame where 32 are PROTECTED already. -/
def Snap.makeRoom (x : Snap) (skip : List Nat) : Snap :=
  let ps := x.slotsWith skip true
  if ps.length < 32 then x
  else match oldestSlot x ps with
    | none => x
    | some n => { x with ring := Tbl.upd none x.ring n (fun o => o.map (fun f => { f with prot := false })) }

/-- Frame slots marked unusable. -/
def State.badFrames (s : State) : List Nat :=
  s.bist.marks.filterMap (fun m => match m with
    | .frameSlot n => some n
    | _ => none)

/-- The black-box controller has power: its domain, or its supercapacitor after the rails have fallen (R437). -/
def State.bbPower (s : State) : Bool :=
  s.power.pg.getLsbD 1 || (s.snap.supercapOk && !s.bist.marks.contains .supercap)

/-- BLACKBOX_FRAME_WRITTEN (R437, R438). -/
def execBlackboxFrameWritten (s : State) : Host.Outcome State Fault Refusal :=
  match s.snap.staged with
  | none => ok s
  | some f =>
    if s.bbPower then
      let x := if f.prot then s.snap.makeRoom s.badFrames else s.snap
      match oldestSlot x (x.slotsWith s.badFrames false) with
      | none => ok { s with snap := { s.snap with staged := none } }
      | some n =>
        ok (State.raise { s with snap := { x with ring := Tbl.set none x.ring n (some f), staged := none } }
          .snap .snapFrame .svc [(f.seq.toNat : Int), (f.sources.toNat : Int), ((n : Nat) : Int)])
    else ok { s with snap := { s.snap with staged := none } }

/-! ## Snapshot registers (R462) -/

/-- SNP_TRIG_GO (R462): the write is the HALT entry write while the module is in HALT. -/
def execSnpTrigGo (v : U32) (t : Nat) (s : State) : Host.Outcome State Fault Refusal :=
  if s.svcOn then
    let s0 := (s.touch t).wrote .snp
    if v.getLsbD 31 then ok (s0.snapTake (.register (decide (s0.module = .halt))) (v.toNat % 65536)) else ok s0
  else ok s

/-- Frozen bits [8:0] of SNP_STAT. -/
def State.frozenBits (s : State) : BitVec 9 :=
  BitVec.ofNat 9
    ((if s.lanes.l1.bank.isSome then 1 else 0) + (if s.lanes.l2.bank.isSome then 2 else 0) +
     (if s.lanes.l3.bank.isSome then 4 else 0) + (if s.snap.planeBanks.a.isSome then 8 else 0) +
     (if s.snap.planeBanks.b.isSome then 16 else 0) + (if s.snap.svcBank.isSome then 32 else 0) +
     (if s.lanes.l1.xbank.isSome then 64 else 0) + (if s.lanes.l2.xbank.isSome then 128 else 0) +
     (if s.lanes.l3.xbank.isSome then 256 else 0))

/-- Word that SNP_STAT reads. -/
def State.snpStat (s : State) : U32 :=
  BitVec.ofNat 32 ((if s.snap.staged.isSome then 2 ^ 31 else 0) +
    (if s.snap.networkLost || (match s.snap.staged with
      | none => false
      | some f => f.networkLost) then 2 ^ 30 else 0) + s.frozenBits.toNat)

/-- Release the banks of the bits written. -/
def State.release (s : State) (v : U32) : State :=
  let s1 := s.mapLanes (fun ln L =>
    { L with bank := if v.getLsbD ln.idx then none else L.bank, xbank := if v.getLsbD (6 + ln.idx) then none else L.xbank })
  { s1 with snap := { s1.snap with
      planeBanks := ⟨if v.getLsbD 3 then none else s1.snap.planeBanks.a, if v.getLsbD 4 then none else s1.snap.planeBanks.b⟩
      svcBank := if v.getLsbD 5 then none else s1.snap.svcBank } }

/-- SNP_BANK_RELEASE (R462). -/
def execSnpBankRelease (v : U32) (s : State) : Host.Outcome State Fault Refusal :=
  if s.svcOn then ok ((s.wrote .snp).release v) else ok s

end Sys2Proof.Machine
end

