-- ==== Sys2Proof/Machine/Image.lean ====
section
/-! DEFINITION. What a manifest's image says of words, elements and frames. -/

namespace Sys2Proof.Machine

open Sys2Proof

/-- Initial value of a configured word of an image; 0 where it is not configured. -/
def imgX (b : ManBody) (key : Nat) : Int :=
  match b.words.find? (fun e => decide (e.1 = key)) with
  | none => 0
  | some e => e.2.x

/-- A word is configured in an image. -/
def imgHas (b : ManBody) (key : Nat) : Bool := b.words.any (fun e => decide (e.1 = key) && decide (e.2.b ≠ 0))

/-- A word of an image is declared boolean. -/
def imgBool (b : ManBody) (key : Nat) : Bool :=
  b.words.any (fun e => decide (e.1 = key) && decide (e.2.kind = .bool))

/-- Inbound messages of a manifest: connection, its configuration and the message. -/
def inMsgs (m : Manifest) : List (Nat × ConnCfg × MsgCfg) :=
  m.body.conns.flatMap (fun e => e.2.inbound.map (fun g => (e.1, e.2, g)))

/-- Fields of a controller's I frame, or of a safe-link frame, in a manifest. -/
def frameFields (m : Manifest) (f : Nat) : Option (List FieldCfg) :=
  if f < 4096 then
    (m.body.ctrls.find? (fun (e : Nat × CtrlCfg) => decide (e.1 = f))).map (fun (e : Nat × CtrlCfg) => e.2.up)
  else ((inMsgs m).find? (fun e => decide (e.2.2.frame = f))).map (fun e => e.2.2.fields)

/-- Restrictive value of a field of an I frame (R96). -/
def restrictiveOf (m : Manifest) (f w : Nat) : Int :=
  match ((frameFields m f).getD []).find? (fun g => decide (g.word = w)) with
  | none => 0
  | some g => g.restrictive

/-- Type of an element of an image. -/
def imgType (b : ManBody) (id : Nat) : Option ElemType :=
  (b.elems.find? (fun e => decide (e.1 = id))).map (·.2.type)

end Sys2Proof.Machine
end

