-- ==== Sys2Proof/Machine/Cmac.lean ====
section
/-! DEFINITION. CMAC-AES-128 to NIST SP 800-38B over AES-128 of FIPS 197, which R266, R293 and R371 name. -/

namespace Sys2Proof

/-! ## AES-128 -/

/-- Rows of the S-box of FIPS 197, sixteen bytes each, the first byte of a row most significant. -/
def aesSboxRows : List Nat :=
  [0x637C777BF26B6FC53001672BFED7AB76,
   0xCA82C97DFA5947F0ADD4A2AF9CA472C0,
   0xB7FD9326363FF7CC34A5E5F171D83115,
   0x04C723C31896059A071280E2EB27B275,
   0x09832C1A1B6E5AA0523BD6B329E32F84,
   0x53D100ED20FCB15B6ACBBE394A4C58CF,
   0xD0EFAAFB434D338545F9027F503C9FA8,
   0x51A3408F929D38F5BCB6DA2110FFF3D2] ++
  [0xCD0C13EC5F974417C4A77E3D645D1973,
   0x60814FDC222A908846EEB814DE5E0BDB,
   0xE0323A0A4906245CC2D3AC629195E479,
   0xE7C8376D8DD54EA96C56F4EA657AAE08,
   0xBA78252E1CA6B4C6E8DD741F4BBD8B8A,
   0x703EB5664803F60E613557B986C11D9E,
   0xE1F8981169D98E949B1E87E9CE5528DF,
   0x8CA1890DBFE6426841992D0FB054BB16]

/-- SubBytes of one byte. -/
def aesSub (b : Nat) : Nat := (aesSboxRows.getD (b / 16) 0) / 256 ^ (15 - b % 16) % 256

/-- Product by x in GF(2^8). -/
def aesXtime (b : Nat) : Nat := if b < 128 then 2 * b else (2 * b) ^^^ 0x11B

/-- Bytewise exclusive or. -/
def xorBytes (a b : List Nat) : List Nat := List.zipWith (fun x y => x ^^^ y) a b

/-- ShiftRows of a block of sixteen bytes held column by column. -/
def aesShiftRows (s : List Nat) : List Nat :=
  (List.range 16).map (fun i => s.getD ((i + 4 * (i % 4)) % 16) 0)

/-- MixColumns, column by column. -/
def aesMixColumns : List Nat → List Nat
  | a :: b :: c :: d :: r =>
    (aesXtime a ^^^ aesXtime b ^^^ b ^^^ c ^^^ d) :: (a ^^^ aesXtime b ^^^ aesXtime c ^^^ c ^^^ d) ::
    (a ^^^ b ^^^ aesXtime c ^^^ aesXtime d ^^^ d) :: (aesXtime a ^^^ a ^^^ b ^^^ c ^^^ aesXtime d) :: aesMixColumns r
  | _ => []

/-- The next round key of the key expansion. -/
def aesNextKey (rcon : Nat) (k : List Nat) : List Nat :=
  let t := [aesSub (k.getD 13 0) ^^^ rcon, aesSub (k.getD 14 0), aesSub (k.getD 15 0), aesSub (k.getD 12 0)]
  let w0 := xorBytes (k.take 4) t
  let w1 := xorBytes (word k 4) w0
  let w2 := xorBytes (word k 8) w1
  w0 ++ w1 ++ w2 ++ xorBytes (word k 12) w2
where
  /-- The word of a round key at a byte offset. -/
  word (k : List Nat) (i : Nat) : List Nat := (k.drop i).take 4

/-- The rounds that remain after a round key, the last one without MixColumns. -/
def aesRounds : Nat → Nat → List Nat → List Nat → List Nat
  | 0, rcon, k, s => xorBytes (aesShiftRows (s.map aesSub)) (aesNextKey rcon k)
  | n + 1, rcon, k, s =>
    let k1 := aesNextKey rcon k
    aesRounds n (aesXtime rcon) k1 (xorBytes (aesMixColumns (aesShiftRows (s.map aesSub))) k1)

/-- The cipher of one block: ten rounds. -/
def aesEncrypt (k s : List Nat) : List Nat := aesRounds 9 1 k (xorBytes s k)

/-! ## CMAC -/

/-- A block as a number, most significant byte first, and back. -/
def blockNat (b : List Nat) : Nat := b.foldl (fun a x => a * 256 + x) 0

/-- A number as a block. -/
def natBlock (n : Nat) : List Nat := (beBytes 16 n).map BitVec.toNat

/-- The subkey after a block: its double in GF(2^128). -/
def cmacDouble (n : Nat) : Nat := if n < 2 ^ 127 then 2 * n else (2 * n) % 2 ^ 128 ^^^ 0x87

/-- The last block, complete or padded, under its subkey. -/
def cmacLast (l : Nat) (m : List Nat) : List Nat :=
  if m.length = 16 then xorBytes m (natBlock (cmacDouble l))
  else xorBytes (m ++ [128] ++ List.replicate (15 - m.length) 0) (natBlock (cmacDouble (cmacDouble l)))

/-- The chain over a message; the first argument bounds the number of blocks. -/
def cmacChain (k : List Nat) (l : Nat) : Nat → List Nat → List Nat → List Nat
  | 0, x, _ => x
  | n + 1, x, m =>
    if m.length ≤ 16 then aesEncrypt k (xorBytes x (cmacLast l m))
    else cmacChain k l n (aesEncrypt k (xorBytes x (m.take 16))) (m.drop 16)

/-- CMAC-AES-128 of a message under a key. -/
def cmac (key : Key) (msg : List Byte) : BitVec 128 :=
  let k := natBlock key.toNat
  let l := blockNat (aesEncrypt k (List.replicate 16 0))
  BitVec.ofNat 128 (blockNat (cmacChain k l (msg.length / 16 + 1) (List.replicate 16 0) (msg.map BitVec.toNat)))

end Sys2Proof
end

