-- ==== Sys2Proof/Machine/Frame.lean ====
section
/-! DEFINITION. Quayline frames as bytes: MAC header and FCS (R228, R262), and the timing frames of Table 8.6 (R242). -/

namespace Sys2Proof

/-! ## The Ethernet frame (R228) -/

/-- Destination address of every Quayline frame. -/
def qlDestination : Nat := 0x030000000000

/-- Source address of a module by its unit. -/
def moduleMac (unitB : Bool) : Nat := 0x020000000000 + (if unitB then 1 else 0)

/-- Source address of a controller. -/
def controllerMac (ctrl : Nat) : Nat := 0x020000010000 + ctrl

/-- EtherType of every Quayline frame. -/
def qlEtherType : Nat := 0x88B5

/-- `n` shifts of the reflected CRC-32 of IEEE 802.3. -/
def crc32Shift : Nat → U32 → U32
  | 0, c => c
  | n + 1, c => crc32Shift n (if c.getLsbD 0 then (c >>> 1) ^^^ 0xEDB88320 else c >>> 1)

/-- FCS of IEEE 802.3 over a frame from its destination address on, in the order of transmission. PRESUMED, log entry 105:
R228 names the standard and gives no polynomial. -/
def frameFcs (bs : List Byte) : List Byte :=
  leBytes 4 ((bs.foldl (fun c b => crc32Shift 8 (c ^^^ b.setWidth 32)) 0xFFFFFFFF) ^^^ 0xFFFFFFFF).toNat

/-- A frame, from destination address to FCS, around a payload. -/
def qlFrame (source : Nat) (payload : List Byte) : List Byte :=
  let bs := beBytes 6 qlDestination ++ beBytes 6 source ++ beBytes 2 qlEtherType ++ payload
  bs ++ frameFcs bs

/-- The payload of a received frame; `none` for another EtherType or a bad FCS. -/
def qlOpen (f : List Byte) : Option (List Byte) :=
  if 18 ≤ f.length ∧ beAt f 12 2 = qlEtherType ∧ f.drop (f.length - 4) = frameFcs (f.take (f.length - 4)) then
    some (slice f 14 (f.length - 18))
  else none

/-- A hawser port takes a frame of a TYPE (R368, Table 13.1): 0x33 RELAY, 0x32 STATUS, 0x31 SEAL, 0x30 COPY. -/
def hawserTakes (type : Byte) (h : HawserHead) : Bool :=
  h.fcsOk && decide (h.etherType.toNat = qlEtherType) && decide (h.version = 0x01) && decide (h.type = type) &&
  decide (h.length ≤ 1518)

/-- A padded payload. -/
def padTo (n : Nat) (bs : List Byte) : List Byte := bs ++ List.replicate (n - bs.length) 0

end Sys2Proof

namespace Sys2Proof.Machine

open Sys2Proof

/-! ## Timing frames (R242, Table 8.6) -/

/-- A sync frame or a Q-DYN timing frame. -/
inductive Timing where
  | sync (f : SyncOut)
  | dreq (far mod : Bool) (ctrl seq : Nat)
  | dresp (far mod : Bool) (ctrl seq turn : Nat)
  | dset (far : Bool) (ctrl seq delay : Nat)
  | dnote (ctrl : Nat) (mean : Int) (count : Nat)
  | bar (ctrl : Nat)
deriving DecidableEq, Repr

/-- A bit of a Nat-valued byte. -/
def flagBit (b : Bool) (n : Nat) : Nat := if b then 2 ^ n else 0

/-- Bytes 4-5 of a measurement frame. -/
def endField (far mod : Bool) (ctrl : Nat) : List Byte := beBytes 2 (flagBit far 15 + flagBit mod 14 + ctrl % 4096)

/-- TYPE, FLAGS and the bytes from 4 on. -/
def Timing.fields : Timing → Nat × Nat × List Byte
  | .sync f =>
    (1, flagBit f.cold 7 + flagBit f.far 6 + flagBit f.step 5 + flagBit f.test 4 + flagBit f.unitB 3,
      beBytes 4 f.clm.toNat ++ beBytes 4 f.cn.toNat ++ beBytes 1 f.tc)
  | .dreq far mod c q => (2, 0, endField far mod c ++ beBytes 1 q)
  | .dresp far mod c q t => (3, 0, endField far mod c ++ beBytes 1 q ++ beBytes 1 0 ++ beBytes 4 t)
  | .dset far c q d => (4, 0, endField far false c ++ beBytes 1 q ++ beBytes 1 0 ++ beBytes 4 d)
  | .dnote c m n => (5, 0, endField false false c ++ beBytes 2 (ofSigned 16 m) ++ beBytes 1 n)
  | .bar c => (6, 0, endField false false c)

/-- The payload: 46 bytes. -/
def Timing.payload (planeB : Bool) (seg : Nat) (x : Timing) : List Byte :=
  padTo 46 (beBytes 1 1 ++ beBytes 1 x.fields.1 ++ beBytes 1 (flagBit planeB 7 + seg % 8) ++ beBytes 1 x.fields.2.1 ++
    x.fields.2.2)

/-- END of a measurement frame. -/
def endBit (p : List Byte) : Bool := bitAt p 32

/-- MOD of a measurement frame. -/
def modBit (p : List Byte) : Bool := bitAt p 33

/-- CTRL of a timing frame or a telegram. -/
def ctrlOf (p : List Byte) : Nat := beAt p 4 2 % 4096

/-- The frame a payload holds, by its TYPE; `none` for another TYPE. -/
def timingKind (p : List Byte) : Option Timing :=
  let c := ctrlOf p
  match beAt p 1 1 with
  | 1 => some (.sync { clm := BitVec.ofNat 32 (beAt p 4 4), cn := BitVec.ofNat 32 (beAt p 8 4), tc := beAt p 12 1
                       cold := bitAt p 24, far := bitAt p 25, step := bitAt p 26, test := bitAt p 27
                       unitB := bitAt p 28 })
  | 2 => some (.dreq (endBit p) (modBit p) c (beAt p 6 1))
  | 3 => some (.dresp (endBit p) (modBit p) c (beAt p 6 1) (beAt p 8 4))
  | 4 => some (.dset (endBit p) c (beAt p 6 1) (beAt p 8 4))
  | 5 => some (.dnote c (toSigned 16 (beAt p 6 2)) (beAt p 8 1))
  | 6 => some (.bar c)
  | _ => none

/-- PLANE and SEGMENT of a payload. -/
def lineOf (p : List Byte) : Bool × Nat := (bitAt p 16, beAt p 2 1 % 8)

/-- A received timing frame with its PLANE and SEGMENT. DESIGN CHOICE, log entry 106: R237 asks VERSION 0x01 of a sync frame,
and the other types are held to it too; reserved bits are not looked at. -/
def timingOf (f : List Byte) : Option ((Bool × Nat) × Timing) :=
  match qlOpen f with
  | none => none
  | some p => if beAt p 0 1 = 1 then (timingKind p).map (fun x => (lineOf p, x)) else none

/-- A timing frame as it leaves a port. -/
def timingFrame (source : Nat) (pl : PlaneId) (seg : Nat) (x : Timing) : List Byte := qlFrame source (x.payload pl.bit seg)

end Sys2Proof.Machine
end

