-- ==== Sys2Proof/Machine/LocalIo.lean ====
section
/-! DEFINITION. Vital local I/O (chapter 11): sampling and filters, emergency-stop pairs, the local bit vector,
local frames, output supervision and the holds on the switch commands. -/

namespace Sys2Proof.Machine

open Sys2Proof

/-! ## Configuration -/

/-- Local I/O configuration of the lane's image; everything unused on the factory image. -/
def Lane.localCfg (L : Lane) : LocalIoCfg :=
  match L.image with
  | none => ⟨[], [], [], ⟨.group, .group, .group⟩, [], [], [], 500, 500⟩
  | some m => m.body.localIo

/-- Mode of a channel (Table 11.1). -/
def modeOf (c : LocalIoCfg) (ch : Nat) : ChanMode := Tbl.get .unused c.modes ch

/-- Lead of a channel: itself unless it is a member of a paralleled set (R335). -/
def leadOf (c : LocalIoCfg) (ch : Nat) : Nat := Tbl.get ch c.setOf ch

/-- Emergency-stop pairs (0 ES1, 1 ES2) that the manifest configures as elements. -/
def Lane.esPairs (L : Lane) : List Nat :=
  match L.image with
  | none => []
  | some m =>
    [0, 1].filter (fun k => m.body.elems.any (fun e => decide (e.2.type = .esPair) &&
      decide (L.plain (keyE e.1 11) = (k + 1 : Nat))))

/-- The configured pairs assigned to SDR j (0-3) (R338). -/
def Lane.esOf (L : Lane) (j : Nat) : List Nat :=
  L.esPairs.filter (fun k => if k = 0 then L.localCfg.sdrEs1.contains j else L.localCfg.sdrEs2.contains j)

/-! ## Sampling (R322, R323, R336, R342) -/

/-- One sample into a filter of `n` samples (R323). -/
def Filt.step (n : Nat) (level : Bool) (f : Filt) : Filt :=
  if level = f.value then { f with count := 0 }
  else if n ≤ f.count + 1 then ⟨level, 0⟩ else { f with count := f.count + 1 }

/-- A comparator level with its previous reading between the thresholds (R322). -/
def rawBool (prev : Bool) : RawLevel → Bool
  | .on => true
  | .off => false
  | .between => prev

/-- Samples of the 1.0 ms filter: (1.0 − 0.3) / 0.1. -/
def n1ms : Nat := 7
/-- Samples of the 10.0 ms filter. -/
def n10ms : Nat := 97

/-- Samples of the filter of a terminal: t_F of an INPUT channel, 1.0 ms otherwise. -/
def filterOf (c : LocalIoCfg) (ch : Nat) : Nat :=
  if modeOf c ch = .input then Tbl.get 27 c.filterN ch else n1ms

/-- Sample slot of the second in which a lane tests an INPUT channel (R324). -/
def testSlot (ln : LaneId) (ch : Nat) : Nat := 3 * ch + ln.idx

/-- Sample one terminal path; `again` takes the previous sample in place of the level, as the slot of a test does (R324). -/
def samplePath (n key : Nat) (keep again : Bool) (lv : RawLevel) (i : InPaths) : InPaths :=
  let old := Tbl.get false i.level key
  let b := if again then old else rawBool (keep && old) lv
  { i with level := Tbl.set false i.level key b
           term := Tbl.upd {} i.term key (Filt.step n b) }

/-- Sample one supply bit with its two thresholds in mV (R336). -/
def sampleSupply (bit lo hi mv : Nat) (i : InPaths) : InPaths :=
  let prev := Tbl.get false i.level (200 + bit)
  let b := if mv < lo then false else if hi < mv then true else prev
  { i with level := Tbl.set false i.level (200 + bit) b
           supply := Tbl.upd {} i.supply bit (Filt.step n1ms b) }

/-- First sample of the own window of an ES channel in the 10.0 ms frame: A feeds dip at 0.0 ms, B feeds at 5.0 ms. -/
def windowBase (ch : Nat) : Nat := if ch % 2 = 0 then 0 else 50

/-- Own window of an ES channel: the 0.3 ms of its own feed's dip (R341). -/
def ownWindow (ch step : Nat) : Bool :=
  decide (windowBase ch ≤ step) && decide (step < windowBase ch + 3)

/-- Position in the 10.0 ms frame of the pulse-feed timer, in steps of 0.1 ms (R341). -/
def State.feedStep (s : State) : Nat := (s.now - s.power.feedAt) / 100000 % 100

/-- A feed gives its voltage: the field side has power, and its dip is not on. Feeds 0-3 are ESP1A, ESP1B, ESP2A, ESP2B, of
the ES channels with the same numbers (R341). -/
def State.feedHigh (s : State) (ch : Nat) : Bool := s.fieldOn && !ownWindow ch s.feedStep

/-- A raw sample of a closed channel that shows a dip outside the channel's own window (R342; log entry 57). -/
def foreignDip (ch step : Nat) (closed raw : Bool) : Bool := closed && !raw && !ownWindow ch step

/-- Sample one ES channel: filtered level, raw level, dips in and outside its window (R342). The frames of a channel
are counted at the end of its own window. -/
def sampleEs (ch step : Nat) (closed raw : Bool) (i : InPaths) : InPaths :=
  let foreign := foreignDip ch step closed raw
  let before := Tbl.get false i.esDip ch
  let frame := decide (step = windowBase ch + 3)
  let noDip := if !closed then 0 else if frame then (if before then 0 else Tbl.get 0 i.esNoDip ch + 1)
               else Tbl.get 0 i.esNoDip ch
  { i with esClosed := Tbl.set false i.esClosed ch closed
           esDip := Tbl.set false i.esDip ch (ownWindow ch step && (before || !closed || !raw))
           esNoDip := Tbl.set 0 i.esNoDip ch noDip
           cross := if foreign then Tbl.set false i.cross (ch / 2) true else i.cross
           openSeen := if foreign then Tbl.set false i.openSeen (ch / 2) false else i.openSeen }

/-- A pair holds a latched pulse or discrepancy fault (R343). -/
def esFault (i : InPaths) (k : Nat) : Bool :=
  Tbl.get false i.cross k || Tbl.get false i.stuck k || Tbl.get false i.disc k

/-- Both channels of a pair read a level. -/
def esBoth (t : Tbl Bool) (k : Nat) (b : Bool) : Bool :=
  decide (Tbl.get false t (2 * k) = b) && decide (Tbl.get false t (2 * k + 1) = b)

/-- The latches of a pair clear after both channels have read open and then both closed (R343); the time for
which the channels differ. -/
def esFollow (k : Nat) (i : InPaths) : InPaths :=
  let differ := decide (Tbl.get false i.esClosed (2 * k) ≠ Tbl.get false i.esClosed (2 * k + 1))
  let i1 := { i with esDiff := Tbl.set 0 i.esDiff k (if differ then Tbl.get 0 i.esDiff k + 1 else 0) }
  if !esFault i1 k then { i1 with openSeen := Tbl.set false i1.openSeen k false }
  else if esBoth i1.esClosed k false then { i1 with openSeen := Tbl.set false i1.openSeen k true }
  else if Tbl.get false i1.openSeen k && esBoth i1.esClosed k true then
    { i1 with cross := Tbl.set false i1.cross k false, stuck := Tbl.set false i1.stuck k false
              disc := Tbl.set false i1.disc k false, openSeen := Tbl.set false i1.openSeen k false }
  else i1

/-- All comparator paths of a lane at one sample, in a step of the pulse-feed frame. With both stages of the VLIOF converter
lost nothing on the field side is read (R337). -/
def samplePaths (ln : LaneId) (c : LocalIoCfg) (step : Nat) (sm : Sample) (i : InPaths) : InPaths :=
  let ok := sm.stagesOk
  let lv (t : Tbl RawLevel) (k : Nat) : RawLevel := if ok then Tbl.get .off t k else .off
  let i1 := (List.range 48).foldl (fun i ch =>
    samplePath (filterOf c ch) ch (decide (modeOf c ch ≠ .output))
      (decide (modeOf c ch = .input) && decide (i.slot = testSlot ln ch)) (lv sm.vlio ch) i) { i with vliofOk := ok }
  let i2 := (List.range 4).foldl (fun i j => samplePath n1ms (48 + j) false false (lv sm.sdr j) i) i1
  let i3 := (List.range 52).foldl (fun i ch =>
    let b := ok && (if ch < 48 then Tbl.get false sm.overload ch && decide (modeOf c ch = .output)
                    else Tbl.get false sm.sdrOverload (ch - 48))
    { i with overload := Tbl.upd {} i.overload ch (Filt.step n1ms b) }) i2
  let i4 := (List.range 4).foldl (fun i j =>
    let b := rawBool (Tbl.get false i.level (100 + j)) (lv sm.mc j)
    { i with level := Tbl.set false i.level (100 + j) b, mc := Tbl.upd {} i.mc j (Filt.step n10ms b) }) i3
  let i5 := (List.range 4).foldl (fun i k =>
    let mv := if ok then sm.supplyMv.getD k 0 else 0
    sampleSupply (2 * k + 1) 19200 20200 mv (sampleSupply (2 * k) 16000 17000 mv i)) i4
  let i6 := (List.range 4).foldl (fun i ch =>
    sampleEs ch step (ok && sm.esFiltered.getD ch false) (ok && sm.esRaw.getD ch false) i) i5
  let i7 := esFollow 1 (esFollow 0 i6)
  { i7 with commission := Filt.step n10ms sm.commIn i7.commission, slot := (i7.slot + 1) % 10000 }

/-- Pulse faults newly latched, as events. -/
def newCross (a b : InPaths) : List (LogClass × EventName × List Int) :=
  [0, 1].filterMap (fun k =>
    if Tbl.get false b.cross k && !Tbl.get false a.cross k then some (.fault, .esCross, [(k + 1 : Nat)]) else none)

/-- The lane's paths are powered: its LnI domain is on. -/
def State.laneOn (s : State) (ln : LaneId) : Bool := s.power.pg.getLsbD (6 + ln.idx)

/-- COMPARATOR_SAMPLE (R323). Without power on the field side nothing is read there (R337). -/
def execComparatorSample (ln : LaneId) (sm : Sample) (t : Nat) (s : State) : Host.Outcome State Fault Refusal :=
  let s0 := s.touch t
  let L := s0.lane ln
  if s0.laneOn ln then
    let i := samplePaths ln L.localCfg s0.feedStep { sm with stagesOk := sm.stagesOk && s0.fieldOn } L.inp
    ok ((s0.putLane ln { L with inp := i }).raiseLaneAll ln (newCross L.inp i))
  else ok s0

/-- ES_STUCK (R342): a closed channel without a dip in three consecutive frames. -/
def execEsStuck (ln : LaneId) (ch : Nat) (s : State) : Host.Outcome State Fault Refusal :=
  let L := s.lane ln
  if Tbl.get false L.inp.esClosed ch && decide (3 ≤ Tbl.get 0 L.inp.esNoDip ch) then
    ok ((s.putLane ln { L with inp := { L.inp with stuck := Tbl.set false L.inp.stuck (ch / 2) true
                                                   openSeen := Tbl.set false L.inp.openSeen (ch / 2) false } }).raiseLane
      ln .fault .esStuck [(ch / 2 + 1 : Nat)])
  else ok s

/-- ES_DISC (R343): the filtered channels of a pair have differed for longer than T_D. -/
def execEsDisc (ln : LaneId) (pair : Nat) (s : State) : Host.Outcome State Fault Refusal :=
  let L := s.lane ln
  let td := if pair = 0 then L.localCfg.td1Ms else L.localCfg.td2Ms
  if 10 * td < Tbl.get 0 L.inp.esDiff pair then
    ok ((s.putLane ln { L with inp := { L.inp with disc := Tbl.set false L.inp.disc pair true
                                                   openSeen := Tbl.set false L.inp.openSeen pair false } }).raiseLane
      ln .fault .esDisc [(pair + 1 : Nat)])
  else ok s

/-- INPUT_TEST (R324): in the slot of the channel, an ON and an OFF reference; a failed path reads FALSE until three passed
tests in a row. -/
def execInputTest (ln : LaneId) (ch : Nat) (onRead offRead : Bool) (s : State) : Host.Outcome State Fault Refusal :=
  let L := s.lane ln
  if modeOf L.localCfg ch = .input ∧ L.inp.slot = testSlot ln ch then
    if onRead && !offRead then
      ok (s.putLane ln { L with inp := { L.inp with testFail := Tbl.upd 0 L.inp.testFail ch (· - 1) } })
    else
      ok ((s.putLane ln { L with inp := { L.inp with testFail := Tbl.set 0 L.inp.testFail ch 3 } }).raiseLane
        ln .warn .inputTest [(ch : Nat)])
  else ok s

/-! ## The 1 kHz task (R167, R338) -/

/-- The stage record of a pair at one reading (R167). -/
def stageStep (sample : Tbl Bool) (k st : Nat) : Nat :=
  if st = 0 then (if esBoth sample k false then 1 else 0)
  else if st = 1 then (if esBoth sample k true then 2 else 1)
  else 2

/-- The second and third conditions of R338 for SDR j. -/
def Lane.esPermits (L : Lane) (j : Nat) : Bool :=
  (L.esOf j).all (fun k => esBoth L.inp.esSample k true && !esFault L.inp k) &&
  L.esPairs.all (fun k => decide (Tbl.get 0 L.inp.stage k = 2))

/-- Open the switches of the SDR outputs an emergency stop holds. -/
def Lane.esHold (L : Lane) : Lane :=
  { L with switches := L.switches.filter (fun e => decide (e.1 < 48) || L.esPermits (e.1 - 48)) }

/-- ES_TASK (R338): read the channels, advance the stage records, and hold or open the SDR switches. -/
def execEsTask (ln : LaneId) (s : State) : Host.Outcome State Fault Refusal :=
  if s.laneOn ln then
    ok (s.updLane ln (fun L =>
      let st := [0, 1].foldl (fun t k => Tbl.set 0 t k (stageStep L.inp.esClosed k (Tbl.get 0 t k))) L.inp.stage
      Lane.esHold { L with inp := { L.inp with esSample := L.inp.esClosed, stage := st } }))
  else ok s

/-! ## Local bit vector (Table 11.5) -/

/-- The value of each bit of the local bit vector. -/
def vectorBit (c : LocalIoCfg) (i : InPaths) (dead : Nat → Bool) (b : Nat) : Bool :=
  if !i.vliofOk then false
  else if b < 48 then
    (Tbl.get {} i.term b).value && decide (Tbl.get 0 i.testFail b = 0) && !dead b
  else if b < 96 then (Tbl.get {} i.overload (b - 48)).value && decide (modeOf c (b - 48) = .output)
  else if b < 100 then (Tbl.get {} i.term (b - 96 + 48)).value
  else if b < 104 then (Tbl.get {} i.overload (b - 100 + 48)).value
  else if b < 108 then (Tbl.get {} i.mc (b - 104)).value
  else if b < 112 then Tbl.get false i.esSample (b - 108)
  else if b < 120 then (Tbl.get {} i.supply (b - 112)).value
  else if b < 122 then !esFault i (b - 120)
  else if b < 126 then
    (if b % 2 = 0 then decide (1 ≤ Tbl.get 0 i.stage ((b - 122) / 2))
     else decide (Tbl.get 0 i.stage ((b - 122) / 2) = 2))
  else false

/-- The local bit vector of a lane (R326). -/
def localVector (c : LocalIoCfg) (i : InPaths) (dead : Nat → Bool) : BitVec 128 :=
  BitVec.ofNat 128 ((List.range 126).foldl (fun a b => if vectorBit c i dead b then a + 2 ^ b else a) 0)

/-! ## Output supervision (R330, R337) -/

/-- Supply number of a channel: 0-2 for G1-G3, 3 for SDR. -/
def supplyOf (ch : Nat) : Nat := if ch < 48 then ch / 16 else 3

/-- Terminal bit of a channel in a vector. -/
def termBit (v : BitVec 128) (ch : Nat) : Bool := if ch < 48 then v.getLsbD ch else v.getLsbD (96 + (ch - 48))
/-- Overload bit of a channel. -/
def overBit (v : BitVec 128) (ch : Nat) : Bool := if ch < 48 then v.getLsbD (48 + ch) else v.getLsbD (100 + (ch - 48))
/-- SUPPLY_OK of a supply. -/
def supplyOk (v : BitVec 128) (k : Nat) : Bool := v.getLsbD (112 + 2 * k)
/-- SUPPLY_FULL of a supply. -/
def supplyFull (v : BitVec 128) (k : Nat) : Bool := v.getLsbD (113 + 2 * k)

/-- GROUP_OFF latch of a channel's group; SDR outputs are in none. -/
def groupOffOf (o : OutSup) (ch : Nat) : Bool :=
  if ch < 16 then o.groupOff.l1 else if ch < 32 then o.groupOff.l2 else if ch < 48 then o.groupOff.l3 else false

/-- Every switch command of a channel's group was off. -/
def groupCmdOff (vec : BitVec 56) (ch : Nat) : Bool :=
  (List.range 16).all (fun i => !vec.getLsbD (16 * (ch / 16) + i))

/-- A counter of consecutive t0. -/
def runCount (hold cond : Bool) (t : Tbl Nat) (ch : Nat) : Tbl Nat :=
  if hold then t else Tbl.set 0 t ch (if cond then Tbl.get 0 t ch + 1 else 0)

/-- The agreed bits show SDR j held by an emergency stop: an assigned pair open, faulted or UNPROVEN. -/
def esHeld (pairs : List Nat) (v : BitVec 128) : Bool :=
  pairs.any (fun k => !(v.getLsbD (108 + 2 * k) && v.getLsbD (109 + 2 * k) && v.getLsbD (120 + k) &&
    v.getLsbD (123 + 2 * k)))

/-- Time from the SDR output instant of a cycle to the t0 `n` cycles later, in µs (Table 2.6). -/
def sdrElapsedUs (tc n : Nat) : Nat :=
  if sequential tc then (n - 1) * (tc * 500) + 800 else (n - 1) * (tc * 500) - 280

/-- The agreed bits show an SDR output opened by R338: one of its pairs held, or a configured pair not at STAGE 2. -/
def sdrHeld (assigned pairs : List Nat) (v : BitVec 128) : Bool :=
  esHeld assigned v || pairs.any (fun k => !v.getLsbD (123 + 2 * k))

/-- Counts and latches of one output channel at a P-AGREE. `assigned` are the ES pairs of an SDR output and `pairs` those
configured. While SUPPLY_OK is FALSE no count advances, but of EXT_SUPPLY (R337). -/
def superviseChan (c : LocalIoCfg) (assigned pairs : List Nat) (vec : BitVec 56) (ch : Nat) (o : OutSup) : OutSup :=
  let v := o.agreed
  let unrel := !supplyOk v (supplyOf ch)
  let t := termBit v ch
  let ov := overBit v ch
  let held := decide (48 ≤ ch) && sdrHeld assigned pairs v
  let lead := leadOf c ch
  let o1 := { o with
    cntExtSupply := runCount false (groupOffOf o ch && groupCmdOff vec ch && t) o.cntExtSupply ch
    cntExtVoltage := runCount unrel (t && !vec.getLsbD ch) o.cntExtVoltage ch
    cntParallel := runCount unrel (decide (lead ≠ ch) && decide (t ≠ termBit v lead)) o.cntParallel ch
    cntNoOutput := runCount unrel (!t && !ov && !held) o.cntNoOutput ch
    overload := if ov then Tbl.set false o.overload ch true else o.overload }
  let o2 := if !unrel && decide (2 ≤ Tbl.get 0 o1.cntExtVoltage ch) then
      { o1 with extVoltage := Tbl.set false o1.extVoltage ch true } else o1
  if 48 ≤ ch then
    { o2 with
      sinceOff := if vec.getLsbD ch then Tbl.set 0 o2.sinceOff ch 1
                  else if unrel || decide (Tbl.get 0 o2.sinceOff ch = 0) then o2.sinceOff
                  else Tbl.upd 0 o2.sinceOff ch (· + 1)
      sinceOn := if unrel then o2.sinceOn else Tbl.set 0 o2.sinceOn ch (if t then Tbl.get 0 o2.sinceOn ch + 1 else 0) }
  else o2

/-- The t0 of a skipped cycle passes for the times since an SDR command turned off and since a terminal became TRUE; the
commands stand unchanged (R66, R340). -/
def OutSup.skipped (vec : BitVec 56) (o : OutSup) : OutSup :=
  if !supplyOk o.agreed 3 then o
  else
    { o with sinceOff := o.sinceOff.map (fun e => if vec.getLsbD e.1 then e else (e.1, e.2 + 1))
             sinceOn := o.sinceOn.map (fun e => (e.1, e.2 + 1)) }

/-- Status code of one output in the order of Table 11.8. -/
def statusCode (c : LocalIoCfg) (tc : Nat) (esPairs : List Nat) (vec prevVec : BitVec 56) (dead : Nat → Bool)
    (o : OutSup) (ch : Nat) : Nat :=
  let v := o.agreed
  let j := ch - 48
  let sdr := decide (48 ≤ ch)
  let mc := sdr && c.sdrMc.contains j
  let mcClosed := v.getLsbD (104 + j)
  if dead ch then 15
  else if !supplyOk v (supplyOf ch) then 7
  else if 2 ≤ Tbl.get 0 o.cntExtSupply ch then 3
  else if Tbl.get false o.extVoltage ch then 2
  else if Tbl.get false o.overload ch then 1
  else if 2 ≤ Tbl.get 0 o.cntParallel ch then 5
  else if mc && !mcClosed && decide (2 ≤ Tbl.get 0 o.sinceOff ch) &&
      decide (100000 < sdrElapsedUs tc (Tbl.get 0 o.sinceOff ch - 1)) then 8
  else if mc && mcClosed && decide (100000 < (Tbl.get 0 o.sinceOn ch - 1) * (tc * 500)) then 9
  else if vec.getLsbD ch && prevVec.getLsbD ch && decide (2 ≤ Tbl.get 0 o.cntNoOutput ch) then 4
  else if groupOffOf o ch then 6
  else if sdr && esHeld esPairs v then 10
  else 0

/-- The output channels: OUTPUT channels and the four SDR outputs. -/
def outChannels (c : LocalIoCfg) : List Nat := switchChannels.filter
  (fun ch => decide (48 ≤ ch) || decide (modeOf c ch = .output))

/-- The derivation of R330 from the agreed vector of this cycle. -/
def supervise (L : Lane) (dead : Nat → Bool) (agreed : BitVec 128) : OutSup :=
  let c := L.localCfg
  let tc := tcOf L.image
  let es (ch : Nat) : List Nat := if 48 ≤ ch then L.esOf (ch - 48) else []
  let o0 : OutSup := { L.sup.outs with agreed := agreed }
  let o1 := (outChannels c).foldl (fun o ch => superviseChan c (es ch) L.esPairs L.vec ch o) o0
  let trips (g : Nat) (x : Xreact) (old : Bool) : Bool :=
    old || (decide (x = .group) &&
      (List.range 16).any (fun i => Tbl.get false o1.extVoltage (16 * g + i)))
  let o2 := { o1 with groupOff := ⟨trips 0 c.xreact.l1 o1.groupOff.l1, trips 1 c.xreact.l2 o1.groupOff.l2,
                                   trips 2 c.xreact.l3 o1.groupOff.l3⟩ }
  { o2 with status := (outChannels c).foldl (fun t ch =>
      Tbl.set 0 t ch (statusCode c tc (es ch) L.vec L.prevVec dead o2 ch)) [] }

/-- Fields of the local frames 4 608-4 614 with F (R327, R329): frame, F, fields. -/
def localFrames (v : BitVec 128) (o : OutSup) : List (Nat × Bool × List (Nat × Int)) :=
  let values (g : Nat) : Nat × Bool × List (Nat × Int) :=
    let f := !supplyOk v g
    (4608 + g, f, ((List.range 16).map (fun i => (i + 1, ofBool (!f && v.getLsbD (16 * g + i))))) ++
      [(17, ofBool (!f && supplyOk v g)), (18, ofBool (!f && supplyFull v g))])
  let status (g : Nat) : Nat × Bool × List (Nat × Int) :=
    (4611 + g, false, (List.range 16).map (fun i => (i + 1, ((Tbl.get 0 o.status (16 * g + i) : Nat) : Int))))
  let f := !supplyOk v 3
  let b (i : Nat) : Int := ofBool (!f && v.getLsbD i)
  [values 0, values 1, values 2, status 0, status 1, status 2,
   (4614, f, ((List.range 4).map (fun j => (1 + j, b (96 + j)))) ++ ((List.range 4).map (fun j => (5 + j, b (104 + j)))) ++
     ((List.range 4).map (fun j => (9 + j, b (108 + j)))) ++ [(13, b 120), (14, b 121)] ++
     ((List.range 4).map (fun j => (15 + j, if f then 15 else ((Tbl.get 0 o.status (48 + j) : Nat) : Int)))) ++
     [(19, ofBool (!f)), (20, b 119)])]

/-- Events of the output supervision: supplies that fell below SUPPLY_FULL, and statuses that changed (R337). -/
def supEvents (a b : OutSup) : List (LogClass × EventName × List Int) :=
  ((List.range 4).filterMap (fun k =>
    if supplyFull a.agreed k && !supplyFull b.agreed k then some (LogClass.warn, EventName.supplyLow, [((k : Nat) : Int)]) else none)) ++
  (switchChannels.filterMap (fun ch =>
    if Tbl.get 0 a.status ch ≠ Tbl.get 0 b.status ch then
      some (LogClass.warn, if Tbl.get 0 b.status ch = 3 then EventName.extSupply else EventName.statusChange,
        [((ch : Nat) : Int), ((Tbl.get 0 b.status ch : Nat) : Int)]) else none))

/-! ## Latch reset and holds (R331, R332) -/

/-- Committed GROUP_RESET of group g (0-2), or SDR_RESET for 3. -/
def resetCmd (L : Lane) (p : Pass) (g : Nat) : Bool :=
  decide (L.plainIn p (if g < 3 then keyO (4608 + g) 17 else keyO 4611 5) = vTrue)

/-- Channels of a latch group. -/
def groupChans (g : Nat) : List Nat := if g < 3 then (List.range 16).map (16 * g + ·) else [48, 49, 50, 51]

/-- Clear the latches of a group whose reset rises (R332). -/
def resetGroup (L : Lane) (g : Nat) (o : OutSup) : OutSup :=
  let now := resetCmd L .p2 g
  let o1 := { o with prevReset := Tbl.set false o.prevReset g now }
  if now && !Tbl.get false o.prevReset g then
    let ext := (groupChans g).any (fun ch => decide (Tbl.get 0 o.status ch = 3))
    let o2 := (groupChans g).foldl (fun o ch =>
      { o with overload := Tbl.set false o.overload ch false, extVoltage := Tbl.set false o.extVoltage ch false
               cntExtVoltage := Tbl.set 0 o.cntExtVoltage ch 0 }) o1
    match g with
    | 0 => { o2 with groupOff := { o2.groupOff with l1 := o2.groupOff.l1 && ext } }
    | 1 => { o2 with groupOff := { o2.groupOff with l2 := o2.groupOff.l2 && ext } }
    | 2 => { o2 with groupOff := { o2.groupOff with l3 := o2.groupOff.l3 && ext } }
    | _ => o2
  else o1

/-- Latch reset at P-CONS of a completed cycle. -/
def resetLatches (L : Lane) (o : OutSup) : OutSup :=
  resetGroup L 3 (resetGroup L 2 (resetGroup L 1 (resetGroup L 0 o)))

/-- The committed command of a channel before the holds: a forced value in TEST, else the O field of its lead. -/
def baseCmd (L : Lane) (test : Bool) (ch : Nat) : Bool :=
  let lead := if ch < 48 then leadOf L.localCfg ch else ch
  let key := if lead < 48 then keyO (4608 + lead / 16) (lead % 16 + 1) else keyO 4611 (lead - 48 + 1)
  match test, Tbl.get none L.sup.outForces lead with
  | true, some b => b
  | _, _ => L.configured key && decide (L.plainIn .p2 key = vTrue)

/-- One bit of the switch command vector after the holds of R331. -/
def heldCmd (L : Lane) (m : ModState) (dead : Nat → Bool) (o : OutSup) (ch : Nat) : Bool :=
  let c := L.localCfg
  let lead := leadOf c ch
  let mates := (outChannels c).filter (fun x => decide (x < 48) && decide (leadOf c x = lead))
  if !commandsNet m || dead ch then false
  else if ch < 48 then
    decide (modeOf c ch = .output) && baseCmd L (decide (m = .test)) ch && !groupOffOf o ch &&
      !mates.any (fun x => Tbl.get false o.overload x)
  else baseCmd L (decide (m = .test)) ch && !Tbl.get false o.overload ch && !Tbl.get false o.extVoltage ch

/-- The switch command vector of R207 item 2. -/
def switchVector (L : Lane) (m : ModState) (dead : Nat → Bool) (o : OutSup) : BitVec 56 :=
  BitVec.ofNat 56 (switchChannels.foldl (fun a ch => if heldCmd L m dead o ch then a + 2 ^ ch else a) 0)

/-- Channels and SDR outputs held off by a mark of the self-test (Table 15.8). -/
def State.dead (s : State) (ch : Nat) : Bool :=
  if ch < 48 then s.marked (.channel ch) else s.marked (.sdr (ch - 48))

/-- Close the switches of a lane at the end of P-CONS: R211, and R338 for the SDR outputs. -/
def Lane.driveHeld (me : LaneId) (L : Lane) : Lane := (L.drive me).esHold

end Sys2Proof.Machine
end

