-- ==== Sys2Proof/Machine/Telegram.lean ====
section
/-! DEFINITION. Quayline telegrams (chapter 9): the header, fields and code fields, building a downlink body, the
checks of an uplink in a lane, and the plane comparison. -/

namespace Sys2Proof

/-! ## Keys (R268, R293, R371) -/

/-- Index of a key in a lane's key store. Kinds: 0 the lane's downlink key of a controller, 1 and 2 its uplink
keys, 3 the lane's safe-link key of a connection, 4-6 its peer keys, 7 the hawser key. `prev` names the preceding
set. -/
def keyIdx (prev : Bool) (kind id : Nat) : Nat := (if prev then 1048576 else 0) + kind * 65536 + id

/-- A key of a lane. -/
def ManBody.key (b : ManBody) (ln : LaneId) (prev : Bool) (kind id : Nat) : Key :=
  Tbl.get 0 (b.laneKeys.get ln) (keyIdx prev kind id)

/-- Whether a key set number names the current set (`some false`), the preceding one (`some true`) or none. -/
def whichSet (cur prev set : U16) : Option Bool :=
  if set = cur then some false else if prev ≠ 0 ∧ set = prev then some true else none

/-! ## Fields (R95-R97) -/

/-- Restrictive plain value of a field (R96). -/
def FieldCfg.rest (f : FieldCfg) : Int :=
  match f.kind with
  | .bool => Machine.vFalse
  | .unsigned => f.restrictive
  | .signed => f.restrictive

/-- Plain value of a field in a payload area (R95). -/
def FieldCfg.read (f : FieldCfg) (area : List Byte) : Int :=
  match f.kind with
  | .bool => Machine.ofBool (bitAt area f.bit)
  | .unsigned => (fieldAt area f.bit f.width : Nat)
  | .signed => toSigned f.width (fieldAt area f.bit f.width)

/-- The packed pattern of a plain value; `none` outside the declared range (R97). -/
def FieldCfg.pack (f : FieldCfg) (x : Int) : Option Nat :=
  match f.kind with
  | .bool => if x = Machine.vTrue then some 1 else if x = Machine.vFalse then some 0 else none
  | .unsigned => if 0 ≤ x ∧ x < (2 ^ f.width : Nat) then some x.toNat else none
  | .signed =>
    if -((2 ^ (f.width - 1) : Nat) : Int) ≤ x ∧ x < (2 ^ (f.width - 1) : Nat) then some (ofSigned f.width x) else none

/-- Pattern of the restrictive value. -/
def FieldCfg.packRest (f : FieldCfg) : Nat := ofSigned f.width (if f.kind = .bool then 0 else f.restrictive)

end Sys2Proof

namespace Sys2Proof.Machine

open Sys2Proof

/-- Pack the O fields of a frame into a payload area of 128 bytes, and name the fields outside their range. -/
def packFrame (L : Lane) (frame : Nat) (fs : List FieldCfg) : List Byte × List Nat :=
  fs.foldl (fun a f =>
    match f.pack (L.plain (keyO frame f.word)) with
    | some v => (setFieldAt a.1 f.bit f.width v, a.2)
    | none => (setFieldAt a.1 f.bit f.width f.packRest, a.2 ++ [f.word])) (List.replicate 128 0, [])

/-! ## Telegram bytes (Table 9.1) -/

/-- Telegram header. -/
structure TeleHdr where
  type : Nat
  planeB : Bool
  seg : Nat
  flags : Nat
  ctrl : Nat
  slot : Nat
  clm : U32
  cn : U32
  age : Nat
  limit : Nat
  length : Nat
  map : U16
  keyset : U16
  site : U64
deriving DecidableEq, Repr

/-- Bytes 0-31. -/
def TeleHdr.bytes (h : TeleHdr) : List Byte :=
  beBytes 1 1 ++ beBytes 1 h.type ++ beBytes 1 ((if h.planeB then 128 else 0) + h.seg) ++ beBytes 1 h.flags ++
  beBytes 2 h.ctrl ++ beBytes 2 h.slot ++ beBytes 4 h.clm.toNat ++ beBytes 4 h.cn.toNat ++
  beBytes 1 (h.age * 16 + h.limit) ++ beBytes 1 h.length ++ beBytes 2 h.map.toNat ++ beBytes 2 h.keyset.toNat ++
  beBytes 2 0 ++ beBytes 8 h.site.toNat

/-- Payload of a non-cyclic frame (R282): the layout of Table 9.1, with the trailer 0. -/
def ncPayload (h : TeleHdr) (data : List Byte) : List Byte := padTo 176 (h.bytes ++ data.take 128)

/-- A request the module sends: a code that Table 9.9 lists, in 1-128 bytes. -/
def ncSendable (data : List Byte) : Bool :=
  decide (1 ≤ data.length) && decide (data.length ≤ 128) &&
  (decide (1 ≤ beAt data 0 1 ∧ beAt data 0 1 ≤ 3) || decide (128 ≤ beAt data 0 1))

/-- Bytes with PLANE (byte 2, bit 7) set to a value. -/
def withPlane (t : List Byte) (b : Bool) : List Byte := setBitAt t 16 b

/-- First byte of a code field: TAG in [7:6] (R265). -/
def tagByte (tag : Nat) : List Byte := beBytes 1 (tag * 64)

/-- The 48-bit CODE of a telegram under a key (R266). -/
def teleCode (k : Key) (t : List Byte) (tag : Nat) : Nat :=
  (cmac k (withPlane (t.take 160) false ++ tagByte tag)).toNat / 2 ^ 80

/-- A code field of a telegram: 8 bytes. -/
def teleCodeField (k : Key) (t : List Byte) (tag : Nat) : List Byte := tagByte tag ++ beBytes 1 0 ++ beBytes 6 (teleCode k t tag)

/-- TAG of the code field at a byte offset. -/
def tagAt (t : List Byte) (i : Nat) : Nat := (t.getD i 0).toNat / 64

/-- Bytes and bits of the payload that must be 0 in both directions, and the padding from `len` on. -/
def teleReserved (t : List Byte) (len : Nat) : Bool :=
  decide ((t.getD 2 0).toNat / 8 % 16 = 0) && decide ((t.getD 4 0).toNat / 16 = 0) &&
  decide ((t.getD 6 0).toNat / 2 = 0) && decide (beAt t 22 2 = 0) &&
  (slice t (32 + len) (128 - len)).all (fun b => decide (b = 0)) &&
  decide ((t.getD 160 0).toNat % 64 = 0) && decide (t.getD 161 0 = 0) &&
  decide ((t.getD 168 0).toNat % 64 = 0) && decide (t.getD 169 0 = 0)

/-- Payload area of a telegram. -/
def teleArea (t : List Byte) : List Byte := slice t 32 128

/-! ## Building a downlink (R212, R263, R281) -/

/-- Downlink body of a controller, bytes 0-159 with PLANE 0, and the fields out of range. -/
def downBody (L : Lane) (m : Manifest) (test unitB : Bool) (clm : U32) (c : Nat) (cfg : CtrlCfg) :
    List Byte × List Nat :=
  let p := packFrame L c cfg.down
  let h : TeleHdr :=
    { type := 0x10, planeB := false, seg := cfg.segment
      flags := (if test then 128 else 0) + (if unitB then 64 else 0)
      ctrl := c, slot := cfg.slot, clm := clm, cn := L.cn, age := min L.bodyAge 15, limit := cfg.limit
      length := cfg.downLen, map := cfg.map, keyset := m.hdr.qlKeyset, site := m.hdr.site }
  (h.bytes ++ p.1.take cfg.downLen ++ List.replicate (128 - cfg.downLen) 0, p.2)

/-! ## Checks of an uplink in a lane (R277, Table 9.7) -/

/-- Code check of one code field of an uplink. -/
def upCodeOk (b : ManBody) (ln : LaneId) (prev : Bool) (t : List Byte) (ctrl off tag : Nat) : Bool :=
  decide (slice t off 8 = teleCodeField (b.key ln prev tag ctrl) t tag)

/-- The cause of the first failing step of Table 9.7, or `none` when the copy is valid: 1 LATE, 2 TYPE,
3 ADDRESS, 4 CONFIG, 5 FORMAT, 6 CN, 7 TAG, 8 CODE. -/
def uplinkCause (ln : LaneId) (L : Lane) (m : Manifest) (pl : PlaneId) (tagCn : U32) (t : List Byte) : Option Nat :=
  let ctrl := beAt t 4 2 % 4096
  let cfg := m.body.ctrls.find? (fun e => decide (e.1 = ctrl))
  if tagCn ≠ L.cn ∨ L.phase ≠ .idle then some 1
  else if beAt t 0 1 ≠ 1 ∨ beAt t 1 1 ≠ 0x11 ∨ bitAt t 16 ≠ pl.bit then some 2
  else match cfg with
    | none => some 3
    | some (_, c) =>
      if beAt t 2 1 % 8 ≠ c.segment ∨ beAt t 6 2 % 512 ≠ c.slot then some 3
      else match whichSet m.hdr.qlKeyset m.hdr.qlPrev (BitVec.ofNat 16 (beAt t 20 2)) with
        | none => some 4
        | some prev =>
          if beAt t 24 8 ≠ m.hdr.site.toNat ∨ beAt t 18 2 ≠ c.map.toNat then some 4
          else if beAt t 17 1 ≠ c.upLen ∨ !teleReserved t c.upLen ∨ beAt t 3 1 ≠ 0 ∨ beAt t 16 1 ≠ 0 ∨
              t.length ≠ 176 then some 5
          else if beAt t 12 4 ≠ L.cn.toNat then some 6
          else if tagAt t 160 ≠ 1 ∨ tagAt t 168 ≠ 2 then some 7
          else if upCodeOk m.body ln prev t ctrl 160 1 && upCodeOk m.body ln prev t ctrl 168 2 then none
          else some 8

/-- Count a cause: by (controller × 2 + plane) × 16 + cause. Causes 9 and 10 are PLANE_DIFF and PLANE_SINGLE, 11 is
OVERFLOW of the receive ring. -/
def Lane.countUp (L : Lane) (ctrl : Nat) (pl : PlaneId) (cause : Nat) : Lane :=
  { L with
    late := if cause = 1 then L.late + 1 else L.late
    upCounts := Tbl.upd 0 L.upCounts ((ctrl * 2 + if pl.bit then 1 else 0) * 16 + cause) (· + 1) }

/-- Records a lane's uplink receive ring holds: one cycle (Table 9.11). -/
def receiveDepth : Nat := 4096

/-- A record as a link engine takes it: a copy valid under Table 9.7 is held for the plane comparison; any other is discarded
under its cause, and so is a record that meets a full ring (R285). -/
def Lane.takeUp (ln : LaneId) (L : Lane) (m : Manifest) (pl : PlaneId) (r : UpRec) : Lane × Option Nat :=
  let ctrl := ctrlOf r.frame
  if receiveDepth ≤ (L.rx.get pl).length then (L.countUp ctrl pl 11, some 11)
  else
    let L1 := { L with rx := L.rx.set pl (r :: L.rx.get pl) }
    match uplinkCause ln L m pl r.cn r.frame with
    | some k => (L1.countUp ctrl pl k, some k)
    | none =>
      match pl with
      | .a => ({ L1 with upA := Tbl.set [] L.upA ctrl r.frame }, none)
      | .b => ({ L1 with upB := Tbl.set [] L.upB ctrl r.frame }, none)

/-- UPLINK_TELEGRAM_RX (R277): the record at the front of the lane's forwarding ring. A relayed copy is a copy of the same
plane. A plane that does not run forwards none (R31). -/
def execUplinkTelegramRx (ln : LaneId) (pl : PlaneId) (s : State) : Host.Outcome State Fault Refusal :=
  let L := s.lane ln
  let p := s.planes.get pl
  match p.running, p.rings.get ln with
  | true, r :: rest =>
    let s1 : State := { s with planes := s.planes.set pl { p with rings := p.rings.set ln rest } }
    match L.image, L.views.get ln with
    | some m, .inVote | some m, .rejoining =>
      let x := L.takeUp ln m pl r
      match x.2 with
      | none => ok (s1.putLane ln x.1)
      | some k => ok ((s1.putLane ln x.1).raiseLane ln .warn .uplinkCount
          [(ctrlOf r.frame : Nat), if pl.bit then 1 else 0, (k : Nat)])
    | _, _ => ok s1
  | _, _ => ok s

/-- Plane comparison of one controller (R278, Table 9.8): the view, and the cause counted. -/
def planeCompare (a b : List Byte) : View × Option Nat :=
  let made (t : List Byte) (pa pb : Bool) : View :=
    let p := withPlane t false
    { present := true, planeA := pa, planeB := pb, digest := crc64 p, payload := p }
  if a = [] ∧ b = [] then ({}, none)
  else if b = [] then (made a true false, some 10)
  else if a = [] then (made b false true, some 10)
  else if a.drop 3 = b.drop 3 then (made a true true, none)
  else ({ planeA := true, planeB := true }, some 9)

end Sys2Proof.Machine
end

