-- ==== Sys2Proof/Machine/SafeLink.lean ====
section
/-! DEFINITION. The safe link in the lanes (chapter 10): safe time, the age bound, the PDU, the checks of
Table 10.2, the local views of R300 and the updates of R301 and R302. -/

namespace Sys2Proof.Machine

open Sys2Proof

/-! ## Safe time (R295, R297) -/

/-- ST of a cycle in units of 0.1 ms. -/
def safeTime (cn cnE : U32) (tc : Nat) : U32 := (cn - cnE) * BitVec.ofNat 32 (tc * 5)

/-- Safe time of a lane's cycle. -/
def Lane.st (L : Lane) : U32 := safeTime L.cn L.cnE (tcOf L.image)

/-- `now` of R297. -/
def Lane.slNow (L : Lane) : U32 := L.st + 15

/-- The age bound A from now − ECHO and HOLD (R297). -/
def ageBound (gap hold : Nat) : Int := (gap : Int) - ((hold : Int) - ((hold + 1023) / 1024 : Nat))

/-! ## PDU fields (Table 10.1) -/

def slTest (p : List Byte) : Bool := bitAt p 16
def slConn (p : List Byte) : Nat := beAt p 4 2 % 64
def slMsg (p : List Byte) : Nat := beAt p 6 2 % 512
def slEpoch (p : List Byte) : U32 := BitVec.ofNat 32 (beAt p 12 4)
def slSeq (p : List Byte) : U32 := BitVec.ofNat 32 (beAt p 16 4)
def slTs (p : List Byte) : U32 := BitVec.ofNat 32 (beAt p 20 4)
def slEchoEpoch (p : List Byte) : U32 := BitVec.ofNat 32 (beAt p 24 4)
def slEcho (p : List Byte) : U32 := BitVec.ofNat 32 (beAt p 28 4)
def slHold (p : List Byte) : U32 := BitVec.ofNat 32 (beAt p 32 4)
def slLength (p : List Byte) : Nat := beAt p 38 1

/-- A hello carries ECHO_EPOCH 0. -/
def slHello (p : List Byte) : Bool := decide (slEchoEpoch p = 0)

/-- Digest of a message: CRC-64 over bytes 0-175. -/
def slDigest (p : List Byte) : U64 := crc64 (p.take 176)

/-- A code field of a safe-link message: TAG, 0, and the 64 most significant bits of the CMAC (R293). -/
def slCodeField (k : Key) (p : List Byte) (tag : Nat) : List Byte :=
  tagByte tag ++ beBytes 1 0 ++ beBytes 8 ((cmac k (p.take 176 ++ tagByte tag)).toNat / 2 ^ 64)

/-- Reserved bits and padding are 0. -/
def slReserved (p : List Byte) (len : Nat) : Bool :=
  decide (beAt p 2 1 % 64 = 0) && decide (beAt p 3 1 = 0) && decide (beAt p 4 2 / 64 = 0) &&
  decide (beAt p 6 2 / 512 = 0) && decide (beAt p 39 1 = 0) &&
  (slice p (48 + len) (128 - len)).all (fun b => decide (b = 0)) &&
  decide (beAt p 176 1 % 64 = 0) && decide (beAt p 177 1 = 0) &&
  decide (beAt p 186 1 % 64 = 0) && decide (beAt p 187 1 = 0)

/-- Inbound message of a connection. -/
def ConnOf (m : Manifest) (k : Nat) : Option ConnCfg := (m.body.conns.find? (fun e => decide (e.1 = k))).map (·.2)

/-- Inbound message configuration. -/
def inMsg (c : ConnCfg) (msg : Nat) : Option MsgCfg := c.inbound.find? (fun x => decide (x.msg = msg))

/-- Committed connection record of a lane. -/
def Lane.connC (L : Lane) (k : Nat) : Conn := Tbl.get {} L.supC.conns k

/-! ## Checks (R299, Table 10.2) -/

/-- Steps 8-11 of Table 10.2 against the committed record: `some 0` is the duplicate of step 9. -/
def slFresh (L : Lane) (c : ConnCfg) (k : Nat) (p : List Byte) : Option Nat :=
  let r := L.connC k
  let early : Bool := match r.peerEpoch with
    | none => false
    | some e => !notEarlier (slEpoch p) e
  let last := if r.peerEpoch = some (slEpoch p) then Tbl.get none r.seqs (slMsg p) else none
  let stale := match last with
    | none => none
    | some q => if slSeq p = q.1 then some 0 else if later (slSeq p) q.1 then none else some 9
  let gap := L.slNow - slEcho p
  if early then some 8
  else match stale with
    | some k => some k
    | none =>
      if slHello p then none
      else if slEchoEpoch p ≠ L.epoch ∨ gap.toInt < 0 ∨ gap < slHold p then some 10
      else if (c.tmax * 10 : Nat) < ageBound gap.toNat (slHold p).toNat then some 11
      else none

/-- The cause of the first failing step of Table 10.2, `none` when the copy is valid: 1 LATE, 2 TYPE, 3 ADDRESS,
4 CONFIG, 5 FORMAT, 6 TAG, 7 CODE, 8 EPOCH, 9 SEQ, 10 ECHO, 11 AGE; 0 is the uncounted duplicate. -/
def slCause (ln : LaneId) (L : Lane) (m : Manifest) (test : Bool) (batchCn : U32) (srcIp : U32) (port : Nat)
    (p : List Byte) : Option Nat :=
  if batchCn ≠ L.cn ∨ L.phase ≠ .idle then some 1
  else if !m.body.conns.any (fun e => decide (e.2.port = port)) ∨ beAt p 0 1 ≠ 1 ∨ beAt p 1 1 ≠ 0x20 then some 2
  else match ConnOf m (slConn p) with
    | none => some 3
    | some c =>
      match inMsg c (slMsg p) with
      | none => some 3
      | some g =>
        if c.peerIp ≠ srcIp ∨ c.port ≠ port then some 3
        else match whichSet m.hdr.slKeyset m.hdr.slPrev (BitVec.ofNat 16 (beAt p 36 2)) with
          | none => some 4
          | some prev =>
            let t1 := tagAt p 176
            let t2 := tagAt p 186
            let code (off tag : Nat) : Bool :=
              decide (slice p off 10 = slCodeField (m.body.key ln prev (3 + tag) (slConn p)) p tag)
            if beAt p 40 8 ≠ c.peerSite.toNat then some 4
            else if slLength p ≠ g.len ∨ !slReserved p g.len ∨ p.length ≠ 196 ∨ (slTest p ∧ !test) then some 5
            else if t1 = 0 ∨ t2 ≤ t1 ∨ !c.peerTags.contains t1 ∨ !c.peerTags.contains t2 then some 6
            else if !(code 176 t1 && code 186 t2) then some 7
            else slFresh L c (slConn p) p

/-- Count a safe-link cause: by connection × 16 + cause. Causes 12 and 13 are LAN_DIFF and SUPERSEDED. -/
def Lane.countSl (L : Lane) (conn cause : Nat) : Lane :=
  { L with
    late := if cause = 1 then L.late + 1 else L.late
    slCounts := Tbl.upd 0 L.slCounts (conn * 16 + cause) (· + 1) }

/-- One copy in a lane (R299). A copy whose SEQ is the last accepted one is compared with the digest of the accepted
message; a difference counts LAN_DIFF and has no other effect (R300 step 3). -/
def State.checkCopy (s : State) (ln : LaneId) (m : Manifest) (batchCn : U32) (c : SlCopy) : State :=
  let L := s.lane ln
  let conn := slConn c.pdu
  match slCause ln L m (decide (s.module = .test)) batchCn c.srcIp c.port c.pdu with
  | none => s.putLane ln { L with slValid := L.slValid ++ [(c.lanB, c.pdu)] }
  | some 0 =>
    let same := match Tbl.get none (L.connC conn).seqs (slMsg c.pdu) with
      | none => true
      | some q => decide (q.2 = slDigest c.pdu)
    if same then s else (s.putLane ln (L.countSl conn 12)).raiseLane ln .warn .lanDiff [conn, slMsg c.pdu]
  | some k => (s.putLane ln (L.countSl conn k)).raiseLane ln .warn .slCheck [conn, k]

/-- SAFE_LINK_COPY_CHECK (R298, R299): the lane checks the oldest copy that SVC has forwarded to it. A copy of a later batch
waits for the cycle of that batch (log entry 119). -/
def execSafeLinkCopyCheck (ln : LaneId) (s : State) : Host.Outcome State Fault Refusal :=
  let L := s.lane ln
  match L.slIn with
  | [] => ok s
  | c :: rest =>
    if later c.1 L.cn then ok s
    else
      let s1 := s.putLane ln { L with slIn := rest }
      match L.image, L.views.get ln with
      | some m, .inVote | some m, .rejoining => ok (s1.checkCopy ln m c.1 c.2)
      | _, _ => ok s1

/-! ## Local views (R300) -/

/-- A message is later than another: EPOCH under R11, then SEQ. -/
def slLater (a b : List Byte) : Bool :=
  later (slEpoch a) (slEpoch b) || (decide (slEpoch a = slEpoch b) && later (slSeq a) (slSeq b))

/-- Same EPOCH and SEQ. -/
def slSame (a b : List Byte) : Bool := decide (slEpoch a = slEpoch b) && decide (slSeq a = slSeq b)

/-- One copy of each (EPOCH, SEQ) of a list. -/
def slOnce (cs : List (List Byte)) : List (List Byte) := cs.foldl (fun a p => if a.any (slSame p) then a else a ++ [p]) []

/-- Messages found among the valid copies of one message number: a group whose copies agree over bytes 0-175. The
second part is the number of messages whose copies do not. -/
def slFound (cs : List (List Byte)) : List (List Byte) × Nat :=
  let good (p : List Byte) : Bool := cs.all (fun q => !slSame p q || decide (q.take 176 = p.take 176))
  (slOnce (cs.filter good), (slOnce (cs.filter (fun p => !good p))).length)

/-- The latest message of a list. -/
def slBest : List (List Byte) → Option (List Byte)
  | [] => none
  | p :: r =>
    match slBest r with
    | none => some p
    | some q => if slLater q p then some q else some p

/-- The view of one inbound message number; how many messages came in different copies, and how many were superseded. -/
def slView (L : Lane) (k : Nat) (g : MsgCfg) : View × Nat × Nat :=
  let cs := (L.slValid.map (·.2)).filter (fun p => decide (slConn p = k) && decide (slMsg p = g.msg))
  let f := slFound cs
  match slBest f.1 with
  | none => ({}, f.2, 0)
  | some p => ({ present := true, digest := slDigest p, payload := p.take 176 }, f.2, f.1.length - 1)

/-! ## Updates (R301, R302) -/

/-- SEQ, EPOCH and echo record after an agreed message: a later EPOCH clears every SEQ record first. -/
def connAccept (cn : U32) (own : U32) (p : List Byte) (r : Conn) : Conn :=
  let later_ : Bool := match r.peerEpoch with
    | none => true
    | some e => later (slEpoch p) e
  let r1 := if later_ then { r with peerEpoch := some (slEpoch p), seqs := [] } else r
  let newTs : Bool := match r1.echo with
    | none => true
    | some e => later_ || later (slTs p) e.1
  let r2 := if newTs then { r1 with echo := some (slTs p, cn), echoEpoch := slEpoch p } else r1
  { r2 with
    seqs := if r2.peerEpoch = some (slEpoch p) then Tbl.set none r2.seqs (slMsg p) (some (slSeq p, slDigest p))
            else r2.seqs
    agreedNew := r2.agreedNew || decide (slEchoEpoch p = own) }

/-- Age and F of a safe-link frame whose message was not agreed present (R301, R302). -/
def slAged (L : Lane) (c : ConnCfg) (r : Conn) (msg : Nat) (word : Int) : Int :=
  let age := min (word / 2 + 1) 15
  let expired : Bool := match Tbl.get none r.bounds msg with
    | none => false
    | some b => decide ((c.tmax * 10 : Nat) < (b.1 : Int) +
        ((L.st - safeTime b.2 L.cnE (tcOf L.image)).toNat : Nat))
  age * 2 + (if expired then 1 else word % 2)

/-- Word of a plain frame. -/
def Sup.frameWord (u : Sup) (f w : Nat) : Int := Tbl.get 0 u.frames (f * 32 + w)

/-- Write the status word and fields of a plain frame. -/
def Sup.setFrame (u : Sup) (f : Nat) (status : Int) (fields : List (Nat × Int)) : Sup :=
  { u with frames := fields.foldl (fun t e => Tbl.set 0 t (f * 32 + e.1) e.2)
                       (Tbl.set 0 u.frames (f * 32) status) }

/-- Fields of a frame at their restrictive values (R96). -/
def restFields (fs : List FieldCfg) : List (Nat × Int) := fs.map (fun f => (f.word, f.rest))

/-- A frame that is not agreed present: its new status word, and restrictive fields while F is 1. -/
def Sup.heldFrame (u : Sup) (f : Nat) (status : Int) (fs : List FieldCfg) : Sup :=
  if status % 2 = 1 then u.setFrame f status (restFields fs) else u.setFrame f status []

/-- One safe-link frame after agreement: `v` is the agreed payload, or `none` for agreed absent (R301). A hello is
treated as agreed absent. -/
def slUpdate (L : Lane) (k : Nat) (c : ConnCfg) (g : MsgCfg) (v : Option (List Byte)) (u : Sup) : Sup :=
  let r := Tbl.get {} u.conns k
  match v with
  | none => u.heldFrame g.frame (slAged L c r g.msg (u.frameWord g.frame 0)) g.fields
  | some p =>
    let r1 := connAccept L.cn L.epoch p r
    if slHello p then
      { u with conns := Tbl.set {} u.conns k r1 }.heldFrame g.frame
        (slAged L c r1 g.msg (u.frameWord g.frame 0)) g.fields
    else
      let a := ageBound (L.slNow - slEcho p).toNat (slHold p).toNat
      let r2 := { r1 with bounds := Tbl.set none r1.bounds g.msg (some (a.toNat, L.cn)) }
      { u with conns := Tbl.set {} u.conns k r2 }.setFrame g.frame 0
        (g.fields.map (fun (f : FieldCfg) => (f.word, f.read (slice p 48 128))))

/-- SAFE_LINK_AGE_EXPIRY (R302): the frame whose bound has run out takes F := 1 and its restrictive values. -/
def execSafeLinkAgeExpiry (ln : LaneId) (frame : Nat) (s : State) : Host.Outcome State Fault Refusal :=
  let L := s.lane ln
  match L.image with
  | none => ok s
  | some m =>
    match (inMsgs m).find? (fun e => decide (e.2.2.frame = frame)) with
    | none => ok s
    | some (k, c, g) =>
      let expired : Bool := match Tbl.get none (Tbl.get {} L.sup.conns k).bounds g.msg with
        | none => false
        | some b => decide ((c.tmax * 10 : Nat) < (b.1 : Int) +
            ((L.st - safeTime b.2 L.cnE (tcOf L.image)).toNat : Nat))
      if expired && decide (L.phase = .pAgree) then
        let w := L.sup.frameWord frame 0
        ok (s.putLane ln (Lane.codeFrames
          { L with sup := L.sup.heldFrame frame (w / 2 * 2 + 1) g.fields }))
      else ok s

/-! ## Building (R296, R304) -/

/-- ECHO_EPOCH, ECHO and HOLD of an outgoing message; a hello where the echo record is empty or older than 600 s. -/
def echoFields (L : Lane) (r : Conn) : U32 × U32 × U32 :=
  match r.echo with
  | none => (0, 0, 0)
  | some e =>
    let hold := L.st - safeTime e.2 L.cnE (tcOf L.image)
    if 6000000 < hold.toNat then (0, 0, 0) else (r.echoEpoch, e.1, hold)

/-- Bytes 0-175 of an outgoing message. -/
def slBody (L : Lane) (m : Manifest) (test unitB : Bool) (clm : U32) (k : Nat) (g : MsgCfg) (r : Conn) (seq : U32)
    (area : List Byte) : List Byte :=
  let e := echoFields L r
  beBytes 1 1 ++ beBytes 1 0x20 ++ beBytes 1 ((if test then 128 else 0) + (if unitB then 64 else 0)) ++ beBytes 1 0 ++
  beBytes 2 k ++ beBytes 2 g.msg ++ beBytes 4 clm.toNat ++ beBytes 4 L.epoch.toNat ++ beBytes 4 seq.toNat ++
  beBytes 4 L.st.toNat ++ beBytes 4 e.1.toNat ++ beBytes 4 e.2.1.toNat ++ beBytes 4 e.2.2.toNat ++
  beBytes 2 m.hdr.slKeyset.toNat ++ beBytes 1 g.len ++ beBytes 1 0 ++ beBytes 8 m.hdr.site.toNat ++
  area.take g.len ++ List.replicate (128 - g.len) 0

/-- A message is due: its fields differ from those last sent, or P_out in whole cycles has passed (R304). -/
def slDue (L : Lane) (c : ConnCfg) (r : Conn) (msg : Nat) (area : List Byte) : Bool :=
  let tc := tcOf L.image
  let period := (c.pout * 2 + tc - 1) / tc
  match Tbl.get none r.lastSent msg with
  | none => true
  | some o => decide (o.2 ≠ area) || decide (period ≤ (L.cn - o.1).toNat)

/-- Put a message into a list in ascending message number. -/
def insertMsg (g : MsgCfg) : List MsgCfg → List MsgCfg
  | [] => [g]
  | h :: r => if g.msg < h.msg then g :: h :: r else h :: insertMsg g r

/-- Outbound messages of a connection in ascending message number, in which they take their SEQ (R304). -/
def outOrder (c : ConnCfg) : List MsgCfg := c.outbound.foldr insertMsg []

/-- Build the due messages of one connection in ascending message number: the connection record after it, the
messages with their bodies, and the (frame, field) pairs out of range, of the messages that are not due too (R97). -/
def slBuildConn (L : Lane) (m : Manifest) (test unitB : Bool) (clm : U32) (k : Nat) (c : ConnCfg) (r : Conn) :
    Conn × List (Nat × List Byte) × List (Nat × Nat) :=
  (outOrder c).foldl (fun a g =>
    let p := packFrame L g.frame g.fields
    let bad := a.2.2 ++ p.2.map (fun w => (g.frame, w))
    if slDue L c a.1 g.msg p.1 then
      let seq := a.1.outSeq + 1
      let r1 := { a.1 with outSeq := seq, lastSent := Tbl.set none a.1.lastSent g.msg (some (L.cn, p.1)) }
      (r1, a.2.1 ++ [(k * 512 + g.msg, slBody L m test unitB clm k g r1 seq p.1)], bad)
    else (a.1, a.2.1, bad)) (r, [], [])

end Sys2Proof.Machine
end

