-- ==== Sys2Proof/Machine/ChangeOps.lean ====
section
/-! DEFINITION. What the change functions share (chapter 14): the configuration record, the header checks, the
partition header and table checks, the route digest and the online change conditions. -/

namespace Sys2Proof.Machine

open Sys2Proof

/-! ## The configuration record (R395) -/

/-- The valid copy with the later SEQ. -/
def LaneFlash.cfg (f : LaneFlash) : Option CfgRec :=
  match f.cfgA, f.cfgB with
  | some a, some b => if later b.seq a.seq then some b else some a
  | some a, none => some a
  | none, b => b

/-- Write a new record to the older copy. -/
def LaneFlash.putCfg (f : LaneFlash) (g : CfgRec → CfgRec) : LaneFlash :=
  match f.cfgA, f.cfgB with
  | some a, some b =>
    if later b.seq a.seq then { f with cfgA := some { g b with seq := b.seq + 1 } }
    else { f with cfgB := some { g a with seq := a.seq + 1 } }
  | some a, none => { f with cfgB := some { g a with seq := a.seq + 1 } }
  | none, some b => { f with cfgA := some { g b with seq := b.seq + 1 } }
  | none, none => { f with cfgA := some { g {} with seq := 1 } }

/-- Record of a lane, at its default where there is none. -/
def Lane.cfgRec (L : Lane) : CfgRec := L.flash.cfg.getD {}

/-- The slot that is not ACTIVE_MAN (R398); slot 0 where none is active. -/
def CfgRec.target (r : CfgRec) : Nat := if r.activeMan = some 0 then 1 else 0

/-- State of a manifest slot: 0 EMPTY, 1 LOADED, 2 VERIFIED, 3 BAD. -/
def CfgRec.slotState (r : CfgRec) (slot : Nat) : Nat := if slot = 0 then r.slot0State else r.slot1State

/-- Number held in a slot. -/
def CfgRec.slotNo (r : CfgRec) (slot : Nat) : U32 := if slot = 0 then r.slot0No else r.slot1No

/-- Set the state and number of a slot. -/
def CfgRec.setSlot (r : CfgRec) (slot st : Nat) (no : U32) : CfgRec :=
  if slot = 0 then { r with slot0State := st, slot0No := no } else { r with slot1State := st, slot1No := no }

/-- A manifest as one lane can read it: of the keys, which the body holds encrypted to each lane's die, only its own
(R25, R393). -/
def Manifest.forLane (m : Manifest) (ln : LaneId) : Manifest :=
  { m with body := { m.body with laneKeys := Tri.set ⟨[], [], []⟩ ln (m.body.laneKeys.get ln) } }

/-- Manifest in a slot of a lane's flash. -/
def LaneFlash.man (f : LaneFlash) (slot : Nat) : Option Manifest := if slot = 0 then f.man0 else f.man1

/-- Put a manifest into a slot. -/
def LaneFlash.setMan (f : LaneFlash) (slot : Nat) (m : Option Manifest) : LaneFlash :=
  if slot = 0 then { f with man0 := m } else { f with man1 := m }

/-- Bytes 4-17 of a record: everything but SEQ (R396). -/
def CfgRec.content (r : CfgRec) : CfgRec := { r with seq := 0 }

/-! ## Header checks (R397, Table 14.3) -/

/-- A firmware set stands in COMBO (R401). -/
def inCombo (h : ManHeader) (c : Combo) : Bool := (h.combo.take h.comboCount).contains c

/-- First failing check of Table 14.3 in a lane, by its order number; `boot` leaves out order 6 (R400). -/
def headerBad (h : ManHeader) (f : LaneFlash) (sigOk closed boot : Bool) (run : Option Manifest)
    (sets : List Combo) : Option Nat :=
  let r := f.cfg.getD {}
  if h.magic ≠ 0x4758334D ∨ h.format ≠ 1 ∨ h.hdrLen ≠ 0x400 ∨ !h.reservedZero then some 1
  else if !f.signers.any (fun s => decide (s.1 = h.signerId)) ∨ !sigOk then some 2
  else if !closed && run.any (fun m => decide (m.hdr.site ≠ h.site)) then some 3
  else if !h.wrap.any (fun w => decide (w.1 = f.dieId)) then some 4
  else if h.bodyLen < 1 ∨ 50330624 < h.bodyLen ∨ h.tc < 10 ∨ 100 < h.tc ∨ h.comboCount < 1 ∨ 16 < h.comboCount then
    some 5
  else if !boot && !((r.slot0State = 0 || later h.number r.slot0No) && (r.slot1State = 0 || later h.number r.slot1No))
    then some 6
  else if !sets.any (inCombo h) then some 7
  else none

/-! ## Partition headers (R100, R491) -/

/-- A region has a stride and a length of R93, and its words lie inside its space. -/
def regionOk (r : Region) : Bool :=
  [1, 2, 8, 16, 32].contains r.stride && decide (1 ≤ r.length) && decide (r.length ≤ 65536) &&
  decide (r.base + r.stride * r.length ≤ spaceWords r.space)

/-- A fault list's first entry, as the log names it. -/
def firstBad (l : List (Bool × List Int)) : Option (List Int) := (l.find? (·.1)).map (·.2)

/-- First failing field of one partition header, by its row in Table 3.9. `e` is E of R62. -/
def partBad (tc e : Nat) (h : PartHdr) : Option (List Int) :=
  let no (b : Bool) (row : Nat) : Bool × List Int := (!b, [0, ((h.number : Nat) : Int), ((row : Nat) : Int)])
  firstBad [
    no (decide (h.number < 4)) 1,
    no (decide (1 ≤ h.codeLen) && decide (h.codeLen ≤ 262144)) 2,
    no (decide (h.w ≤ budget tc)) 3,
    no (decide (h.tR + 2 + e ≤ budget tc)) 4,
    no (decide (h.stores ≤ 65536)) 5,
    no (decide (h.ckpts ≤ 64)) 6,
    no (decide (h.regions.length ≤ 256) && h.regions.all regionOk) 7,
    no h.crcOk 8]

/-- Routes of an image. -/
def imgRoutes (b : ManBody) : List Nat :=
  (b.words.filter (fun e => decide (flatKey .t 0 ≤ e.1) && decide (e.1 < keyPool 0) && decide (keyAddr e.1 % 8 = 0) &&
    decide (e.2.b ≠ 0))).map (fun e => keyAddr e.1 / 8)

/-- Insert a count into a list that falls. -/
def insertDown (n : Nat) : List Nat → List Nat
  | [] => [n]
  | m :: r => if n ≤ m then m :: insertDown n r else n :: m :: r

/-- E of R62: 256 requests at 24 clk_t, and 4 for each pool entry of the 256 routes with the most. -/
def evalClk (b : ManBody) : Nat :=
  256 * 24 + 4 * (((imgRoutes b).foldl (fun a r => insertDown (imgX b (keyRoute r 4)).toNat a) []).take 256).sum

/-- First failing field of the partition headers and the route engine header (R100, R491). A log entry's first number
says what it names: 0 a partition header and its row of Table 3.9, 1 a row that concerns all headers together. -/
def headersBad (tc : Nat) (b : ManBody) : Option (List Int) :=
  ((b.parts.findSome? (partBad tc (evalClk b))).or (firstBad [
    (!(decide ((b.parts.map (·.number)).Nodup) && decide (1 ≤ b.parts.length) && decide (b.parts.length ≤ 4)), [1, 1]),
    (decide (65536 < (b.parts.map (·.stores)).sum + b.routeHdr.stores), [1, 5]),
    (!b.routeHdr.crcOk, [1, 8])]))

/-! ## Table checks (R155, R173, R174) -/

/-- Type code (Table 5.1). -/
def typeCode : ElemType → Nat
  | .sect => 1 | .point => 2 | .signal => 3 | .crossing => 4 | .generic => 5 | .esPair => 6

/-- A value lies in a range. -/
def inR (x lo hi : Int) : Bool := decide (lo ≤ x) && decide (x ≤ hi)

/-- Type of the element a word refers to. -/
def refType (b : ManBody) (x : Int) : Option ElemType := if 0 ≤ x then imgType b x.toNat else none

/-- One configured element. -/
def elemOk (b : ManBody) (id : Nat) (e : ElemCfg) : Bool :=
  let x (w : Nat) : Int := imgX b (keyE id w)
  decide (id < 16384) && decide (x 0 = (typeCode e.type * 16384 + id : Nat)) && inR (x 1) (-1) 4863 && inR (x 2) 1 10 &&
  (match e.type with
    | .sect => inR (x 10) 1 1000
    | .point =>
      inR (x 10) 1 6000 &&
      (decide (x 15 = -1) ||
        (decide (refType b (x 15) = some .point) && decide (imgX b (keyE (x 15).toNat 15) = (id : Nat))))
    | .crossing => inR (x 10) 1 6000
    | .signal => true
    | .generic => true
    | .esPair => inR (x 11) 1 2)

/-- How many elements have a type. -/
def typeCount (b : ManBody) (t : ElemType) : Nat := (b.elems.filter (fun e => decide (e.2.type = t))).length

/-- First type whose count is above its cap of Table 5.1, by its code; 5 for the total. -/
def countBad (b : ManBody) : Option (List Int) :=
  firstBad [
    (decide (8192 < typeCount b .sect), [3, 1]), (decide (2048 < typeCount b .point), [3, 2]),
    (decide (4096 < typeCount b .signal), [3, 3]), (decide (128 < typeCount b .crossing), [3, 4]),
    (decide (2 < typeCount b .esPair), [3, 6]), (decide (16384 < b.elems.length), [3, 5])]

/-- KIND of a pool value. -/
def poolKind (x : Int) : Nat := x.toNat / 2 ^ 23 % 16
/-- COND of a pool value. -/
def poolCond (x : Int) : Nat := x.toNat / 2 ^ 20 % 8
/-- ELEMENT of a pool value. -/
def poolElem (x : Int) : Nat := x.toNat % 16384

/-- Element type of a KIND. -/
def poolType : Nat → Option ElemType
  | 1 => some .sect | 2 => some .point | 3 => some .point | 4 => some .signal | 5 => some .sect
  | 6 => some .point | 8 => some .crossing | 9 => some .sect | 10 => some .generic
  | _ => none

/-- One pool value (Table 5.11, Table 5.12). -/
def poolOk (b : ManBody) (x : Int) : Bool :=
  let k := poolKind x
  let c := poolCond x
  decide (0 ≤ x) && decide (x < 2 ^ 27) && decide (1 ≤ k) && decide (k ≤ 12) &&
  (if k = 11 ∨ k = 12 then decide (1 ≤ x.toNat % 2 ^ 23)
   else
    decide (x.toNat / 2 ^ 14 % 64 = 0) &&
    (if k = 2 ∨ k = 3 ∨ k = 6 then decide (c = 1) || decide (c = 2) else if k = 10 then true else decide (c = 0)) &&
    (if k = 7 then decide (poolElem x < 8192) && imgHas b (keyRoute (poolElem x) 0)
     else decide (imgType b (poolElem x) = poolType k)) &&
    (decide (k ≠ 10) || b.words.any (fun e => decide (e.1 = keyE (poolElem x) (8 + c)) && decide (e.2.kind = .bool))))

/-- Group of a KIND (R173). -/
def poolGroup (k : Nat) : Nat :=
  match k with
  | 1 => 2 | 2 => 2 | 3 => 3 | 4 => 3 | 5 => 4 | 6 => 4 | 8 => 5 | 9 => 6
  | _ => 1

/-- Groups in order, and every PATH_POINT run ended by a PATH_SECTION. -/
def rangeOrder : List Nat → Bool
  | [] => true
  | [k] => decide (k ≠ 2)
  | k :: j :: r =>
    decide (poolGroup k ≤ poolGroup j) && (decide (k ≠ 2) || decide (j = 1) || decide (j = 2)) && rangeOrder (j :: r)

/-- The kinds of a range (R173). -/
def rangeOk (ks : List Nat) : Bool :=
  rangeOrder ks && ks.contains 1 && decide (ks.count 11 ≤ 1) &&
  decide (ks.count 12 = if ks.contains 5 || ks.contains 6 then 1 else 0)

/-- Pool values of a route of an image. -/
def imgRange (b : ManBody) (r : Nat) : List Int :=
  (List.range (imgX b (keyRoute r 4)).toNat).map (fun k => imgX b (keyPool ((imgX b (keyRoute r 3)).toNat + k)))

/-- One configured route. -/
def routeOk (b : ManBody) (r : Nat) : Bool :=
  let len := imgX b (keyRoute r 4)
  let base := imgX b (keyRoute r 3)
  let exit := refType b (imgX b (keyRoute r 2))
  decide (refType b (imgX b (keyRoute r 1)) = some .signal) &&
  (decide (exit = some .signal) || decide (exit = some .sect)) &&
  inR len 1 96 && decide (0 ≤ base) && inR (base + len) 1 262144 &&
  (imgRange b r).all (poolOk b) && rangeOk ((imgRange b r).map poolKind)

/-- First configured pool entry that fails, in a route's range or outside every range. -/
def poolBad (b : ManBody) : Option (List Int) :=
  (b.words.find? (fun e => decide (keyPool 0 ≤ e.1) && decide (e.1 < keyPool 262144) && decide (e.2.b ≠ 0) &&
    !poolOk b e.2.x)).map (fun e => [5, ((keyAddr e.1 - 65536 : Nat) : Int)])

/-- First failing entry of the checks of R174: 2 an element, 3 a count, 4 a route, 5 a pool entry. -/
def tablesBad (b : ManBody) : Option (List Int) :=
  ((((b.elems.find? (fun e => !elemOk b e.1 e.2)).map (fun e => [2, ((e.1 : Nat) : Int)])).or (countBad b)).or
    (poolBad b)).or (((imgRoutes b).find? (fun r => !routeOk b r)).map (fun r => [4, ((r : Nat) : Int)]))

/-- The failing field or entry of the checks of R100 and R174, as it is logged. -/
def loadBad (m : Manifest) : Option (List Int) := (headersBad m.hdr.tc m.body).or (tablesBad m.body)

/-- The checks of R100 and R174 together. -/
def loadOk (m : Manifest) : Bool := (loadBad m).isNone

/-! ## Route digest (R411) -/

/-- CRC-64 over ENTRY, EXIT, POOL_LEN and the values of the pool entries. -/
def routeDigest (b : ManBody) (r : Nat) : U64 :=
  crc64 (([imgX b (keyRoute r 1), imgX b (keyRoute r 2), imgX b (keyRoute r 4)] ++ imgRange b r).flatMap
    (fun x => beBytes 4 (ofSigned 32 x)))

/-- Elements a route names: its entry signal and the elements of its range. -/
def routeElems (b : ManBody) (r : Nat) : List Nat :=
  (imgX b (keyRoute r 1)).toNat :: ((imgRange b r).filter (fun x => (poolType (poolKind x)).isSome)).map poolElem

/-- A route state that holds locks (R411). -/
def stateLocks (x : Int) : Bool := inR x 2 6

/-- The first route that holds locks and would change (R411). -/
def lockedRoute (L : Lane) (old new : ManBody) : Option Nat :=
  (imgRoutes old).find? (fun r =>
    stateLocks (L.plain (keyRoute r 0)) &&
    (!imgHas new (keyRoute r 0) || decide (routeDigest old r ≠ routeDigest new r) ||
      (routeElems old r).any (fun id => decide (imgType old id ≠ imgType new id))))

/-! ## Online change conditions (R408, Table 14.5) -/

/-- The schedule of every controller of both images is unchanged. -/
def scheduleSame (old new : ManBody) : Bool :=
  old.ctrls.all (fun e => match new.ctrls.find? (fun x => decide (x.1 = e.1)) with
    | none => true
    | some x => decide (x.2.segment = e.2.segment ∧ x.2.slot = e.2.slot ∧ x.2.map = e.2.map ∧
        x.2.upLen = e.2.upLen ∧ x.2.downLen = e.2.downLen))

/-- The manifest an online change would take: the slot that is not active, in the lead lane. -/
def State.newMan (s : State) : Option Manifest :=
  let L := s.lane s.lead
  L.flash.man L.cfgRec.target

/-- First condition of Table 14.5 that does not hold, by its place in the table: 1 ONL_ROLE … 9
ONL_ROUTE_LOCKED; with the route for the last. -/
def State.onlineRefusal (s : State) : Option (Nat × Nat) :=
  match s.man, s.newMan with
  | some old, some new =>
    let v := LaneId.all.all (fun ln => decide ((s.lane ln).cfgRec.slotState (s.lane ln).cfgRec.target = 2))
    if !s.keyClosed then some (1, 0)
    else if !(decide (s.module = .test) || decide (s.module = .restricted) || decide (s.module = .operational)) ||
        decide (s.voters.length ≠ 3) then some (2, 0)
    else if !v || s.change.staged.isNone then some (3, 0)
    else if new.hdr.base ≠ old.hdr.number ∨ new.hdr.site ≠ old.hdr.site ∨ new.hdr.tc ≠ old.hdr.tc ∨
        (new.hdr.testOnly ∧ s.module ≠ .test) then some (4, 0)
    else if new.body.localIo ≠ old.body.localIo then some (5, 0)
    else if !scheduleSame old.body new.body then some (6, 0)
    else if !inCombo new.hdr s.change.running then some (7, 0)
    else if 262144 < s.change.staged.getD 0 then some (8, 0)
    else match lockedRoute (s.lane s.lead) old.body new.body with
      | some r => some (9, r)
      | none => none
  | _, _ => some (3, 0)

end Sys2Proof.Machine
end

