-- ==== Sys2Proof/Machine/Coded.lean ====
section
/-! DEFINITION. Coded accesses: the fault an access raises, the order of its checks (Table 4.12), reading the words of one
access, and the correction of single-bit errors (R88, R91, R106, R107, R117, R149). -/

namespace Sys2Proof.Machine

open Sys2Proof

/-- A coded fault as an instruction meets it: the clk_t offset of the access, the failing word, and the B and D it
was checked against (R107). -/
structure TFault where
  cause : CodedCause
  off : Nat := 0
  word : Coded := 0
  b : U24 := 0
  d : Int := 0
deriving DecidableEq, Repr

/-! ## Code checks in the order of Table 4.12 -/

/-- One word to check: the exact integer, its B and D and the offset of its access. -/
structure Chk where
  c : Int
  b : U24
  d : Int
  off : Nat := 0
deriving DecidableEq, Repr

/-- The fault a check reports. -/
def Chk.fault (k : Chk) (cause : CodedCause) : TFault := ⟨cause, k.off, BitVec.ofInt 64 k.c, k.b, k.d⟩

/-- Check several words: every remainder first, then every range (orders 6 and 7 of Table 4.12). DESIGN CHOICE, log entry
92: of several words that fail the same check the first in the list is named, and Table 4.12 gives no order among them. The
callers list SRC1, SRC2 and COND in turn, the register before the memory word in EDG, and the memory words before the
register in TMS. -/
def checkAll (p : Pass) (ks : List Chk) : Except TFault (List Int) :=
  match ks.find? (fun k => decide ((k.c - k.b.toNat - k.d) % multA p ≠ 0)) with
  | some k => .error (k.fault .code)
  | none =>
    match ks.find? (fun k => !inS32 ((k.c - k.b.toNat - k.d) / multA p)) with
    | some k => .error (k.fault .range)
    | none => .ok (ks.map (fun k => (k.c - k.b.toNat - k.d) / multA p))

/-- TRUE or FALSE (R84). -/
def isBool (x : Int) : Bool := decide (x = vTrue) || decide (x = vFalse)

/-- The BOOL check of several plain values, each with the word it was read from (order 8). -/
def needBools (ks : List (Chk × Int)) : Except TFault Unit :=
  match ks.find? (fun e => !isBool e.2) with
  | some e => .error (e.1.fault .bool)
  | none => .ok ()

/-- Plain boolean. -/
def isTrue (x : Int) : Bool := decide (x = vTrue)

/-! ## Accesses of a lane's memory -/

/-- The fault of an access to a word, with the word and the B and D it is held under. -/
def Lane.wordFault (L : Lane) (p : Pass) (off key : Nat) (cause : CodedCause) : TFault :=
  ⟨cause, off, L.word p key, (L.sig key).b, dOf key L.cn⟩

/-- An uncorrectable error in a word or in its signature entry (R90, R117). -/
def Lane.damagedWord (L : Lane) (p : Pass) (key : Nat) : Bool :=
  !(L.sig key).parityOk || L.eccSig.contains key || L.eccBad p key

/-- The configuration and ECC checks of the words of an access (orders 4 and 5): every B before every ECC. -/
def Lane.ready (L : Lane) (p : Pass) (off : Nat) (keys : List Nat) : Except TFault Unit :=
  match keys.find? (fun k => decide ((L.sig k).b = 0)) with
  | some k => .error (L.wordFault p off k .unconf)
  | none =>
    match keys.find? (L.damagedWord p) with
    | some k => .error (L.wordFault p off k .ecc)
    | none => .ok ()

/-- A word that a requester reads at a clk_t, as a word to check (R88, R91). -/
def Lane.chkAt (L : Lane) (p : Pass) (req clk off key : Nat) : Chk :=
  ⟨(L.wordAt p key req (clk + off)).toInt, (L.sig key).b, dOf key L.cn, off⟩

/-- One access of a requester that reads several words, some of them boolean: the plain values, or the first fault in the
order of Table 4.12. -/
def Lane.access (L : Lane) (p : Pass) (req clk off : Nat) (ws : List (Nat × Bool)) : Except TFault (List Int) := do
  L.ready p off (ws.map (·.1))
  let ks := ws.map (fun w => L.chkAt p req clk off w.1)
  let xs ← checkAll p ks
  needBools (((ws.zip (ks.zip xs)).filter (·.1.2)).map (·.2))
  return xs

/-- OWNER and JOURNAL of a store of `n` words by an owner at an access offset (orders 9 and 10). -/
def Lane.storeOk (L : Lane) (p : Pass) (owner off n : Nat) (keys : List Nat) : Except TFault Unit :=
  match keys.find? (fun k => decide ((L.sig k).owner ≠ owner)) with
  | some k => .error (L.wordFault p off k .owner)
  | none =>
    if 65536 < L.journalLen p + n then .error (L.wordFault p off (keys.headD 0) .journal) else .ok ()

/-! ## Single-bit errors (R117) -/

/-- Place of a single-bit error: a data word of a copy, a signature entry, or a code word. -/
def softData (p : Pass) (key : Nat) : Nat :=
  match p with
  | .p1 => key
  | .p2 => 4194304 + key
/-- A signature entry. -/
def softSig (key : Nat) : Nat := 8388608 + key
/-- A code word of a core. -/
def softCode (k : Nat) : Nat := 12582912 + k

/-- An access corrects the single-bit errors at its places, and the supervisor counts them. -/
def Lane.correct (L : Lane) (places : List Nat) : Lane :=
  { L with eccSoft := L.eccSoft.filter (fun k => !places.contains k)
           eccCount := L.eccCount + (L.eccSoft.filter (fun k => places.contains k)).length }

/-- An access to words of a copy and their signature entries corrects both. -/
def Lane.correctWords (L : Lane) (p : Pass) (keys : List Nat) : Lane :=
  L.correct (keys.flatMap (fun k => [softData p k, softSig k]))

end Sys2Proof.Machine
end

