-- ==== Sys2Proof/Machine/Generated.lean ====
section
/-! DEFINITION. The code Chartroom generates in every partition: input, proof and output code (R156, R158,
R161-R166, R493), run element by element before the program (R492). -/

namespace Sys2Proof.Machine

open Sys2Proof

/-! ## What the code of one element reads -/

/-- Words the generated code of an element reads, with those it checks as booleans. The manual gives no listing
(log entry 12). Word 1 of a controller frame is the restart report (R264); field 4 of frame 4 615 is ROLLBACK_HOLD
(R382). -/
def genWords (b : ManBody) (id : Nat) (e : ElemCfg) : List (Nat × Bool) :=
  let src := imgX b (keyE id 1)
  let two := decide (e.type = .sect) || decide (e.type = .crossing)
  let field : List (Nat × Bool) := match e.srcField with
    | none => []
    | some w => if src < 0 then [] else [(keyI src.toNat w, two)]
  let restart : List (Nat × Bool) :=
    if 0 ≤ src ∧ src < 4096 ∧ imgHas b (keyI src.toNat 1) then [(keyI src.toNat 1, true)] else []
  let ind (isB : Bool) : List (Nat × Bool) := match e.indivL with
    | none => []
    | some a => [(flatKey .l a, isB)]
  let own (w : Nat) (isB : Bool) : List (Nat × Bool) := if field.isEmpty then [(keyE id w, isB)] else []
  let common : List (Nat × Bool) := [(keyE id 4, true), (keyE id 6, true), (keyE id 7, false)] ++ field
  match e.type with
  | .sect => common ++ restart ++ [(keyE id 5, true), (keyE id 9, false), (keyE id 10, false)]
  | .point => common ++ restart ++ [(keyE id 5, true), (keyE id 8, false), (keyE id 10, false), (keyE id 13, false),
      (keyE id 14, false)] ++ own 9 false ++ ind false
  | .signal => common ++ restart ++ [(keyE id 5, true), (keyE id 9, true)] ++ own 11 false ++
      (if imgHas b (keyI 4615 4) then [(keyI 4615 4, true)] else [])
  | .crossing => common ++ restart ++ [(keyE id 5, true), (keyE id 9, false), (keyE id 10, false), (keyE id 11, false)] ++
      own 8 true ++ ind true
  | .generic => common
  | .esPair => []

/-- What the generated code of one element reads: the plain values of its words, and the reported value: the source field,
or TFORCE in its place (R161); none without input code. -/
structure GenIn where
  get : List (Nat × Int)
  id : Nat
  src : Int
  field : Option Nat
deriving DecidableEq, Repr

/-- Plain value of a word read; 0 for a word that is not read. -/
def GenIn.word (g : GenIn) (key : Nat) : Int :=
  match g.get.find? (fun e => decide (e.1 = key)) with
  | none => 0
  | some e => e.2

/-- Word `w` of the element. -/
def GenIn.elem (g : GenIn) (w : Nat) : Int := g.word (keyE g.id w)
/-- DATA_OK. -/
def GenIn.ok (g : GenIn) : Bool := isTrue (g.elem 4)
/-- NOFORCE. -/
def GenIn.nof (g : GenIn) : Bool := isTrue (g.elem 6)
/-- A value is forced in TEST. -/
def GenIn.forced (g : GenIn) : Bool := decide (g.elem 7 ≠ -1)
/-- PROOF. -/
def GenIn.proof (g : GenIn) : Bool := isTrue (g.elem 5)
/-- The controller gives a restart report. -/
def GenIn.restart (g : GenIn) : Bool :=
  decide (0 ≤ g.src) && decide (g.src < 4096) && isTrue (g.word (keyI g.src.toNat 1))
/-- The reported value. -/
def GenIn.raw (g : GenIn) : Option Int :=
  match g.field with
  | none => none
  | some w => if g.src < 0 then none
              else some (if g.forced then g.elem 7 else g.word (keyI g.src.toNat w))
/-- The individual position or closure word of an element. -/
def GenIn.indiv (g : GenIn) (e : ElemCfg) : Int :=
  match e.indivL with
  | none => 0
  | some a => g.word (flatKey .l a)

/-- What it leaves: words, and its hidden words. -/
structure GenOut where
  writes : List (Nat × Int)
  pend : Option (Nat × Option (U32 × Bool))
  noData : Nat
deriving DecidableEq, Repr

/-- The command field an element drives in its O frame; a boolean field holds TRUE for a non-zero value. -/
def cmdWrite (b : ManBody) (e : ElemCfg) (v : Int) : List (Nat × Int) :=
  match e.cmdOut with
  | some (f, w) =>
    if imgHas b (keyO f w) then [(keyO f w, if imgBool b (keyO f w) then ofBool (decide (v ≠ 0)) else v)] else []
  | none => []

/-! ## The code of each type -/

/-- Section: CLEAR, PROOF_CNT and PROOF (R163, Table 5.8). Without input code a restrictive force still writes CLEAR. -/
def genSection (g : GenIn) : GenOut :=
  match g.raw with
  | none => ⟨if g.nof then [] else [(keyE g.id 8, vFalse)], none, 0⟩
  | some r =>
    let clear := isTrue r
    let cnt' : Int := if clear && g.ok && g.nof && !g.forced && !g.restart then min (g.elem 9 + 1) 1000 else 0
    let lost := !g.ok || g.restart
    let proof' := !lost && (g.proof || decide (g.elem 10 ≤ cnt'))
    ⟨[(keyE g.id 8, ofBool (clear && g.ok && g.nof && g.proof)),
      (keyE g.id 9, cnt'), (keyE g.id 5, ofBool proof')], none, 0⟩

/-- The commanded position of a point end (R493). -/
def pointCommand (g : GenIn) (e : ElemCfg) : Nat :=
  let demand := g.elem 8
  let flank := g.elem 13
  let ind := g.indiv e
  if !g.nof then 0
  else if demand ≠ 0 then demand.toNat
  else if flank ≠ 0 then flank.toNat
  else if ind = 1 ∨ ind = 2 then ind.toNat else 0

/-- Add a proof bit (R164): 1 for normal, 2 for reverse. -/
def addBit (seen : Int) (pos : Nat) : Int := if seen = 3 ∨ seen = pos then seen else seen + pos

/-- The pending command of a point end after a cycle, and PROOF_SEEN (R164). -/
def pointPending (cn : U32) (limit : Int) (ok proof : Bool) (det : Int) (pos : Nat) (seen : Int)
    (old : Option (Nat × Option (U32 × Bool))) : Option (Nat × Option (U32 × Bool)) × Int :=
  let last := match old with
    | none => 0
    | some o => o.1
  let open0 := match old with
    | none => none
    | some o => o.2
  let late := match open0 with
    | none => false
    | some o => decide (limit < sdiff cn o.1)
  let seen1 := if late && !proof then 0 else seen
  let live := if late then none else open0
  if pos ≠ last then
    (some (pos, if pos ≠ 0 ∧ det ≠ (pos : Int) then some (cn, ok) else none), seen1)
  else match live with
    | none => (some (pos, none), seen1)
    | some o =>
      if det = (pos : Int) then (some (pos, none), if o.2 && ok then addBit seen1 pos else seen1)
      else (some (pos, some (o.1, o.2 && ok)), seen1)

/-- DETECTED of a point end from its reported value (R158). DESIGN CHOICE, log entry 95: R161 does not say what a forced
value other than 0, 1 and 2 is; any value but 1 and 2 is no detection. -/
def detectedOf (g : GenIn) (r : Int) : Int := if g.ok && (decide (r = 1) || decide (r = 2)) then r else 0

/-- Point end: DETECTED, its command, PROOF_SEEN and PROOF (R164, R165, R493). -/
def genPoint (b : ManBody) (u : Sup) (cn : U32) (e : ElemCfg) (g : GenIn) : GenOut :=
  let det : Int := match g.raw with
    | none => g.elem 9
    | some r => detectedOf g r
  let pos := pointCommand g e
  let limit := g.elem 10
  let gone := if g.ok then 0 else Tbl.get 0 u.noData g.id + 1
  let r := pointPending cn limit g.ok g.proof det pos (g.elem 14) (Tbl.get none u.pend g.id)
  let reset := g.restart || decide (limit < (gone : Int))
  let seen := if reset then 0 else r.2
  let pend := if reset then some (pos, none) else r.1
  ⟨(if g.raw.isSome then [(keyE g.id 9, det)] else []) ++
    [(keyE g.id 14, seen), (keyE g.id 5, ofBool (!reset && (g.proof || decide (seen = 3))))] ++
    cmdWrite b e pos, pend, gone⟩

/-- Signal: SHOWN, PROOF and ASPECT (R166, Table 5.8), with ROLLBACK_HOLD (R382). -/
def genSignal (b : ManBody) (e : ElemCfg) (g : GenIn) : GenOut :=
  let shown : Int := match g.raw with
    | none => g.elem 11
    | some r => if g.ok then r else -1
  let proof' := !g.restart && (g.proof || (g.ok && decide (shown = 0)))
  let hold := isTrue (g.word (keyI 4615 4))
  let aspect : Int := if isTrue (g.elem 9) && g.ok && g.nof && !hold then e.proceed else 0
  ⟨(if g.raw.isSome then [(keyE g.id 11, shown)] else []) ++
    [(keyE g.id 5, ofBool proof'), (keyE g.id 8, aspect)] ++ cmdWrite b e aspect, none, 0⟩

/-- Level crossing: PROTECTED, the closure command, PROOF_STAGE and PROOF (R166). -/
def genCrossing (b : ManBody) (u : Sup) (cn : U32) (e : ElemCfg) (g : GenIn) : GenOut :=
  let prot : Bool := match g.raw with
    | none => g.ok && isTrue (g.elem 8)
    | some r => g.ok && isTrue r
  let demand := decide (0 < g.elem 9) || isTrue (g.indiv e) || !g.nof
  let old := Tbl.get none u.pend g.id
  let start : Option (U32 × Bool) := match demand, old with
    | false, _ => none
    | true, some (1, some o) => some o
    | true, _ => some (cn, true)
  let inTime : Bool := match start with
    | none => false
    | some o => decide (sdiff cn o.1 ≤ g.elem 10)
  let stage := g.elem 11
  let stage' : Int :=
    if g.restart then 0
    else if stage = 0 ∧ demand ∧ prot ∧ inTime then 1
    else if stage = 1 ∧ !demand ∧ g.ok ∧ !prot then 2
    else stage
  ⟨[(keyE g.id 8, ofBool prot), (keyE g.id 11, stage'),
    (keyE g.id 5, ofBool (!g.restart && (g.proof || decide (stage' = 2))))] ++ cmdWrite b e (if demand then 1 else 0),
   some (if demand then 1 else 0, start), 0⟩

/-- Generic element: its designated main state word (R156, R158, Table 5.8). A numeric word without data takes the
restrictive value of its source field (log entry 96). -/
def genGeneric (m : Manifest) (e : ElemCfg) (g : GenIn) : GenOut :=
  match e.mainWord, g.raw with
  | some w, some r =>
    ⟨[(keyE g.id w, if imgBool m.body (keyE g.id w) then ofBool (isTrue r && g.ok && g.nof)
        else if g.ok then r else restrictiveOf m g.src.toNat (e.srcField.getD 0))], none, 0⟩
  | _, _ => ⟨[], none, 0⟩

/-- The generated code of one element on what it reads. An emergency-stop pair is the supervisor's (R167). -/
def genElem (m : Manifest) (u : Sup) (cn : U32) (e : ElemCfg) (g : GenIn) : GenOut :=
  match e.type with
  | .sect => genSection g
  | .point => genPoint m.body u cn e g
  | .signal => genSignal m.body e g
  | .crossing => genCrossing m.body u cn e g
  | .generic => genGeneric m e g
  | .esPair => ⟨[], none, 0⟩

/-! ## Running it (R492, R91, R108) -/

/-- Write a word by its plain value, as the code of a requester stores it: OWNER, journal and code as any store. -/
def Lane.storeBy (L : Lane) (p : Pass) (owner req clk off key : Nat) (x : Int) : Except TFault Lane := do
  L.ready p off [key]
  L.storeOk p owner off 1 [key]
  return L.store p key (encodeWord p x (L.sig key).b 0) req (clk + off)

/-- Keep what the generated code of an element hides in L, once, in pass 2. -/
def Lane.keepHidden (L : Lane) (p : Pass) (id : Nat) (o : GenOut) : Lane :=
  match p with
  | .p1 => L
  | .p2 => { L with sup := { L.sup with pend := Tbl.set none L.sup.pend id o.pend
                                        noData := Tbl.set 0 L.sup.noData id o.noData } }

/-- The element's code in a core at its clk_t: the loads at its start, the stores at its end, the records in SG. -/
def genStep (m : Manifest) (p : Pass) (core : CoreId) (L : Lane) (c : Core) (id : Nat) (e : ElemCfg) :
    Except TFault (Lane × Core) := do
  let ws := genWords m.body id e
  let xs ← L.access p core.idx c.clk 0 ws
  let n := Config.genClk e.type
  let o := genElem m L.sup L.cn e ⟨(ws.map (·.1)).zip xs, id, imgX m.body (keyE id 1), e.srcField⟩
  let L1 ← o.writes.foldlM (fun L w => L.storeBy p core.idx core.idx c.clk n w.1 w.2)
    (L.correctWords p (ws.map (·.1) ++ o.writes.map (·.1)))
  return (L1.keepHidden p id o,
    { c with clk := c.clk + n, gen := c.gen + 1
             sg := (Config.genRecs id (xs ++ o.writes.map (·.2))).foldl crc64Word c.sg })

/-- Elements of a partition, in the order of the manifest. -/
def genList (m : Manifest) (core : CoreId) : List (Nat × ElemCfg) :=
  m.body.elems.filter (fun e => decide (e.2.partition = core))

/-- The code of the elements still to come, up to those that load by a clk_t (all of them without one). A fault stands at
its offset from clk_t `base`. -/
def genFold (m : Manifest) (p : Pass) (core : CoreId) (base : Nat) (upto : Option Nat) :
    List (Nat × ElemCfg) → Lane × Core → Except TFault (Lane × Core)
  | [], a => .ok a
  | e :: rest, a =>
    if upto.any (fun t => decide (t < a.2.clk)) then .ok a
    else match genStep m p core a.1 a.2 e.1 e.2 with
      | .error f => .error { f with off := f.off + (a.2.clk - base) }
      | .ok b => genFold m p core base upto rest b

/-- The generated code of a core that is left to run, up to a clk_t (R492 steps 1-3): before the core's first program
instruction all of it, and before an evaluation of the route engine what loads by then (log entry 12). -/
def Lane.genTo (L : Lane) (p : Pass) (core : CoreId) (upto : Option Nat) : Except TFault (Lane × Core) :=
  let c := L.cores.get core
  match L.image with
  | none => .ok (L, c)
  | some m => if c.running then genFold m p core c.clk upto ((genList m core).drop c.gen) (L, c) else .ok (L, c)

end Sys2Proof.Machine
end

