-- ==== Sys2Proof/Machine/TallyCore.lean ====
section
/-! DEFINITION. What every Tally instruction shares: the issue of an instruction by a core, register and memory
operands, the signature feed, coded faults, and the replay of Pilot writes. -/

namespace Sys2Proof.Machine

open Sys2Proof

/-- What an instruction sees: its lane, core, pass and the registers. -/
structure TCtx where
  L : Lane
  core : CoreId
  p : Pass
  c : Core
deriving Repr

/-- What an instruction answers: the lane and the core after it, or its fault. -/
abbrev TRes := Except TFault (Lane × Core)

/-! ## Operand fields (Table 4.3, R118) -/

/-- Bit `i` of OPND. -/
def fbit (f : Fields) (i : Nat) : Bool := f.opnd.getLsbD i

/-- OPND[lo + n − 1 : lo]. -/
def ffld (f : Fields) (lo n : Nat) : Nat := f.opnd.toNat / 2 ^ lo % 2 ^ n

/-- The result signature B_d. -/
def fbd (f : Fields) : U24 := BitVec.ofNat 24 (ffld f 0 24)

/-- A field that names a P or an X register has bits [5:3] zero. -/
def isPX (r : BitVec 6) : Bool := decide (r.toNat < 8)

/-- Raise an OPCODE fault unless every format condition holds (order 2 of Table 4.12). -/
def need (conds : List Bool) : Except TFault Unit :=
  if conds.all (fun b => b) then .ok () else .error { cause := .opcode }

/-! ## Registers -/

/-- A register as a word to check. -/
def regChk (r : VReg) (d : Int) : Chk := ⟨r.c.toInt, r.tag, d, 0⟩

/-- D of the lane's cycle. -/
def TCtx.d (t : TCtx) : Int := stamp t.L.cn

/-- V or P register. -/
def Core.reg (c : Core) (isP : Bool) (r : BitVec 6) : VReg :=
  if isP then Tbl.get {} c.p r.toNat else Tbl.get {} c.v r.toNat

/-- The signature feed (R103). -/
def Core.feed (c : Core) (target : Nat) (value : Int) : Core :=
  { c with sg := crc64Word c.sg (BitVec.ofNat 64 (target * 2 ^ 56 + c.pc * 2 ^ 32 + ofSigned 32 value)) }

/-- Write a V or P register and feed its record (R103). -/
def Core.writeReg (c : Core) (isP : Bool) (r : BitVec 6) (w : Coded) (tag : U24) (x : Int) : Core :=
  if isP then
    Core.feed { c with p := Tbl.set {} c.p r.toNat ⟨w, tag, true⟩ } (0x40 + r.toNat) x
  else Core.feed { c with v := Tbl.set {} c.v r.toNat ⟨w, tag, true⟩ } r.toNat x

/-- Write an X register, mark it written, and feed its record. -/
def Core.writeX (c : Core) (r : BitVec 6) (x : Int) : Core :=
  Core.feed { c with x := Tbl.set {} c.x r.toNat ⟨BitVec.ofInt 32 x, true, true⟩ } (0x48 + r.toNat) x

/-- The X register counts an open loop (R145). -/
def Core.counts (c : Core) (r : BitVec 6) : Bool := c.loops.any (fun e => decide (e.counter = r.toNat))

/-- Go on at the next index. -/
def Core.next (c : Core) : Core := { c with pc := c.pc + 1 }

/-- Header of the core's partition in the running image. -/
def Lane.part (L : Lane) (core : CoreId) : Option PartHdr :=
  match L.image with
  | none => none
  | some m => m.body.parts.find? (fun h => decide (h.number = core.idx))

/-! ## Memory operands (R93, R128) -/

/-- Format of the address fields: ADDR, or REGION, W and an X register (order 2 of Table 4.12). -/
def addrFormat (f : Fields) : Bool :=
  if fbit f 36 then decide (ffld f 0 19 = 0) && isPX f.src2
  else decide (ffld f 19 13 = 0) && decide (f.src2 = 0)

/-- The word address of a memory operand, or INDEX. -/
def resolve (t : TCtx) (sp : Space) (f : Fields) : Except TFault Nat :=
  if fbit f 36 then
    match t.L.part t.core with
    | none => .error { cause := .index }
    | some h =>
      match h.regions[ffld f 24 8]? with
      | none => .error { cause := .index }
      | some r =>
        let xr := Tbl.get ({} : XReg) t.c.x f.src2.toNat
        let x := xr.val.toInt
        let a := r.base + x.toNat * r.stride + ffld f 19 5
        if r.space = sp ∧ ffld f 19 5 < r.stride ∧ xr.parityOk ∧ xr.written ∧ 0 ≤ x ∧ x < r.length ∧
            a < spaceWords sp then .ok a
        else .error { cause := .index }
  else if ffld f 0 19 < spaceWords sp then .ok (ffld f 0 19)
  else .error { cause := .index }

/-- The configuration and ECC checks of a word before it is used (orders 4 and 5), at an access offset. -/
def wordReady (t : TCtx) (off key : Nat) : Except TFault Unit := t.L.ready t.p off [key]

/-- The word a core reads, at an access offset. -/
def TCtx.read (t : TCtx) (key off : Nat) : Coded := t.L.wordAt t.p key t.core.idx (t.c.clk + off)

/-- A memory word as a word to check (R88). -/
def memChk (t : TCtx) (key off : Nat) : Chk := t.L.chkAt t.p t.core.idx t.c.clk off key

/-- OWNER and JOURNAL of a store of `n` words at an access offset (orders 9 and 10). -/
def storeReady (t : TCtx) (off n : Nat) (keys : List Nat) : Except TFault Unit := t.L.storeOk t.p t.core.idx off n keys

/-- The lane once an access has corrected the single-bit errors of its words (R117). -/
def TCtx.corrected (t : TCtx) (keys : List Nat) : Lane := t.L.correctWords t.p keys

/-- Journal and write one undated word by its plain value (R88). -/
def storePlain (t : TCtx) (L : Lane) (key : Nat) (x : Int) (off : Nat) : Lane :=
  L.store t.p key (encodeWord t.p x (L.sig key).b 0) t.core.idx (t.c.clk + off)

/-! ## Coded faults (R106-R108) -/

/-- A coded fault of a lane (R107). During a Pilot session the replay of Lane 1 ends instead, and the lane stays
OUT-TEST (R113). -/
def State.codedFault (s : State) (ln : LaneId) (unit : Nat) (p : Pass) (idx clk : Nat) (e : TFault) : State :=
  let r : FaultRec := ⟨e.cause, unit, p, idx, (s.lane ln).cn, clk + e.off, e.word, e.b, BitVec.ofInt 24 e.d⟩
  match ln, s.pilot with
  | .l1, some pi =>
    let s1 := s.updLane .l1 (fun L => { L.gate with faultRec := some r })
    let s2 := s1.raiseLane .l1 .fault .pilotFault [causeCode (.coded e.cause), unit, idx]
    { s2 with pilot := some { pi with ended := true, reply := some (causeCode (.coded e.cause) : Int) } }
  | ln, _ =>
    let s1 := s.updLane ln (fun L => { L with faultRec := some r })
    let s2 := s1.raiseLane ln .fault .codedFault [causeCode (.coded e.cause), unit, idx]
    s2.exclude ln (.coded e.cause)

/-! ## Pilot writes (R111, R112) -/

/-- A debugger write coded for a pass, with its signature feed: to a register, or to a word of L, E, M or O, which takes
an entry of the pass's pre-image journal (R67, Table 3.6). -/
def pilotApply (p : Pass) (core : CoreId) (L : Lane) (c : Core) (tgt : PilotTarget) (x : Int) :
    Except TFault (Lane × Core) :=
  let d := stamp L.cn
  match tgt with
  | .v n =>
    let r := Tbl.get {} c.v n
    .ok (L, Core.feed { c with v := Tbl.set {} c.v n { r with c := encodeWord p x r.tag d } } n x)
  | .p n =>
    let r := Tbl.get {} c.p n
    .ok (L, Core.feed { c with p := Tbl.set {} c.p n { r with c := encodeWord p x r.tag d } } (0x40 + n) x)
  | .x n => .ok (L, Core.feed { c with x := Tbl.set {} c.x n ⟨BitVec.ofInt 32 x, true, true⟩ } (0x48 + n) x)
  | .word k =>
    if 65536 < L.journalLen p + 1 then .error (L.wordFault p 0 k .journal)
    else .ok (L.store p k (encodeWord p x (L.sig k).b (dOf k L.cn)) core.idx c.clk, c.feed 0x51 x)
  | .pc => .ok (L, c)
  | .cn => .ok (L, c)
  | .sg => .ok (L, c)

/-- Replay in pass 2 the journal entries of the index the core has reached, at its occurrence (R112). -/
def replayAt (pi : Pilot) (core : CoreId) (L : Lane) (c : Core) : Except TFault (Lane × Core) :=
  (pi.journal.filter (fun e => decide (e.1 = core.idx ∧ e.2.1 = c.pc ∧ e.2.2.1 = Tbl.get 0 c.occ c.pc + 1))).foldlM
    (fun a e => pilotApply .p2 core a.1 a.2 e.2.2.2.1 e.2.2.2.2) (L, c)

/-! ## Issue (R115, R149) -/

/-- The core has an instruction to issue: its lane is in a pass and its gate is open. -/
def Lane.issues (L : Lane) (core : CoreId) : Option Pass :=
  if (L.cores.get core).running then L.pass else none

/-- Order 1 and the code length of order 2: the fetch at the core's PC. -/
def fetchReady (t : TCtx) : Except TFault Unit :=
  if t.L.eccCode.contains (t.core.idx * 262144 + t.c.pc) then .error { cause := .ecc }
  else match t.L.part t.core with
    | none => .error { cause := .opcode }
    | some h => if t.c.pc < h.codeLen then .ok () else .error { cause := .opcode }

/-- What a core's next instruction of the program sees: the lane and the core once the generated code before the program
has run (R492) and the debugger's writes at this index have been replayed (R112), and the fetched word corrected
(R117). -/
def Lane.context (pi : Option Pilot) (core : CoreId) (p : Pass) (L : Lane) : Except TFault TCtx := do
  let (L1, c1) ← L.genTo p core none
  let (L2, c2) ← (match pi, p with
    | some i, .p2 => replayAt i core L1 c1
    | _, _ => .ok (L1, c1))
  return ⟨L2.correct [softCode (core.idx * 262144 + c2.pc)], core, p, c2⟩

/-- The Pilot session a lane runs under: Lane 1 only (R109). -/
def State.pilotOf (s : State) : LaneId → Option Pilot
  | .l1 => s.pilot
  | .l2 => none
  | .l3 => none

/-- Issue one instruction of `n` clk_t on a core: a gated core issues nothing; a fault excludes the lane. -/
def issue (ln : LaneId) (core : CoreId) (n : Nat) (body : TCtx → TRes) (s : State) : State :=
  let L0 := s.lane ln
  let c0 := L0.cores.get core
  match L0.issues core with
  | none => s
  | some p =>
    match L0.context (s.pilotOf ln) core p with
    | .error e => s.codedFault ln core.idx p c0.pc c0.clk e
    | .ok t =>
      match fetchReady t, body t with
      | .error e, _ => s.codedFault ln core.idx p t.c.pc t.c.clk e
      | .ok _, .error e => s.codedFault ln core.idx p t.c.pc t.c.clk e
      | .ok _, .ok (L', c') =>
        let c2 : Core := { c' with clk := c'.clk + n, occ := Tbl.upd 0 c'.occ t.c.pc (· + 1) }
        s.putLane ln { L' with cores := L'.cores.set core c2 }

end Sys2Proof.Machine
end

