-- ==== Sys2Proof/Machine/TallyMem.lean ====
section
/-! DEFINITION. Memory, timer, edge and route request instructions (R128-R140, Table 4.5, Table 4.6). -/

namespace Sys2Proof.Machine

open Sys2Proof

/-- A load from a space (R130): to V DST with the word's B as tag, or with DX = 1 to X DST as a plain value. -/
def load (f : Fields) (sp : Space) (altOk : Bool) (t : TCtx) : TRes := do
  let dx := fbit f 37
  need [altOk || !fbit f 35, decide (ffld f 32 3 = 0), decide (f.src1 = 0),
    !dx || (isPX f.dst && !t.c.counts f.dst), addrFormat f]
  let a ← resolve t sp f
  let key := flatKey sp a
  wordReady t 0 key
  let k := memChk t key 0
  let xs ← checkAll t.p [k]
  let x := xs.headD 0
  let L := t.corrected [key]
  if dx then
    return (L, (t.c.writeX f.dst x).next)
  else
    return (L, (t.c.writeReg false f.dst (encodeWord t.p x k.b t.d) k.b x).next)

/-- LDL (R130): L, or K with ALT = 1. -/
def execLdl (ln : LaneId) (core : CoreId) (f : Fields) (s : State) : Host.Outcome State Fault Refusal :=
  fin (issue ln core 2 (load f (if fbit f 35 then .k else .l) true) s)

/-- LDE (R130): E, or T with ALT = 1. -/
def execLde (ln : LaneId) (core : CoreId) (f : Fields) (s : State) : Host.Outcome State Fault Refusal :=
  fin (issue ln core 2 (load f (if fbit f 35 then .t else .e) true) s)

/-- LDI (R130). -/
def execLdi (ln : LaneId) (core : CoreId) (f : Fields) (s : State) : Host.Outcome State Fault Refusal :=
  fin (issue ln core 3 (load f .i false) s)

/-- The source of a store against its destination's B: a tag that differs is a CODE fault (order 6). -/
def storeSource (t : TCtx) (r : VReg) (b : U24) (off : Nat) : Except TFault Int := do
  let k : Chk := ⟨r.c.toInt, b, t.d, off⟩
  if r.tag ≠ b then throw (k.fault .code)
  let xs ← checkAll t.p [k]
  return xs.headD 0

/-- A store to a space at an access offset (R131): the register word must carry the destination's B; `bf` asks for
a boolean source; `frame` marks O, whose word 0 belongs to the supervisor (R132). No core owns a word of K or T. -/
def storeTo (f : Fields) (sp : Space) (bf frame : Bool) (off : Nat) (t : TCtx) : TRes := do
  let isP := fbit f 34
  need [!fbit f 37, decide (ffld f 32 2 = 0), decide (f.dst = 0), !isP || isPX f.src1, addrFormat f]
  let a ← resolve t sp f
  let key := flatKey sp a
  wordReady t off key
  let r := t.c.reg isP f.src1
  let x ← storeSource t r (t.L.sig key).b off
  if bf then needBools [(⟨r.c.toInt, r.tag, t.d, off⟩, x)]
  if sp = .k ∨ sp = .t ∨ (frame ∧ a % 32 = 0) then throw (t.L.wordFault t.p off key .owner)
  storeReady t off 1 [key]
  return (storePlain t (t.corrected [key]) key x off, t.c.next)

/-- STL (R131): written at offset 1. With ALT = 1 the word is a K word, which no core owns. -/
def execStl (ln : LaneId) (core : CoreId) (f : Fields) (s : State) : Host.Outcome State Fault Refusal :=
  fin (issue ln core 2 (storeTo f (if fbit f 35 then .k else .l) false false 1) s)

/-- STE (R131): written at offset 2. With ALT = 1 the word is a T word, which no core owns. -/
def execSte (ln : LaneId) (core : CoreId) (f : Fields) (s : State) : Host.Outcome State Fault Refusal :=
  fin (issue ln core 3 (storeTo f (if fbit f 35 then .t else .e) false false 2) s)

/-- STO (R132): BF in bit 35 asks for a boolean source. -/
def execSto (ln : LaneId) (core : CoreId) (f : Fields) (s : State) : Host.Outcome State Fault Refusal :=
  fin (issue ln core 3 (storeTo f .o (fbit f 35) true 2) s)

/-- CN as the signed value an expiry word holds (Table 3.8). -/
def cnInt (cn : U32) : Int := cn.toInt

/-- The timer words of an M address: even and below 32 768 (R129). -/
def timerAddr (a : Nat) : Except TFault Unit :=
  if a % 2 = 0 ∧ a < 32768 then .ok () else .error { cause := .index }

/-- Both words of a timer, checked: state and expiry; the words before a register (log entry 92). -/
def timerWords (t : TCtx) (a : Nat) (more : List Chk) : Except TFault (List Int) := do
  t.L.ready t.p 0 [flatKey .m a, flatKey .m (a + 1)]
  checkAll t.p (memChk t (flatKey .m a) 0 :: memChk t (flatKey .m (a + 1)) 0 :: more)

/-- The TMS modes of Table 4.7. -/
inductive TmsMode where
  | start | restart | cancel
deriving DecidableEq, Repr

/-- State and expiry after TMS (Table 4.7, R134). -/
def tmsResult (m : TmsMode) (cn : U32) (state expiry d : Int) : Int × Int :=
  let set : Int × Int := if d ≤ 0 then (2, cnInt cn) else (1, cnInt (cn + BitVec.ofInt 32 d))
  match m with
  | .start => if state = 1 then (state, expiry) else set
  | .restart => set
  | .cancel => (0, expiry)

/-- TMS (R133): the MODE bits are the command's; both words are written at offset 1. -/
def tms (f : Fields) (m : TmsMode) (t : TCtx) : TRes := do
  need [!fbit f 37, decide (ffld f 32 2 = 0), decide (f.dst = 0),
    decide (m ≠ .cancel) || decide (f.src1 = 0), addrFormat f]
  let a ← resolve t .m f
  timerAddr a
  let xs ← timerWords t a (if m = .cancel then [] else [regChk (t.c.reg false f.src1) t.d])
  let k0 := flatKey .m a
  let k1 := flatKey .m (a + 1)
  storeReady t 1 2 [k0, k1]
  let r := tmsResult m t.L.cn (xs.headD 0) (xs.getD 1 0) (xs.getD 2 0)
  return (storePlain t (storePlain t (t.corrected [k0, k1]) k0 r.1 1) k1 r.2 1, t.c.next)

/-- TMS START (R133). -/
def execTmsStart (ln : LaneId) (core : CoreId) (f : Fields) (s : State) : Host.Outcome State Fault Refusal :=
  fin (issue ln core 2 (tms f .start) s)

/-- TMS RESTART (R133). -/
def execTmsRestart (ln : LaneId) (core : CoreId) (f : Fields) (s : State) : Host.Outcome State Fault Refusal :=
  fin (issue ln core 2 (tms f .restart) s)

/-- TMS CANCEL (R133, R134). -/
def execTmsCancel (ln : LaneId) (core : CoreId) (f : Fields) (s : State) : Host.Outcome State Fault Refusal :=
  fin (issue ln core 2 (tms f .cancel) s)

/-- State of a timer after TMX (R135). DESIGN CHOICE, log entry 93: R134 takes a state word other than 0, 1 and 2 as idle
and TMX always writes the state word; the value written for it is not given, and it is 0. -/
def tmxState (cn : U32) (state expiry : Int) : Int :=
  if state = 1 then (if notEarlier cn (BitVec.ofInt 32 expiry) then 2 else 1)
  else if state = 2 then 2 else 0

/-- TMX (R135): the state word is always written, at offset 2; DST takes the state word's B. -/
def tmxOp (f : Fields) (t : TCtx) : TRes := do
  let dp := fbit f 37
  need [decide (ffld f 32 4 = 0), decide (f.src1 = 0), !dp || isPX f.dst, addrFormat f]
  let a ← resolve t .m f
  timerAddr a
  let xs ← timerWords t a []
  let k0 := flatKey .m a
  storeReady t 2 1 [k0]
  let st := tmxState t.L.cn (xs.headD 0) (xs.getD 1 0)
  let b := (t.L.sig k0).b
  let x := ofBool (decide (st = 2))
  return (storePlain t (t.corrected [k0, flatKey .m (a + 1)]) k0 st 2, (t.c.writeReg dp f.dst (encodeWord t.p x b t.d) b x).next)

/-- TMX (R135). -/
def execTmx (ln : LaneId) (core : CoreId) (f : Fields) (s : State) : Host.Outcome State Fault Refusal :=
  fin (issue ln core 3 (tmxOp f) s)

/-- EDG results (Table 4.8): MODE 0 RISE, 1 FALL, 2 ANY. -/
def edgeResult (mode : Nat) (stored inp : Int) : Bool :=
  if stored = inp then false
  else if mode = 0 then decide (inp = vTrue)
  else if mode = 1 then decide (inp = vFalse)
  else true

/-- EDG (R136): the input goes into the detector at offset 2; DST takes the detector word's B. -/
def edgeOp (f : Fields) (t : TCtx) : TRes := do
  let dp := fbit f 37
  let isP := fbit f 33
  let mode := ffld f 34 2
  need [decide (mode ≠ 3), !fbit f 32, !dp || isPX f.dst, !isP || isPX f.src1, addrFormat f]
  let a ← resolve t .m f
  if a < 32768 then throw { cause := .index }
  let key := flatKey .m a
  wordReady t 0 key
  let ks := [regChk (t.c.reg isP f.src1) t.d, memChk t key 0]
  let xs ← checkAll t.p ks
  needBools (ks.zip xs)
  storeReady t 2 1 [key]
  let inp := xs.headD 0
  let b := (t.L.sig key).b
  let x := ofBool (edgeResult mode (xs.getD 1 0) inp)
  return (storePlain t (t.corrected [key]) key inp 2, (t.c.writeReg dp f.dst (encodeWord t.p x b t.d) b x).next)

/-- EDG (R136). -/
def execEdg (ln : LaneId) (core : CoreId) (f : Fields) (s : State) : Host.Outcome State Fault Refusal :=
  fin (issue ln core 3 (edgeOp f) s)

/-- Insert a request of a partition entering the queue at `ready`: requests of the same clk_t stand in ascending
partition order (R139). -/
def enqueue (r : RouteReq) : List RouteReq → List RouteReq
  | [] => [r]
  | q :: rest =>
    if r.ready < q.ready ∨ (r.ready = q.ready ∧ r.part < q.part) then r :: q :: rest else q :: enqueue r rest

/-- Accept one RRQ: the 257th of a pass is a ROUTE fault at offset 1 of its instruction (R140, R194). -/
def acceptReq (L : Lane) (off : Nat) (r : RouteReq) : Except TFault Lane :=
  if L.route.accepted < 256 then
    .ok { L with route := { L.route with queue := enqueue r L.route.queue, accepted := L.route.accepted + 1
                                         gated := false } }
  else .error { cause := .route, off := off + 1 }

/-- One RRQ of a core at a clk_t offset (R138): it reads the signature entry of word 0 of the route at offset 0, and at
offset 1 the request enters the queue; the engine starts it at offset 2 at the earliest. -/
def requestRoute (t : TCtx) (off r kind : Nat) (L : Lane) : Except TFault Lane := do
  let key := keyRoute r 0
  let e := L.sig key
  if e.b = 0 then throw (L.wordFault t.p off key .unconf)
  if !e.parityOk || L.eccSig.contains key then throw (L.wordFault t.p off key .ecc)
  acceptReq (L.correct [softSig key]) off ⟨t.core.idx, t.c.pc, r, kind, t.c.clk + off + 2⟩

/-- RRQ (R138). -/
def rrqOp (f : Fields) (t : TCtx) : TRes := do
  let imm := fbit f 37
  let kind := ffld f 28 4
  need [decide (ffld f 32 5 = 0), decide (ffld f 13 15 = 0), decide (kind < 3), decide (f.dst = 0),
    decide (f.src2 = 0), if imm then decide (f.src1 = 0) else decide (ffld f 0 13 = 0)]
  let xs ← (if imm then .ok [(ffld f 0 13 : Int)] else checkAll t.p [regChk (t.c.reg false f.src1) t.d])
  let r := xs.headD 0
  if r < 0 ∨ 8191 < r then throw { cause := .index }
  let L ← requestRoute t 0 r.toNat kind t.L
  return (L, t.c.next)

/-- RRQ (R138). -/
def execRrq (ln : LaneId) (core : CoreId) (f : Fields) (s : State) : Host.Outcome State Fault Refusal :=
  fin (issue ln core 2 (rrqOp f) s)

end Sys2Proof.Machine
end

