-- ==== Sys2Proof/Machine/RouteEval.lean ====
section
/-! DEFINITION. One evaluation of the route engine (chapter 6): reading the lines, the checks of Table 6.3, the
transitions of Table 6.5, release, and the commit sweep. -/

namespace Sys2Proof.Machine

open Sys2Proof

/-- Values an evaluation has planned to leave, newest first, over the words it read. -/
abbrev Overlay := List (Nat × Int)

/-- One point, section, signal, crossing or generic line as the engine read it. -/
structure Line where
  id : Nat
  dataOk : Bool
  nof : Bool
  proof : Bool
  /-- Words 8-15 as read; words of another type's use read 0. -/
  w : List Int
deriving DecidableEq, Repr

/-- Word 8 + i of a line. -/
def Line.at (l : Line) (i : Nat) : Int := l.w.getD i 0

/-- A pool entry with the lines it names. -/
structure Entry where
  k : Nat
  kind : Nat
  cond : Nat
  elem : Nat
  value : Nat
  line : Option Line
  partner : Option Line
  /-- STATE of the route an OPPOSING_ROUTE entry names. -/
  opp : Int
deriving DecidableEq, Repr

/-- A route as read: its words, its entry signal and its entries. -/
structure RouteView where
  r : Nat
  base : Int
  state : Int
  progress : Int
  time : Int
  sig : Line
  entries : List Entry
deriving DecidableEq, Repr

/-! ## Reading (R175, R179) -/

/-- Words 8-15 the engine reads of a type (Tables 5.3-5.6), and which of them are boolean. SHOWN of a signal is
read for the flank check of Table 6.3. -/
def lineWords : Nat → List (Nat × Bool)
  | 1 => [(8, true), (11, false), (12, false), (13, false)]
  | 2 => [(8, false), (9, false), (11, false), (12, false), (13, false), (15, false)]
  | 3 => [(9, true), (10, false), (11, false), (12, false)]
  | 4 => [(8, true), (9, false)]
  | _ => []

/-- An address the engine forms from a word it read, within `n`; outside it the access is an INDEX fault (Table 3.11). -/
def engIndex (off n : Nat) (x : Int) : Except TFault Nat :=
  if 0 ≤ x ∧ x < (n : Int) then .ok x.toNat else .error { cause := .index, off := off }

/-- Words 8-15 of a line as the engine takes them: without data (R158) or forced restrictive (Table 5.8) a section is
occupied, a crossing unprotected and a condition FALSE; without data a point is undetected. -/
def shownWord (type i : Nat) (ok nof : Bool) (x : Int) : Int :=
  match type, i with
  | 1, 0 => if ok && nof then x else vFalse
  | 2, 1 => if ok then x else 0
  | 4, 0 => if ok && nof then x else vFalse
  | 5, _ => if ok && nof then x else vFalse
  | _, _ => x

/-- Read an element's line in one access, every word of it checked first; its IDENT must show the type (R175). `more` names
a generic word of a CONDITION. Without data no proof shows (R158). -/
def readLine (L : Lane) (p : Pass) (s off type id : Nat) (more : List (Nat × Bool)) : Except TFault Line := do
  let ws : List (Nat × Bool) := [(0, false), (4, true), (5, true), (6, true)] ++ lineWords type ++ more
  let xs ← L.access p 4 s off (ws.map (fun w => (keyE id w.1, w.2)))
  let got := (ws.map (·.1)).zip xs
  let read (w : Nat) : Int := ((got.find? (fun e => decide (e.1 = w))).map (·.2)).getD 0
  if read 0 / 16384 ≠ (type : Int) then throw (L.wordFault p off (keyE id 0) .route)
  let ok := isTrue (read 4)
  let nof := isTrue (read 6)
  return ⟨id, ok, nof, ok && isTrue (read 5), (List.range 8).map (fun i => shownWord type i ok nof (read (8 + i)))⟩

/-- Read a route line in one access: words 0-7, STATE within 0-7 (R170, R194). -/
def readRouteLine (L : Lane) (p : Pass) (s off r : Nat) : Except TFault (List Int) := do
  let xs ← L.access p 4 s off ((List.range 8).map (fun w => (keyRoute r w, false)))
  if xs.headD 0 < 0 ∨ 7 < xs.headD 0 then throw (L.wordFault p off (keyRoute r 0) .route)
  return xs

/-- Element type a pool entry kind names (Table 5.12); 0 for the kinds that name no element. -/
def kindType : Nat → Nat
  | 1 => 1 | 2 => 2 | 3 => 2 | 4 => 3 | 5 => 1 | 6 => 2 | 8 => 4 | 9 => 1 | 10 => 5
  | _ => 0

/-- Read pool entry `k` of a route's range at its offset of the check sweep. -/
def readEntry (L : Lane) (p : Pass) (s : Nat) (base : Int) (k : Nat) : Except TFault Entry := do
  let off := 4 + 2 * k
  let n ← engIndex off 262144 (base + k)
  let ws ← L.access p 4 s off [(keyPool n, false)]
  let x := ws.headD 0
  let n := x.toNat
  let kind := n / 2 ^ 23 % 16
  let cond := n / 2 ^ 20 % 8
  let elem := n % 16384
  let e : Entry := ⟨k, kind, cond, elem, n % 2 ^ 23, none, none, 0⟩
  if x < 0 ∨ kind = 0 ∨ 12 < kind then throw { cause := .route, off := off, word := BitVec.ofInt 64 x }
  if kind = 7 then
    let o ← readRouteLine L p s off (elem % 8192)
    return { e with opp := o.headD 0 }
  else if kindType kind = 0 then return e
  else
    let more : List (Nat × Bool) := if kind = 10 then [(8 + cond, true)] else []
    let line ← readLine L p s off (kindType kind) elem more
    if kindType kind = 2 ∧ 0 ≤ line.at 7 then
      let id ← engIndex off 16384 (line.at 7)
      let q ← readLine L p s off 2 id []
      if q.at 7 ≠ (elem : Int) then throw (L.wordFault p off (keyE id 15) .route)
      return { e with line := some line, partner := some q }
    else return { e with line := some line }

/-- Read a route: its line, its entry signal and its range (R179). EXIT is read and not evaluated. A range without a
PATH_SECTION and a PROGRESS above their number are faults of the decision stage (R194). -/
def readRoute (L : Lane) (p : Pass) (s r : Nat) : Except TFault RouteView := do
  let ws ← readRouteLine L p s 0 r
  let w (i : Nat) : Int := ws.getD i 0
  let entry ← engIndex 2 16384 (w 1)
  let sig ← readLine L p s 2 3 entry []
  let es ← (List.range (w 4).toNat).mapM (fun k => readEntry L p s (w 3) k)
  let m := (es.filter (fun e => decide (e.kind = 1))).length
  if m = 0 ∨ (m : Int) < w 6 then throw { cause := .route, off := 4 + 2 * (w 4).toNat }
  return ⟨r, w 3, w 0, w 6, w 7, sig, es⟩

/-- Words an evaluation accesses when it reads: each line is read whole. -/
def RouteView.keys (v : RouteView) : List Nat :=
  let line (l : Line) : List Nat := (List.range 16).map (keyE l.id)
  (List.range 8).map (keyRoute v.r) ++ line v.sig ++
  v.entries.flatMap (fun e => keyPool ((v.base + e.k).toNat) ::
    ((if e.kind = 7 then (List.range 8).map (keyRoute (e.elem % 8192)) else []) ++
      e.line.toList.flatMap line ++ e.partner.toList.flatMap line))

/-! ## Checks (R182, R183) -/

/-- The lines a check of an entry covers: its own, then its partner's. -/
def Entry.lines (e : Entry) : List Line := e.line.toList ++ e.partner.toList

/-- First code of a list of checks. -/
def firstCode (l : List (Bool × Nat)) : Option Nat := (l.find? (·.1)).map (·.2)

/-- Refusal of one line: DATA_OK, NOFORCE, PROOF in this order, of those a kind tests (Table 6.3). -/
def lineRefusal (kind : Nat) (l : Line) : Option Nat :=
  let data := (!l.dataOk, 0x21)
  let force := (!l.nof, 0x22)
  let unproven := (!l.proof, 0x20)
  match kind with
  | 2 => firstCode [data, force, unproven]
  | 3 => firstCode [data, force, unproven]
  | 6 => firstCode [data, force, unproven]
  | 4 => firstCode [data, unproven]
  | 8 => firstCode [unproven]
  | _ => none

/-- A route state that holds locks. -/
def holdsLocks (st : Int) : Bool := decide (2 ≤ st) && decide (st ≤ 6)

/-- Wait of one line of an entry (Table 6.3). -/
def lineWait (kind cond : Nat) (l : Line) : Option Nat :=
  match kind with
  | 2 => firstCode [(decide (l.at 3 ≠ -1), 0x10), (decide (0 < l.at 4) && decide (l.at 5 ≠ (cond : Int)), 0x12)]
  | 6 => firstCode [(decide (l.at 3 ≠ -1), 0x10), (decide (0 < l.at 4) && decide (l.at 5 ≠ (cond : Int)), 0x12)]
  | 1 => firstCode [(decide (l.at 3 ≠ -1) || decide (l.at 4 ≠ -1), 0x10)]
  | 5 => firstCode [(decide (l.at 3 ≠ -1) || decide (l.at 4 ≠ -1), 0x10)]
  | 3 => firstCode [((decide (l.at 3 ≠ -1) && decide (l.at 0 ≠ (cond : Int))) ||
           (decide (0 < l.at 4) && decide (l.at 5 ≠ (cond : Int))), 0x12)]
  | 4 => firstCode [(decide (l.at 2 ≠ -1), 0x12)]
  | _ => none

/-- Refusal of an entry. -/
def Entry.refusal (e : Entry) : Option Nat := e.lines.findSome? (lineRefusal e.kind)

/-- Wait of an entry. -/
def Entry.wait (e : Entry) : Option Nat :=
  if e.kind = 7 then (if holdsLocks e.opp then some 0x11 else none)
  else e.lines.findSome? (lineWait e.kind e.cond)

/-- OUTCOME value (R192). -/
def outcome (k code : Nat) : Int := (256 * k + code : Nat)

/-- First refusal in reading order, else the first wait (R183). -/
def reservation (v : RouteView) : Option Nat × Option Nat :=
  let sigRef := (firstCode [(!v.sig.dataOk, 0x21), (!v.sig.nof, 0x22), (!v.sig.proof, 0x20)]).map
    (fun c => 256 * 126 + c)
  let sigWait := (firstCode [(decide (v.sig.at 2 ≠ -1), 0x13), (decide (0 < v.sig.at 4), 0x12)]).map
    (fun c => 256 * 126 + c)
  (sigRef.or (v.entries.findSome? (fun e => e.refusal.map (fun c => 256 * e.k + c))),
   sigWait.or (v.entries.findSome? (fun e => e.wait.map (fun c => 256 * e.k + c))))

/-- The clear condition of one line of an entry (Table 6.3). -/
def lineClear (kind cond : Nat) (l : Line) : Bool :=
  match kind with
  | 1 => l.dataOk && l.nof && isTrue (l.at 0)
  | 5 => l.dataOk && l.nof && isTrue (l.at 0)
  | 2 => l.dataOk && decide (l.at 1 = (cond : Int))
  | 3 => l.dataOk && decide (l.at 1 = (cond : Int))
  | 6 => l.dataOk && decide (l.at 1 = (cond : Int))
  | 4 => l.dataOk && !isTrue (l.at 1) && decide (l.at 3 = 0)
  | 8 => l.dataOk && l.nof && isTrue (l.at 0)
  | 10 => isTrue (l.at cond) && l.dataOk && l.nof
  | _ => true

/-- Wait code of a failing clear condition (Table 6.8). -/
def clearCode : Nat → Nat
  | 1 => 0x15 | 5 => 0x15 | 2 => 0x14 | 3 => 0x14 | 6 => 0x14 | 4 => 0x18 | 8 => 0x16 | 10 => 0x17 | 7 => 0x11
  | _ => 0x18

/-- The clear condition of an entry holds. -/
def Entry.clear (e : Entry) : Bool :=
  if e.kind = 7 then !holdsLocks e.opp else e.lines.all (lineClear e.kind e.cond)

/-- First failing clear condition in reading order: its offset and wait code. -/
def firstUnclear (v : RouteView) : Option (Nat × Nat) :=
  if v.sig.dataOk && v.sig.nof && v.sig.proof then
    (v.entries.find? (fun e => !e.clear)).map (fun e => (e.k, clearCode e.kind))
  else some (126, 0x18)

/-- First point entry whose clear condition fails. -/
def firstPointUnclear (v : RouteView) : Option Nat :=
  (v.entries.find? (fun e => decide (kindType e.kind = 2) && !e.clear)).map (·.k)

/-! ## Planned writes -/

/-- A word of an element as the plan leaves it. -/
def planned (ov : Overlay) (l : Line) (i : Nat) : Int :=
  match ov.find? (fun e => decide (e.1 = keyE l.id (8 + i))) with
  | some e => e.2
  | none => l.at i

/-- Plan one word of an element. -/
def plan (l : Line) (i : Nat) (x : Int) (ov : Overlay) : Overlay := (keyE l.id (8 + i), x) :: ov

/-- Fault of the decision stage (R194). -/
def decisionFault (v : RouteView) : TFault := { cause := .route, off := 4 + 2 * v.entries.length }

/-- Plan a count within 0-255. -/
def planCount (v : RouteView) (l : Line) (i : Nat) (delta : Int) (ov : Overlay) : Except TFault Overlay :=
  let n := planned ov l i + delta
  if n < 0 ∨ 255 < n then .error (decisionFault v) else .ok (plan l i n ov)

/-- Plan the end of a lock word (R190): it must not name another route. -/
def planUnlock (v : RouteView) (l : Line) (i : Nat) (ov : Overlay) : Except TFault Overlay :=
  if planned ov l i = (v.r : Int) ∨ planned ov l i = -1 then .ok (plan l i (-1) ov) else .error (decisionFault v)

/-- Reservation writes of one line of an entry (Table 6.3). -/
def reserveLine (v : RouteView) (kind cond : Nat) (l : Line) (ov : Overlay) : Except TFault Overlay :=
  match kind with
  | 1 => .ok (plan l 3 v.r (plan l 5 1 ov))
  | 2 => .ok (plan l 0 cond (plan l 3 v.r ov))
  | 6 => .ok (plan l 0 cond (plan l 3 v.r ov))
  | 3 => (planCount v l 4 1 ov).map (plan l 5 cond)
  | 4 => planCount v l 4 1 ov
  | 5 => .ok (plan l 4 v.r ov)
  | 8 => planCount v l 1 1 ov
  | _ => .ok ov

/-- Immediate release writes of one line of an entry (Table 6.6); `named` limits it to lock words that still name
the route. DESIGN CHOICE, log entry 97: a point that is forced blocked is released as any other, DEMAND and ROUTE_LOCK both
written. Table 5.8 says that the engine does not change DEMAND of such a point and that its locks stay, Tables 6.6 and 6.7
except no point from a release, and a lock left behind would never end. -/
def releaseLine (v : RouteView) (named : Bool) (kind : Nat) (l : Line) (ov : Overlay) : Except TFault Overlay :=
  let mine (i : Nat) : Bool := decide (planned ov l i = (v.r : Int))
  match kind with
  | 1 => if named && !mine 3 then .ok ov else (planUnlock v l 3 ov).map (plan l 5 0)
  | 2 => if named && !mine 3 then .ok ov else (planUnlock v l 3 ov).map (plan l 0 0)
  | 6 => if named && !mine 3 then .ok ov else (planUnlock v l 3 ov).map (plan l 0 0)
  | 3 =>
    match planCount v l 4 (-1) ov with
    | .error e => .error e
    | .ok ov1 => .ok (if planned ov1 l 4 = 0 then plan l 5 0 ov1 else ov1)
  | 4 => planCount v l 4 (-1) ov
  | 5 => if named && !mine 4 then .ok ov else planUnlock v l 4 ov
  | 8 => planCount v l 1 (-1) ov
  | _ => .ok ov

/-- Apply a plan to every line of the entries a test picks. -/
def overEntries (es : List Entry) (f : Nat → Nat → Line → Overlay → Except TFault Overlay) (ov : Overlay) :
    Except TFault Overlay :=
  es.foldlM (fun ov e => e.lines.foldlM (fun ov l => f e.kind e.cond l ov) ov) ov

/-- An overlap entry. -/
def isOverlap (e : Entry) : Bool := decide (e.kind = 5) || decide (e.kind = 6)

/-- A flank or level crossing entry. -/
def isHold (e : Entry) : Bool := decide (e.kind = 3) || decide (e.kind = 4) || decide (e.kind = 8)

/-- VALUE of the first entry of a TIME kind. -/
def timeValue (v : RouteView) (kind : Nat) : Option Nat :=
  (v.entries.find? (fun e => decide (e.kind = kind))).map (·.value)

/-- Path sections in travel order, each with the run of points that stands immediately before it (R173). -/
def pathSections : List Entry → List Entry → List (Line × List Entry)
  | _, [] => []
  | run, e :: rest =>
    if e.kind = 2 then pathSections (run ++ [e]) rest
    else if e.kind = 1 then
      match e.line with
      | some l => (l, run) :: pathSections [] rest
      | none => pathSections [] rest
    else pathSections [] rest

/-- Genuinely occupied (R187, R189). -/
def occupied (l : Line) : Bool := l.dataOk && l.nof && !isTrue (l.at 0)

/-- What an evaluation decides: the state, OUTCOME, PROGRESS and TIME it leaves, PERMIT and ROUTE of the entry
signal, and the planned element words. -/
structure Decision where
  state : Int
  out : Int
  progress : Int
  time : Int
  permit : Bool
  route : Int
  ov : Overlay
deriving DecidableEq, Repr

/-- A decision that changes nothing but OUTCOME. -/
def keep (v : RouteView) (k code : Nat) : Decision :=
  ⟨v.state, outcome k code, v.progress, v.time, isTrue (v.sig.at 1), v.sig.at 2, []⟩

/-- CN plus cycles, as TIME holds it. -/
def timeAt (cn : U32) (n : Nat) : Int := cnInt (cn + BitVec.ofNat 32 n)

/-- CN is equal to or later than TIME (R11). -/
def timeUp (cn : U32) (time : Int) : Bool := notEarlier cn (BitVec.ofInt 32 time)

/-- Train entry (R187). -/
def trainEntered (v : RouteView) : Bool :=
  match pathSections [] v.entries with
  | [] => false
  | s :: _ => occupied s.1

/-- The effect of train entry (R187). -/
def enter (v : RouteView) (cn : U32) : Decision :=
  let ss := pathSections [] v.entries
  let time := match ss.length, timeValue v 12 with
    | 1, some t => timeAt cn t
    | _, _ => v.time
  let ov := match ss with
    | [] => []
    | s :: _ => plan s.1 5 2 []
  ⟨6, outcome 127 0x06, v.progress, time, false, -1, ov⟩

/-- Every lock of the route removed: IDLE (R188, R190). -/
def freeAll (v : RouteView) (named : Bool) (code : Nat) : Except TFault Decision := do
  let ov ← overEntries v.entries (fun k _ l ov => releaseLine v named k l ov) []
  return ⟨0, outcome 127 code, 0, v.time, if v.sig.at 2 = (v.r : Int) then false else isTrue (v.sig.at 1),
    if v.sig.at 2 = (v.r : Int) then -1 else v.sig.at 2, ov⟩

/-- Cancellation under approach locking (R188). -/
def cancelSet (v : RouteView) (cn : U32) : Except TFault Decision :=
  let near := v.entries.any (fun e => decide (e.kind = 9) &&
    e.lines.any (fun l => !l.dataOk || !isTrue (l.at 0)))
  if near then
    .ok ⟨5, outcome 127 0x0A, v.progress,
      (match timeValue v 11 with
        | some t => timeAt cn t
        | none => v.time), false, v.sig.at 2, []⟩
  else freeAll v false 0x09

/-- The running values of the release step. -/
structure Rel where
  ov : Overlay
  progress : Int
  time : Int
deriving DecidableEq, Repr

/-- One path section of the release step (R189): `i` its index, `prev` the section before it, `nxt` the line that
must be occupied. -/
def releaseSection (v : RouteView) (cn : U32) (m i : Nat) (s : Line × List Entry) (prev nxt : Option Line)
    (a : Rel) : Except TFault Rel := do
  let before := match prev with
    | none => true
    | some q => decide (2 ≤ planned a.ov q 5)
  let start := decide (planned a.ov s.1 5 = 1) && occupied s.1 && before
  let a1 : Rel := if start then { a with ov := plan s.1 5 2 a.ov } else a
  let a2 : Rel := match start && decide (i + 1 = m), timeValue v 12 with
    | true, some t => { a1 with time := timeAt cn t }
    | _, _ => a1
  let free := decide ((i : Int) = a2.progress) && decide (planned a2.ov s.1 5 = 2) && s.1.dataOk && isTrue (s.1.at 0) &&
    (match nxt with
      | none => true
      | some q => occupied q)
  if free then
    let ov1 ← planUnlock v s.1 3 (plan s.1 5 3 a2.ov)
    let ov2 ← overEntries s.2 (fun k _ l ov => releaseLine v false k l ov) ov1
    return { a2 with ov := ov2, progress := a2.progress + 1 }
  else return a2

/-- The path sections of the release step, in travel order. -/
def releaseSweep (v : RouteView) (cn : U32) (m : Nat) (ovl : Option Line) :
    Nat → Option Line → List (Line × List Entry) → Rel → Except TFault Rel
  | _, _, [], a => .ok a
  | i, prev, s :: rest, a => do
    let nxt := match rest with
      | [] => ovl
      | q :: _ => some q.1
    let a1 ← releaseSection v cn m i s prev nxt a
    releaseSweep v cn m ovl (i + 1) (some s.1) rest a1

/-- The release step (R189). -/
def releaseStep (v : RouteView) (cn : U32) : Except TFault Decision := do
  let ss := pathSections [] v.entries
  let ovl := (v.entries.find? (fun e => decide (e.kind = 5))).bind (·.line)
  let a ← releaseSweep v cn ss.length ovl 0 none ss ⟨[], v.progress, v.time⟩
  let lastStage := match ss.getLast? with
    | none => 0
    | some s => planned a.ov s.1 5
  let due := (timeValue v 12).isSome && decide (2 ≤ lastStage) && timeUp cn a.time
  let ov1 ← if due then overEntries (v.entries.filter isOverlap) (fun k _ l ov => releaseLine v true k l ov) a.ov
            else pure a.ov
  if a.progress = (ss.length : Int) then
    let ov2 ← overEntries (v.entries.filter isHold) (fun k _ l ov => releaseLine v false k l ov) ov1
    let ov3 ← overEntries (v.entries.filter isOverlap) (fun k _ l ov => releaseLine v true k l ov) ov2
    return ⟨0, outcome 127 0x08, 0, a.time, isTrue (v.sig.at 1), v.sig.at 2, ov3⟩
  else return ⟨6, outcome 127 0x07, a.progress, a.time, isTrue (v.sig.at 1), v.sig.at 2, ov1⟩

/-! ## Transitions (R185, Table 6.5) -/

/-- SET. -/
def decideSet (v : RouteView) (cn : U32) : Except TFault Decision :=
  match v.state.toNat with
  | 2 =>
    match firstPointUnclear v with
    | some k => .ok (keep v k 0x14)
    | none => .ok { keep v 127 0x02 with state := 3 }
  | 3 =>
    match firstUnclear v with
    | some kc => .ok (keep v kc.1 kc.2)
    | none => .ok { keep v 127 0x03 with state := 4, permit := true }
  | 4 =>
    if trainEntered v then .ok (enter v cn)
    else match firstUnclear v with
      | none => .ok (keep v 127 0x04)
      | some kc => .ok { keep v kc.1 0x05 with state := 3, permit := false }
  | 5 => if trainEntered v then .ok (enter v cn) else .ok { keep v 127 0x02 with state := 3 }
  | 6 => releaseStep v cn
  | _ =>
    match reservation v with
    | (some c, _) => .ok { keep v 0 0 with state := 7, out := (c : Int) }
    | (none, some c) => .ok { keep v 0 0 with state := 1, out := (c : Int) }
    | (none, none) =>
      (overEntries v.entries (fun k c l ov => reserveLine v k c l ov) []).map
        (fun ov => { keep v 127 0x01 with state := 2, route := v.r, ov := ov })

/-- CANCEL. -/
def decideCancel (v : RouteView) (cn : U32) : Except TFault Decision :=
  match v.state.toNat with
  | 2 => freeAll v false 0x09
  | 3 => cancelSet v cn
  | 4 => if trainEntered v then .ok (enter v cn) else cancelSet v cn
  | 5 =>
    if trainEntered v then .ok (enter v cn)
    else if (timeValue v 11).isSome && timeUp cn v.time then freeAll v false 0x08
    else .ok (keep v 127 0x0B)
  | 6 => releaseStep v cn
  | _ => .ok { keep v 127 0x09 with state := 0, progress := 0 }

/-- CHECK (R186). -/
def decideCheck (v : RouteView) : Decision :=
  if holdsLocks v.state then keep v 127 0x31
  else match reservation v with
    | (some c, _) => { keep v 0 0 with out := (c : Int) }
    | (none, some c) => { keep v 0 0 with out := (c : Int) }
    | (none, none) => keep v 127 0x30

/-- IREL (R419): the immediate release of every entry that still names the route. -/
def decideIrel (v : RouteView) : Except TFault (Option Decision) :=
  if v.state = 5 ∨ v.state = 6 then (freeAll v true 0x08).map some else .ok none

/-! ## Commit and close (R179, R180, R193) -/

/-- One engine write: only where the value changes; OWNER 4, a journal entry and a signature record. -/
def engWrite (p : Pass) (clk off : Nat) (key : Nat) (x : Int) (L : Lane) : Except TFault Lane :=
  if L.plainIn p key = x then .ok L
  else do
    let L1 ← L.storeBy p 4 4 clk off key x
    let target := if spaceOf key = some .e then 0x61 else 0x62
    return { L1 with route := { L1.route with
            sg := crc64Word L1.route.sg
              (BitVec.ofNat 64 (target * 2 ^ 56 + keyAddr key * 2 ^ 32 + ofSigned 32 x)) } }

/-- Words of a line the commit sweep may change: 8-15, but for PERMIT and ROUTE, which the close stage writes. -/
def commitWords (kind : Nat) : List Nat := if kindType kind = 3 then [4] else List.range 8

/-- The commit sweep of one entry: the changed words of its element and of its partner. -/
def commitEntry (p : Pass) (s n : Nat) (ov : Overlay) (L : Lane) (e : Entry) : Except TFault Lane :=
  e.lines.foldlM (fun L l =>
    (commitWords e.kind).foldlM (fun L i =>
      match ov.find? (fun o => decide (o.1 = keyE l.id (8 + i))) with
      | some o => engWrite p s (13 + 2 * n + 2 * e.k) o.1 o.2 L
      | none => .ok L) L) L

/-- Commit a decision: the sweep, then the route line, then the entry signal. -/
def commit (p : Pass) (s : Nat) (v : RouteView) (d : Decision) (L : Lane) : Except TFault Lane := do
  let n := v.entries.length
  let L1 ← v.entries.foldlM (commitEntry p s n d.ov) L
  let o := 13 + 4 * n
  let L2 ← engWrite p s o (keyRoute v.r 0) d.state L1
  let L3 ← engWrite p s o (keyRoute v.r 5) d.out L2
  let L4 ← engWrite p s o (keyRoute v.r 6) d.progress L3
  let L5 ← engWrite p s o (keyRoute v.r 7) d.time L4
  let L6 ← engWrite p s (o + 2) (keyE v.sig.id 9) (ofBool d.permit) L5
  engWrite p s (o + 2) (keyE v.sig.id 10) d.route L6

/-- Feed the record of a request (R193). -/
def feedRequest (L : Lane) (q : RouteReq) : Lane :=
  { L with route := { L.route with
      sg := crc64Word L.route.sg
        (BitVec.ofNat 64 (0x60 * 2 ^ 56 + (q.part * 262144 + q.idx) * 2 ^ 32 + q.route * 16 + q.kind)) } }

/-- One evaluation of a request that starts at clk_t `s` (R179). -/
def evaluate (p : Pass) (s : Nat) (q : RouteReq) (L0 : Lane) : Except TFault Lane := do
  let L1 := feedRequest L0 q
  let v ← readRoute L1 p s q.route
  let L := L1.correctWords p v.keys
  let done (L : Lane) : Lane :=
    { L with route := { L.route with busyUntil := s + 23 + 4 * v.entries.length } }
  match q.kind with
  | 0 =>
    let d ← decideSet v L.cn
    (commit p s v d L).map done
  | 1 =>
    let d ← decideCancel v L.cn
    (commit p s v d L).map done
  | 2 => (engWrite p s (13 + 4 * v.entries.length) (keyRoute q.route 5) (decideCheck v).out L).map done
  | _ =>
    match ← decideIrel v with
    | none => return done L
    | some d => (commit p s v d L).map done

/-- An individual release is used up by its evaluation in pass 2: executed where the route stood in its states,
discarded otherwise (R419). -/
def irelDone (p : Pass) (q : RouteReq) (before after : Lane) : Lane :=
  if p = .p2 ∧ 3 ≤ q.kind then
    let x := before.plainIn p (keyRoute q.route 0)
    { after with
      sup := { after.sup with irels := after.sup.irels.filter (fun e => decide (e.1 ≠ q.route)) }
      pendEvents := after.pendEvents ++
        [(LogClass.change, if x = 5 ∨ x = 6 then EventName.irelExecuted else EventName.irelDiscarded,
          noWho ++ [((q.route : Nat) : Int)])] }
  else after

/-- The generated code of every core, up to the last read of an evaluation that starts at clk_t `start` (R91, R492); a
fault with the core that met it. -/
def Lane.genBefore (L : Lane) (p : Pass) (start r : Nat) : Except (CoreId × TFault) Lane :=
  let upto := start + 4 + 2 * (L.plainIn p (keyRoute r 4)).toNat
  CoreId.all.foldlM (fun (L : Lane) c =>
    match L.genTo p c (some upto) with
    | .error e => .error (c, e)
    | .ok a => .ok { a.1 with cores := a.1.cores.set c a.2 }) L

/-- The engine evaluates the request at the head of its queue where it is of the named kind, in a running pass
(R176). -/
def runEngine (ln : LaneId) (kind : Nat) (s : State) : State :=
  let L := s.lane ln
  match L.pass, L.route.queue with
  | some p, q :: rest =>
    if q.kind = kind ∧ !L.route.gated then
      let start := max q.ready (if L.route.busyUntil = 0 then 0 else L.route.busyUntil + 1)
      match L.genBefore p start q.route with
      | .error (c, e) => s.codedFault ln c.idx p (L.cores.get c).pc (L.cores.get c).clk e
      | .ok L1 =>
        match evaluate p start q { L1 with route := { L1.route with queue := rest } } with
        | .ok L' => s.putLane ln (irelDone p q L1 { L' with route := { L'.route with gated := rest.isEmpty } })
        | .error e => s.codedFault ln 4 p (q.part * 262144 + q.idx) start e
    else s
  | _, _ => s

/-- SET (R185). -/
def execRouteSet (ln : LaneId) (s : State) : Host.Outcome State Fault Refusal := fin (runEngine ln 0 s)

/-- CANCEL (R188). -/
def execRouteCancel (ln : LaneId) (s : State) : Host.Outcome State Fault Refusal := fin (runEngine ln 1 s)

/-- CHECK (R186). -/
def execRouteCheck (ln : LaneId) (s : State) : Host.Outcome State Fault Refusal := fin (runEngine ln 2 s)

/-- IREL (R419). -/
def execIrel (ln : LaneId) (s : State) : Host.Outcome State Fault Refusal := fin (runEngine ln 15 s)

end Sys2Proof.Machine
end

