-- ==== Sys2Proof/Machine/Present.lean ====
section
/-! DEFINITION. The route presentation code (R178), which runs after the program and before ENDP (R492). -/

namespace Sys2Proof.Machine

open Sys2Proof

/-- Routes of a partition, in the order of the manifest. -/
def routesOf (m : Manifest) (core : CoreId) : List Nat :=
  (m.body.routePart.filter (fun x => decide (x.2 = core.idx))).map (·.1)

/-- Demand word of a route. -/
def demandKey (m : Manifest) (r : Nat) : Option Nat :=
  (m.body.demand.find? (fun x => decide (x.1 = r))).map (fun x => flatKey .l x.2)

/-- What the presentation code of a partition reads: STATE of the routes in its list, as it stood at the start of the pass
(log entry 12), and the demand words of its routes. -/
structure PresentIn where
  states : List (Nat × Int)
  demands : List (Nat × Bool)
deriving DecidableEq, Repr

/-- STATE of a route, as read; 0 where it is not read. -/
def PresentIn.state (i : PresentIn) (r : Nat) : Int :=
  match i.states.find? (fun e => decide (e.1 = r)) with
  | none => 0
  | some e => e.2

/-- The demand word of a route stands. -/
def PresentIn.stands (i : PresentIn) (r : Nat) : Bool := i.demands.any (fun e => decide (e.1 = r) && e.2)

/-- The reads of the presentation code, with the checks of any load (R108). -/
def presentReads (m : Manifest) (t : TCtx) : Except TFault PresentIn := do
  let listed := Tbl.get [] t.L.sup.present t.core.idx
  let xs ← t.L.access t.p t.core.idx 0 0 (listed.map (fun r => (keyRoute r 0, false)))
  let ds := (routesOf m t.core).filterMap (fun r => (demandKey m r).map (fun k => (r, k)))
  let ys ← t.L.access t.p t.core.idx t.c.clk 0 (ds.map (fun d => (d.2, true)))
  return ⟨listed.zip xs, (ds.map (·.1)).zip (ys.map isTrue)⟩

/-- The presentation list of a partition in this cycle: slots of IDLE and REFUSED routes are given up, then the demands that
have risen take slots while there are any. DESIGN CHOICE, log entry 94: demands that rise in one cycle take their slots in
the order of the manifest; R178 gives none among them. -/
def presentList (m : Manifest) (L : Lane) (core : CoreId) (i : PresentIn) : List Nat :=
  let kept := (Tbl.get [] L.sup.present core.idx).filter (fun r => decide (i.state r ≠ 0) && decide (i.state r ≠ 7))
  let rising := (routesOf m core).filter (fun r => i.stands r && !L.sup.demanded.contains r && !kept.contains r)
  (kept ++ rising).take (max (m.body.slots.get core) kept.length)

/-- The RRQ of the list: one after another, each of 2 clk_t from offset `off` on, SET while the demand stands and CANCEL once
it is withdrawn. -/
def presentAll (t : TCtx) (i : PresentIn) : Nat → List Nat → Lane → Except TFault Lane
  | _, [], L => .ok L
  | off, r :: rest, L => do
    let L1 ← requestRoute t off r (if i.stands r then 0 else 1) L
    presentAll t i (off + 2) rest L1

/-- The presentation code of a partition (R178): what it keeps is written once, in pass 2. A partition that owns no route
has none. -/
def presentRun (t : TCtx) : TRes :=
  match t.L.image with
  | none => .ok (t.L, t.c)
  | some m =>
    let mine := routesOf m t.core
    if mine.isEmpty then .ok (t.L, t.c)
    else do
      let i ← presentReads m t
      let l := presentList m t.L t.core i
      let n := Config.presentClk mine.length
      let L1 ← presentAll t i n l (t.L.correctWords t.p (l.map (fun r => keyRoute r 0) ++ mine.filterMap (demandKey m)))
      let vals := i.states.map (·.2) ++ i.demands.map (fun d => ofBool d.2)
      let c : Core := { t.c with clk := t.c.clk + n + 2 * l.length
                                 sg := (Config.presentRecs t.core.idx vals).foldl crc64Word t.c.sg }
      match t.p with
      | .p1 => return (L1, c)
      | .p2 =>
        return ({ L1 with sup := { L1.sup with
                    present := Tbl.set [] L1.sup.present t.core.idx l
                    demanded := (L1.sup.demanded.filter (fun r => !mine.contains r)) ++ mine.filter i.stands } }, c)

end Sys2Proof.Machine
end

