-- ==== Sys2Proof/Machine/TallyArith.lean ====
section
/-! DEFINITION. Coded arithmetic, compare and boolean instructions (R122-R127, Table 3.2, Table 4.4). -/

namespace Sys2Proof.Machine

open Sys2Proof

/-- Two V sources, an exact result word from the operand words and tags (Table 3.2), checked and written to V DST. -/
def arithV (f : Fields) (res : Int → Int → Int → Int → Int → Int → Int) (t : TCtx) : TRes := do
  need [decide (ffld f 24 14 = 0), decide (fbd f ≠ 0)]
  let r1 := t.c.reg false f.src1
  let r2 := t.c.reg false f.src2
  let _ ← checkAll t.p [regChk r1 t.d, regChk r2 t.d]
  let w := res r1.c.toInt r2.c.toInt r1.tag.toNat r2.tag.toNat t.d (fbd f).toNat
  let xs ← checkAll t.p [⟨w, fbd f, t.d, 0⟩]
  return (t.L, (t.c.writeReg false f.dst (BitVec.ofInt 64 w) (fbd f) (xs.headD 0)).next)

/-- CADD (R122): c1 + c2 − t1 − t2 − D + B_d. -/
def execCadd (ln : LaneId) (core : CoreId) (f : Fields) (s : State) : Host.Outcome State Fault Refusal :=
  fin (issue ln core 1 (arithV f (fun c1 c2 t1 t2 d b => c1 + c2 - t1 - t2 - d + b)) s)

/-- CSUB (R122): c1 − c2 − t1 + t2 + B_d + D. -/
def execCsub (ln : LaneId) (core : CoreId) (f : Fields) (s : State) : Host.Outcome State Fault Refusal :=
  fin (issue ln core 1 (arithV f (fun c1 c2 t1 t2 d b => c1 - c2 - t1 + t2 + b + d)) s)

/-- CMULK (R123): k·(c1 − t1 − D) + B_d + D, k of 14 bits in OPND[37:24]. -/
def mulk (f : Fields) (t : TCtx) : TRes := do
  let k := toSigned 14 (ffld f 24 14)
  need [decide (k ≠ 0), decide (f.src2 = 0), decide (fbd f ≠ 0)]
  let r1 := t.c.reg false f.src1
  let _ ← checkAll t.p [regChk r1 t.d]
  let w := k * (r1.c.toInt - r1.tag.toNat - t.d) + (fbd f).toNat + t.d
  let xs ← checkAll t.p [⟨w, fbd f, t.d, 0⟩]
  return (t.L, (t.c.writeReg false f.dst (BitVec.ofInt 64 w) (fbd f) (xs.headD 0)).next)

/-- CMULK (R123). -/
def execCmulk (ln : LaneId) (core : CoreId) (f : Fields) (s : State) : Host.Outcome State Fault Refusal :=
  fin (issue ln core 3 (mulk f) s)

/-- A compare of two V sources into V or P DST (R124). -/
def compare (f : Fields) (rel : Int → Int → Bool) (t : TCtx) : TRes := do
  let dp := fbit f 37
  need [decide (ffld f 24 13 = 0), !dp || isPX f.dst, decide (fbd f ≠ 0)]
  let xs ← checkAll t.p [regChk (t.c.reg false f.src1) t.d, regChk (t.c.reg false f.src2) t.d]
  let x := ofBool (rel (xs.headD 0) (xs.getD 1 0))
  return (t.L, (t.c.writeReg dp f.dst (encodeWord t.p x (fbd f) t.d) (fbd f) x).next)

/-- CCMP.EQ (R124). -/
def execCcmpEq (ln : LaneId) (core : CoreId) (f : Fields) (s : State) : Host.Outcome State Fault Refusal :=
  fin (issue ln core 2 (compare f (fun a b => decide (a = b))) s)

/-- CCMP.NE (R124). -/
def execCcmpNe (ln : LaneId) (core : CoreId) (f : Fields) (s : State) : Host.Outcome State Fault Refusal :=
  fin (issue ln core 2 (compare f (fun a b => decide (a ≠ b))) s)

/-- CCMP.LT (R124). -/
def execCcmpLt (ln : LaneId) (core : CoreId) (f : Fields) (s : State) : Host.Outcome State Fault Refusal :=
  fin (issue ln core 2 (compare f (fun a b => decide (a < b))) s)

/-- CCMP.LE (R124). -/
def execCcmpLe (ln : LaneId) (core : CoreId) (f : Fields) (s : State) : Host.Outcome State Fault Refusal :=
  fin (issue ln core 2 (compare f (fun a b => decide (a ≤ b))) s)

/-- Format of the boolean class: bits [34:24] as told, P fields with bits [5:3] zero, B_d not 0 (Table 4.4). -/
def boolFormat (f : Fields) (low : Bool) : Except TFault Unit :=
  need [low, !fbit f 37 || isPX f.dst, !fbit f 36 || isPX f.src1, !fbit f 35 || isPX f.src2, decide (fbd f ≠ 0)]

/-- BAND and BOR: the operand a choice of the two plain values names, re-signed with B_d (R125). -/
def boolTwo (f : Fields) (pick : Int → Int → Int) (t : TCtx) : TRes := do
  boolFormat f (decide (ffld f 24 11 = 0))
  let ks := [regChk (t.c.reg (fbit f 36) f.src1) t.d, regChk (t.c.reg (fbit f 35) f.src2) t.d]
  let xs ← checkAll t.p ks
  needBools (ks.zip xs)
  let x := pick (xs.headD 0) (xs.getD 1 0)
  return (t.L, (t.c.writeReg (fbit f 37) f.dst (encodeWord t.p x (fbd f) t.d) (fbd f) x).next)

/-- BAND (R125): the smaller decoded value. -/
def execBand (ln : LaneId) (core : CoreId) (f : Fields) (s : State) : Host.Outcome State Fault Refusal :=
  fin (issue ln core 1 (boolTwo f min) s)

/-- BOR (R125): the larger decoded value. -/
def execBor (ln : LaneId) (core : CoreId) (f : Fields) (s : State) : Host.Outcome State Fault Refusal :=
  fin (issue ln core 1 (boolTwo f max) s)

/-- BNOT (R125): A·0x3FFF − (c1 − t1 − D) + B_d + D. -/
def boolNot (f : Fields) (t : TCtx) : TRes := do
  boolFormat f (decide (ffld f 24 12 = 0) && decide (f.src2 = 0))
  let r1 := t.c.reg (fbit f 36) f.src1
  let xs ← checkAll t.p [regChk r1 t.d]
  needBools ([regChk r1 t.d].zip xs)
  let w := multA t.p * 0x3FFF - (r1.c.toInt - r1.tag.toNat - t.d) + (fbd f).toNat + t.d
  let ys ← checkAll t.p [⟨w, fbd f, t.d, 0⟩]
  return (t.L, (t.c.writeReg (fbit f 37) f.dst (BitVec.ofInt 64 w) (fbd f) (ys.headD 0)).next)

/-- BNOT (R125). -/
def execBnot (ln : LaneId) (core : CoreId) (f : Fields) (s : State) : Host.Outcome State Fault Refusal :=
  fin (issue ln core 1 (boolNot f) s)

/-- BSEL (R126, R127): COND in OPND[34:32] selects SRC1 or SRC2; every P register read is a boolean, and so is
what enters a P register. -/
def boolSel (f : Fields) (t : TCtx) : TRes := do
  boolFormat f (decide (ffld f 24 8 = 0))
  let r1 := t.c.reg (fbit f 36) f.src1
  let r2 := t.c.reg (fbit f 35) f.src2
  let rc := Tbl.get ({} : VReg) t.c.p (ffld f 32 3)
  let xs ← checkAll t.p [regChk r1 t.d, regChk r2 t.d, regChk rc t.d]
  let x1 := xs.headD 0
  let x2 := xs.getD 1 0
  let xc := xs.getD 2 0
  let x := if xc = vTrue then x1 else x2
  needBools ((if fbit f 36 then [(regChk r1 t.d, x1)] else []) ++ (if fbit f 35 then [(regChk r2 t.d, x2)] else []) ++
    [(regChk rc t.d, xc)] ++
    (if fbit f 37 then [(⟨codeInt t.p x (fbd f) t.d, fbd f, t.d, 0⟩, x)] else []))
  return (t.L, (t.c.writeReg (fbit f 37) f.dst (encodeWord t.p x (fbd f) t.d) (fbd f) x).next)

/-- BSEL (R126). -/
def execBsel (ln : LaneId) (core : CoreId) (f : Fields) (s : State) : Host.Outcome State Fault Refusal :=
  fin (issue ln core 1 (boolSel f) s)

end Sys2Proof.Machine
end

