-- ==== Sys2Proof/Machine/TallyFlow.lean ====
section
/-! DEFINITION. Flow and pass control instructions (R141-R148). -/

namespace Sys2Proof.Machine

open Sys2Proof

/-- Closing index of the innermost open loop. -/
def Core.innerClose (c : Core) : Option Nat := c.loops.head?.map (·.close)

/-- Code length of the core's partition. -/
def TCtx.codeLen (t : TCtx) : Nat :=
  match t.L.part t.core with
  | none => 0
  | some h => h.codeLen

/-- The inner closing index bounds a target. -/
def innerOk (c : Core) (ok : Nat → Bool) : Bool :=
  match c.innerClose with
  | none => true
  | some k => ok k

/-- BRF (R141, R142): it branches on FALSE. -/
def brfOp (f : Fields) (t : TCtx) : TRes := do
  let always := fbit f 37
  let isP := fbit f 36
  let target := ffld f 0 18
  need [decide (ffld f 18 18 = 0), decide (f.dst = 0), decide (f.src2 = 0),
    if always then decide (f.src1 = 0) && !isP else (!isP || isPX f.src1),
    decide (t.c.pc < target), decide (target < t.codeLen), innerOk t.c (fun k => decide (target ≤ k))]
  if always then
    return (t.L, { t.c with pc := target })
  else
    let k := regChk (t.c.reg isP f.src1) t.d
    let xs ← checkAll t.p [k]
    needBools ([k].zip xs)
    if isTrue (xs.headD 0) then return (t.L, t.c.next) else return (t.L, { t.c with pc := target })

/-- BRF (R141). -/
def execBrf (ln : LaneId) (core : CoreId) (f : Fields) (s : State) : Host.Outcome State Fault Refusal :=
  fin (issue ln core 2 (brfOp f) s)

/-- LOOPN with INIT = 1 (R143, R145): open a loop and set its counter to 0. -/
def loopInit (f : Fields) (t : TCtx) : TRes := do
  let target := ffld f 0 18
  need [decide (ffld f 34 3 = 0), isPX f.dst, decide (f.src1 = 0), decide (f.src2 = 0),
    decide (t.c.pc < target), innerOk t.c (fun k => decide (target < k)),
    decide (t.c.loops.length < 4), !t.c.counts f.dst]
  let c := t.c.writeX f.dst 0
  return (t.L, Core.next { c with loops := ⟨t.c.pc + 1, target, f.dst.toNat, ffld f 18 16⟩ :: c.loops })

/-- LOOPN INIT (R143). -/
def execLoopnInit (ln : LaneId) (core : CoreId) (f : Fields) (s : State) : Host.Outcome State Fault Refusal :=
  fin (issue ln core 2 (loopInit f) s)

/-- LOOPN with INIT = 0 (R144, R145): count, and go back or pop. -/
def loopClose (f : Fields) (t : TCtx) : TRes := do
  need [decide (ffld f 34 3 = 0), isPX f.dst, decide (f.src1 = 0), decide (f.src2 = 0)]
  match t.c.loops with
  | [] => throw { cause := .opcode }
  | e :: rest =>
    need [decide (e.close = t.c.pc), decide (e.counter = f.dst.toNat), decide (e.bound = ffld f 18 16),
      decide (e.start = ffld f 0 18)]
    let xr := Tbl.get ({} : XReg) t.c.x f.dst.toNat
    if !xr.parityOk || !xr.written then throw { cause := .index }
    let n := xr.val.toInt + 1
    let c := t.c.writeX f.dst n
    if n ≤ e.bound then return (t.L, { c with pc := e.start })
    else return (t.L, Core.next { c with loops := rest })

/-- LOOPN close (R144). -/
def execLoopnClose (ln : LaneId) (core : CoreId) (f : Fields) (s : State) : Host.Outcome State Fault Refusal :=
  fin (issue ln core 2 (loopClose f) s)

/-- Every register field is 0. -/
def noRegs (f : Fields) : Bool := decide (f.dst = 0) && decide (f.src1 = 0) && decide (f.src2 = 0)

/-- CKPT (R104, R146). -/
def ckptOp (f : Fields) (t : TCtx) : TRes := do
  let k := ffld f 0 6
  let have_ := match t.L.part t.core with
    | none => 0
    | some h => h.ckpts
  need [noRegs f, decide (ffld f 6 32 = 0), decide (k < have_), t.c.loops.isEmpty]
  let slot := Tbl.get none t.c.ckptSlots k
  match t.p with
  | .p1 =>
    if slot.isSome then throw { cause := .ckpt }
    return (t.L, Core.next { t.c with ckptSlots := Tbl.set none t.c.ckptSlots k (some t.c.sg)
                                      ckptCount := t.c.ckptCount + 1 })
  | .p2 =>
    if slot ≠ some t.c.sg then throw { cause := .ckpt }
    return (t.L, Core.next { t.c with ckptCount := t.c.ckptCount + 1 })

/-- CKPT (R146). -/
def execCkpt (ln : LaneId) (core : CoreId) (f : Fields) (s : State) : Host.Outcome State Fault Refusal :=
  fin (issue ln core 12 (ckptOp f) s)

/-- SNAP (R147): the first of pass 1 in a cycle requests the trigger; in the same clk_t the lower partition is
the first. -/
def snapOp (f : Fields) (t : TCtx) : TRes := do
  need [noRegs f, decide (ffld f 16 22 = 0)]
  let me := (t.c.clk, t.core.idx, t.c.pc, ffld f 0 16)
  let first := match t.L.snapTally with
    | none => true
    | some o => decide (o.1 = t.c.clk) && decide (t.core.idx < o.2.1)
  match t.p with
  | .p1 =>
    if first then return ({ t.L with snapTally := some me, snapUnacked := true }, t.c.next)
    else return (t.L, t.c.next)
  | .p2 => return (t.L, t.c.next)

/-- SNAP (R147). -/
def execSnap (ln : LaneId) (core : CoreId) (f : Fields) (s : State) : Host.Outcome State Fault Refusal :=
  fin (issue ln core 2 (snapOp f) s)

/-- ENDP (R104, R105, R148): the route presentation code runs before it (R492); then the count is fed, SG handed
over and the core gated. -/
def endpOp (f : Fields) (t : TCtx) : TRes := do
  need [noRegs f, decide (f.opnd = 0), t.c.loops.isEmpty]
  let (L, c0) ← presentRun t
  match t.p with
  | .p1 =>
    let c := c0.feed 0x50 (c0.clk + 16 : Nat)
    return (L, { c with finalSg := c.sg, endp := true, running := false, ckptPass1 := c.ckptCount })
  | .p2 =>
    if c0.ckptCount ≠ c0.ckptPass1 then throw { cause := .ckpt, off := c0.clk - t.c.clk }
    let c := c0.feed 0x50 (c0.clk + 16 : Nat)
    return (L, { c with finalSg := c.sg, endp := true, running := false })

/-- ENDP (R148). -/
def execEndp (ln : LaneId) (core : CoreId) (f : Fields) (s : State) : Host.Outcome State Fault Refusal :=
  fin (issue ln core 16 (endpOp f) s)

/-! ## Opcode map (Table 4.1) -/

/-- Count and meaning of an instruction word; an undefined opcode or MODE is an OPCODE fault (R119, R133). -/
def opOf (w : U64) : Nat × (TCtx → TRes) :=
  let n := w.toNat
  let f : Fields := ⟨BitVec.ofNat 6 (n / 2 ^ 50), BitVec.ofNat 6 (n / 2 ^ 44), BitVec.ofNat 6 (n / 2 ^ 38),
    BitVec.ofNat 38 n⟩
  let bad : TCtx → TRes := fun _ => .error { cause := .opcode }
  match n / 2 ^ 56 with
  | 0x01 => (1, arithV f (fun c1 c2 t1 t2 d b => c1 + c2 - t1 - t2 - d + b))
  | 0x02 => (1, arithV f (fun c1 c2 t1 t2 d b => c1 - c2 - t1 + t2 + b + d))
  | 0x03 => (3, mulk f)
  | 0x08 => (2, compare f (fun a b => decide (a = b)))
  | 0x09 => (2, compare f (fun a b => decide (a ≠ b)))
  | 0x0A => (2, compare f (fun a b => decide (a < b)))
  | 0x0B => (2, compare f (fun a b => decide (a ≤ b)))
  | 0x10 => (1, boolTwo f min)
  | 0x11 => (1, boolTwo f max)
  | 0x12 => (1, boolNot f)
  | 0x13 => (1, boolSel f)
  | 0x20 => (2, load f (if fbit f 35 then .k else .l) true)
  | 0x21 => (2, storeTo f (if fbit f 35 then .k else .l) false false 1)
  | 0x22 => (2, load f (if fbit f 35 then .t else .e) true)
  | 0x23 => (3, storeTo f (if fbit f 35 then .t else .e) false false 2)
  | 0x24 => (3, load f .i false)
  | 0x25 => (3, storeTo f .o (fbit f 35) true 2)
  | 0x30 =>
    match ffld f 34 2 with
    | 0 => (2, tms f .start)
    | 1 => (2, tms f .restart)
    | 2 => (2, tms f .cancel)
    | _ => (2, bad)
  | 0x31 => (3, tmxOp f)
  | 0x32 => (3, edgeOp f)
  | 0x38 => (2, rrqOp f)
  | 0x40 => (2, brfOp f)
  | 0x41 => if fbit f 37 then (2, loopInit f) else (2, loopClose f)
  | 0x50 => (12, ckptOp f)
  | 0x51 => (2, snapOp f)
  | 0x5F => (16, endpOp f)
  | _ => (1, bad)

/-- Fetch the word at the core's PC and issue it. -/
def issueFetched (ln : LaneId) (core : CoreId) (s : State) : State :=
  let L := s.lane ln
  let o := opOf (Tbl.get 0 L.code (core.idx * 262144 + (L.cores.get core).pc))
  issue ln core o.1 o.2 s

end Sys2Proof.Machine
end

