-- ==== Sys2Proof/Machine/Cycle.lean ====
section
/-! DEFINITION. The lane's cycle from its tick to the end of PASS2 (chapter 2): the agreed tick, the wake, the
phase-start strobes and the budget check. -/

namespace Sys2Proof.Machine

open Sys2Proof

/-- The lane takes part in the cycle: it is IN-VOTE, or REJOINING with its transfer complete (R219). -/
def Lane.active (me : LaneId) (L : Lane) : Bool :=
  match L.views.get me with
  | .inVote => true
  | .rejoining => L.rejoin.framesDone
  | .outTest => false
  | .outFault => false
  | .laneOff => false

/-- The module states in which the lanes run the passes: all that run the cycle but STANDBY (R377). -/
def runsPasses (m : ModState) : Bool := runsCycle m && decide (m ≠ .standby)

/-- Lane 1 runs a captured cycle (R110). -/
def State.piloted (s : State) (ln : LaneId) : Bool := decide (ln = .l1) && s.pilot.isSome

/-! ## Tick alignment (R52, R54, R55, R376) -/

/-- Other lanes a lane sees IN-VOTE. -/
def Lane.peers (me : LaneId) (L : Lane) : List LaneId := me.others.filter (fun m => decide (L.views.get m = .inVote))

/-- How far a lane moves its next tick, in ns, from the marker offsets it holds (R52 step 3; a REJOINING lane
follows the mean of the voters). DESIGN CHOICE, log entry 84: where the marker of a peer it counts is missing the manual
gives no move, and the lane moves by 0. -/
def tickShift (me : LaneId) (L : Lane) : Int :=
  match L.peers me, L.views.get me with
  | [a, b], .inVote =>
    match L.theta.get a, L.theta.get b with
    | some x, some y => median3 0 x y
    | _, _ => 0
  | [a, b], .rejoining =>
    match L.theta.get a, L.theta.get b with
    | some x, some y => (x + y) / 2
    | _, _ => 0
  | [a], _ =>
    match L.theta.get a with
    | some x => x / 2
    | none => 0
  | _, _ => 0

/-- The move in STANDBY: the median of the three values φ, or the mean of two (R376). -/
def State.phiShift (s : State) : Int :=
  match s.voters.filterMap (fun ln => (s.lane ln).phi) with
  | [a, b, c] => median3 a b c
  | [a, b] => (a + b) / 2
  | [a] => a
  | _ => 0

/-- The rate trim in ppb that the last 16 corrections ask for: their mean over T_c (R52 step 4). DESIGN CHOICE, log entry
85: before 16 corrections are held the mean is over the number held so far. -/
def trimOf (tc : Nat) (cs : List Int) : Int := cs.sum * 1000000000 / ((cs.length : Int) * (tcNs tc : Nat))

/-- The trim that takes effect: limited to ±50 ppm (R52 step 4). -/
def limitTrim (x : Int) : Int := clampInt (-50000) 50000 x

/-- A lane's tick lies more than 0.25 µs from the median of the three IN-VOTE ticks after correction (`dist` is its
distance), or its trim would have to exceed ±50 ppm (R54). -/
def clockBad (me : LaneId) (L : Lane) (dist trim : Int) : Bool :=
  (decide ((L.peers me).length = 2) && !L.corrections.isEmpty &&
    (decide (250 < dist) || decide (dist < -250))) || decide (50000 < trim) || decide (trim < -50000)

/-- With two lanes IN-VOTE the ticks lie more than 0.5 µs apart (R55). -/
def ticksApart (me : LaneId) (L : Lane) : Bool :=
  match L.peers me with
  | [a] =>
    match L.theta.get a with
    | some x => decide (500 < x) || decide (x < -500)
    | none => false
  | _ => false

/-! ## The tick (R44, R56, R199) -/

/-- Everything a lane holds for one cycle only, cleared at its tick. A marker that came before the tick counts in the
cycle that starts (R52). -/
def Lane.clearCycle (L : Lane) : Lane :=
  { L with
    phase := .idle, pass := none, ovr := false, theta := L.thetaNext, thetaNext := ⟨none, none, none⟩, phi := none
    wakeRequested := false
    upA := [], upB := [], rx := ⟨[], []⟩, slValid := [], batch := none
    localViews := [], recs := ⟨[], [], []⟩, recsFrom := [], vectors := ⟨0, 0, 0⟩, leftOut := [], repairs := [], decided := false
    reportMsgs := [], reportCmds := [], agreedCmds := [], pendEvents := []
    consRecs := ⟨none, none, none⟩, committed := false, snapTally := none, updated := [], slChanged := [] }

/-- Latch the local bit vector and the own readings of fields 7-9 of the status frame (R199, R326, R480). -/
def Lane.latchInputs (L : Lane) (dead : Nat → Bool) (pf : Bool × Bool) : Lane :=
  { L with inp := { L.inp with
      latched := localVector L.localCfg L.inp dead
      latchedIn := BitVec.ofNat 3 ((if pf.1 then 1 else 0) + (if pf.2 then 2 else 0) +
        (if L.inp.commission.value then 4 else 0)) } }

/-- Level of a midpoint by its voltage: LOW below 6 V, HIGH above 18 V (R318). -/
def midLevel (mv : Nat) : Mid := if mv < 6000 then .low else if 18000 < mv then .high else .mid

/-- Midpoint of a pair by its upstream and downstream switch (closed?) and the terminal (Table 11.2); `none` where the
table gives no level. -/
def midTable : Bool → Bool → RawLevel → Option Mid
  | false, false, _ => some .mid
  | true, false, _ => some .high
  | false, true, .off => some .low
  | false, true, .on => some .high
  | true, true, .on => some .high
  | false, true, .between => none
  | true, true, .off => none
  | true, true, .between => none

/-- SWITCH_CLOSED reports of a lane (R319): channel, pair and the lane reported. -/
def switchReports (me : LaneId) (L : Lane) (mids : List (Nat × Nat × Mid)) : List (LogClass × EventName × List Int) :=
  mids.filterMap (fun e =>
    let ends : Option (LaneId × LaneId) := match e.2.1 with
      | 0 => some (.l1, .l2) | 1 => some (.l2, .l3) | 2 => some (.l1, .l3) | _ => none
    match ends, e.2.2 with
    | some (a, b), lv =>
      if L.vec.getLsbD e.1 || !(decide (a = me) || decide (b = me)) || !decide (e.1 < 52) then none
      else match lv with
        | .high => some (LogClass.warn, EventName.switchClosed, [((e.1 : Nat) : Int), (e.2.1 : Nat), (a.num : Nat)])
        | .low => some (LogClass.warn, EventName.switchClosed, [((e.1 : Nat) : Int), (e.2.1 : Nat), (b.num : Nat)])
        | .mid => none
    | none, _ => none)

/-- The tick of one lane. In STANDBY it moves by the far tick (R376); its distance from the other lanes' ticks is judged
in every state (R54, R55). -/
def State.tickLane (s : State) (ln : LaneId) (mids : List (Nat × Nat × Nat)) : State :=
  let L := s.lane ln
  let dist := tickShift ln L
  let shift := if s.module = .standby then s.phiShift else dist
  let cs := (shift :: L.corrections).take 16
  let trim := trimOf (tcOf L.image) cs
  let votes := decide (L.views.get ln = .inVote)
  let stuck := switchReports ln L (mids.map (fun e => (e.1, e.2.1, midLevel e.2.2)))
  let L1 := { (L.clearCycle.latchInputs s.dead s.power.pfOk) with
    cn := L.cn + 1, corrections := cs, trim := limitTrim trim, tickMove := shift, stuckShown := stuck.map (·.2.2)
    strobeCn := if votes then some (L.cn + 1) else none }
  let s1 := (s.putLane ln L1).raiseLaneAll ln stuck
  if votes && clockBad ln L dist trim then s1.exclude ln .clock
  else if votes && ticksApart ln L then s1.loseVote else s1

/-- AGREED_TICK (R44). -/
def execAgreedTick (ln : LaneId) (t : Nat) (mids : List (Nat × Nat × Nat)) (s : State) :
    Host.Outcome State Fault Refusal :=
  let s0 := s.touch t
  match runsCycle s0.module, s0.laneState ln with
  | true, .inVote => fin (s0.tickLane ln mids)
  | true, .rejoining => fin (s0.tickLane ln mids)
  | _, _ => fin s0

/-- TICK_MARKER_RX (R52): a peer's marker gives its offset, less the latency of the link. One that arrives before the
lane's own tick is held for it. -/
def execTickMarkerRx (ln src : LaneId) (rx : Int) (s : State) : Host.Outcome State Fault Refusal :=
  let L := s.lane ln
  let up := match linkOf ln src with
    | some l => s.clxOk.link l
    | none => false
  if up && runsCycle s.module && decide (s.laneState src = .inVote) then
    let x := some (rx - L.latency.get src)
    ok (s.putLane ln (if rx < 0 then { L with thetaNext := L.thetaNext.set src x }
                      else { L with theta := L.theta.set src x }))
  else ok s

/-! ## Wake (R58, R59) -/

/-- WAKE_REQUEST (R59). -/
def execWakeRequest (ln : LaneId) (s : State) : Host.Outcome State Fault Refusal :=
  if (s.lane ln).active ln && runsPasses s.module then
    ok (s.updLane ln (fun L => { L with wakeRequested := true }))
  else ok s

/-- WAKE_DEADLINE (R59): a gate that has not acknowledged is a clock fault. -/
def execWakeDeadline (ln : LaneId) (coresAck reAck : Bool) (s : State) : Host.Outcome State Fault Refusal :=
  if (s.lane ln).wakeRequested && !(coresAck && reAck) then
    fin ((s.raiseLane ln .fault .wakeFault [ln.num]).exclude ln .clock)
  else fin s

/-! ## Passes (R58, R77, R102, R104, R193) -/

/-- A core at the phase-start strobe. -/
def startCore (L : Lane) (p : Pass) (id : CoreId) : Core :=
  let old := L.cores.get id
  if (L.part id).isSome then
    { sg := BitVec.ofNat 64 (L.cn.toNat * 2 ^ 32 + 0xA5A0 + id.idx)
      running := true
      ckptSlots := match p with
        | .p1 => []
        | .p2 => old.ckptSlots
      ckptPass1 := match p with
        | .p1 => 0
        | .p2 => old.ckptPass1 }
  else {}

/-- Start a pass: registers, signatures and the route engine's queue. -/
def Lane.startPass (L : Lane) (p : Pass) : Lane :=
  { L with
    phase := match p with
      | .p1 => .pass1
      | .p2 => .pass2
    pass := some p
    cores := ⟨startCore L p .c0, startCore L p .c1, startCore L p .c2, startCore L p .c3⟩
    route := { sg := BitVec.ofNat 64 (L.cn.toNat * 2 ^ 32 + 0xA5A4) } }

/-- The lane's pass signature over one pass (R105). -/
def passSig (L : Lane) : U64 :=
  let cs := CoreId.all.filter (fun c => (L.part c).isSome)
  crc64Word (cs.foldl (fun a c => crc64Word a (L.cores.get c).finalSg) 0) L.route.sg

/-- Close the signature of the running pass in CE0 or CE1 (R105). -/
def Lane.closePass (L : Lane) : Lane :=
  let v := passSig L
  match L.pass with
  | some .p1 => { L with sig1 := v, ces := Tbl.upd {} L.ces 0 (fun e => { e with value := v }) }
  | some .p2 => { L with sig2 := v, ces := Tbl.upd {} L.ces 1 (fun e => { e with value := v }) }
  | none => L

/-- The lane has agreed the inputs of its cycle and not yet started PASS1. -/
def Lane.readyForPass1 (L : Lane) : Bool := decide (L.phase = .pAgree) && L.decided && L.repairs.isEmpty

/-- Lane 1 leaves the vote with cause PILOT before PASS1 of the cycle it captures (R110). -/
def State.capture (s : State) : State :=
  let L := s.lane .l1
  let s1 := s.mapLanes (fun m M =>
    if m = .l1 then
      { (M.gate.openAll) with views := M.views.set .l1 .outTest, cause := .pilot, committed := false, minorityRun := 0
                              strobeCn := none }
    else { M.openPair m .l1 with views := M.views.set .l1 .outTest })
  { s1 with pilotDue := false, pilot := some { capturedCn := L.cn, cores0 := L.cores, route0 := L.route, sup0 := L.sup } }

/-- PASS1_START (R77). A session that waits captures the cycle here (R110). A lane whose repairs have not all arrived cannot write its frames and excludes itself with
cause AGREE (R203). -/
def execPass1Start (ln : LaneId) (s : State) : Host.Outcome State Fault Refusal :=
  let s0 := if s.pilotDue && decide (ln = .l1) && s.votes .l1 && (s.lane ln).readyForPass1 then s.capture else s
  let L := s0.lane ln
  if (L.active ln && runsPasses s0.module || s0.piloted ln) && decide (L.phase = .pAgree) && L.decided then
    if L.repairs.isEmpty then fin (s0.putLane ln (L.startPass .p1)) else fin (s0.excludeAgreed ln .agree)
  else fin s0

/-- PASS2_START (R42, R64): not after an overrun in PASS1. -/
def execPass2Start (ln : LaneId) (s : State) : Host.Outcome State Fault Refusal :=
  let L := s.lane ln
  if (L.active ln || s.piloted ln) && decide (L.phase = .pass1) && !L.ovr then
    fin (s.putLane ln (L.closePass.startPass .p2))
  else fin s

/-- A core has not raised its flag by pass start + B (R63). -/
def coreLate (L : Lane) (c : CoreId) : Bool :=
  (L.part c).isSome && (!(L.cores.get c).endp || decide (budget (tcOf L.image) < (L.cores.get c).clk))

/-- The route engine has not drained by pass start + B: its drained flag rises in the clk_t after the last evaluation
(R63, Table 4.17). -/
def engineLate (L : Lane) : Bool := !L.route.queue.isEmpty || decide (budget (tcOf L.image) ≤ L.route.busyUntil)

/-- A core or the route engine has not raised its flag by pass start + B (R63). -/
def overrunNow (L : Lane) : Bool := CoreId.all.any (coreLate L) || engineLate L

/-- Partitions that ran longer than their stated W but reached ENDP within B (R63). -/
def overBudget (L : Lane) : List (LogClass × EventName × List Int) :=
  CoreId.all.filterMap (fun c =>
    match L.part c with
    | none => none
    | some h =>
      if h.w < (L.cores.get c).clk ∧ !coreLate L c then
        some (LogClass.warn, EventName.budgetExceeded, [((c.idx : Nat) : Int), ((L.cores.get c).clk : Nat)])
      else none)

/-- PASS_BUDGET_CHECK (R63, R64). In a Pilot session the budget is not enforced (R110). -/
def execPassBudgetCheck (ln : LaneId) (s : State) : Host.Outcome State Fault Refusal :=
  let L := s.lane ln
  match L.pass, s.piloted ln with
  | some _, false =>
    let L1 := if overrunNow L then { L.gate with ovr := true, phase := .waitCons } else L.closePass.gate
    fin ((s.putLane ln L1).raiseLaneAll ln (overBudget L))
  | _, _ => fin s

end Sys2Proof.Machine
end

