-- ==== Sys2Proof/Machine/Carry.lean ====
section
/-! DEFINITION. Cold start values and the carry-over of Table 14.6 (R404, R162, R412, R413): what every word of a new
image starts with. -/

namespace Sys2Proof.Machine

open Sys2Proof

/-! ## Cold start (R404, R162) -/

/-- Cold start value of an element word that no read-only word of the manifest gives (Tables 5.2-5.7). -/
def coldElem (t : Option ElemType) (w : Nat) (x : Int) : Int :=
  match w with
  | 3 => 15
  | 4 => vFalse
  | 5 => vFalse
  | 6 => vTrue
  | 7 => -1
  | _ =>
    match t, w with
    | some .sect, 8 => vFalse
    | some .sect, 9 => 0
    | some .sect, 11 => -1
    | some .sect, 12 => -1
    | some .sect, 13 => 0
    | some .point, 8 => 0
    | some .point, 9 => 0
    | some .point, 11 => -1
    | some .point, 12 => 0
    | some .point, 13 => 0
    | some .point, 14 => 0
    | some .signal, 8 => 0
    | some .signal, 9 => vFalse
    | some .signal, 10 => -1
    | some .signal, 11 => -1
    | some .signal, 12 => 0
    | some .crossing, 8 => vFalse
    | some .crossing, 9 => 0
    | some .crossing, 11 => 0
    | some .esPair, 8 => vFalse
    | some .esPair, 9 => vFalse
    | some .esPair, 10 => 0
    | _, _ => x

/-- Cold start value of a configured word of an image. -/
def coldX (b : ManBody) (key : Nat) (w : WordCfg) : Int :=
  let a := keyAddr key
  match spaceOf key with
  | some .m => if a < 32768 then 0 else vFalse
  | some .t => if a < 65536 ∧ (a % 8 = 0 ∨ 5 ≤ a % 8) then 0 else w.x
  | some .e => if w.owner = 7 then w.x else coldElem (imgType b (a / 16)) (a % 16) w.x
  | some .l => w.x
  | some .i => w.x
  | some .o => w.x
  | some .k => w.x
  | none => w.x

/-- Words of an image with their values by a rule. -/
def withX (b : ManBody) (f : Nat → WordCfg → Int) : Tbl WordCfg :=
  b.words.map (fun (e : Nat × WordCfg) => (e.1, { e.2 with x := f e.1 e.2 }))

/-! ## Carry-over (R412, Table 14.6) -/

/-- What a carry-over starts from: the plain value of each word under the old image. -/
structure OldVals where
  body : ManBody
  get : Nat → Int

/-- An element word of the new image. -/
def carryElem (o : OldVals) (new : ManBody) (key : Nat) (w : WordCfg) : Int :=
  let id := keyAddr key / 16
  let i := keyAddr key % 16
  if w.owner = 7 then w.x
  else if (imgType o.body id).isSome ∧ imgType o.body id = imgType new id ∧ imgHas o.body key then
    if imgX o.body (keyE id 1) ≠ imgX new (keyE id 1) then
      (if i = 5 then vFalse
       else if (i = 9 ∧ imgType new id = some .sect) ∨ (i = 14 ∧ imgType new id = some .point) then 0
       else o.get key)
    else o.get key
  else coldX new key w

/-- A route or pool word of the new image. -/
def carryRoute (o : OldVals) (new : ManBody) (key : Nat) (w : WordCfg) : Int :=
  let r := keyAddr key / 8
  if w.owner = 7 ∨ 65536 ≤ keyAddr key then w.x
  else if imgHas o.body (keyRoute r 0) ∧ routeDigest o.body r = routeDigest new r then o.get key
  else coldX new key w

/-- Declared duration of a timer. -/
def durationOf (b : ManBody) (n : Nat) : Option Nat :=
  (b.timers.find? (fun (e : Nat × Nat) => decide (e.1 = n))).map (fun (e : Nat × Nat) => e.2)

/-- A timer word or a detector of the new image. -/
def carryTimer (o : OldVals) (new : ManBody) (key : Nat) : Int :=
  let a := keyAddr key
  if a < 32768 then
    match durationOf o.body (a / 2), durationOf new (a / 2) with
    | some d0, some d1 =>
      if a % 2 = 1 ∧ o.get (key - 1) = 1 then cnInt (BitVec.ofInt 32 (o.get key) + BitVec.ofNat 32 (d1 - d0))
      else o.get key
    | _, _ => 0
  else if o.body.edges.contains (a - 32768) then o.get key else vFalse

/-- An L word of the new image: by its persistent variable ID, with the same declared type. -/
def carryVar (o : OldVals) (w : WordCfg) : Int :=
  match w.varId with
  | none => w.x
  | some v =>
    match o.body.words.find? (fun (e : Nat × WordCfg) =>
        decide (spaceOf e.1 = some .l) && decide (e.2.varId = some v) && decide (e.2.kind = w.kind)) with
    | none => w.x
    | some e => o.get e.1

/-- Value of a word of the new image. An O word that both images configure keeps its value (log entry 23). -/
def carryX (o : OldVals) (new : ManBody) (key : Nat) (w : WordCfg) : Int :=
  match spaceOf key with
  | some .l => carryVar o w
  | some .e => carryElem o new key w
  | some .t => carryRoute o new key w
  | some .m => carryTimer o new key
  | some .o => if imgHas o.body key then o.get key else w.x
  | some .i => w.x
  | some .k => w.x
  | none => w.x

/-- Frames of a manifest: controllers and safe-link messages. -/
def manFrames (m : Manifest) : List Nat :=
  m.body.ctrls.map (fun (e : Nat × CtrlCfg) => e.1) ++ (inMsgs m).map (fun e => e.2.2.frame)

/-- I frames as they start (R280, R303): AGE 15, F 1 and restrictive fields, for the frames chosen. -/
def Sup.startFrames (u : Sup) (m : Manifest) (p : Nat → Bool) : Sup :=
  ((manFrames m).filter p).foldl (fun (u : Sup) f => u.setFrame f 31 (restFields ((frameFields m f).getD []))) u

/-- The supervisor's frames at a switch: kept, but for a safe-link frame whose field map changes and a frame that is new. -/
def Sup.carry (u : Sup) (old new : Manifest) : Sup :=
  u.startFrames new (fun f =>
    if f < 4096 then (frameFields old f).isNone else decide (frameFields old f ≠ frameFields new f))

/-- A lane runs an image whose words have the values given, with every dated word under its CN (R150). -/
def Lane.runImage (L : Lane) (m : Manifest) (ws : Tbl WordCfg) : Lane :=
  { L with
    image := some m, code := m.body.code, sigs := imageSigs ws
    copy1 := imageCopy .p1 L.cn ws, copy2 := imageCopy .p2 L.cn ws
    eccCopy1 := [], eccCopy2 := [], eccSig := [], eccCode := [], eccSoft := []
    journal := [], supUndo := [], sweep := 0 }

/-- The switch of a lane (R410, R412): the new image with the carried values. -/
def Lane.switchTo (L : Lane) (new : Manifest) : Lane :=
  match L.image with
  | none => L
  | some old =>
    let L1 := L.runImage new (withX new.body (carryX ⟨old.body, L.plain⟩ new.body))
    Lane.codeFrames { L1 with sup := L.sup.carry old new, supC := L.supC.carry old new }

/-- The switch writes the configuration record with ACTIVE_MAN at the new slot (R410). -/
def Lane.activateTarget (L : Lane) : Lane :=
  { L with flash := L.flash.putCfg (fun r => { r with activeMan := some r.target, pending := 0 }) }

end Sys2Proof.Machine
end

