-- ==== Sys2Proof/Machine/Net.lean ====
section
/-! DEFINITION. Uplink frames as bytes: Ethernet with the VLAN tag, the PRP redundancy control trailer, ARP, IPv4, ICMP and
UDP (R287, R288, R291). The layouts are those of the standards the manual names; log entry 118. -/

namespace Sys2Proof.Machine

open Sys2Proof

/-! ## Checksums -/

/-- Sum of the 16-bit words of a byte string, padded with a zero byte. -/
def sumWords : List Byte → Nat
  | [] => 0
  | [a] => a.toNat * 256
  | a :: b :: r => a.toNat * 256 + b.toNat + sumWords r

/-- The Internet checksum: complement of the one's complement sum. Over bytes that hold their own checksum it is 0. -/
def inetSum (bs : List Byte) : Nat :=
  let s := sumWords bs
  if s = 0 then 65535 else 65535 - ((s - 1) % 65535 + 1)

/-! ## Ethernet and the redundancy control trailer (R287, R291) -/

/-- EtherTypes on the uplinks. -/
def etherIpv4 : Nat := 0x0800
def etherArp : Nat := 0x0806
def etherVlan : Nat := 0x8100
def etherPtp : Nat := 0x88F7
def etherPrp : Nat := 0x88FB

/-- Destinations of PTP frames (Table 10.5) and of PRP supervision frames. -/
def ptpDestination : U48 := 0x0180C200000E
def prpDestination : U48 := 0x01154E000100

/-- A received frame: addresses, VLAN identifier of its tag, EtherType, payload without the trailer, and sequence number and
LAN identifier of the trailer. -/
structure NetFrame where
  dst : U48
  src : U48
  vlan : Option Nat
  etherType : Nat
  body : List Byte
  rct : Option (Nat × Nat)
deriving DecidableEq, Repr

/-- The trailer at the end of a payload: the suffix and the size agree. -/
def rctOf (p : List Byte) : Option (Nat × Nat) :=
  let n := p.length
  if 6 ≤ n ∧ beAt p (n - 2) 2 = etherPrp ∧ beAt p (n - 4) 2 % 4096 = n then
    some (beAt p (n - 6) 2, beAt p (n - 4) 2 / 4096)
  else none

/-- A frame by its bytes; `none` for a bad FCS or a length that no Ethernet frame has. -/
def netOpen (f : List Byte) : Option NetFrame :=
  let n := f.length
  if 64 ≤ n ∧ n ≤ 1522 ∧ f.drop (n - 4) = frameFcs (f.take (n - 4)) then
    let tagged := decide (beAt f 12 2 = etherVlan)
    let h := if tagged then 18 else 14
    let p := slice f h (n - h - 4)
    let r := rctOf p
    some { dst := BitVec.ofNat 48 (beAt f 0 6), src := BitVec.ofNat 48 (beAt f 6 6)
           vlan := if tagged then some (beAt f 14 2 % 4096) else none, etherType := beAt f (h - 2) 2
           body := if r.isSome then p.take (p.length - 6) else p, rct := r }
  else none

/-- A group address. -/
def isGroup (a : U48) : Bool := a.getLsbD 40

/-- A frame with FCS around a payload that is padded to the shortest frame. -/
def netFrame (dst src : U48) (vlan : Option Nat) (etherType : Nat) (p : List Byte) : List Byte :=
  let tag := match vlan with
    | none => []
    | some v => beBytes 2 etherVlan ++ beBytes 2 (v % 4096)
  let bs := beBytes 6 dst.toNat ++ beBytes 6 src.toNat ++ tag ++ beBytes 2 etherType ++ padTo 46 p
  bs ++ frameFcs bs

/-- A payload with its trailer: sequence number, LAN identifier 0xA or 0xB, size and suffix. -/
def withRct (seq : Nat) (lanB : Bool) (p : List Byte) : List Byte :=
  let q := padTo 40 p
  q ++ beBytes 2 seq ++ beBytes 2 ((if lanB then 0xB else 0xA) * 4096 + (q.length + 6) % 4096) ++ beBytes 2 etherPrp

/-! ## IPv4, UDP and ICMP -/

/-- An IPv4 datagram. -/
structure IpPacket where
  src : U32
  dst : U32
  proto : Nat
  /-- No options, and DF set. -/
  plain : Bool
  fragment : Bool
  data : List Byte
deriving DecidableEq, Repr

/-- A datagram by its bytes; `none` for another version, a bad length or a bad header checksum. -/
def ipOpen (p : List Byte) : Option IpPacket :=
  let h := beAt p 0 1 % 16 * 4
  let n := beAt p 2 2
  if beAt p 0 1 / 16 = 4 ∧ 20 ≤ h ∧ h ≤ n ∧ n ≤ p.length ∧ inetSum (p.take h) = 0 then
    some { src := BitVec.ofNat 32 (beAt p 12 4), dst := BitVec.ofNat 32 (beAt p 16 4), proto := beAt p 9 1
           plain := decide (h = 20) && bitAt p 49, fragment := bitAt p 50 || decide (beAt p 6 2 % 8192 ≠ 0)
           data := slice p h (n - h) }
  else none

/-- A datagram with a header of 20 bytes, DF set (R291). -/
def ipPacket (src dst : U32) (proto : Nat) (data : List Byte) : List Byte :=
  let head (sum : Nat) : List Byte :=
    beBytes 1 0x45 ++ beBytes 1 0 ++ beBytes 2 (20 + data.length) ++ beBytes 2 0 ++ beBytes 2 0x4000 ++ beBytes 1 64 ++
    beBytes 1 proto ++ beBytes 2 sum ++ beBytes 4 src.toNat ++ beBytes 4 dst.toNat
  head (inetSum (head 0)) ++ data

/-- The pseudo header of a UDP checksum. -/
def udpPseudo (src dst : U32) (n : Nat) : List Byte :=
  beBytes 4 src.toNat ++ beBytes 4 dst.toNat ++ beBytes 2 17 ++ beBytes 2 n

/-- Destination port and payload of a UDP datagram; `none` for a bad length, or a checksum that is absent or wrong. -/
def udpOpen (k : IpPacket) : Option (Nat × List Byte) :=
  let n := beAt k.data 4 2
  if 8 ≤ n ∧ n = k.data.length ∧ beAt k.data 6 2 ≠ 0 ∧ inetSum (udpPseudo k.src k.dst n ++ k.data) = 0 then
    some (beAt k.data 2 2, k.data.drop 8)
  else none

/-- A UDP datagram between two stations that use one port (R292), its checksum computed. -/
def udpPacket (src dst : U32) (port : Nat) (data : List Byte) : List Byte :=
  let n := 8 + data.length
  let head (sum : Nat) : List Byte := beBytes 2 port ++ beBytes 2 port ++ beBytes 2 n ++ beBytes 2 sum
  let sum := inetSum (udpPseudo src dst n ++ head 0 ++ data)
  ipPacket src dst 17 (head (if sum = 0 then 65535 else sum) ++ data)

/-- The ICMP message is an echo request with a good checksum. -/
def isEcho (d : List Byte) : Bool := decide (8 ≤ d.length) && decide (beAt d 0 2 = 0x0800) && decide (inetSum d = 0)

/-- The echo reply to a request. -/
def echoReply (d : List Byte) : List Byte :=
  let m (sum : Nat) : List Byte := beBytes 2 0 ++ beBytes 2 sum ++ d.drop 4
  m (inetSum (m 0))

/-! ## ARP -/

/-- An ARP message for IPv4 over Ethernet: operation, sender, and target IPv4 address. -/
def arpOpen (p : List Byte) : Option (Nat × U48 × U32 × U32) :=
  if 28 ≤ p.length ∧ beAt p 0 6 = 0x000108000604 then
    some (beAt p 6 2, BitVec.ofNat 48 (beAt p 8 6), BitVec.ofNat 32 (beAt p 14 4), BitVec.ofNat 32 (beAt p 24 4))
  else none

/-- The reply of a station to an ARP request. -/
def arpReply (mac : U48) (ip : U32) (dst : U48) (dstIp : U32) : List Byte :=
  beBytes 6 0x000108000604 ++ beBytes 2 2 ++ beBytes 6 mac.toNat ++ beBytes 4 ip.toNat ++ beBytes 6 dst.toNat ++
  beBytes 4 dstIp.toNat

/-- A PRP supervision message of a station in duplicate discard mode. -/
def prpSupervision (mac : U48) (seq : Nat) : List Byte :=
  beBytes 2 1 ++ beBytes 2 seq ++ beBytes 2 0x1406 ++ beBytes 6 mac.toNat ++ beBytes 2 0

/-! ## What a frame is (R288, R289) -/

/-- A safe-link frame on its way to any station, as the bridge knows it: UDP with a PDU of VERSION 0x01 and TYPE 0x20. -/
def carriesPdu (e : NetFrame) : Bool :=
  decide (e.etherType = etherIpv4) &&
  (match ipOpen e.body with
    | none => false
    | some k => decide (k.proto = 17) && decide (k.data.length = 204) && decide (beAt k.data 8 2 = 0x0120))

/-- Message type of a PTP frame; 16 for any other frame. -/
def ptpType (e : NetFrame) : Nat := if e.etherType = etherPtp then beAt e.body 0 1 % 16 else 16

/-- Traffic class of a frame (R289): 0 PTP event frames, 1 safe-link frames, 2 all others. -/
def netClass (e : NetFrame) : Nat := if ptpType e < 4 then 0 else if carriesPdu e then 1 else 2

/-- The bridge passes a frame on: not a Pdelay message, and not a Sync, which the transparent clock forwards (R309). -/
def netPasses (e : NetFrame) : Bool :=
  decide (ptpType e ≠ 0) && decide (ptpType e ≠ 2) && decide (ptpType e ≠ 3) && decide (ptpType e ≠ 10)

end Sys2Proof.Machine
end

