-- ==== Sys2Proof/Machine/SelfTest.lean ====
section
/-! DEFINITION. The start of the shutdown self-test, which a planned shutdown reaches from several places (R439, R440,
R442). -/

namespace Sys2Proof.Machine

open Sys2Proof

/-- A lane stops for the self-test: its cores are gated, its switches open (R478). -/
def Lane.stopForTest (me : LaneId) (L : Lane) : Lane :=
  match L.views.get me with
  | .laneOff => L
  | .inVote =>
    { (L.retain.gate.openAll) with views := L.views.set me .outTest, cause := .shutdown, phase := .idle, rejoin := {}
                                   committed := false, minorityRun := 0 }
  | .outTest => { (L.gate.openAll) with cause := .shutdown, phase := .idle }
  | .outFault =>
    { (L.gate.openAll) with views := L.views.set me .outTest, cause := .shutdown, phase := .idle, faultAt := none }
  | .rejoining =>
    { (L.gate.openAll) with views := L.views.set me .outTest, cause := .shutdown, phase := .idle, rejoin := {} }

/-- Items a unit runs, in order (Table 15.7). -/
def unitItems (unit : Nat) : List Nat :=
  match unit with
  | 0 => [1, 2, 3, 4, 5, 6, 7, 8, 9, 10]
  | 1 => [1, 2, 3, 4, 5, 6, 7, 8, 9]
  | 2 => [1, 2, 3, 4, 5, 6, 7, 8, 9]
  | 3 => [1, 11, 12]
  | 4 => [1, 11, 12]
  | 5 => [1, 13, 14, 15, 16, 17, 18, 19]
  | _ => []

/-- A unit has the power to run its items; a plane chip that a mark holds off is switched on for them (R447). -/
def State.unitOn (s : State) (unit : Nat) : Bool :=
  match unit with
  | 0 => s.power.pg.getLsbD 3 && s.power.pg.getLsbD 6
  | 1 => s.power.pg.getLsbD 4 && s.power.pg.getLsbD 7
  | 2 => s.power.pg.getLsbD 5 && s.power.pg.getLsbD 8
  | 3 => s.power.pg.getLsbD 9 || s.marked (.plane .a)
  | 4 => s.power.pg.getLsbD 10 || s.marked (.plane .b)
  | 5 => s.power.pg.getLsbD 2
  | _ => false

/-- The units of the self-test. -/
def bistUnits : List Nat := List.range 6

/-- The BIST starts: the lanes IN-VOTE write their retention records, every lane that is not LANE-OFF is OUT-TEST with
cause SHUTDOWN, and every powered unit has its items to run. -/
def State.beginBist (s : State) : State :=
  let s1 := (s.dropTest.mapLanes Lane.stopForTest).shareViews
  { s1 with
    bist := { s1.bist with
      running := true, ready := false, shutdownDue := false, full := true, newMarks := []
      left := Tbl.ofList [] ((bistUnits.filter s1.unitOn).map (fun u => (u, unitItems u))) }
    change := { s1.change with switchCn := none, staged := none }
    skippedCn := none
    planes := s1.planes.map (fun p => { p with sending := false, coldNext := false }) }

/-- A planned shutdown that waited for the module to stop commanding goes on (R439). -/
def State.shutdownGoesOn (s : State) : State := if s.bist.shutdownDue then s.beginBist else s

end Sys2Proof.Machine
end

