-- ==== Sys2Proof/Machine/ModuleOps.lean ====
section
/-! DEFINITION. What several chapters share about the module as a whole: the claim, entry to STANDBY, the end of a
Pilot session, a damaged exchange, the modes of the Wharf bus and the front panel lamps. -/

namespace Sys2Proof.Machine

open Sys2Proof

/-! ## The claim (R369, R386) -/

/-- The module holds the claim: always so on a single module (Table 17.5a, field 10). -/
def State.claimHolder (s : State) : Bool := !s.pair.variantP || s.pair.holder

/-- The partner's STATUS shows READY on either hawser port (Table 17.5a, field 11). -/
def State.partnerReady (s : State) : Bool :=
  s.pair.variantP && ((s.pair.status.a.any (·.ready)) || (s.pair.status.b.any (·.ready)))

/-- The module as the lanes agree it at a P-CONS (R480). -/
def State.consView (s : State) : AtCons where
  module := s.module
  votes := s.voters.length
  rollbackHold := s.pair.rollbackHold
  holder := s.claimHolder
  partnerReady := s.partnerReady

/-- Keep what a P-CONS agreed; a start and a takeover count as one (log entry 83). -/
def State.noteCons (s : State) : State := { s with atCons := s.consView }

/-- A STATUS of the partner, of the port that delivered one. -/
def State.partner (s : State) : Option HwStatus := s.pair.status.a.or s.pair.status.b

/-- SITE of the running manifest; 0 on the factory image. -/
def State.site (s : State) : U64 :=
  match s.man with
  | none => 0
  | some m => m.hdr.site

/-- A new claim, stored with the site in every lane whose LnI domain is powered (R369). -/
def State.setClaim (s : State) (clm : U32) : State :=
  let s1 := s.mapLanes (fun ln L =>
    if L.views.get ln = .laneOff then L
    else { L with flash := { L.flash with claim := clm, claimSite := s.site } })
  { s1 with pair := { s1.pair with clm := clm } }

/-! ## Pilot (R114) -/

/-- The session ends, and Lane 1 rejoins (R114). -/
def State.endPilot (s : State) : State :=
  let s1 := s.dropPilot
  if s.pilot.isSome ∧ s1.laneState .l1 = .outTest then s1.startRejoin .l1 else s1

/-- A session ends where its conditions no longer hold: outside TEST, with the COMMISSION key open, or with fewer
than two of Lanes 2 and 3 IN-VOTE (R114). -/
def State.checkPilot (s : State) : State :=
  if (s.pilot.isSome ∨ s.pilotDue) ∧ (s.module ≠ .test ∨ !s.keyClosed ∨ !(s.votes .l2 && s.votes .l3)) then s.endPilot
  else s

/-! ## STANDBY and the loss of the claim (R384, R386, R391) -/

/-- Entry to STANDBY with a claim and a copy state: the planes send nothing (Table 0.4). A planned shutdown that waited
for the handover goes on (R439). -/
def State.enterStandby (s : State) (clm : U32) (c : CopyState) : State :=
  let s1 := ((s.setModule .standby).setClaim clm).checkPilot
  State.shutdownGoesOn { s1 with
    pair := { s1.pair with holder := false, copy := c, transferNext := false, rollbackHold := false, copyHdr := none
                           lastAccepted := false, transferSeen := false, holderDownAt := none, listenUntil := none }
    planes := s1.planes.map (fun p => { p with
      sending := false, running := false, stop := (if p.stop = .clock then .clock else .standby), coldNext := false
      farTick := none })
    uplink := { s1.uplink with launchHeld := [] } }

/-- CLAIM_LOST (R386): another module's later claim takes the site. -/
def State.loseClaim (s : State) (other : U32) : State :=
  if s.pair.variantP ∧ commandsNet s.module then
    (s.raiseModule .fault .claimLost [other.toNat]).enterStandby (other - 1) (.resync 0)
  else s

/-- Entry to CLOSED from a state that commands: Quayline stops; a planned shutdown goes on (R476, R439). -/
def State.closeModule (s : State) : State :=
  let s1 := (s.setModule .closed).checkPilot
  State.shutdownGoesOn { s1 with
    pair := { s1.pair with holder := false, listenUntil := none, transferNext := false, rollbackHold := false }
    planes := s1.planes.map (fun p => { p with sending := false, coldNext := false })
    uplink := { s1.uplink with launchHeld := [] } }

/-- Both units stop in CLOSED: UNIT_CLASH or PAIR_MANIFEST (R387). -/
def State.closePair (s : State) (e : EventName) : State := (s.raiseModule .fault e []).closeModule

/-! ## A damaged exchange (R51) -/

/-- Records of a lane are left out of the decision in every lane (R201). -/
def State.leaveOut (s : State) (src : LaneId) : State :=
  s.mapLanes (fun _ L => { L with leftOut := if L.leftOut.contains src then L.leftOut else src :: L.leftOut })

/-- A P-AGREE or P-CONS exchange damaged on the link of two IN-VOTE lanes after its resend (R51). -/
def State.damaged (s : State) (a b : LaneId) : State :=
  if s.votes a ∧ s.votes b ∧ a ≠ b then
    let hi := if a.idx < b.idx then b else a
    let s1 := s.raiseLane a .warn .exchangeDamaged [a.num, b.num]
    if s1.voters.length = 3 then (s1.excludeAgreed hi .exchange).leaveOut hi else s1.loseVote
  else s

/-! ## Wharf bus modes (R349) -/

/-- Mode a channel is to run in, by the module state. A channel held OFF by WB_TIMING or BUSOFF_LIMIT has status 1
or 2 (3 is TIDE_FIT, which refuses the table only). -/
def wbDue (m : ModState) (c : WbChan) : WbMode :=
  if c.status = 1 ∨ c.status = 2 ∨ c.marked ∨ c.cfgMode = .off then .off
  else match m with
    | .powerOff => .off
    | .boot => .off
    | .halt => .off
    | .closed => .listen
    | .standby => if c.shared then .listen else c.cfgMode
    | .test => c.cfgMode
    | .restricted => c.cfgMode
    | .operational => c.cfgMode

/-! ## Front panel lamps (R482, Table 17.6) -/

/-- What a lamp shows. -/
inductive Lamp where
  | off | green | greenFlash | amber | amberFlash | red | redFlash
deriving DecidableEq, Repr

/-- Faults of Table 1.11 as the front panel indicators show them beside the lamps' colours (R40, R319): a SWITCH_CLOSED
report on its lane's indicator, a lost feed, a failed VLIOF stage, a failed CLX link. Table 17.6 gives these no colour of
a lamp: log entry 86. -/
inductive Shown where
  | stuckSwitch (ln : LaneId) (report : List Int)
  | feed (n : Nat)
  | stage (n : Nat)
  | link (l : ClxLink)
deriving DecidableEq, Repr

/-- What the indicators show now. -/
def State.shown (s : State) : List Shown :=
  LaneId.all.flatMap (fun ln => (s.lane ln).stuckShown.map (Shown.stuckSwitch ln)) ++
  (if s.power.pfOk.1 then [] else [.feed 1]) ++ (if s.power.pfOk.2 then [] else [.feed 2]) ++
  (if s.power.stageOk.1 then [] else [.stage 1]) ++ (if s.power.stageOk.2 then [] else [.stage 2]) ++
  ([ClxLink.l12, ClxLink.l23, ClxLink.l13].filter (fun l => !s.clxOk.link l)).map Shown.link

/-- A lane lamp, which the lane drives while its LnI domain is powered. -/
def State.laneLamp (s : State) (ln : LaneId) : Lamp :=
  if s.bist.ready || !s.lnIOn ln then .off
  else if s.module = .boot then .amberFlash
  else match s.laneState ln with
    | .inVote => .green
    | .rejoining => .greenFlash
    | .outTest => .amber
    | .outFault => .red
    | .laneOff => .off

/-- A plane lamp; off while SVC has failed. -/
def State.planeLamp (s : State) (pl : PlaneId) : Lamp :=
  let p := s.planes.get pl
  if !s.uplink.up || s.bist.ready || !s.power.pg.getLsbD (if pl.bit then 10 else 9) then .off
  else if !p.running then .red
  else if p.segs.any (fun e => e.2.lost || e.2.feed) || p.ctrls.any (fun e => e.2.drift || e.2.barred) then .amber
  else .green

/-- The claim lamp; off while SVC has failed. -/
def State.claimLamp (s : State) : Lamp :=
  if !s.uplink.up || s.bist.ready then .off
  else if s.module = .standby then
    match s.pair.copy with
    | .ready _ => .amber
    | .none => .amberFlash
    | .resync _ => .amberFlash
  else if !commandsNet s.module then .off
  else if s.pair.listenUntil.isSome then .greenFlash
  else if s.claimHolder then .green
  else .off

/-- A force is in effect in a lane (R20). -/
def Lane.forced (L : Lane) : Bool :=
  (match L.image with
    | none => false
    | some m => m.body.elems.any (fun e =>
        (L.configured (keyE e.1 6) && decide (L.plain (keyE e.1 6) = vFalse)) ||
        (L.configured (keyE e.1 7) && decide (L.plain (keyE e.1 7) ≠ -1)))) ||
  !L.sup.outForces.isEmpty

/-- The force lamp: lit when a lane IN-VOTE drives it, and in TEST (Table 0.4). -/
def State.forceLamp (s : State) : Lamp :=
  if !s.bist.ready && (decide (s.module = .test) || s.voters.any (fun ln => (s.lane ln).forced)) then .amber else .off

/-- The HALT lamp, which any lane with its LnI domain powered drives. -/
def State.haltLamp (s : State) : Lamp :=
  if !LaneId.all.any s.lnIOn then .off else if s.bist.ready then .redFlash else if s.module = .halt then .red else .off

end Sys2Proof.Machine
end

