-- ==== Sys2Proof/Machine/Agreement.lean ====
section
/-! DEFINITION. P-AGREE (chapter 7): local views and records, the echo round, the decision of every input, repair,
and what the lane supervisor writes from the agreed inputs. -/

namespace Sys2Proof.Machine

open Sys2Proof

/-- Events on their way to the logbook. -/
abbrev Evs := List (LogClass × EventName × List Int)

/-! ## Records (R200, R201, Table 7.4) -/

/-- Input number of a command record. -/
def cmdKey (c : SentCmd) : Nat := 8192 + c.seq.toNat

/-- Digest of a command record. -/
def cmdDigest (c : SentCmd) : U64 := crc64 (Config.cmdPayload c)

/-- The 12 bytes of an agreement record; FRAME is 8 191 for a command. -/
def recBytes (r : AgreeRec) : List Byte :=
  beBytes 12 ((if r.input < 8192 then r.input else 8191) * 2 ^ 83 + (if r.present then 2 ^ 80 else 0) +
    (if r.planeA then 2 ^ 79 else 0) + (if r.planeB then 2 ^ 78 else 0) + r.digest.toNat)

/-- What a lane echoes: the CRC of the records it holds of a lane. -/
def recsCrc (t : Tbl (Option AgreeRec)) : U64 :=
  crc64 (t.flatMap (fun e => match e.2 with
    | none => []
    | some r => recBytes r))

/-- Inputs whose payload the lanes agree in each cycle: controller and safe-link frames. -/
def Lane.inputs (L : Lane) : List Nat :=
  match L.image with
  | none => []
  | some m => m.body.ctrls.map (·.1) ++ (inMsgs m).map (fun e => e.2.2.frame)

/-- The local input bits of a lane: its bit vector and its readings of fields 7-9 of the module status frame. -/
def Lane.localBits (L : Lane) : LocalBits := L.inp.latchedIn ++ L.inp.latched

/-- Configured local frames, 4 608-4 615 (R198, R327). -/
def Lane.localInputs (L : Lane) : List Nat :=
  match L.image with
  | none => []
  | some m => ((List.range 8).map (4608 + ·)).filter (fun f => (List.range 32).any (fun w => imgHas m.body (keyI f w)))

/-- The record of a local frame: its DIGEST shows only that lanes differ, and the bits are decided one by one (R202). The
payload it runs over is not laid out: log entry 102. -/
def Lane.localRec (L : Lane) (f : Nat) : AgreeRec :=
  ⟨f, true, false, false,
    crc64 (if f = 4615 then beBytes 1 L.inp.latchedIn.toNat else beBytes 16 L.inp.latched.toNat)⟩

/-- Local views of a lane (R199): the plane comparison, the safe-link views of an admitted batch, and its
commands. -/
def Lane.views0 (L : Lane) : List (Nat × View) :=
  (match L.image with
    | none => []
    | some m =>
      m.body.ctrls.map (fun e => (e.1, (planeCompare (Tbl.get [] L.upA e.1) (Tbl.get [] L.upB e.1)).1)) ++
      (inMsgs m).map (fun e => (e.2.2.frame, if L.batch.isSome then (slView L e.1 e.2.2).1 else {}))) ++
  (L.batch.getD []).map (fun c => (cmdKey c,
    { present := true, digest := cmdDigest c, payload := Config.cmdPayload c }))

/-- The event of a count of Table 9.7 or Table 9.8 that changes: controller, plane and cause (R286). -/
def upEvent (ctrl : Nat) (pl : PlaneId) (cause : Nat) : LogClass × EventName × List Int :=
  (.warn, .uplinkCount, [((ctrl : Nat) : Int), if pl.bit then 1 else 0, ((cause : Nat) : Int)])

/-- Counts of the plane comparison and of R300: PLANE_SINGLE on the missing plane, PLANE_DIFF on both, LAN_DIFF
and SUPERSEDED. -/
def Lane.compareCounts (L : Lane) : Lane × Evs :=
  match L.image with
  | none => (L, [])
  | some m =>
    let up := m.body.ctrls.foldl (fun (a : Lane × Evs) e =>
      match (planeCompare (Tbl.get [] L.upA e.1) (Tbl.get [] L.upB e.1)).2 with
      | some 9 => ((a.1.countUp e.1 .a 9).countUp e.1 .b 9, a.2 ++ [upEvent e.1 .a 9, upEvent e.1 .b 9])
      | some k =>
        let pl : PlaneId := if Tbl.get [] L.upA e.1 = [] then .a else .b
        (a.1.countUp e.1 pl k, a.2 ++ [upEvent e.1 pl k])
      | none => a) (L, [])
    if L.batch.isNone then up
    else (inMsgs m).foldl (fun (a : Lane × Evs) e =>
      let v := slView L e.1 e.2.2
      let d : Lane × Evs :=
        if v.2.1 = 0 then a
        else ({ a.1 with slCounts := Tbl.upd 0 a.1.slCounts (e.1 * 16 + 12) (· + v.2.1) },
          a.2 ++ [(LogClass.warn, EventName.lanDiff, [((e.1 : Nat) : Int), (e.2.2.msg : Nat)])])
      if v.2.2 = 0 then d
      else ({ d.1 with slCounts := Tbl.upd 0 d.1.slCounts (e.1 * 16 + 13) (· + v.2.2) },
        d.2 ++ [(LogClass.warn, EventName.superseded, [((e.1 : Nat) : Int), (e.2.2.msg : Nat)])])) up

/-- A lane opens P-AGREE: its views, its own records and its bit vector. -/
def Lane.openAgreement (me : LaneId) (L : Lane) : Lane :=
  let vs := L.views0
  { L with
    phase := .pAgree
    localViews := Tbl.ofList {} vs
    recs := L.recs.set me (Tbl.ofList none (
      vs.map (fun e => (e.1, some ⟨e.1, e.2.present, e.2.planeA, e.2.planeB, e.2.digest⟩)) ++
      L.localInputs.map (fun f => (f, some (L.localRec f)))))
    recsFrom := me :: L.recsFrom
    vectors := L.vectors.set me L.localBits }

/-- P_AGREE_START (R200, R278, R300). -/
def execPAgreeStart (ln : LaneId) (s : State) : Host.Outcome State Fault Refusal :=
  let L := s.lane ln
  if L.active ln && runsCycle s.module && decide (L.phase = .idle) then
    let c := L.compareCounts
    ok ((s.putLane ln (c.1.openAgreement ln)).raiseLaneAll ln c.2)
  else ok s

/-- AGREEMENT_RECORD_RX (R200): records of a lane outside the vote are not used; a damaged exchange follows R51. -/
def execAgreementRecordRx (ln src : LaneId) (rec : Option AgreeRec) (bits : LocalBits) (s : State) :
    Host.Outcome State Fault Refusal :=
  let L := s.lane ln
  if L.phase = .pAgree ∧ !L.decided ∧ src ≠ ln then
    match rec with
    | none => fin (s.damaged ln src)
    | some r =>
      if L.views.get src = .inVote ∨ L.recsFrom.contains src then
        fin (s.putLane ln { L with
          recs := L.recs.set src (Tbl.set none (L.recs.get src) r.input (some r))
          recsFrom := if L.recsFrom.contains src then L.recsFrom else src :: L.recsFrom
          vectors := L.vectors.set src bits })
      else fin s
  else fin s

/-- The lane that is neither of two. -/
def thirdLane (a b : LaneId) : Option LaneId := LaneId.all.find? (fun m => decide (m ≠ a) && decide (m ≠ b))

/-- AGREEMENT_ECHO_RX (R201): a mismatch shows that the third lane sent different records on its two links; it is
excluded with cause AGREE and its records are left out. -/
def execAgreementEchoRx (ln src : LaneId) (crc : U64) (s : State) : Host.Outcome State Fault Refusal :=
  let L := s.lane ln
  match thirdLane ln src with
  | none => fin s
  | some t =>
    if L.phase = .pAgree ∧ !L.decided ∧ src ≠ ln ∧ s.voters.length = 3 ∧ L.recsFrom.contains t ∧
        crc ≠ recsCrc (L.recs.get t) then
      fin ((s.excludeAgreed t .agree).leaveOut t)
    else fin s

/-! ## The decision (R202, Table 7.5) -/

/-- What the lanes decide for one input: the agreed digest (none for absent), the lanes in the minority, and
whether NO_MAJORITY or DISAGREE2 is logged. -/
structure Verdict where
  digest : Option U64 := none
  minority : List LaneId := []
  noMajority : Bool := false
  disagree : Bool := false
deriving DecidableEq, Repr

/-- Table 7.5 over the views of the deciding lanes; a view is its digest, or none for absent. -/
def decideInput : List (LaneId × Option U64) → Verdict
  | [(a, x), (b, y), (c, z)] =>
    if x = y then { digest := x, minority := if z = x then [] else [c] }
    else if x = z then { digest := x, minority := [b] }
    else if y = z then { digest := y, minority := [a] }
    else { noMajority := true }
  | [(_, x), (_, y)] => if x = y then { digest := x } else { disagree := true }
  | _ => {}

/-- Bit by bit: the majority with three lanes, FALSE for a differing bit with two. -/
def decideBits {n : Nat} : List (BitVec n) → BitVec n
  | [a, b, c] => (a &&& b) ||| (a &&& c) ||| (b &&& c)
  | [a, b] => a &&& b
  | _ => 0

/-- The view a lane's record states. -/
def Lane.viewOf (L : Lane) (i : Nat) (ln : LaneId) : Option U64 :=
  match Tbl.get none (L.recs.get ln) i with
  | none => none
  | some r => if r.present then some r.digest else none

/-- Lanes whose records count: those held and not left out; a rejoining lane's own do not (R201, R219). -/
def Lane.deciders (me : LaneId) (L : Lane) : List LaneId :=
  LaneId.all.filter (fun m => L.recsFrom.contains m && !L.leftOut.contains m &&
    (decide (m ≠ me) || decide (L.views.get me = .inVote)))

/-- The records of every lane IN-VOTE are held. -/
def Lane.recordsHeld (me : LaneId) (L : Lane) : Bool :=
  LaneId.all.all (fun m => decide (L.views.get m ≠ .inVote) || L.leftOut.contains m || L.recsFrom.contains m) &&
  decide (2 ≤ (L.deciders me).length)

/-- Every input decided: the configured ones and the commands any deciding lane named. -/
def Lane.allInputs (me : LaneId) (L : Lane) : List Nat :=
  L.inputs ++ (L.deciders me).foldl (fun a m =>
    a ++ ((Tbl.keys (L.recs.get m)).filter (fun i => decide (8192 ≤ i) && !a.contains i))) []

/-- The verdict on every input. -/
def Lane.verdicts (me : LaneId) (L : Lane) : List (Nat × Verdict) :=
  (L.allInputs me).map (fun i => (i, decideInput ((L.deciders me).map (fun m => (m, L.viewOf i m)))))

/-- The agreed local bits. -/
def Lane.agreedLocal (me : LaneId) (L : Lane) : LocalBits := decideBits ((L.deciders me).map L.vectors.get)

/-- The agreed local bit vector of Table 11.5. -/
def Lane.agreedBits (me : LaneId) (L : Lane) : BitVec 128 := (L.agreedLocal me).setWidth 128

/-- The agreed fields 7-9 of the module status frame. -/
def Lane.agreedIn (me : LaneId) (L : Lane) : BitVec 3 := (L.agreedLocal me >>> 128).setWidth 3

/-- Numbers of the bits set. -/
def bitsSet (v : LocalBits) : List Nat := (List.range 131).filter (fun i => v.getLsbD i)

/-- How a local bit is logged: by its frame, 4 608 for the bit vector, and its number there; a status field by its field. -/
def localName (b : Nat) : List Int := if b < 128 then [4608, ((b : Nat) : Int)] else [4615, ((b - 121 : Nat) : Int)]

/-- Bits in which the lane is in the minority (three lanes). -/
def Lane.minorBits (me : LaneId) (L : Lane) : List Nat :=
  if (L.deciders me).length = 3 then bitsSet (L.vectors.get me ^^^ L.agreedLocal me) else []

/-- Bits in which two lanes differ. -/
def Lane.splitBits (me : LaneId) (L : Lane) : List Nat :=
  match (L.deciders me).map L.vectors.get with
  | [a, b] => bitsSet (a ^^^ b)
  | _ => []

/-- The agreed view of an input: the lane's own where it agrees, else a payload still to be repaired. -/
def agreedView (own : View) (d : U64) : View :=
  if own.present ∧ own.digest = d then own else { present := true, digest := d }

/-- The lane holds what was agreed on an input. -/
def holdsAgreed (own : View) (d : U64) : Bool := own.present && decide (own.digest = d)

/-- The lane decides: agreed views, the repairs it wants, its minority counts and the summary of the cycle. DESIGN CHOICE,
log entry 101: fields 7-9 of the module status frame are agreed as local bits (R480) and stand in no vector of Table 11.5;
each counts as one input for the limits of R204, as a bit of the vectors does. -/
def Lane.decideAll (me : LaneId) (L : Lane) : Lane :=
  let vd := L.verdicts me
  let own (i : Nat) : View := Tbl.get {} L.localViews i
  let minor := (vd.filter (fun e => e.2.minority.contains me)).length + (L.minorBits me).length
  let run := if L.views.get me = .inVote then (if minor = 0 then 0 else L.minorityRun + 1) else L.minorityRun
  let split := (L.splitBits me).length
  { L with
    decided := true
    localViews := Tbl.ofList {} (vd.filterMap (fun e => e.2.digest.map (fun d => (e.1, agreedView (own e.1) d))))
    repairs := Tbl.ofList none (vd.filterMap (fun e =>
      match e.2.digest with
      | none => none
      | some d => if holdsAgreed (own e.1) d then none else some (e.1, some d)))
    minority := minor
    minorityRun := run
    late := 0
    summaries := ((minor, (vd.filter (·.2.noMajority)).length, (vd.filter (·.2.disagree)).length + split, L.late) ::
      L.summaries).take 64 }

/-- MINORITY of the lane itself; NO_MAJORITY and DISAGREE2 where the lane leads. -/
def Lane.agreeEvents (me : LaneId) (lead : Bool) (L : Lane) : Evs :=
  let vd := L.verdicts me
  let ev (n : EventName) (xs : List Int) : LogClass × EventName × List Int := (LogClass.warn, n, xs)
  (vd.filter (fun e => e.2.minority.contains me)).map (fun e => ev .minority [me.num, ((e.1 : Nat) : Int)]) ++
  (L.minorBits me).map (fun b => ev .minority (me.num :: localName b)) ++
  (if lead then
    (vd.filter (·.2.noMajority)).map (fun e => ev .noMajority [((e.1 : Nat) : Int)]) ++
    (vd.filter (·.2.disagree)).map (fun e => ev .disagree2 [((e.1 : Nat) : Int)]) ++
    (L.splitBits me).map (fun b => ev .disagree2 (localName b))
   else [])

/-- Insert a command by its sequence number (R11). -/
def insertCmd (c : SentCmd) : List SentCmd → List SentCmd
  | [] => [c]
  | d :: r => if later c.seq d.seq then d :: insertCmd c r else c :: d :: r

/-- The agreed commands, in sequence: each as the lane's own batch holds it, or as the bytes of a repair show it, of the
commands that the lanes it decides with hold (R203). -/
def State.agreedCmds (s : State) (me : LaneId) (L : Lane) : List SentCmd :=
  let others := (L.deciders me).flatMap (fun m => (s.lane m).batch.getD [])
  (((Tbl.keys L.localViews).filter (fun i => decide (8192 ≤ i))).filterMap (fun i =>
    let v : View := Tbl.get {} L.localViews i
    ((L.batch.getD []).find? (fun c => decide (cmdKey c = i) && decide (cmdDigest c = v.digest))).or
      (others.find? (fun c => decide (cmdKey c = i) && decide (Config.cmdPayload c = v.payload))))).foldl
    (fun a c => insertCmd c a) []

/-! ## Frames (R279, R301, R329, R480) -/

/-- One controller frame from its agreed view (R279). -/
def ctrlUpdate (frame : Nat) (c : CtrlCfg) (v : View) (u : Sup) : Sup :=
  if v.present then u.setFrame frame 0 (c.up.map (fun (f : FieldCfg) => (f.word, f.read (slice v.payload 32 128))))
  else
    let w := u.frameWord frame 0
    let age := min (w / 2 + 1) 15
    u.heldFrame frame (age * 2 + (if (c.upMax : Int) < age then 1 else w % 2)) c.up

/-- Every configured emergency-stop pair is at STAGE 2 (Table 17.5a, field 12). -/
def Lane.esProven (L : Lane) : Bool :=
  match L.image with
  | none => true
  | some m => m.body.elems.all (fun e => decide (e.2.type ≠ .esPair) || decide (L.plain (keyE e.1 10) = 2))

/-- Fields of the module status frame (Table 17.5a); `inp` holds fields 7-9 as voted, and the others follow what the
last P-CONS agreed. -/
def State.statusFields (s : State) (L : Lane) (inp : BitVec 3) : List (Nat × Int) :=
  [(1, ofBool (decide (s.atCons.module = .operational))), (2, ofBool (decide (s.atCons.module = .test))),
   (3, ofBool (decide (s.atCons.votes = 3))), (4, ofBool s.atCons.rollbackHold),
   (5, ofBool L.startCold), (6, ofBool L.startWarm),
   (7, ofBool (inp.getLsbD 0)), (8, ofBool (inp.getLsbD 1)), (9, ofBool (inp.getLsbD 2)),
   (10, ofBool s.atCons.holder), (11, ofBool s.atCons.partnerReady), (12, ofBool L.esProven)]

/-- All frames after agreement: controllers, safe link (not in STANDBY), local and status frames. -/
def State.agreeFrames (s : State) (L : Lane) (v : BitVec 128) (inp : BitVec 3) : Sup :=
  let view (f : Nat) : View := Tbl.get {} L.localViews f
  let u1 : Sup := match L.image with
    | none => L.sup
    | some m =>
      let u0 : Sup := m.body.ctrls.foldl (fun u e => ctrlUpdate e.1 e.2 (view e.1) u) L.sup
      if s.module = .standby then u0
      else (inMsgs m).foldl (fun u e =>
        slUpdate L e.1 e.2.1 e.2.2 (if (view e.2.2.frame).present then some (view e.2.2.frame).payload else none) u) u0
  let o := supervise L s.dead v
  let u2 := (localFrames v o).foldl (fun u e => u.setFrame e.1 (if e.2.1 then 1 else 0) e.2.2) { u1 with outs := o }
  { u2.setFrame 4615 0 (s.statusFields L inp) with
    keyClosed := inp.getLsbD 2, pfOk := [inp.getLsbD 0, inp.getLsbD 1], inTest := decide (s.module = .test) }

/-- What a lane reports to the pairing function: each controller whose agreed-present uplink carries a CLM other than the
module's claim (R277). -/
def clmReport (clm : U32) (L : Lane) : List (Nat × U32) :=
  match L.image with
  | none => []
  | some m => m.body.ctrls.filterMap (fun e =>
      let v : View := Tbl.get {} L.localViews e.1
      let c : U32 := BitVec.ofNat 32 (beAt v.payload 8 4)
      if v.present && decide (c ≠ clm) then some (e.1, c) else none)

/-- The latest claim later than the module's among those reported (R386). -/
def laterClaim (clm : U32) (rep : List (Nat × U32)) : Option U32 :=
  rep.foldl (fun a e => if later e.2 (a.getD clm) then some e.2 else a) none

/-! ## Commands (R159, R161, R418, R419, Table 14.9) -/

/-- Account and role of a command. -/
def cmdWho (c : SentCmd) : List Int := [((c.account : Nat) : Int), roleCode c.role]

/-- The command kinds that take two messages; 0 for the others. -/
def twoKind : LaneCmd → Nat
  | .removeRestrictive _ => 1
  | .removeForced t =>
    match t with
    | .elem _ => 2
    | .channel _ => 3
    | .sdr _ => 3
  | .individualRelease _ => 4
  | .restrictiveForce _ => 0
  | .forceValue _ _ => 0
  | .onlineChange => 0

/-- The item a command names. -/
def itemOf : LaneCmd → List Int
  | .removeRestrictive e => [1, ((e : Nat) : Int)]
  | .removeForced t =>
    match t with
    | .elem e => [1, ((e : Nat) : Int)]
    | .channel c => [2, ((c : Nat) : Int)]
    | .sdr j => [3, ((j : Nat) : Int)]
  | .individualRelease r => [4, ((r : Nat) : Int)]
  | .restrictiveForce e => [1, ((e : Nat) : Int)]
  | .forceValue t _ =>
    match t with
    | .elem e => [1, ((e : Nat) : Int)]
    | .channel c => [2, ((c : Nat) : Int)]
    | .sdr j => [3, ((j : Nat) : Int)]
  | .onlineChange => [0]

/-- A change log event of a command. -/
def cmdEvent (n : EventName) (c : SentCmd) (more : List Int) : LogClass × EventName × List Int :=
  (LogClass.change, n, cmdWho c ++ itemOf c.cmd ++ more)

/-- Cycles since an agreement, in units of 0.5 ms. -/
def sinceHalfMs (L : Lane) (cn : U32) : Nat := (L.cn - cn).toNat * tcOf L.image

/-- One message of a two-message command (R418). -/
def twoStep (c : SentCmd) (L : Lane) (act : Lane → Lane × Evs) : Lane × Evs :=
  let others := L.sup.firsts.filter (fun f => decide (twoKind f.cmd ≠ twoKind c.cmd))
  let first : Lane := { L with sup := { L.sup with firsts := others ++ [⟨c.cmd, L.cn⟩] } }
  match L.sup.firsts.find? (fun f => decide (twoKind f.cmd = twoKind c.cmd)) with
  | none => (first, [])
  | some f =>
    let t := sinceHalfMs L f.cn
    if 120000 < t ∨ f.cmd ≠ c.cmd then (first, [(LogClass.change, EventName.firstLapsed, itemOf f.cmd)])
    else if t < 4000 then (L, [cmdEvent .commandRefused c []])
    else act { L with sup := { L.sup with firsts := others } }

/-- An element that can take a restrictive force: configured, and no emergency-stop pair (Table 5.2). -/
def Lane.forceable (L : Lane) (e : Nat) : Bool := L.configured (keyE e 6)

/-- A value TFORCE accepts: TRUE or FALSE for a boolean main state word, any 32-bit value otherwise; none for an
element without one (R161). DESIGN CHOICE, log entry 95: R161 names no range for a point end or a signal. A value outside a
point end's 0-2 is accepted and shows no detection; -1 is accepted and is then no force. -/
def tforceOk (b : ManBody) (id : Nat) (v : Int) : Bool :=
  let isBool := decide (v = vTrue) || decide (v = vFalse)
  match b.elems.find? (fun e => decide (e.1 = id)) with
  | none => false
  | some e =>
    match e.2.type with
    | .sect => isBool
    | .crossing => isBool
    | .point => inS32 v
    | .signal => inS32 v
    | .esPair => false
    | .generic =>
      match e.2.mainWord with
      | none => false
      | some w =>
        if b.words.any (fun x => decide (x.1 = keyE id w) && decide (x.2.kind = .bool)) then isBool else inS32 v

/-- The output channel a force names; none where it is no OUTPUT channel or SDR output. -/
def outTarget (c : LocalIoCfg) : ForceTarget → Option Nat
  | .elem _ => none
  | .channel ch => if ch < 48 ∧ modeOf c ch = .output then some ch else none
  | .sdr j => if j < 4 then some (48 + j) else none

/-- A force value command in TEST (R161, R331). -/
def forceValueOp (m : ModState) (c : SentCmd) (t : ForceTarget) (v : Int) (L : Lane) : Lane × Evs :=
  let done (L : Lane) : Lane × Evs := (L, [cmdEvent .forceApplied c [v, modCode m]])
  match t, L.image with
  | .elem id, some man =>
    if tforceOk man.body id v then done (L.putE (keyE id 7) v) else (L, [cmdEvent .forceRefused c [v]])
  | .elem _, none => (L, [cmdEvent .forceRefused c [v]])
  | .channel ch, _ | .sdr ch, _ =>
    match outTarget L.localCfg t with
    | some k =>
      if v = vTrue ∨ v = vFalse then
        done { L with sup := { L.sup with outForces := Tbl.set none L.sup.outForces k (some (decide (v = vTrue))) } }
      else (L, [cmdEvent .forceRefused c [v, ((ch : Nat) : Int)]])
    | none => (L, [cmdEvent .forceRefused c [v, ((ch : Nat) : Int)]])

/-- Removal of a forced value (R161, R331). -/
def unforceOp (m : ModState) (c : SentCmd) (t : ForceTarget) (L : Lane) : Lane × Evs :=
  let ev : Evs := [cmdEvent .forceRemoved c [modCode m]]
  match t with
  | .elem id => (L.putE (keyE id 7) (-1), ev)
  | .channel ch => ({ L with sup := { L.sup with outForces := Tbl.set none L.sup.outForces ch none } }, ev)
  | .sdr j => ({ L with sup := { L.sup with outForces := Tbl.set none L.sup.outForces (48 + j) none } }, ev)

/-- TIME_APPROACH of a route in cycles, 12 000 where it has none (R419). -/
def Lane.releaseTime (L : Lane) (r : Nat) : Nat :=
  let pool := (List.range (L.plain (keyRoute r 4)).toNat).map (fun k => L.plain (keyPool ((L.plain (keyRoute r 3)).toNat + k)))
  match pool.find? (fun x => decide (poolKind x = 11)) with
  | some x => x.toNat % 2 ^ 23
  | none => 12000

/-- A route in RELEASING or APPROACH-LOCKED (R419). -/
def Lane.releasable (L : Lane) (r : Nat) : Bool :=
  L.configured (keyRoute r 0) && (decide (L.plain (keyRoute r 0) = 5) || decide (L.plain (keyRoute r 0) = 6))

/-- One agreed command (Table 14.9, R20). An online change is judged at the commit of its cycle. -/
def cmdApply (m : ModState) (a : Lane × Evs) (c : SentCmd) : Lane × Evs :=
  let L := a.1
  let refuse (n : EventName) : Lane × Evs := (L, [cmdEvent n c []])
  let r : Lane × Evs :=
    match c.cmd with
    | .restrictiveForce e =>
      if commandsNet m && L.forceable e then
        (L.putE (keyE e 6) vFalse, [cmdEvent .forceApplied c [modCode m]])
      else refuse .forceRefused
    | .removeRestrictive e =>
      if commandsNet m && L.forceable e then
        twoStep c L (fun L => (L.putE (keyE e 6) vTrue, [cmdEvent .forceRemoved c [modCode m]]))
      else refuse .commandRefused
    | .forceValue t v =>
      if decide (m = .test) && L.sup.keyClosed then forceValueOp m c t v L else refuse .forceRefused
    | .removeForced t =>
      if decide (m = .test) && L.sup.keyClosed then twoStep c L (unforceOp m c t) else refuse .commandRefused
    | .individualRelease r =>
      if (decide (m = .restricted) || decide (m = .operational)) && L.configured (keyRoute r 0) then
        twoStep c L (fun L =>
          if L.releasable r then
            ({ L with sup := { L.sup with irels := L.sup.irels ++ [(r, L.cn + BitVec.ofNat 32 (L.releaseTime r))] } },
              [cmdEvent .irelCommanded c []])
          else (L, [cmdEvent .commandRefused c []]))
      else refuse .commandRefused
    | .onlineChange => (L, [])
  (r.1, a.2 ++ r.2)

/-- Pending individual releases whose time has not passed and whose route has left its states (R419). -/
def Lane.discards (L : Lane) : List Nat :=
  (L.sup.irels.filter (fun e => later e.2 L.cn && !L.releasable e.1)).map (·.1)

/-- Discard them. -/
def Lane.dropIrels (L : Lane) : Lane × Evs :=
  let ds := L.discards
  ({ L with sup := { L.sup with irels := L.sup.irels.filter (fun e => !(later e.2 L.cn && !L.releasable e.1)) } },
   ds.map (fun r => (LogClass.change, EventName.irelDiscarded, noWho ++ [((r : Nat) : Int)])))

/-! ## Element words (R157, R161, R167) -/

/-- Elements whose TFORCE is set. -/
def Lane.tforced (L : Lane) : List Nat :=
  match L.image with
  | none => []
  | some m => (m.body.elems.filter (fun e =>
      L.configured (keyE e.1 7) && decide (L.plain (keyE e.1 7) ≠ -1))).map (·.1)

/-- Outside TEST every TFORCE is −1 and no output is forced; `was` tells that the last agreement was in TEST, and
then the number cleared is logged (R161). -/
def Lane.clearForces (m : ModState) (was : Bool) (L : Lane) : Lane × Evs :=
  if m = .test then (L, [])
  else
    let fs := L.tforced
    let L1 := fs.foldl (fun L id => L.putE (keyE id 7) (-1)) L
    ({ L1 with sup := { L1.sup with outForces := [] } },
     if was then [(LogClass.change, EventName.forcesCleared, noWho ++ [((fs.length : Nat) : Int)])] else [])

/-- AGE, DATA_OK and the emergency-stop words of one element (R157, R167). -/
def elemUpdate (m : ModState) (v : BitVec 128) (L : Lane) (id : Nat) (e : ElemCfg) : Lane :=
  let src := L.plain (keyE id 1)
  let w := if src < 0 then 0 else L.sup.frameWord src.toNat 0
  let L1 := L.putE (keyE id 3) (w / 2)
  if e.type = .esPair then
    let k := (L.plain (keyE id 11) - 1).toNat
    let stage : Int := if v.getLsbD (123 + 2 * k) then 2 else if v.getLsbD (122 + 2 * k) then 1 else 0
    (((((L1.putE (keyE id 4) (ofBool (supplyOk v 3))).putE (keyE id 8) (ofBool (v.getLsbD (108 + 2 * k)))).putE
      (keyE id 9) (ofBool (v.getLsbD (109 + 2 * k)))).putE (keyE id 10) stage).putE
      (keyE id 5) (ofBool (v.getLsbD (123 + 2 * k))))
  else
    let forced := decide (m = .test) && decide (L.plain (keyE id 7) ≠ -1)
    L1.putE (keyE id 4) (ofBool (forced || (decide (w % 2 = 0) && decide (w / 2 ≤ L.plain (keyE id 2)))))

/-- Every element. -/
def Lane.elemUpdates (m : ModState) (v : BitVec 128) (L : Lane) : Lane :=
  match L.image with
  | none => L
  | some man => man.body.elems.foldl (fun L e => elemUpdate m v L e.1 e.2) L

/-- FIRST_NEW of every partition: TRUE in cycle s of an online change only (R413). -/
def Lane.firstNew (at_ : Option U32) (L : Lane) : Lane :=
  match L.image with
  | none => L
  | some m => m.body.firstNew.foldl (fun L k => L.putE k (ofBool (decide (at_ = some L.cn)))) L

/-! ## After the decision -/

/-- Safe-link messages agreed present, as a lane reports them to SVC (R206). -/
def Lane.agreedMsgs (L : Lane) : List (Nat × Nat × U32 × U32) :=
  match L.image with
  | none => []
  | some m => (inMsgs m).filterMap (fun e =>
      let v : View := Tbl.get {} L.localViews e.2.2.frame
      if v.present then some (e.1, e.2.2.msg, slEpoch v.payload, slSeq v.payload) else none)

/-- What the supervisor writes once every agreed payload is there: frames, forces, element words. -/
def State.writeAgreed (s : State) (ln : LaneId) (L : Lane) : Lane :=
  let v := L.agreedBits ln
  let u := s.agreeFrames L v (L.agreedIn ln)
  let u1 := { u with laterClm := if (laterClaim s.pair.clm (clmReport s.pair.clm L)).isSome then u.laterClm + 1 else 0 }
  let L1 : Lane := Lane.codeFrames { L with sup := u1 }
  let a := L1.dropIrels
  let c := L.agreedCmds.foldl (cmdApply s.module) a
  let f := c.1.clearForces s.module L.sup.inTest
  let L2 := (f.1.elemUpdates s.module v).firstNew s.change.firstNewCn
  let L3 := { L2 with pendEvents := supEvents L.sup.outs u1.outs ++ c.2 ++ f.2, reportMsgs := L.agreedMsgs
                      reportCmds := L.agreedCmds.map (·.seq.toNat) }
  if s.module = .standby then { L3 with supC := L3.sup, supUndo := [] } else L3

/-- The lane writes its agreed inputs and reports the claims it saw; a later claim seen in two consecutive cycles loses the
claim (R277, R386). -/
def State.finishAgreement (s : State) (ln : LaneId) : State :=
  let L0 := s.lane ln
  if L0.repairs.isEmpty then
    let L : Lane := { L0 with agreedCmds := s.agreedCmds ln L0 }
    let L' := s.writeAgreed ln L
    let rep := clmReport s.pair.clm L
    let s1 : State := { s.putLane ln L' with pair := { s.pair with clmReports := s.pair.clmReports.set ln rep } }
    match laterClaim s.pair.clm rep with
    | some c => if 2 ≤ L'.sup.laterClm then s1.loseClaim c else s1
    | none => s1
  else s

/-- INPUT_AGREEMENT (R202): once all records are held the lane decides every input. A lane whose repairs would
exceed 64 frames is excluded (R203). -/
def execInputAgreement (ln : LaneId) (s : State) : Host.Outcome State Fault Refusal :=
  let L := s.lane ln
  if L.phase = .pAgree ∧ !L.decided ∧ L.recordsHeld ln ∧ L.active ln then
    let L1 := L.decideAll ln
    let s1 := (s.putLane ln L1).raiseLaneAll ln (L.agreeEvents ln (decide (s.lead = ln)))
    if 64 < L1.repairs.length then fin (s1.excludeAgreed ln .agree) else fin (s1.finishAgreement ln)
  else fin s

/-- REPAIR_PAYLOAD_RX (R203): from the lower-numbered lane of the majority; a payload that fails its check excludes
the lane. -/
def execRepairPayloadRx (ln src : LaneId) (input : Nat) (payload : List Byte) (s : State) :
    Host.Outcome State Fault Refusal :=
  let L := s.lane ln
  match Tbl.get none L.repairs input with
  | none => fin s
  | some d =>
    if (L.deciders ln).find? (fun m => decide (m ≠ ln) && decide (L.viewOf input m = some d)) = some src ∧
        L.phase = .pAgree then
      if crc64 payload = d then
        fin ((s.putLane ln { L with
          repairs := Tbl.set none L.repairs input none
          localViews := Tbl.upd {} L.localViews input (fun v => { v with payload := payload }) }).finishAgreement ln)
      else fin (s.excludeAgreed ln .agree)
    else fin s

/-- AGREE_MINORITY_LIMIT (R204). -/
def execAgreeMinorityLimit (ln : LaneId) (s : State) : Host.Outcome State Fault Refusal :=
  let L := s.lane ln
  if L.decided ∧ s.votes ln ∧ (64 < L.minority ∨ 8 ≤ L.minorityRun) then fin (s.excludeAgreed ln .agree) else fin s

/-- UPLINK_AGE_LIMIT (R279): F of a controller frame is 1 once its AGE exceeds UPMAX. -/
def execUplinkAgeLimit (ln : LaneId) (frame : Nat) (s : State) : Host.Outcome State Fault Refusal :=
  let L := s.lane ln
  match L.image with
  | none => ok s
  | some m =>
    match m.body.ctrls.find? (fun e => decide (e.1 = frame)) with
    | none => ok s
    | some e =>
      let w := L.sup.frameWord frame 0
      if L.phase = .pAgree ∧ L.decided ∧ (e.2.upMax : Int) < w / 2 ∧ w % 2 = 0 then
        ok (s.putLane ln (Lane.codeFrames { L with sup := L.sup.heldFrame frame (w + 1) e.2.up }))
      else ok s

/-- FIRST_MESSAGE_LAPSE (R418): a first message that has stood for 60 s lapses. -/
def execFirstMessageLapse (ln : LaneId) (s : State) : Host.Outcome State Fault Refusal :=
  let L := s.lane ln
  let old (f : FirstMsg) : Bool :=
    decide (120000 < sinceHalfMs L f.cn) || (decide (120000 ≤ sinceHalfMs L f.cn) && L.decided)
  let keep (u : Sup) : Sup := { u with firsts := u.firsts.filter (fun f => !old f) }
  let evs : Evs := if s.lead = ln then
    (L.supC.firsts.filter old).map (fun f => (LogClass.change, EventName.firstLapsed, itemOf f.cmd)) else []
  ok ((s.putLane ln { L with sup := keep L.sup, supC := keep L.supC }).raiseLaneAll ln evs)

end Sys2Proof.Machine
end

