-- ==== Sys2Proof/Machine/Hawser.lean ====
section
/-! DEFINITION. The hawser copy (chapter 13): its records and seals as the claim holder's lanes build them, and as
the partner's lanes check and apply them. -/

namespace Sys2Proof.Machine

open Sys2Proof

/-! ## Records (R370, Table 13.4) -/

/-- Bytes of a copy record, in the order over which a seal's CRC runs (log entry 14). -/
def copyRecBytes : CopyRec → List Byte
  | .header h =>
    beBytes 4 h.cn.toNat ++ beBytes 4 h.clm.toNat ++ beBytes 1 (if h.unitB then 1 else 0) ++ beBytes 4 h.epoch.toNat ++
    beBytes 4 h.cnE.toNat ++ beBytes 1 (modCode h.state) ++ beBytes 1 h.tc ++ beBytes 96 h.signature.toNat ++
    beBytes 1 ((if h.lanes2of2 then 1 else 0) + (if h.skipped then 2 else 0) + (if h.transfer then 4 else 0))
  | .update k x => beBytes 4 k ++ beBytes 4 (ofSigned 32 x)
  | .frame f st fs => beBytes 4 f ++ beBytes 4 (ofSigned 32 st) ++ wordBytes fs
  | .chunk k ws => beBytes 4 k ++ wordBytes ws
  | .conn k e qs bs => beBytes 4 k ++ (match e with
      | none => [0]
      | some v => 1 :: beBytes 4 v.toNat) ++
    qs.flatMap (fun q => beBytes 2 q.1 ++ beBytes 4 q.2.1.toNat ++ beBytes 8 q.2.2.toNat) ++
    bs.flatMap (fun b => beBytes 2 b.1 ++ beBytes 4 b.2.1 ++ beBytes 4 b.2.2.toNat)
  | .gen ps ns rs ds =>
    ps.flatMap (fun p => beBytes 2 p.1 ++ beBytes 1 p.2.1 ++ (match p.2.2 with
      | none => [0]
      | some o => 1 :: beBytes 4 o.1.toNat ++ beBytes 1 (if o.2 then 1 else 0))) ++
    ns.flatMap (fun n => beBytes 2 n.1 ++ beBytes 4 n.2) ++
    rs.flatMap (fun r => beBytes 1 r.1 ++ r.2.flatMap (beBytes 2)) ++ ds.flatMap (beBytes 2)

/-- CRC over the records of a copy. -/
def copyCrc (rs : List CopyRec) : U64 := crc64 (rs.flatMap copyRecBytes)

/-- Place of a word in the transfer order: L, E, T, M (R218). -/
def transferIdx (key : Nat) : Option Nat :=
  match spaceOf key with
  | some .l => some (keyAddr key)
  | some .e => some (131072 + keyAddr key)
  | some .t => some (393216 + keyAddr key)
  | some .m => some (720896 + keyAddr key)
  | some .i => none
  | some .o => none
  | some .k => none
  | none => none

/-- Words per chunk: 96 256 bytes of 8. -/
def chunkLen : Nat := 12032

/-- Chunk a word belongs to. -/
def chunkOf (key : Nat) : Option Nat := (transferIdx key).map (· / chunkLen)

/-- Configured words of a chunk, from the lane's committed state. -/
def Lane.chunkWords (L : Lane) (k : Nat) : List (Nat × Int) :=
  (L.sigs.filter (fun e => decide (e.2.b ≠ 0) && decide (chunkOf e.1 = some k))).map (fun e => (e.1, L.plain e.1))

/-- A word the copy leaves out: AGE, DATA_OK and every word of an emergency-stop pair. -/
def Lane.uncopied (L : Lane) (key : Nat) : Bool :=
  decide (spaceOf key = some .e) &&
  (decide (keyAddr key % 16 = 3) || decide (keyAddr key % 16 = 4) ||
    (match L.image with
      | none => false
      | some m => m.body.elems.any (fun e => decide (e.1 = keyAddr key / 16) && decide (e.2.type = .esPair))))

/-- Status and fields of an inbound safe-link frame. -/
def frameRec (m : Manifest) (u : Sup) (f : Nat) : CopyRec :=
  .frame f (u.frameWord f 0)
    (match (inMsgs m).find? (fun e => decide (e.2.2.frame = f)) with
      | none => []
      | some e => e.2.2.fields.map (fun g => (g.word, u.frameWord f g.word)))

/-- What the copy says of the supervisor's own L words: the connections and the generated code (R301, R380). -/
def hiddenRecs (m : Manifest) (u : Sup) : List CopyRec :=
  m.body.conns.map (fun e =>
    let c : Conn := Tbl.get {} u.conns e.1
    .conn e.1 c.peerEpoch (c.seqs.filterMap (fun q => q.2.map (fun v => (q.1, v.1, v.2))))
      (c.bounds.filterMap (fun b => b.2.map (fun v => (b.1, v.1, v.2))))) ++
  [.gen (u.pend.filterMap (fun p => p.2.map (fun v => (p.1, v.1, v.2)))) u.noData u.present u.demanded]

/-- The partner is in RESYNC. -/
def State.partnerResync (s : State) : Bool := (s.pair.status.a.any (·.resync)) || (s.pair.status.b.any (·.resync))

/-- The chunk the copy of a cycle carries: the next after the chunk of the copy sent last (log entry 15). -/
def State.chunkDue (s : State) (cn : U32) : Nat :=
  match s.pair.copyOut.findSome? (fun r => match r with
      | .chunk k _ => some k
      | _ => none) with
  | none => 0
  | some k =>
    if s.pair.copyOut.any (fun r => match r with
        | .header h => decide (h.cn = cn)
        | _ => false) then k else (k + 1) % 64

/-- The records of the copy as a lane builds them (R370). A skipped cycle sends its header only. -/
def State.copyOf (s : State) (L : Lane) (m : Manifest) : List CopyRec :=
  let hdr : CopyRec := .header
    { cn := L.cn, clm := s.pair.clm, unitB := s.pair.unitB, epoch := L.epoch, cnE := L.cnE, state := s.module
      tc := m.hdr.tc, signature := m.hdr.signature, laneViews := L.views, lanes2of2 := s.lanes2of2
      skipped := !L.committed, transfer := s.pair.transferNext }
  [hdr] ++
  (if L.committed then
    (L.updated.filter (fun k => !L.uncopied k)).map (fun k => .update k (L.plain k)) ++
    L.slChanged.map (frameRec m L.supC) ++ hiddenRecs m L.supC
   else []) ++
  (if s.partnerResync then [.chunk (s.chunkDue L.cn) (L.chunkWords (s.chunkDue L.cn))] else [])

/-! ## Seals (R371) -/

/-- Bytes of a seal before its code, with the lane tag. -/
def sealBytes (x : Seal) : List Byte :=
  beBytes 4 x.clm.toNat ++ beBytes 4 x.cn.toNat ++ beBytes 8 x.crc.toNat ++ beBytes 8 x.sig.toNat ++
  beBytes 8 x.out.toNat ++ beBytes 1 (if x.transfer then 1 else 0) ++ tagByte x.lane.num

/-- Code of a seal under a hawser key: the 64 most significant bits. -/
def sealCode (k : Key) (x : Seal) : U64 := BitVec.ofNat 64 ((cmac k (sealBytes x)).toNat / 2 ^ 64)

/-- The seal of a lane over a copy. -/
def State.sealOf (s : State) (ln : LaneId) (L : Lane) (m : Manifest) (rs : List CopyRec) : Seal :=
  let out : U64 := match L.consRecs.get ln with
    | none => 0
    | some r => r.out
  let x : Seal := ⟨ln, s.pair.clm, L.cn, copyCrc rs, L.sig1, out, s.pair.transferNext, 0⟩
  { x with code := sealCode (m.body.key ln false 7 0) x }

/-- The copy lane: the lowest-numbered lane IN-VOTE that committed, or the lead in a skipped cycle. -/
def State.copyLane (s : State) : LaneId := (s.voters.find? (fun ln => (s.lane ln).committed)).getD s.lead

/-- At the end of its P-CONS the copy lane sends the copy, and every committed lane its seal (R370, R371). -/
def State.sendCopy (s : State) (ln : LaneId) : State :=
  let L := s.lane ln
  match L.image with
  | none => s
  | some m =>
    if s.pair.variantP ∧ s.pair.holder ∧ m.body.partner ∧ commandsNet s.module ∧ s.votes ln then
      let rs := s.copyOf L m
      let x := s.sealOf ln L m rs
      if ln = s.copyLane then
        { s with pair := { s.pair with
            copyOut := rs
            sealsOut := x :: (s.pair.sealsOut.filter (fun y => decide (y.cn = L.cn) && decide (y.lane ≠ ln))) } }
      else
        { s with pair := { s.pair with
            sealsOut := (s.pair.sealsOut.filter (fun y => decide (y.cn = L.cn) && decide (y.lane ≠ ln))) ++ [x] } }
    else s

end Sys2Proof.Machine
end

