-- ==== Sys2Proof/Machine/Consensus.lean ====
section
/-! DEFINITION. P-CONS (chapter 7): records, the overrun rules, the consensus decision, commit, skip, the switch
commands and the work at the end of P-CONS; exclusion notices and link failures; the entry of an individual
release. -/

namespace Sys2Proof.Machine

open Sys2Proof

/-! ## Output digest and record (R207) -/

/-- Configured fields of the O frames, in ascending frame and field number. -/
def Lane.outFields (L : Lane) : List Nat :=
  (L.sigs.filter (fun e => decide (spaceOf e.1 = some .o) && decide (e.2.b ≠ 0) && decide (keyAddr e.1 % 32 ≠ 0))).map (·.1)

/-- Both copies of a word checked and compared: the plain value, or the cause with the pass whose copy shows it (R153,
R207). Copies that differ are a fault of pass 2, and a signature entry, which both share, of pass 1 (log entry 98). A word
that is not configured has no check but its ECC. -/
def Lane.both (L : Lane) (key : Nat) : Except (Pass × CodedCause) Int :=
  if L.damagedWord .p1 key then .error (.p1, .ecc)
  else if L.eccBad .p2 key then .error (.p2, .ecc)
  else if !L.configured key then .ok 0
  else match L.decode .p1 key, L.decode .p2 key with
    | .error c, _ => .error (.p1, c)
    | .ok _, .error c => .error (.p2, c)
    | .ok x, .ok y => if x = y then .ok x else .error (.p2, .passcmp)

/-- The fault a supervisor's check of a word raises, with the pass of the copy it shows in. -/
def Lane.bothFault (L : Lane) (key : Nat) : Option (Pass × TFault) :=
  match L.both key with
  | .ok _ => none
  | .error e => some (e.1, L.wordFault e.1 0 key e.2)

/-- First O field whose copies do not agree. -/
def Lane.outBad (L : Lane) : Option (Pass × TFault) := L.outFields.findSome? L.bothFault

/-- The four drive permits of O frame 4 611 as committed, before any hold. -/
def Lane.permits (L : Lane) : Nat :=
  (List.range 4).foldl (fun a j =>
    if L.configured (keyO 4611 (j + 1)) ∧ L.plainIn .p2 (keyO 4611 (j + 1)) = vTrue then a + 2 ^ j else a) 0

/-- The output digest (R207). -/
def Lane.outDigest (L : Lane) (vec : BitVec 56) : U64 :=
  crc64 (L.outFields.flatMap (fun k => beBytes 4 (ofSigned 32 (L.plainIn .p2 k))) ++ beBytes 7 vec.toNat ++
    beBytes 1 L.permits)

/-- Keep the last 64 consensus records of each lane (R432). -/
def pushRec (src : LaneId) (r : ConsRec) (h : List (LaneId × ConsRec)) : List (LaneId × ConsRec) :=
  (src, r) :: (h.filter (fun e => decide (e.1 ≠ src)) ++ (h.filter (fun e => decide (e.1 = src))).take 63)

/-- Hold a record of a lane. -/
def Lane.holdRec (src : LaneId) (r : ConsRec) (L : Lane) : Lane :=
  { L with consRecs := L.consRecs.set src (some r), consHistory := pushRec src r L.consHistory }

/-- P_CONS_START (R207, R105): PASSCMP and the O fields first, then the digest and the record. A captured cycle of Lane 1
ends with the pass compare alone (R110, R112). -/
def execPConsStart (ln : LaneId) (s : State) : Host.Outcome State Fault Refusal :=
  let L0 := s.lane ln
  if s.piloted ln then
    if L0.phase = .pass2 then
      let L := L0.closePass.gate
      let s1 := s.putLane ln { L with phase := .judged }
      if L.sig1 ≠ L.sig2 then fin (s1.codedFault ln 5 .p2 0 0 { cause := .passcmp }) else fin s1
    else fin s
  else if L0.active ln ∧ runsCycle s.module ∧ (L0.phase = .pass2 ∨ L0.phase = .waitCons) then
    let L := L0.closePass.gate
    let s1 := s.putLane ln L
    if L.ovr then
      fin (s.putLane ln (Lane.holdRec ln ⟨L.cn, 0, 0, true, L.views⟩ { L with phase := .pCons }))
    else if L.sig1 ≠ L.sig2 then fin (s1.codedFault ln 5 .p2 0 0 { cause := .passcmp })
    else match L.outBad with
      | some e => fin (s1.codedFault ln 5 e.1 0 0 e.2)
      | none =>
        let vec := switchVector L s.module s.dead (resetLatches L L.sup.outs)
        fin (s.putLane ln (Lane.holdRec ln ⟨L.cn, L.sig1, L.outDigest vec, false, L.views⟩
          { L with phase := .pCons, newVec := vec }))
  else fin s

/-- CONSENSUS_RECORD_RX (R208): a record of a lane the receiver counts in the vote; a damaged exchange follows
R51. -/
def execConsensusRecordRx (ln src : LaneId) (rec : Option ConsRec) (s : State) : Host.Outcome State Fault Refusal :=
  let L := s.lane ln
  if L.phase = .pCons ∧ src ≠ ln then
    match rec with
    | none => fin (s.damaged ln src)
    | some r => if L.views.get src = .inVote then fin (s.putLane ln (L.holdRec src r)) else fin s
  else fin s

/-! ## Link failure (R28) -/

/-- A CLX link fails: with three lanes its higher-numbered end leaves the vote; between the two lanes of a 2oo2 the
vote is lost. -/
def State.linkFail (s : State) (l : ClxLink) : State :=
  let a := l.ends.1
  let b := l.ends.2
  let s1 : State := { s.raiseLane a .fault .clxLinkFailed [a.num, b.num] with clxOk := s.clxOk.setLink l false }
  if s1.votes a ∧ s1.votes b then
    if s1.voters.length = 3 then s1.excludeAgreed b .clx else s1.loseVote
  else s1

/-! ## Calibration of the links (R53) -/

/-- 64 round trips that spread by at most 16 ns: the link calibrates. -/
def tripsOk (ts : List Nat) : Bool :=
  decide (ts.length = 64) && decide (ts.foldl max 0 ≤ ts.foldl min (ts.headD 0) + 16)

/-- One-way latency: half the mean of the 64 round trips. -/
def tripLatency (ts : List Nat) : Int := ((ts.sum / 128 : Nat) : Int)

/-- The latencies a lane calibrates; a link that fails keeps the latency it had. -/
def Lane.calibrated (me : LaneId) (trips : Trips) (L : Lane) : Lane :=
  { L with latency := Tri.ofFn (fun m => match linkOf me m with
      | none => 0
      | some l => if tripsOk (trips.link l) then tripLatency (trips.link l) else L.latency.get m) }

/-- A calibration judges a link: in service again, unless a mark keeps it out (Table 15.8), or failed under R28. -/
def State.judgeLink (trips : Trips) (s : State) (l : ClxLink) : State :=
  if s.marked (.link l) then s
  else if tripsOk (trips.link l) then { s with clxOk := s.clxOk.setLink l true }
  else s.linkFail l

/-- A lane calibrates its CLX links (R53). -/
def State.calibrate (s : State) (ln : LaneId) (trips : Trips) : State :=
  (ln.others.filterMap (linkOf ln)).foldl (State.judgeLink trips) (s.updLane ln (Lane.calibrated ln trips))

/-- CLX_LINK_FAILURE (R28, R51). -/
def execClxLinkFailure (link : ClxLink) (damaged : Bool) (s : State) : Host.Outcome State Fault Refusal :=
  if damaged then fin (s.damaged link.ends.1 link.ends.2) else fin (s.linkFail link)

/-- EXCHANGE_DEADLINE (R208): a record missing at both other lanes is SILENT; at one only, or between two lanes
IN-VOTE, a link failure. -/
def execExchangeDeadline (ln : LaneId) (s : State) : Host.Outcome State Fault Refusal :=
  let L := s.lane ln
  if L.phase = .pCons ∧ s.votes ln then
    fin (ln.others.foldl (fun (s : State) src =>
      if s.votes ln ∧ s.votes src ∧ ((s.lane ln).consRecs.get src).isNone then
        match thirdLane ln src with
        | some t =>
          if s.votes t ∧ ((s.lane t).consRecs.get src).isNone then s.excludeAgreed src .silent
          else match linkOf ln src with
            | some l => s.linkFail l
            | none => s
        | none => s
      else s) s)
  else fin s

/-! ## The decision (R65, R208, Tables 2.5 and 7.8) -/

/-- What the lanes decide. -/
inductive ConsOut where
  | commit (out : Option LaneId)
  | skip (out : Option LaneId) (disagree : Bool)
  | lost
deriving DecidableEq, Repr

/-- Table 7.8 over (lane, SIG and OUT); with `out` already excluded for overrun. -/
def consTable (out : Option LaneId) : List (LaneId × U64 × U64) → ConsOut
  | [(a, x), (b, y), (c, z)] =>
    if x = y then .commit (if z = x then none else some c)
    else if x = z then .commit (some b)
    else if y = z then .commit (some a)
    else .lost
  | [(_, x), (_, y)] => if x = y then .commit out else .lost
  | _ => .lost

/-- Table 2.5, then Table 7.8. -/
def decideCons (rs : List (LaneId × ConsRec)) : ConsOut :=
  let ovrs := rs.filter (fun e => e.2.ovr)
  let good := rs.filter (fun e => !e.2.ovr)
  let vals := good.map (fun e => (e.1, e.2.sig, e.2.out))
  match rs.length, ovrs.length with
  | 3, 0 => consTable none vals
  | 3, 1 => consTable (ovrs.head?.map (·.1)) vals
  | 3, 2 => .skip (good.head?.map (·.1)) false
  | 3, _ => .skip none false
  | 2, 0 => consTable none vals
  | 2, 1 => .skip none true
  | 2, _ => .skip none false
  | _, _ => .lost

/-- Records of the lanes IN-VOTE, as one of them holds them. -/
def State.recsSeenBy (s : State) (me : LaneId) : List (LaneId × ConsRec) :=
  s.voters.filterMap (fun ln => ((s.lane me).consRecs.get ln).map (fun r => (ln, r)))

/-- The records by which the vote decides: each lane decides by Tables 2.5 and 7.8 from its own record and those it has
received (R201, R207), and two lanes that decide alike carry the decision; none where no two do. -/
def State.voteRecs (s : State) : Option (List (LaneId × ConsRec)) :=
  (s.voters.find? (fun ln => s.voters.any (fun m =>
    decide (m ≠ ln) && decide (decideCons (s.recsSeenBy m) = decideCons (s.recsSeenBy ln))))).map s.recsSeenBy

/-- The echo round shows that a lane sent different records on its two links: what the other two lanes received from it
differs (R207, R201). With two lanes IN-VOTE no echo is sent. -/
def State.equivocates (s : State) (src : LaneId) : Bool :=
  decide (s.voters.length = 3) &&
  (match (s.voters.filter (fun m => decide (m ≠ src))).filterMap (fun m => (s.lane m).consRecs.get src) with
    | [a, b] => decide (a ≠ b)
    | _ => false)

/-- A lane that sent different records on its two links leaves with cause AGREE. -/
def State.echoRound (s : State) : State :=
  s.voters.foldl (fun s src => if s.equivocates src then s.excludeAgreed src .agree else s) s

/-- Lanes without a record are SILENT (R208). -/
def State.dropSilent (s : State) : State :=
  let n := s.voters.length
  s.voters.foldl (fun s src =>
    if ((s.lane src).consRecs.get src).isNone then
      if n = 3 then s.excludeAgreed src .silent else s.loseVote
    else s) s

/-! ## Commit (R209) -/

/-- Words of L, E, T and M stored in the cycle, in ascending order (R218). -/
def Lane.stored (L : Lane) : List Nat :=
  Tbl.keys (Tbl.ofList false (((L.journal.map (·.key) ++ L.supUndo.map (·.1)).filter retained).map (fun k => (k, true))))

/-- Safe-link frames whose status or fields the cycle changed. -/
def Lane.slFramesChanged (L : Lane) : List Nat :=
  match L.image with
  | none => []
  | some m => ((inMsgs m).map (fun e => e.2.2.frame)).filter (fun f =>
      (List.range 32).any (fun w => decide (L.sup.frameWord f w ≠ L.supC.frameWord f w)))

/-- The end-of-PASS2 state becomes the committed state; the latches a reset clears are cleared (R332). -/
def Lane.commitCycle (L : Lane) : Lane :=
  let u := { L.sup with outs := resetLatches L L.sup.outs
                        lastCmds := (L.agreedCmds.reverse.map (fun c => (c, L.cn)) ++ L.sup.lastCmds).take 64 }
  { L with
    updated := L.stored, slChanged := L.slFramesChanged
    journal := [], supUndo := [], sup := u, supC := u, cnC := L.cn, committed := true, everCompleted := true
    bodyAge := 0, startCold := false, startWarm := false, phase := .judged, pendEvents := [] }

/-- Elements of a type that are UNPROVEN (R168). -/
def Lane.unproven (L : Lane) (t : ElemType) : Nat :=
  match L.image with
  | none => 0
  | some m => (m.body.elems.filter (fun e => decide (e.2.type = t) && decide (L.plain (keyE e.1 5) ≠ vTrue))).length

/-- Every count of R168 is zero. -/
def Lane.allProven (L : Lane) : Bool :=
  [ElemType.sect, .point, .signal, .crossing, .esPair].all (fun t => decide (L.unproven t = 0))

/-- A shadow cycle of a rejoining lane, compared with the donors' committed record (R219). -/
def Lane.shadowCycle (me : LaneId) (donor : Option ConsRec) (L : Lane) : Lane :=
  let same : Bool := match L.consRecs.get me, donor with
    | some a, some b => decide (a.cn = b.cn ∧ a.sig = b.sig ∧ a.out = b.out ∧ a.ovr = b.ovr)
    | _, _ => false
  let C := L.commitCycle
  { C with committed := false
           rejoin := { C.rejoin with matching := if same then C.rejoin.matching + 1 else 0
                                     shadow := C.rejoin.shadow + 1 } }

/-- An online change agreed in the committed cycle: checked, and its switch cycle set to a + 4 (R408, R410). -/
def State.onlineAgreed (s : State) (L : Lane) : State :=
  match L.agreedCmds.find? (fun c => decide (c.cmd = .onlineChange)) with
  | none => s
  | some c =>
    let no (m : Option Manifest) : Int := match m with
      | none => 0
      | some m => (m.hdr.number.toNat : Int)
    let base : List Int := cmdWho c ++ [no s.man, no s.newMan, ((L.cn + 4).toNat : Int)]
    match s.onlineRefusal with
    | some r => s.raiseChange .svc .onlineRefused (base ++ [((r.1 : Nat) : Int), ((r.2 : Nat) : Int)])
    | none =>
      let s1 := s.raiseChange .svc .onlineCommanded base
      { s1 with change := { s1.change with switchCn := some (L.cn + 4), changer := cmdWho c } }

/-- Commit in every lane IN-VOTE, and in the shadow lanes; the events of the cycle; OPERATIONAL (R479). -/
def State.commitAll (s : State) : State :=
  let lead := s.lead
  let L := s.lane lead
  let donor := L.consRecs.get lead
  let evs := L.pendEvents
  let s1 := s.mapLanes (fun ln M =>
    match M.views.get ln with
    | .inVote => M.commitCycle
    | .rejoining => if M.rejoin.framesDone ∧ M.phase = .pCons then M.shadowCycle ln donor else M
    | .outTest => M
    | .outFault => M
    | .laneOff => M)
  let s2 : State := ({ s1 with skippedCn := none }).raiseCommitted lead evs
  let s3 := (s2.onlineAgreed L).checkPilot
  if s3.module = .restricted ∧ (s3.lane lead).allProven then s3.setModule .operational else s3

/-! ## Skip (R66-R68) -/

/-- A lane returns to the committed state; the downlinks will carry one more AGE. -/
def Lane.skipCycle (L : Lane) : Lane :=
  let u : Sup := { L.supC with outs := L.supC.outs.skipped L.vec }
  Lane.codeFrames { L.restore with
    sup := u, supC := u, committed := false, phase := .judged, pendEvents := [], bodyAge := min (L.bodyAge + 1) 15
    reportMsgs := [], reportCmds := [], agreedCmds := [] }

/-- What missed its flag, with its counted clk_t at the stop, as OVR_WARN names it: partitions, and the route engine as
4. -/
def Lane.overrunData (L : Lane) : List Int :=
  (CoreId.all.filter (coreLate L)).flatMap (fun c => [((c.idx : Nat) : Int), ((L.cores.get c).clk : Nat)]) ++
  (if engineLate L then [4, ((L.route.busyUntil : Nat) : Int)] else [])

/-- The lane that reports a skipped cycle: the first of the voters that overran. -/
def State.overrunLane (s : State) : LaneId := (s.voters.find? (fun ln => (s.lane ln).ovr)).getD s.lead

/-- The cycle is a second skipped one in the very next CN. -/
def State.secondSkip (s : State) : Bool := decide (s.skippedCn = some ((s.lane s.lead).cn - 1))

/-- A skipped cycle: every lane holds its last consensus; a second in a row takes the module to HALT. -/
def State.skipAll (s : State) (disagree : Bool) : State :=
  let lead := s.lead
  let L := s.lane lead
  let second := s.secondSkip
  let late := s.overrunLane
  let s1 := s.raiseLane late .warn .ovrWarn ((s.lane late).overrunData ++ [if second then 2 else 1])
  let s2 := if disagree then s1.raiseLane lead .warn .ovrDisagree [] else s1
  let s3 := s2.mapLanes (fun ln M =>
    match M.views.get ln with
    | .inVote => M.skipCycle
    | .rejoining => if M.rejoin.framesDone then M.skipCycle else M
    | .outTest => M
    | .outFault => M
    | .laneOff => M)
  if second then s3.enterHalt else { s3 with skippedCn := some L.cn }

/-- The consensus of a cycle, once the records are in: `only` limits it to a second skip. -/
def State.consensus (s : State) (only : Bool) : State :=
  let s1 := s.echoRound.dropSilent
  if runsCycle s1.module then
    let rs := s1.voteRecs.getD []
    match decideCons rs with
    | .skip out d =>
      if only && !s1.secondSkip then s
      else (match out with
        | some ln => s1.excludeAgreed ln .overrun
        | none => s1).skipAll d
    | .commit out =>
      if only then s
      else
        let anyOvr := rs.any (fun e => e.2.ovr)
        (match out with
        | some ln => s1.excludeAgreed ln (if anyOvr then .overrun else .sigcmp)
        | none => s1).commitAll
    | .lost => if only then s else s1.loseVote
  else if only then s else s1

/-- Some lane IN-VOTE stands in P-CONS with its decision to come. -/
def State.inCons (s : State) : Bool := s.voters.any (fun ln => decide ((s.lane ln).phase = .pCons))

/-- A planned shutdown takes a module that commands, and does not hand over, to CLOSED at a P-CONS (R439). -/
def State.shutdownAtCons (s : State) : State :=
  if s.bist.shutdownDue && commandsNet s.module && !s.pair.transferNext then s.closeModule else s

/-- CONSENSUS_DECISION (R208). -/
def execConsensusDecision (s : State) : Host.Outcome State Fault Refusal :=
  if runsCycle s.module ∧ s.inCons then fin (s.consensus false).shutdownAtCons else fin s

/-- SECOND_SKIP_HALT (R68): the decision of a cycle that is skipped right after a skipped one. -/
def execSecondSkipHalt (s : State) : Host.Outcome State Fault Refusal :=
  if runsCycle s.module ∧ s.inCons then fin (s.consensus true) else fin s

/-! ## The end of P-CONS (R153, R209, R60) -/

/-- Place of a word in the cross-check sweep: E, route table, pool. -/
def sweepIdx (key : Nat) : Option Nat :=
  match spaceOf key with
  | some .e => some (keyAddr key)
  | some .t => some (262144 + keyAddr key)
  | some .l => none
  | some .i => none
  | some .o => none
  | some .k => none
  | some .m => none
  | none => none

/-- Words of one sweep, and of one cycle of it. -/
def sweepLen : Nat := 589824
/-- Words checked in one cycle. -/
def sweepStep : Nat := 16384

/-- The sweep reads a word in this cycle. -/
def Lane.swept (L : Lane) (key : Nat) : Bool :=
  match sweepIdx key with
  | none => false
  | some i => decide (L.sweep ≤ i) && decide (i < L.sweep + sweepStep)

/-- The earlier of two faults in sweep order. -/
def firstFault (a : Option (Nat × Pass × TFault)) (b : Nat × Pass × TFault) : Option (Nat × Pass × TFault) :=
  match a with
  | none => some b
  | some x => if b.1 < x.1 then some b else some x

/-- The first fault among the words the sweep reads in this cycle: the configured ones, and any other with an
uncorrectable error in it or in its signature entry. -/
def Lane.sweepBad (L : Lane) : Option (Pass × TFault) :=
  (((((L.sigs.map (·.1) ++ L.eccCopy1 ++ L.eccCopy2 ++ L.eccSig).filter L.swept).filterMap
    (fun k => (L.bothFault k).map (fun e => (k, e)))).foldl firstFault none)).map (·.2)

/-- The sweep moves on, and the scrub corrects what it can (R60, R117). -/
def Lane.scrub (L : Lane) : Lane :=
  { L with sweep := (L.sweep + sweepStep) % sweepLen, eccSoft := [], eccCount := L.eccCount + L.eccSoft.length }

/-- Switch commands at the end of P-CONS (R209, R66, R386): a committed lane issues its new vector, a lane of a
module that does not command opens everything, and a skipped cycle changes nothing. The vector of a shadow lane
follows its shadow cycle. -/
def Lane.issueVector (me : LaneId) (m : ModState) (L : Lane) : Lane :=
  let M := { L with prevVec2 := L.prevVec, prevVec := L.vec }
  if !commandsNet m then Lane.openAll { M with vec := 0 }
  else if L.everCompleted ∧ L.cnC = L.cn then Lane.driveHeld me { M with vec := L.newVec }
  else M

/-- P_CONS_END (R209): switch commands, the cross-check sweep, the scrub and the hawser copy. -/
def execPConsEnd (ln : LaneId) (s : State) : Host.Outcome State Fault Refusal :=
  let L := s.lane ln
  if runsCycle s.module ∧ L.active ln ∧ (L.phase = .judged ∨ s.module = .standby) then
    let L1 := { L.issueVector ln s.module with phase := if L.phase = Phase.judged then Phase.pSign else L.phase }
    match L1.sweepBad with
    | some e => fin ((s.noteCons.putLane ln L1).codedFault ln 5 e.1 0 0 e.2)
    | none => fin ((s.noteCons.putLane ln L1.scrub).sendCopy ln)
  else fin s

/-! ## Exclusion notices (R210) -/

/-- EXCLUSION_NOTICE_RX (R210): the receiver's view, its shared switches, its exclusion bank; and the loss of the
vote where fewer than two lanes remain (R216). -/
def execExclusionNoticeRx (ln src : LaneId) (s : State) : Host.Outcome State Fault Refusal :=
  if ln ≠ src ∧ s.laneState src = .outFault then
    fin ((s.updLane ln (Lane.see ln src)).checkVote)
  else fin s

/-! ## Individual release (R419) -/

/-- IREL_ENTRY (R419): the releases whose time has passed enter the head of the queue at clk_t 0 of the pass. -/
def execIrelEntry (ln : LaneId) (s : State) : Host.Outcome State Fault Refusal :=
  let L := s.lane ln
  let due := L.sup.irels.filter (fun e => notEarlier L.cn e.2 &&
    !L.route.queue.any (fun q => decide (q.kind = 15) && decide (q.route = e.1)))
  if L.pass.isSome ∧ L.route.busyUntil = 0 ∧ due ≠ [] then
    ok (s.putLane ln { L with route := { L.route with
      queue := due.map (fun e => ⟨5, 0, e.1, 15, 0⟩) ++ L.route.queue, gated := false } })
  else ok s

end Sys2Proof.Machine
end

