-- ==== Sys2Proof/Machine/Signing.lean ====
section
/-! DEFINITION. P-SIGN (R206, R212, R304): downlink bodies and codes, outgoing safe-link messages, and the report
of what was agreed. -/

namespace Sys2Proof.Machine

open Sys2Proof

/-- Every downlink body with the lane's code field, by controller, and the fields out of range (R212, R281). -/
def signAll (ln : LaneId) (L : Lane) (m : Manifest) (test unitB : Bool) (clm : U32) :
    Tbl (List Byte) × List (Nat × Nat) :=
  m.body.ctrls.foldl (fun a e =>
    let d := downBody L m test unitB clm e.1 e.2
    (Tbl.set [] a.1 e.1 (d.1 ++ teleCodeField (m.body.key ln false 0 e.1) d.1 ln.num),
      a.2 ++ d.2.map (fun w => (e.1, w)))) ([], [])

/-- Messages of every connection that are due: the connection records after them, message and body, and the fields
out of range (R304). -/
def buildAll (L : Lane) (m : Manifest) (test unitB : Bool) (clm : U32) :
    Tbl Conn × List (Nat × List Byte) × List (Nat × Nat) :=
  m.body.conns.foldl (fun a e =>
    let r := slBuildConn L m test unitB clm e.1 e.2 (Tbl.get {} a.1 e.1)
    (Tbl.set {} a.1 e.1 r.1, a.2.1 ++ r.2.1, a.2.2 ++ r.2.2)) (L.supC.conns, [], [])

/-- A lane's body and code of an outgoing message reach SVC (R214, R305). -/
def Uplink.addPart (u : Uplink) (ln : LaneId) (key : Nat) (body code : List Byte) : Uplink :=
  let old : List (LaneId × List Byte × List Byte) := match Tbl.get none u.out key with
    | some o => if o.sent then [] else o.parts
    | none => []
  { u with out := Tbl.set none u.out key (some ⟨(old.filter (fun p => decide (p.1 ≠ ln))) ++ [(ln, body, code)], false⟩) }

/-- A reported message retires a held copy: an earlier EPOCH, or the same and no later SEQ (R206). -/
def retires (r : Nat × Nat × U32 × U32) (c : SlCopy) : Bool :=
  decide (slConn c.pdu = r.1) && decide (slMsg c.pdu = r.2.1) &&
  (later r.2.2.1 (slEpoch c.pdu) || (decide (slEpoch c.pdu = r.2.2.1) && !later (slSeq c.pdu) r.2.2.2))

/-- The lanes' report of agreed messages and commands reaches SVC (R206). -/
def Uplink.report (u : Uplink) (msgs : List (Nat × Nat × U32 × U32)) (cmds : List Nat) : Uplink :=
  { u with held := u.held.filter (fun c => !msgs.any (fun r => retires r c.toSlCopy))
           cmds := u.cmds.filter (fun c => !cmds.contains c.seq.toNat) }

/-- Fields of the local O frames that hold neither TRUE nor FALSE (R97, R328): every one of them is boolean, and the lane
takes it as FALSE. -/
def Lane.localRange (L : Lane) : List (Nat × Nat) :=
  (L.outFields.filter (fun k => decide (keyO 4608 0 ≤ k) && !isBool (L.plain k))).map
    (fun k => (keyAddr k / 32, keyAddr k % 32))

/-- What a lane signs in its cycle: nothing where the module does not command, or in a skipped cycle before the
first completed one (R66, R478). -/
def State.signs (s : State) (L : Lane) : Bool := commandsNet s.module && (L.committed || L.everCompleted)

/-- The signing of one lane. -/
def State.signLane (s : State) (ln : LaneId) (m : Manifest) : State :=
  let L := s.lane ln
  let test := decide (s.module = .test)
  let d := signAll ln L m test s.pair.unitB s.pair.clm
  let b := buildAll L m test s.pair.unitB s.pair.clm
  let L1 := { L with signedDown := d.1, sup := { L.sup with conns := b.1 }, supC := { L.supC with conns := b.1 } }
  let evs := (if s.lead = ln then d.2 ++ b.2.2 ++ L.localRange else []).map
    (fun e => (LogClass.warn, EventName.fieldRange, [((e.1 : Nat) : Int), ((e.2 : Nat) : Int)]))
  let u := if s.uplink.up && s.uplink.linkAccepted then
      b.2.1.foldl (fun u x => u.addPart ln x.1 x.2 (slCodeField (m.body.key ln false 3 (x.1 / 512)) x.2 ln.num)) s.uplink
    else s.uplink
  { (s.putLane ln L1).raiseLaneAll ln evs with uplink := u }

/-- A shadow lane follows the connection records its donors send under (R301, R219). -/
def State.shadowSign (s : State) (ln : LaneId) : State :=
  let L := s.lane ln
  match L.image with
  | none => s
  | some m =>
    if s.signs L then
      let b := buildAll L m (decide (s.module = .test)) s.pair.unitB s.pair.clm
      s.putLane ln { L with sup := { L.sup with conns := b.1 }, supC := { L.supC with conns := b.1 } }
    else s

/-- P_SIGN_START (R212). -/
def execPSignStart (ln : LaneId) (s : State) : Host.Outcome State Fault Refusal :=
  let L := s.lane ln
  if s.votes ln ∧ runsPasses s.module ∧ L.phase = .pSign then
    let s1 : State := { s with uplink := if L.committed then s.uplink.report L.reportMsgs L.reportCmds else s.uplink }
    let s2 := match L.image with
      | none => s1
      | some m => if s1.signs L then s1.signLane ln m else s1.updLane ln (fun L => { L with signedDown := [] })
    ok (s2.updLane ln (fun L => { L with phase := .signed }))
  else if s.laneState ln = .rejoining ∧ runsPasses s.module ∧ L.phase = .pSign then
    ok ((s.shadowSign ln).updLane ln (fun L => { L with phase := .signed }))
  else ok s

end Sys2Proof.Machine
end

