-- ==== Sys2Proof/Machine/WharfBus.lean ====
section
/-! DEFINITION. The Wharf bus condition channels (chapter 12), and the flush of a hardware queue (R453, R359). -/

namespace Sys2Proof.Machine

open Sys2Proof

/-- A channel. -/
def State.chan (s : State) (ch : Nat) : WbChan := Tbl.get {} s.wb ch

/-- Replace a channel. -/
def State.putChan (s : State) (ch : Nat) (c : WbChan) : State := { s with wb := Tbl.set {} s.wb ch c }

/-- The Wharf bus runs: SVC works and is not limited to the maintenance port and the logbook (Table 15.8). -/
def State.wbOn (s : State) : Bool := s.uplink.up && !s.uplink.limited

/-- Queues of a channel (Table 12.5). -/
def rxQueue (ch q : Nat) : Nat := 104 + 2 * ch + q
def reqQueue (ch : Nat) : Nat := 112 + ch
def endQueue (ch : Nat) : Nat := 116 + ch

/-! ## Frames (R347, R354, R355) -/

/-- Data bytes a DLC stands for. -/
def dlcLen (fdf : Bool) (dlc : Nat) : Nat :=
  if dlc ≤ 8 then dlc
  else if !fdf then 8
  else match dlc with
    | 9 => 12 | 10 => 16 | 11 => 20 | 12 => 24 | 13 => 32 | 14 => 48
    | _ => 64

/-- Place of a frame in the order of arbitration: 11 bits first, an 11-bit identifier ahead of a 29-bit one. -/
def arbKey (f : CanFrame) : Nat :=
  if f.ide then (f.id / 2 ^ 18 % 2 ^ 11) * 2 ^ 19 + 2 ^ 18 + f.id % 2 ^ 18 else (f.id % 2 ^ 11) * 2 ^ 19

/-- Data of a frame in words of four bytes. -/
def dataWords (bs : List Byte) : Nat → List (BitVec 63)
  | 0 => []
  | n + 1 => BitVec.ofNat 63 (beNat ((bs ++ [0, 0, 0, 0]).take 4)) :: dataWords (bs.drop 4) n

/-- First word of a record or request (Table 12.6). -/
def headWord (ch pair : Nat) (f : CanFrame) : BitVec 63 :=
  BitVec.ofNat 63 (2 ^ 62 + ch * 2 ^ 60 + pair * 2 ^ 55 + (if f.ide then 2 ^ 54 else 0) + (if f.fdf then 2 ^ 53 else 0) +
    (if f.brs then 2 ^ 52 else 0) + (if f.esi then 2 ^ 51 else 0) + f.dlc * 2 ^ 47 + f.id % 2 ^ 29)

/-- Receive record of a frame (R354, Table 12.6). -/
def rxRecord (ch pair : Nat) (c : WbChan) (f : CanFrame) (time : U48) : List (BitVec 63) :=
  let place := if c.mode = .tide then c.col * 2 ^ 56 + c.row * 2 ^ 52 else 0
  [headWord ch pair f, BitVec.ofNat 63 (place + time.toNat)] ++
    dataWords f.data ((dlcLen f.fdf f.dlc + 3) / 4)

/-- A word starts an item. -/
def startMark (w : BitVec 63) : Bool := w.getLsbD 62

/-- Bytes of data words. -/
def wordsData (ws : List (BitVec 63)) : List Byte := ws.flatMap (fun w => beBytes 4 (w.toNat % 2 ^ 32))

/-- The first complete transmit request among some words: its length in words and the request (R355). -/
def parseReq (ws : List (BitVec 63)) (now : Nat) : Option (Nat × TxReq) :=
  match ws with
  | w0 :: w1 :: r =>
    let n := w0.toNat
    let fdf := n.testBit 53
    let dlc := n / 2 ^ 47 % 16
    let k := (dlcLen fdf dlc + 3) / 4
    if r.length < k then none
    else
      let ide := n.testBit 54
      let f : CanFrame :=
        { ide := ide, id := if ide then n % 2 ^ 29 else n % 2 ^ 11, fdf := fdf, brs := n.testBit 52, esi := n.testBit 51
          remote := false, dlc := dlc, data := (wordsData (r.take k)).take (dlcLen fdf dlc) }
      some (2 + k, ⟨f, n / 2 ^ 55 % 32, w1.toNat % 65536, now, 0⟩)
  | _ => none

/-- Put a request into the pending set, behind frames of equal identifier (R355). -/
def insertReq (q : TxReq) : List TxReq → List TxReq
  | [] => [q]
  | x :: r =>
    if arbKey x.frame ≤ arbKey q.frame then x :: insertReq q r
    else q :: x :: r

/-! ## Completions (R358) -/

/-- Completion word of a request. -/
def doneWord (q : TxReq) (status : Nat) (time : U48) : BitVec 63 :=
  BitVec.ofNat 63 (q.tag % 32 * 2 ^ 58 + q.attempts % 32 * 2 ^ 53 + status * 2 ^ 49 + time.toNat)

/-- Report the end of a request. -/
def State.complete (s : State) (ch : Nat) (q : TxReq) (status : Nat) : State :=
  s.putQueue (endQueue ch) ((s.queue (endQueue ch)).push (doneWord q status (s.ptp.advance s.now).time))

/-- A request's lifetime has passed. -/
def expired (now : Nat) (q : TxReq) : Bool := decide (q.lifeMs ≠ 0) && decide (q.entered + q.lifeMs * 1000000 < now)

/-- The expired requests at the head of a pending set, and the rest. -/
def splitExpired (now : Nat) : List TxReq → List TxReq × List TxReq
  | [] => ([], [])
  | q :: r =>
    if expired now q then
      let p := splitExpired now r
      (q :: p.1, p.2)
    else ([], q :: r)

/-- Remove expired frames at the head, each with status EXPIRED (R356). -/
def State.dropExpired (s : State) (ch : Nat) : State :=
  let c := s.chan ch
  let p := splitExpired s.now c.pending
  p.1.foldl (fun s q => s.complete ch q 5) (s.putChan ch { c with pending := p.2 })

/-! ## Error states (R364) -/

/-- Error state by the counters; bus-off is left by recovery only. -/
def errorState (c : WbChan) : BusState :=
  if c.bus = .busOff ∨ 255 < c.tec then .busOff else if 127 < c.tec ∨ 127 < c.rxErr then .passive else .active

/-- Code of a bus state. -/
def busCode : BusState → Nat
  | .active => 0 | .passive => 1 | .busOff => 2

/-- Follow the counters: a change of state and the first 96 in a state are logged. -/
def State.followErrors (s : State) (ch : Nat) (c : WbChan) : State :=
  let b := errorState c
  let c1 := if b = c.bus then c else { c with bus := b, warned := false }
  let high := decide (96 ≤ c1.tec) || decide (96 ≤ c1.rxErr)
  let s1 := s.putChan ch (if high then { c1 with warned := true } else c1)
  let s2 := if b = c.bus then s1 else s1.raise .warn .wbState .svc [((ch : Nat) : Int), ((busCode b : Nat) : Int)]
  if high && !c1.warned then s2.raise .warn .wbCounter96 .svc [((ch : Nat) : Int)] else s2

/-! ## Reception (R352, R354) -/

/-- A filter pair matches a frame (Table 12.3). -/
def pairMatches (v : U64) (f : CanFrame) : Bool :=
  let n := v.toNat
  let mask := n / 2 ^ 29 % 2 ^ 29
  let mtch := n % 2 ^ 29
  let fdf := n / 2 ^ 60 % 4
  let act := n / 2 ^ 58 % 4
  n.testBit 63 && decide (n.testBit 62 = f.ide) && decide (fdf ≠ 3) && decide (act ≠ 3) &&
  (n.testBit 62 || (decide (mask < 2 ^ 11) && decide (mtch < 2 ^ 11))) &&
  decide ((f.id ^^^ mtch) &&& mask = 0) && (decide (fdf = 0) || decide (decide (fdf = 2) = f.fdf))

/-- First matching pair and its ACTION. -/
def firstPair (c : WbChan) (f : CanFrame) : Option (Nat × Nat) :=
  ((List.range 32).find? (fun i => pairMatches (Tbl.get 0 c.filters i) f)).map
    (fun i => (i, (Tbl.get 0 c.filters i).toNat / 2 ^ 58 % 4))

/-- REC after a frame received without error (ISO 11898-1); LISTEN leaves it. -/
def recDown (c : WbChan) : WbChan :=
  if c.mode = .listen then c else { c with rxErr := if 127 < c.rxErr then 127 else c.rxErr - 1 }

/-- REC after an error in reception (ISO 11898-1): 1 more, and 8 for each dominant bit about the error flag that counts.
LISTEN leaves it. -/
def recUp (c : WbChan) (eights : Nat) : WbChan :=
  if c.mode = .listen then c else { c with rxErr := c.rxErr + 1 + 8 * eights }

/-- A received frame that is complete and free of errors (R352, R354). -/
def State.takeCan (s : State) (ch : Nat) (f : CanFrame) (sofTime : U48) : State :=
  let s0 := s.followErrors ch (recDown (s.chan ch))
  let c0 := s0.chan ch
  if f.remote then s0.putChan ch { c0 with rxRemote := c0.rxRemote + 1 }
  else match firstPair c0 f with
    | none => s0.putChan ch { c0 with rxNoMatch := c0.rxNoMatch + 1 }
    | some (i, a) =>
      if a = 2 then s0
      else
        let p := (s0.queue (rxQueue ch a)).pushItem (rxRecord ch i c0 f sofTime)
        if p.2 then s0.putQueue (rxQueue ch a) p.1
        else s0.putChan ch { c0 with rxOverflow := c0.rxOverflow + 1 }

/-- CAN_FRAME_RX (R352, R364): a channel in bus-off receives nothing. SOF and end of the frame are one step (log entry 17). -/
def execCanFrameRx (ch : Nat) (rx : CanRx) (sofTime : U48) (s : State) : Host.Outcome State Fault Refusal :=
  let c := s.chan ch
  if s.wbOn ∧ c.mode ≠ .off ∧ c.bus ≠ .busOff then
    match rx with
    | .frame f => ok (s.takeCan ch f sofTime)
    | .error k n => ok (s.followErrors ch (recUp { c with errs := Tbl.upd 0 c.errs k (· + 1) } n))
  else ok s

/-! ## Requests (R355, R359) -/

/-- Words of the queue from its first start mark on (R453). -/
def fromStart : List (BitVec 63) → List (BitVec 63)
  | [] => []
  | w :: r => if startMark w then w :: r else fromStart r

/-- TX_REQUEST_ADMIT (R355). -/
def execTxRequestAdmit (ch t : Nat) (s : State) : Host.Outcome State Fault Refusal :=
  let s0 := s.touch t
  let c := s0.chan ch
  let Q := s0.queue (reqQueue ch)
  let ws := fromStart Q.words
  if s0.wbOn ∧ c.mode ≠ .off ∧ c.pending.length < 32 then
    match parseReq ws s0.now with
    | none => ok s0
    | some (n, q) =>
      ok ((s0.putQueue (reqQueue ch) (Queue.mark { Q with words := ws.drop n })).putChan ch
        { c with pending := insertReq q c.pending })
  else ok s0

/-- Complete requests that stand in a queue's words. -/
def parseAll (now : Nat) : Nat → List (BitVec 63) → List TxReq
  | 0, _ => []
  | fuel + 1, ws =>
    match parseReq (fromStart ws) now with
    | none => []
    | some (n, q) => q :: parseAll now fuel ((fromStart ws).drop n)

/-- Items that a flush of a queue discards with its words (R453, R359): log events of Q120 with 12 words each,
non-cyclic requests, and the pending set of a Wharf bus request queue with its completions FLUSHED. -/
def State.flushItems (s : State) (q : Nat) : Nat × State :=
  if q = 120 then (12 * s.log.q.length, { s with log := { s.log with q := [] } })
  else if q = 100 ∨ q = 101 then
    let pl : PlaneId := if q = 100 then .a else .b
    ((s.uplink.ncQueue.get pl).length, { s with uplink := { s.uplink with ncQueue := s.uplink.ncQueue.set pl [] } })
  else if q = 102 then (s.uplink.ncResponses.length, { s with uplink := { s.uplink with ncResponses := [] } })
  else if 112 ≤ q ∧ q < 116 then
    let c := s.chan (q - 112)
    let gone := parseAll s.now (s.queue q).words.length (s.queue q).words ++ c.pending
    (c.pending.length,
      gone.foldl (fun s x => s.complete (q - 112) x 6) (s.putChan (q - 112) { c with pending := [] }))
  else (0, s)

/-- A flush of a queue at an instant. -/
def State.flush (s : State) (q : Nat) : State :=
  let p := s.flushItems q
  p.2.putQueue q ((s.queue q).flush p.1)

/-- QUE_FLUSH (R453). -/
def execQueFlush (q t : Nat) (s : State) : Host.Outcome State Fault Refusal :=
  if s.queueOn q then ok (((s.touch t).queWrote q).flush q) else ok s

/-! ## Worst-case durations (R362, R363) -/

/-- Bits of a frame at the arbitration and at the data rate with the largest number of stuff bits, and 3 bit times of
intermission (ISO 11898-1). -/
def worstBits (f : CanFrame) : Nat × Nat :=
  let n := 8 * dlcLen f.fdf f.dlc
  if !f.fdf then
    let stuffed := (if f.ide then 54 else 34) + n
    (stuffed + (stuffed - 1) / 4 + 10 + 3, 0)
  else
    let a := if f.ide then 36 else 17
    let d := 5 + n
    let crc := if n ≤ 128 then 4 + 17 + 6 else 4 + 21 + 7
    let slowStuff := (a - 1) / 4
    let stuff := (a + d - 1) / 4
    if f.brs then (a + slowStuff + 10 + 3, d + (stuff - slowStuff) + crc)
    else (a + d + stuff + crc + 10 + 3, 0)

/-- Worst-case duration of a frame in ns. -/
def worstNs (t : WbTiming) (f : CanFrame) : Nat :=
  (((worstBits f).1 * (t.prescaler * t.tq) + (worstBits f).2 * (t.dPrescaler * t.dTq)) * 25 + 1) / 2

/-- Reference message of a channel: classical, DLC 1. -/
def refFrame (id row : Nat) : CanFrame :=
  { ide := decide (2 ^ 11 ≤ id), id := id, fdf := false, brs := false, esi := false, remote := false, dlc := 1
    data := [BitVec.ofNat 8 row] }

/-- Bit timing inside Table 12.2 (R351). -/
def timingOk (t : WbTiming) : Bool :=
  let a := t.prescaler * t.tq
  let d := t.dPrescaler * t.dTq
  decide (1 ≤ t.prescaler) && decide (t.prescaler ≤ 32) && decide (8 ≤ t.tq) && decide (t.tq ≤ 80) &&
  decide (60 ≤ t.samplePct) && decide (t.samplePct ≤ 90) && decide (1 ≤ t.sjw) && decide (t.sjw ≤ 16) &&
  decide (t.sjw ≤ t.seg2) && decide (1 ≤ t.dPrescaler) && decide (t.dPrescaler ≤ 4) && decide (8 ≤ t.dTq) &&
  decide (t.dTq ≤ 40) && decide (60 ≤ t.dSamplePct) && decide (t.dSamplePct ≤ 85) && decide (1 ≤ t.dSjw) &&
  decide (t.dSjw ≤ 8) && decide (t.dSjw ≤ t.dSeg2) && decide (t.tdcOffset ≤ 63) &&
  decide (80 ≤ a) && decide (a ≤ 640) && decide (16 ≤ d) && decide (d ≤ 80) && decide (d ≤ a)

/-- KIND and BUF of a cell. -/
def cellKind (c : U16) : Nat := c.toNat / 2 ^ 14
def cellBuf (c : U16) : Nat := c.toNat % 64

/-- Cell of a tide table. -/
def tideCell (t : TideTable) (row col : Nat) : U16 := (t.cells.getD row []).getD col 0

/-- A cell meets Table 12.7, and its window holds the worst case of its frame (R363). -/
def cellOk (bt : WbTiming) (refId : Nat) (bufs : Tbl (Option CanFrame)) (len col : Nat) (c : U16) : Bool :=
  decide (c.toNat / 64 % 256 = 0) && (decide (cellKind c = 1) || decide (cellBuf c = 0)) &&
  (decide (col ≠ 0) || decide (cellKind c = 3)) &&
  (if cellKind c = 3 then decide (worstNs bt (refFrame refId 0) ≤ len * 1000)
   else if cellKind c = 1 then
     (match Tbl.get none bufs (cellBuf c) with
      | none => true
      | some f => decide (worstNs bt f ≤ len * 1000))
   else true)

/-- A tide table is accepted (R360, R363). -/
def tideOk (bt : WbTiming) (refId : Nat) (bufs : Tbl (Option CanFrame)) (t : TideTable) : Bool :=
  decide (1 ≤ t.rows) && decide (t.rows ≤ 16) && decide (2 ≤ t.cols.length) && decide (t.cols.length ≤ 64) &&
  t.cols.all (fun l => decide (20 ≤ l) && decide (l ≤ 65535)) && decide (t.cells.length = t.rows) &&
  t.cells.all (fun r => decide (r.length = t.cols.length) &&
    ((List.range r.length).all (fun j => cellOk bt refId bufs (t.cols.getD j 0) j (r.getD j 0))))

/-- A channel as the manifest configures it (R349, R351, R363): WB_TIMING is status 1, TIDE_FIT status 3. -/
def wbConfigure (ch : Nat) (g : WbCfg) (marked : Bool) : WbChan :=
  let bufs : Tbl (Option CanFrame) := g.exclusive.map (fun e => (e.1, some e.2))
  let tideBad := match g.tide with
    | none => false
    | some t => !tideOk g.timing g.refId bufs t
  { cfgMode := g.mode, shared := g.shared, timing := some g.timing
    filters := Tbl.ofList 0 ((List.range 32).map (fun i => (i, g.filters.getD i 0)))
    privileged := g.privileged && decide (ch = 0), retryLimit := min g.retryLimit 15, holdOffMs := min g.holdOffMs 10000
    tide := if tideBad then none else g.tide, refId := g.refId, exclusive := bufs, marked := marked
    status := if timingOk g.timing then (if tideBad then 3 else 0) else 1 }

/-- Put a channel as it is configured, a refusal logged. -/
def State.placeWb (s : State) (ch : Nat) (c : WbChan) : State :=
  let s1 := s.putChan ch c
  if c.status = 1 then s1.raise .warn .wbTiming .svc [((ch : Nat) : Int)]
  else if c.status = 3 then s1.raise .warn .tideFit .svc [((ch : Nat) : Int)]
  else s1

/-- The self-test has marked a channel. -/
def State.wbMarked (s : State) (ch : Nat) : Bool := s.bist.marks.contains (.svcPort (4 + ch))

/-- Configure every channel of a manifest at a start. -/
def State.configureWb (s : State) (b : ManBody) : State :=
  b.wb.foldl (fun s e => s.placeWb e.1 (wbConfigure e.1 e.2 (s.wbMarked e.1))) { s with wb := [] }

/-- Configuration of a channel in a manifest. -/
def wbCfgOf (b : ManBody) (ch : Nat) : Option WbCfg := (b.wb.find? (fun e => decide (e.1 = ch))).map (·.2)

/-- An online change configures the channels that it alters anew at their next bus idle: a frame on the bus completes first
(R349). -/
def State.changeWb (s : State) (old new : ManBody) : State :=
  (List.range 4).foldl (fun s ch =>
    if wbCfgOf old ch = wbCfgOf new ch then s else s.putChan ch { s.chan ch with next := some (wbCfgOf new ch) }) s

/-! ## Configuration by a write (R350-R352, R362, R363, R366) -/

/-- A table refused with TIDE_FIT, or in effect: while TIDE runs it waits as the shadow table (R363). -/
def WbChan.takeTide (c : WbChan) (t : TideTable) : WbChan :=
  let fits := match c.timing with
    | none => false
    | some bt => tideOk bt c.refId c.exclusive t
  if !fits then { c with status := if c.status = 0 then 3 else c.status }
  else
    let c1 := { c with status := if c.status = 3 then 0 else c.status }
    if c.tideRunning then { c1 with shadow := some t } else { c1 with tide := some t }

/-- A channel after the write of a field. -/
def WbChan.takeField (c : WbChan) : WbField → WbChan
  | .plain => c
  | .timing t =>
    if !timingOk t then { c with status := if c.status = 2 then 2 else 1 }
    else { c with timing := some t, status := if c.status = 1 then 0 else c.status }
  | .mode m => { c with cfgMode := m }
  | .pair n v => if n < 32 then { c with filters := Tbl.set 0 c.filters n v } else c
  | .buffer n d =>
    match Tbl.get none c.exclusive n with
    | none => c
    | some f =>
      let k := dlcLen f.fdf f.dlc
      { c with exclusive := Tbl.set none c.exclusive n (some { f with data := (d ++ List.replicate k 0).take k }) }
  | .tide t => c.takeTide t
  | .restart => { c with status := if c.status = 2 then 0 else c.status }

/-- Fields that can be written only while the channel is OFF (R350). -/
def offOnly : WbField → Bool
  | .timing _ => true
  | .mode _ => true
  | .plain => false | .pair _ _ => false | .buffer _ _ => false | .tide _ => false | .restart => false

/-- Write a field of a channel, a refusal logged. -/
def State.writeField (s : State) (ch : Nat) (f : WbField) : State :=
  let c := (s.chan ch).takeField f
  if c.status = (s.chan ch).status then s.putChan ch c else s.placeWb ch c

/-! ## Sending (R356, R357, R362) -/

/-- The window in progress is ARBITRATING. -/
def WbChan.arbitrating (c : WbChan) : Bool :=
  match c.tide with
  | none => false
  | some t => c.tideRunning && decide (cellKind (tideCell t c.row c.col) = 2)

/-- The channel may start an event frame of a length with some time left in its window. -/
def WbChan.mayStart (c : WbChan) (leftUs : Nat) (f : CanFrame) : Bool :=
  decide (c.bus ≠ .busOff) && !c.waitRow &&
  (match c.mode with
    | .off => false
    | .listen => false
    | .normal => true
    | .tide => c.arbitrating && (match c.timing with
        | none => false
        | some t => decide (worstNs t f ≤ leftUs * 1000)))

/-- Latch of a channel for its next frame: the frame that waits for another attempt (R357), else the head of the pending
set (R356). -/
def WbChan.latch (c : WbChan) : Option (TxReq × WbChan) :=
  match c.retry, c.pending with
  | some q, _ => some (q, { c with retry := none })
  | none, q :: r => some (q, { c with pending := r })
  | none, [] => none

/-- FRAME_START (R356, R357, R362): expired frames at the head go, then the frame due is latched and starts. -/
def execFrameStart (ch leftUs t : Nat) (s : State) : Host.Outcome State Fault Refusal :=
  let s0 := s.touch t
  if s0.wbOn ∧ (s0.chan ch).onBus.isNone ∧ (s0.chan ch).bus ≠ .busOff ∧
      ((s0.chan ch).mode = .normal ∨ ((s0.chan ch).mode = .tide ∧ (s0.chan ch).arbitrating)) then
    let s1 := s0.dropExpired ch
    match (s1.chan ch).latch with
    | none => ok s1
    | some (q, c) =>
      if c.mayStart leftUs q.frame then
        ok (s1.putChan ch { c with
          onBus := some { q with attempts := q.attempts + 1 }, onBusExclusive := false, onBusRef := false })
      else ok s1
  else ok s0

/-- Enter bus-off (R365): a frame latched for its next attempt ends with status BUS_OFF. -/
def State.busOff (s : State) (ch : Nat) : State :=
  let c := s.chan ch
  let s1 := State.raise (s.putChan ch { c with busOffAt := some s.now, holdOffDone := false, busOffs := s.now :: c.busOffs
                                               retry := none, onBus := none, onBusExclusive := false, onBusRef := false })
    .warn .wbBusOff .svc [((ch : Nat) : Int)]
  match c.retry with
  | none => s1
  | some q => s1.complete ch q 4

/-- A privileged event frame with retries left. -/
def mayRetry (c : WbChan) (q : TxReq) : Bool :=
  c.privileged && !c.onBusExclusive && decide (q.attempts ≤ c.retryLimit)

/-- Counters after the end of a frame this channel sent (ISO 11898-1): 8 more on an error, but none on a missing
acknowledgement while error-passive or on a stuff error in arbitration, and 8 for each further error about its flag; one
less when sent. -/
def afterFrame (c : WbChan) : CanEnd → WbChan
  | .ok => { c with tec := c.tec - 1 }
  | .lost => c
  | .error k n arb =>
    { c with errs := Tbl.upd 0 c.errs k (· + 1)
             tec := c.tec + 8 * n + (if (k = 4 ∧ c.bus = .passive) ∨ (k = 1 ∧ arb) then 0 else 8) }

/-- STATUS of an ended frame that is not retried. -/
def endStatus (c : WbChan) (q : TxReq) : CanEnd → Nat
  | .ok => 0
  | .lost => if c.privileged && !c.onBusExclusive && decide (1 < q.attempts) then 3 else 1
  | .error _ _ _ => if c.privileged && !c.onBusExclusive && decide (1 < q.attempts) then 3 else 2

/-- The reference message ends (R361): it is not retried and yields no completion, and a failed one counts REF_FAIL. -/
def WbChan.endRef (c : WbChan) (r : CanEnd) : WbChan :=
  { c with onBus := none, onBusRef := false, refFail := if r = .ok then c.refFail else c.refFail + 1 }

/-- CAN_FRAME_END (R358, R357, R361, R364, R365). -/
def execCanFrameEnd (ch : Nat) (r : CanEnd) (t : Nat) (s : State) : Host.Outcome State Fault Refusal :=
  let s0 := s.touch t
  let c := s0.chan ch
  match s0.wbOn, c.onBus with
  | true, some q =>
    let s1 := s0.followErrors ch (afterFrame c r)
    let c1 := s1.chan ch
    if c.onBusRef then
      let s2 := s1.putChan ch (c1.endRef r)
      ok (if c1.bus = .busOff then s2.busOff ch else s2)
    else if c1.bus = .busOff then ok ((s1.busOff ch).complete ch q 4)
    else if r ≠ .ok ∧ mayRetry c1 q then
      ok (s1.putChan ch { c1 with onBus := none, retry := some q })
    else ok ((s1.putChan ch { c1 with onBus := none, onBusExclusive := false }).complete ch q (endStatus c1 q r))
  | _, _ => ok s0

/-! ## Recovery (R366) -/

/-- BUS_OFF_HOLDOFF_END (R366). -/
def execBusOffHoldoffEnd (ch t : Nat) (s : State) : Host.Outcome State Fault Refusal :=
  let s0 := s.touch t
  let c := s0.chan ch
  match c.busOffAt with
  | some a =>
    if s0.wbOn ∧ c.bus = .busOff ∧ a + c.holdOffMs * 1000000 ≤ s0.now then
      ok (s0.putChan ch { c with holdOffDone := true })
    else ok s0
  | none => ok s0

/-- BUS_OFF_RECOVERY (R366). -/
def execBusOffRecovery (ch t : Nat) (s : State) : Host.Outcome State Fault Refusal :=
  let s0 := s.touch t
  let c := s0.chan ch
  if s0.wbOn ∧ c.bus = .busOff ∧ c.holdOffDone then
    let s1 := s0.putChan ch { c with bus := .active, tec := 0, rxErr := 0, warned := false, busOffAt := none
                                     holdOffDone := false, waitRow := decide (c.mode = .tide) }
    ok ((s1.raise .warn .wbState .svc [((ch : Nat) : Int), 0]).dropExpired ch)
  else ok s0

/-- BUSOFF_LIMIT (R366): the eighth bus-off within 60 s sets the channel OFF, status 2. -/
def execBusoffLimit (ch t : Nat) (s : State) : Host.Outcome State Fault Refusal :=
  let s0 := s.touch t
  let c := s0.chan ch
  if s0.wbOn ∧ 8 ≤ (c.busOffs.filter (fun b => decide (s0.now < b + 60000000000))).length then
    ok ((s0.putChan ch { c with mode := .off, status := 2, tec := 0, rxErr := 0, bus := .active, busOffAt := none
                                holdOffDone := false, tideRunning := false, busOffs := [] }).raise
      .warn .wbBusOffLimit .svc [((ch : Nat) : Int)])
  else ok s0

/-! ## Tide table (R360-R365) -/

/-- TIDE_ROW_START (R361): the next row opens, and its reference message starts on the bus; a shadow table takes effect at
row 0. Bus-off sends no reference. A frame of the channel that still holds the bus fails the reference (log entry 126). -/
def execTideRowStart (ch t : Nat) (s : State) : Host.Outcome State Fault Refusal :=
  let s0 := s.touch t
  let c := s0.chan ch
  match s0.wbOn, c.mode, c.tide with
  | true, .tide, some tbl =>
    let row := if c.tideRunning then (if c.row + 1 < tbl.rows then c.row + 1 else 0) else 0
    let c1 := { c with row := row, col := 0, tideRunning := true }
    let c2 := if row = 0 ∧ c.shadow.isSome then { c1 with tide := c.shadow, shadow := none } else c1
    if c.bus = .busOff then ok (s0.putChan ch c2)
    else if c.onBus.isSome then ok (s0.putChan ch { c2 with waitRow := false, refFail := c2.refFail + 1 })
    else ok (s0.putChan ch { c2 with
      waitRow := false, onBus := some ⟨refFrame c.refId row, 0, 0, s0.now, 1⟩, onBusExclusive := false, onBusRef := true })
  | _, _, _ => ok s0

/-- EXCLUSIVE_WINDOW (R362): the frame of the window's buffer starts; in bus-off the window counts MISSED. -/
def execExclusiveWindow (ch col : Nat) (s : State) : Host.Outcome State Fault Refusal :=
  let c := s.chan ch
  match s.wbOn, c.mode, c.tide with
  | true, .tide, some t =>
    if c.tideRunning ∧ col < t.cols.length then
      let c1 := { c with col := col }
      let cell := tideCell t c.row col
      if cellKind cell ≠ 1 then ok (s.putChan ch c1)
      else if c.bus = .busOff then ok (s.putChan ch { c1 with missed := c1.missed + 1 })
      else match c.waitRow, c.onBus, Tbl.get none c.exclusive (cellBuf cell) with
        | false, none, some f =>
          ok (s.putChan ch { c1 with onBus := some ⟨f, 0, 0, s.now, 1⟩, onBusExclusive := true, onBusRef := false })
        | _, _, _ => ok (s.putChan ch c1)
    else ok s
  | _, _, _ => ok s

/-! ## Modes (R348, R349) -/

/-- A channel in a mode: OFF holds the error counters at 0, and only TIDE runs the table. -/
def WbChan.enter (c : WbChan) (m : WbMode) : WbChan :=
  let c1 := { c with mode := m, tideRunning := false, row := 0, col := 0, waitRow := false }
  match m with
  | .off => { c1 with tec := 0, rxErr := 0, bus := .active, warned := false, busOffAt := none, holdOffDone := false }
  | .listen => c1
  | .normal => c1
  | .tide => c1

/-- A channel that an online change configures anew keeps its requests, its counts and its error state (R349; log entry
127). -/
def WbChan.renewed (c : WbChan) (n : WbChan) : WbChan :=
  { n with
    pending := c.pending, retry := c.retry, tec := c.tec, rxErr := c.rxErr, bus := c.bus, warned := c.warned, busOffAt := c.busOffAt
    holdOffDone := c.holdOffDone, busOffs := c.busOffs, errs := c.errs, rxRemote := c.rxRemote, rxNoMatch := c.rxNoMatch
    rxOverflow := c.rxOverflow, refFail := c.refFail, missed := c.missed }

/-- The configuration of an online change takes effect. -/
def State.renewWb (s : State) (ch : Nat) : State :=
  let c := s.chan ch
  match c.next with
  | none => s
  | some none => s.putChan ch (c.renewed {})
  | some (some g) => s.placeWb ch (c.renewed (wbConfigure ch g (s.wbMarked ch)))

/-- CHANNEL_MODE_CHANGE (R349): the configuration and the mode due take effect at bus idle. -/
def execChannelModeChange (ch : Nat) (s : State) : Host.Outcome State Fault Refusal :=
  let c := s.chan ch
  if s.wbOn ∧ c.onBus.isNone ∧ (wbDue s.module c ≠ c.mode ∨ c.next.isSome) then
    let s1 := s.renewWb ch
    let d := s1.chan ch
    ok (s1.putChan ch (d.enter (wbDue s.module d)))
  else ok s

end Sys2Proof.Machine
end

