-- ==== Sys2Proof/Machine/Ports.lean ====
section
/-! DEFINITION. The four uplink ports: what a module state lets them do, their egress queues, the two bridges, PRP, and the
frames the module takes and answers (R287-R289). -/

namespace Sys2Proof.Machine

open Sys2Proof

/-! ## What runs (Table 0.4, Table 15.8) -/

/-- The uplinks, PTP and the Wharf bus run: SVC works and is not limited, and the module state has networks. -/
def State.netOn (s : State) : Bool :=
  s.uplink.up && !s.uplink.limited && decide (s.module ≠ .halt) && decide (s.module ≠ .powerOff)

/-- The module sends frames of its own on the uplinks: not in CLOSED, which listens only, nor in STANDBY, which receives and
counts only (Table 0.4; log entry 117). -/
def State.netSends (s : State) : Bool := s.netOn && decide (s.module ≠ .closed) && decide (s.module ≠ .standby)

/-- Rewrite the uplink state. -/
def State.updUplink (s : State) (f : Uplink → Uplink) : State := { s with uplink := f s.uplink }

/-! ## Egress (R289) -/

/-- Time a frame holds its port: 8 bytes before it, 12 after it, 8 ns each. -/
def wireNs (f : List Byte) : Nat := (f.length + 20) * 8

/-- The oldest frame of the lowest class that waits, and the rest. -/
def nextOut (q : List (Nat × List Byte)) : Option ((Nat × List Byte) × List (Nat × List Byte)) :=
  (firstOf 0 q).or ((firstOf 1 q).or (firstOf 2 q))
where
  /-- The oldest frame of one class. -/
  firstOf (k : Nat) : List (Nat × List Byte) → Option ((Nat × List Byte) × List (Nat × List Byte))
    | [] => none
    | e :: r => if e.1 = k then some (e, r) else (firstOf k r).map (fun x => (x.1, e :: x.2))

/-- A frame starts on the wire. -/
def NetPort.start (p : NetPort) (t : Nat) (f : List Byte) : NetPort :=
  { p with freeAt := t + wireNs f, out := ((t, f) :: p.out).take 64 }

/-- Frames that wait go while the port is free by an instant, at most `n` of them. -/
def NetPort.drain (now : Nat) : Nat → NetPort → NetPort
  | 0, p => p
  | n + 1, p =>
    if now < p.freeAt then p
    else match nextOut p.queue with
      | none => p
      | some x => NetPort.drain now n (({ p with queue := x.2 } : NetPort).start p.freeAt x.1.2)

/-- A frame is given to a port: it goes at once where the port is free, and waits in its class otherwise. -/
def NetPort.put (now k : Nat) (f : List Byte) (p : NetPort) : NetPort :=
  let q := NetPort.drain now p.queue.length p
  if q.freeAt ≤ now then q.start now f else { q with queue := q.queue ++ [(k, f)] }

/-- Other port of the same LAN. -/
def otherPort (port : Nat) : Nat := if port % 2 = 0 then port + 1 else port - 1

/-- LAN of a port: 0 and 1 on LAN A, 2 and 3 on LAN B. -/
def lanOfPort (port : Nat) : Bool := decide (2 ≤ port)

/-- Key of a station on the LAN of a port. -/
def seenKey (port : Nat) (src : U48) : Nat := (port / 2) * 2 ^ 48 + src.toNat

/-- Ports of a LAN by which a frame of the module leaves for a station (R289). -/
def State.egress (s : State) (lanB : Bool) (dst : U48) : List Nat :=
  let base := if lanB then 2 else 0
  match Tbl.get none s.uplink.seen (seenKey base dst) with
  | some (p, t) => if s.now ≤ t + 300000000000 then [p] else [base, base + 1]
  | none => [base, base + 1]

/-- The self-test has not marked the port: a marked one is held down (Table 15.8). -/
def State.portUp (s : State) (port : Nat) : Bool := !s.bist.marks.contains (.svcPort port)

/-- A frame leaves by a port. -/
def State.putPort (s : State) (k : Nat) (f : List Byte) (port : Nat) : State :=
  if s.portUp port then
    s.updUplink (fun u => { u with ports := Tbl.upd {} u.ports port (NetPort.put s.now k f) })
  else s

/-- A frame of the module leaves on one LAN. -/
def State.sendOn (s : State) (lanB : Bool) (dst : U48) (k : Nat) (f : List Byte) : State :=
  (s.egress lanB dst).foldl (fun s p => s.putPort k f p) s

/-! ## PRP (R287) -/

/-- The VLAN identifier of the manifest. -/
def State.vlan (s : State) : Option Nat := s.body.bind (·.vlan)

/-- The module's IPv4 address. -/
def State.ipv4 (s : State) : Option U32 := s.body.map (·.ipv4)

/-- A payload leaves through PRP on both LANs under one sequence number, with its destination on each. -/
def State.sendPrp (s : State) (dst : Bool → U48) (k etherType : Nat) (p : List Byte) : State :=
  let one (s : State) (lanB : Bool) : State :=
    s.sendOn lanB (dst lanB) k (netFrame (dst lanB) s.uplink.mac s.vlan etherType (withRct s.uplink.prpSeq lanB p))
  ((one s false |> fun s => one s true)).updUplink (fun u => { u with prpSeq := (u.prpSeq + 1) % 65536 })

/-- The PRP node table at an instant: entries older than 400 ms are forgotten (R287). -/
def State.nodeKnown (s : State) (a : U48) : Bool :=
  match Tbl.get none s.uplink.nodes a.toNat with
  | none => false
  | some t => decide (s.now ≤ t + 400000000)

/-- The second copy of a frame: the other LAN has brought the same source and sequence number within 400 ms. -/
def State.twin (s : State) (lanB : Bool) (e : NetFrame) : Bool :=
  match e.rct with
  | none => false
  | some r => s.uplink.copies.any (fun c =>
      decide (c.1 = e.src) && decide (c.2.1 = r.1) && decide (c.2.2.1 ≠ lanB) && decide (s.now ≤ c.2.2.2 + 400000000))

/-- Keep the source and sequence number of a frame taken; those older than 400 ms are forgotten. -/
def State.keepCopy (s : State) (lanB : Bool) (e : NetFrame) : State :=
  match e.rct with
  | none => s
  | some r => s.updUplink (fun u => { u with
      copies := (e.src, r.1, lanB, s.now) :: u.copies.filter (fun c => decide (s.now ≤ c.2.2.2 + 400000000)) })

/-! ## Destinations -/

/-- Key of a learned address. -/
def macKey (lanB : Bool) (ip : U32) : Nat := (if lanB then 2 ^ 32 else 0) + ip.toNat

/-- Destination address on a LAN of a frame for an IPv4 address: the address learned of it, else of the LAN's gateway, else a
free value (log entry 117). -/
def State.macFor (s : State) (ip : U32) (lanB : Bool) : U48 :=
  let learned (a : U32) : Option U48 := Tbl.get none s.uplink.macs (macKey lanB a)
  let gateway : Option U48 := s.body.bind (fun b => learned (if lanB then b.gateways.b else b.gateways.a))
  ((learned ip).or gateway).getD (Config.macOf ip lanB)

/-! ## What the module takes (R288) -/

/-- Place of a kind in the counts of discarded frames. -/
def kindIdx : UplinkKind → Nat
  | .arp => 0 | .icmpEcho => 1 | .prpSupervision => 2 | .ptp => 3 | .safeLink => 4 | .other => 5
  | .tcp => 6 | .udpOther => 7 | .icmpOther => 8 | .ipOther => 9 | .vlanOther => 10 | .damaged => 11

/-- Count a discarded frame. -/
def Uplink.discard (u : Uplink) (k : UplinkKind) : Uplink := { u with discarded := Tbl.upd 0 u.discarded (kindIdx k) (· + 1) }

/-- The UDP port belongs to a configured connection (R288). -/
def State.slPort (s : State) (port : Nat) : Bool :=
  match s.body with
  | none => false
  | some b => b.conns.any (fun e => decide (e.2.port = port))

/-- Kind of a datagram for the module. -/
def State.ipKind (s : State) (p : List Byte) : UplinkKind :=
  match ipOpen p with
  | none => .ipOther
  | some k =>
    if s.ipv4 ≠ some k.dst ∨ k.fragment then .ipOther
    else if k.proto = 6 then .tcp
    else if k.proto = 1 then (if isEcho k.data then .icmpEcho else .icmpOther)
    else if k.proto = 17 then
      match udpOpen k with
      | none => .damaged
      | some d => if s.slPort d.1 ∧ k.plain then .safeLink else .udpOther
    else .ipOther

/-- Kind of a frame for the module. PTP frames carry no VLAN tag (Table 10.5); every other frame carries the manifest's, or
none. -/
def State.netKind (s : State) (e : NetFrame) : UplinkKind :=
  if e.etherType = etherPtp then .ptp
  else if e.vlan ≠ s.vlan then .vlanOther
  else if e.etherType = etherArp then .arp
  else if e.etherType = etherPrp then .prpSupervision
  else if e.etherType = etherIpv4 then s.ipKind e.body
  else .other

/-- An ARP message (R288): its sender is learned, and a request for the module's own address is answered. -/
def State.takeArp (s : State) (lanB : Bool) (e : NetFrame) : State :=
  match arpOpen e.body, s.ipv4 with
  | some (op, mac, ip, tgt), some own =>
    let s1 := s.updUplink (fun u => { u with macs := Tbl.set none u.macs (macKey lanB ip) (some mac) })
    if op = 1 ∧ tgt = own ∧ s.netSends then
      (s1.sendPrp (fun _ => mac) 2 etherArp (arpReply s.uplink.mac own mac ip)).updUplink
        (fun u => { u with answered := u.answered + 1 })
    else s1
  | _, _ => s

/-- An echo request (R288), answered at no more than 10 per second. -/
def State.takeEcho (s : State) (e : NetFrame) : State :=
  match ipOpen e.body, s.ipv4 with
  | some k, some own =>
    let recent := s.uplink.echoTimes.filter (fun t => decide (s.now < t + 1000000000))
    if recent.length < 10 ∧ s.netSends then
      (s.sendPrp (fun _ => e.src) 2 etherIpv4 (ipPacket own k.src 1 (echoReply k.data))).updUplink
        (fun u => { u with answered := u.answered + 1, echoTimes := s.now :: recent })
    else s.updUplink (fun u => { u with echoTimes := recent })
  | _, _ => s

/-- A PTP frame with an option that is not supported (R307): a tag, another destination, a signaling or management message,
or a delay message of the end-to-end mechanism. -/
def ptpForeign (e : NetFrame) : Bool :=
  e.vlan.isSome || decide (e.dst ≠ ptpDestination) || !([0, 2, 3, 8, 10, 11].contains (ptpType e))

/-- A frame that the module takes. What a PTP message does has commands of its own. -/
def State.takeNet (s : State) (lanB : Bool) (e : NetFrame) : State :=
  let k := s.netKind e
  let taken (s : State) : State := s.updUplink (fun u => { u with taken := u.taken + 1 })
  match k with
  | .arp => (taken s).takeArp lanB e
  | .icmpEcho => (taken s).takeEcho e
  | .prpSupervision => taken s
  | .ptp =>
    if ptpForeign e then { s with ptp := { s.ptp with ignored := s.ptp.ignored + 1 } } else taken s
  | .safeLink => taken s
  | .tcp => s.updUplink (fun u => u.discard k)
  | .udpOther => s.updUplink (fun u => u.discard k)
  | .icmpOther => s.updUplink (fun u => u.discard k)
  | .ipOther => s.updUplink (fun u => u.discard k)
  | .vlanOther => s.updUplink (fun u => u.discard k)
  | .damaged => s.updUplink (fun u => u.discard k)
  | .other => s.updUplink (fun u => u.discard k)

/-- PRP for a frame at the module's own interface: a second copy is discarded, but for PTP frames, which are not duplicated
(R308), and safe-link frames (R298). -/
def State.ownNet (s : State) (lanB : Bool) (e : NetFrame) : State :=
  let k := s.netKind e
  if k = .ptp ∨ k = .safeLink then s.takeNet lanB e
  else if s.twin lanB e then s.updUplink (fun u => { u with twins := u.twins + 1 })
  else (s.takeNet lanB e).keepCopy lanB e

/-- The station a frame comes from is seen at its port; one that sends PRP frames is a node (R287, R289). -/
def State.learn (s : State) (port : Nat) (e : NetFrame) : State :=
  s.updUplink (fun u => { u with
    seen := Tbl.set none u.seen (seenKey port e.src) (some (port, s.now))
    nodes := if e.etherType = etherPrp ∨ e.rct.isSome then Tbl.set none u.nodes e.src.toNat (some s.now) else u.nodes })

/-- A frame for the module itself, or for a group. -/
def State.toModule (s : State) (e : NetFrame) : Bool := decide (e.dst = s.uplink.mac) || isGroup e.dst

/-- A frame on a port goes through the bridge (R289): for another address it is forwarded, for the module's own it is taken,
and for a group both. A damaged frame is neither. -/
def State.bridge (s : State) (port : Nat) (f : List Byte) : State :=
  match netOpen f with
  | none => s.updUplink (fun u => u.discard .damaged)
  | some e =>
    let s1 := s.learn port e
    let s2 := if e.dst ≠ s.uplink.mac ∧ netPasses e then s1.putPort (netClass e) f (otherPort port) else s1
    if s.toModule e then s2.ownNet (lanOfPort port) e else s2

end Sys2Proof.Machine
end

