-- ==== Sys2Proof/Machine/Uplinks.lean ====
section
/-! DEFINITION. The safe link on SVC: batches, held copies, sending and timed launch, and the loss and recovery of SVC
(chapter 10, R403, R431). -/

namespace Sys2Proof.Machine

open Sys2Proof

/-! ## Cycle start and batches (R298) -/

/-- Mean of the last 16 intervals between cycle starts more than 200 ppm from T_c (R475). -/
def svcClockBad (tc : Nat) (starts : List Nat) : Bool :=
  match starts, starts.getLast? with
  | a :: _, some b =>
    decide (starts.length = 17) &&
    (decide (16 * tcNs tc * 1000200 < (a - b) * 1000000) || decide ((a - b) * 1000000 < 16 * tcNs tc * 999800))
  | _, _ => false

/-- Cycle starts kept: the last 17 in a row; a gap of more than one cycle starts again. -/
def keepStarts (tc t : Nat) (starts : List Nat) : List Nat :=
  match starts with
  | [] => [t]
  | a :: _ => if 2 * t ≤ 2 * a + 3 * tcNs tc then (t :: starts).take 17 else [t]

/-- CYCLE_START_NOTICE (R298): the first notice of a cycle is SVC's cycle start; a lane without a cycle sends none. -/
def execCycleStartNotice (ln : LaneId) (t : Nat) (s : State) : Host.Outcome State Fault Refusal :=
  let s0 := s.touch t
  let cn := (s0.lane ln).cn
  if s0.uplink.up ∧ runsCycle s0.module ∧ (s0.lane ln).active ln ∧ (s0.uplink.cycleStart.isNone ∨ s0.uplink.cn ≠ cn) then
    let starts := keepStarts s0.tc t s0.uplink.notices
    let bad := svcClockBad s0.tc starts
    let s1 := s0.updUplink (fun u => { u with cycleStart := some t, cn := cn, cutoffPassed := false, notices := starts })
    let s2 : State := { s1 with power := { s1.power with svcClock := !bad } }
    ok (if bad && s0.power.svcClock then s2.raise .warn .svcClock .svc [] else s2)
  else ok s0

/-- TMAX in ns of the connection a copy belongs to: by its CONN, else by its UDP port; 300 ms by default. -/
def tmaxOf (m : Option Manifest) (port : Nat) (pdu : List Byte) : Nat :=
  match m with
  | none => 300000000
  | some m =>
    match ConnOf m (slConn pdu), m.body.conns.find? (fun e => decide (e.2.port = port)) with
    | some c, _ => c.tmax * 1000000
    | none, some e => e.2.tmax * 1000000
    | none, none => 300000000

/-- A lane receives a copy that SVC forwards, with the CN of its batch (R298). -/
def Lane.takeCopy (me : LaneId) (cn : U32) (c : SlCopy) (L : Lane) : Lane :=
  if L.views.get me = .inVote ∨ L.views.get me = .rejoining then { L with slIn := L.slIn ++ [(cn, c)] } else L

/-- A copy goes to every lane, where the lanes accept SVC's link (R298, R403). -/
def State.forwardCopy (s : State) (cn : U32) (c : SlCopy) : State :=
  if s.uplink.linkAccepted then s.mapLanes (fun ln L => Lane.takeCopy ln cn c L) else s

/-- CN of the batch in which a copy that arrives now belongs: after the cut-off of a cycle the next one's (R298). -/
def State.batchNow (s : State) : U32 :=
  match s.uplink.cycleStart with
  | none => s.uplink.cn
  | some t0 => if s.uplink.cutoffPassed ∨ t0 + 1400000 < s.now then s.uplink.cn + 1 else s.uplink.cn

/-- Hold a copy; the oldest beyond 2 048 is dropped. -/
def Uplink.holdCopy (u : Uplink) (c : HeldCopy) : Uplink :=
  if u.held.length < 2048 then { u with held := u.held ++ [c] }
  else { u with held := u.held.drop 1 ++ [c], slDrop := u.slDrop + 1 }

/-- The safe-link copy a frame for the module brings, at an instant. -/
def State.copyIn (s : State) (port : Nat) (f : List Byte) : Option SlCopy :=
  match netOpen f with
  | none => none
  | some e =>
    if s.toModule e ∧ s.netKind e = .safeLink then
      match ipOpen e.body with
      | none => none
      | some k => (udpOpen k).map (fun d => ⟨lanOfPort port, k.src, d.1, d.2, s.now⟩)
    else none

/-- A copy at SVC (R298, R377): in STANDBY it is counted and not forwarded. It goes to the lanes at once where the batch has
room for it, and is held for the later ones. -/
def State.takeSafeLink (s : State) (c : SlCopy) : State :=
  if s.module = .standby then s.updUplink (fun u => { u with standbyRx := u.standbyRx + 1 })
  else
    let now := decide (s.uplink.held.length < 512)
    let s1 := s.updUplink (fun u => u.holdCopy ⟨c, tmaxOf s.man c.port c.pdu, if now then some s.batchNow else none⟩)
    let s2 := if now then s1.forwardCopy s.batchNow c else s1
    if 2048 ≤ s.uplink.held.length then s2.raise .warn .slDrop .svc [] else s2

/-- A frame arrives on a port: it goes through the bridge, and a safe-link copy for the module is held (R289, R298). -/
def State.netRx (s : State) (port : Nat) (f : List Byte) : State :=
  let s1 := s.bridge port f
  match s.copyIn port f with
  | none => s1
  | some c => s1.takeSafeLink c

/-- SAFE_LINK_FRAME_RX (R298): a frame with a safe-link copy for the module. -/
def execSafeLinkFrameRx (port : Nat) (frame : List Byte) (t : Nat) (s : State) : Host.Outcome State Fault Refusal :=
  let s0 := s.touch t
  if s0.netOn ∧ s0.portUp port ∧ (s0.copyIn port frame).isSome then ok (s0.netRx port frame) else ok s0

/-- A lane takes the batch of its cycle before its P-AGREE start, or counts it LATE (R199). -/
def Lane.takeBatch (me : LaneId) (cn : U32) (cmds : List SentCmd) (L : Lane) : Lane :=
  if (L.views.get me = .inVote ∨ L.views.get me = .rejoining) ∧ L.cn = cn then
    if L.phase = .idle then { L with batch := some cmds } else { L with late := L.late + 1 }
  else L

/-- The batch of the cycle (R298): the copies that arrived by the cut-off and are within their TMAX, the oldest first, at
most 512. -/
def State.batchOf (s : State) (t0 : Nat) : List HeldCopy :=
  (s.uplink.held.filter (fun c => decide (c.arrived ≤ t0 + 1400000) && decide (s.now < c.arrived + c.tmaxNs))).take 512

/-- BATCH_CLOSE (R298, R200): the copies of the batch that have not gone to the lanes in it go now, and the end marker
follows with the CN, and at most 16 commands. -/
def execBatchClose (s : State) : Host.Outcome State Fault Refusal :=
  match s.uplink.cycleStart with
  | some t0 =>
    if s.netOn ∧ !s.uplink.cutoffPassed then
      let cn := s.uplink.cn
      let copies := s.batchOf t0
      let s1 := s.updUplink (fun u => { u with
        batch := copies, batchCn := some cn, cutoffPassed := true
        held := u.held.map (fun c => if copies.contains c then { c with sentIn := some cn } else c) })
      let s2 := (copies.filter (fun c => decide (c.sentIn ≠ some cn))).foldl (fun s c => s.forwardCopy cn c.toSlCopy) s1
      ok (if s.uplink.linkAccepted then s2.mapLanes (fun ln L => Lane.takeBatch ln cn (s.uplink.cmds.take 16) L) else s2)
    else ok s
  | none => ok s

/-- SL_COPY_EXPIRE (R298). -/
def execSlCopyExpire (t : Nat) (s : State) : Host.Outcome State Fault Refusal :=
  let s0 := s.touch t
  if s0.netOn then
    ok (s0.updUplink (fun u => { u with held := u.held.filter (fun c => decide (s0.now < c.arrived + c.tmaxNs)) }))
  else ok s0

/-! ## Sending (R305, R314, R315) -/

/-- Part of a lane. -/
def OutMsg.part (o : OutMsg) (ln : LaneId) : Option (List Byte × List Byte) :=
  (o.parts.find? (fun p => decide (p.1 = ln))).map (·.2)

/-- The first pair of lanes with identical bodies, in the order of R213: body and both codes. -/
def OutMsg.pdu (o : OutMsg) : Option (List Byte) :=
  [(LaneId.l1, LaneId.l2), (LaneId.l1, LaneId.l3), (LaneId.l2, LaneId.l3)].findSome? (fun p =>
    match o.part p.1, o.part p.2 with
    | some a, some b => if a.1 = b.1 then some (a.1 ++ a.2 ++ b.2) else none
    | _, _ => none)

/-- A PDU leaves on both LANs through PRP, to the peer of its connection (R305, R291). -/
def State.sendPdu (s : State) (key : Nat) (pdu : List Byte) : State :=
  let s1 := s.updUplink (fun u => { u with sent := (key, pdu) :: u.sent.filter (fun e => decide (e.1 ≠ key)) })
  match s.man.bind (fun m => ConnOf m (key / 512)), s.ipv4 with
  | some c, some own => s1.sendPrp (s.macFor c.peerIp) 1 etherIpv4 (udpPacket own c.peerIp c.port pdu)
  | _, _ => s1

/-- Put a held message before those of a later SEQ. -/
def insertSeq (h : HeldLaunch) : List HeldLaunch → List HeldLaunch
  | [] => [h]
  | g :: r => if slLater g.pdu h.pdu then h :: g :: r else g :: insertSeq h r

/-- The held messages chosen leave, in SEQ order (R314). -/
def State.launch (s : State) (p : HeldLaunch → Bool) : State :=
  let s1 := s.updUplink (fun u => { u with launchHeld := u.launchHeld.filter (fun h => !p h) })
  ((s.uplink.launchHeld.filter p).foldr insertSeq []).foldl (fun s h => s.sendPdu h.key h.pdu) s1

/-- The instant of a held message has come on the PTP clock, by the signed difference of R11 (R310). -/
def State.launchDue (s : State) (h : HeldLaunch) : Bool := notEarlier (s.ptp.advance s.now).time h.at_

/-- The PTP time at which the time modulo the launch period next equals the phase (R314). -/
def nextLaunch (full : Int) (l : Nat × Nat) : U48 := BitVec.ofInt 48 (full + ((l.2 : Int) - full) % (l.1 : Int))

/-- Launch period and phase of a connection. -/
def State.launchOf (s : State) (conn : Nat) : Option (Nat × Nat) :=
  (s.man.bind (fun m => ConnOf m conn)).bind (·.launch)

/-- Hold a message for its launch; a newer one of its number replaces it (R314). -/
def Uplink.holdLaunch (u : Uplink) (h : HeldLaunch) : Uplink :=
  { u with
    slReplaced := if u.launchHeld.any (fun e => decide (e.key = h.key)) then u.slReplaced + 1 else u.slReplaced
    launchHeld := u.launchHeld.filter (fun e => decide (e.key ≠ h.key)) ++ [h] }

/-- SAFE_LINK_SEND (R305, R214): held messages whose instant has passed go first. -/
def execSafeLinkSend (conn msg : Nat) (s : State) : Host.Outcome State Fault Refusal :=
  let key := conn * 512 + msg
  match s.netOn && commandsNet s.module, Tbl.get none s.uplink.out key with
  | true, some o =>
    match o.sent, o.pdu with
    | false, some pdu =>
      let s1 := s.updUplink (fun u => { u with out := Tbl.set none u.out key (some { o with sent := true }) })
      match s.launchOf conn, s.ptp.locked with
      | some l, true =>
        let s2 := s1.launch s1.launchDue
        let s3 := s2.updUplink (fun u => u.holdLaunch ⟨key, pdu, nextLaunch (s.ptp.advance s.now).full l⟩)
        ok (if s3.uplink.slReplaced ≠ s.uplink.slReplaced then
          s3.raise .info .slReplaced .svc [((conn : Nat) : Int), ((msg : Nat) : Int)] else s3)
      | _, _ => ok (s1.sendPdu key pdu)
    | _, _ => ok s
  | _, _ => ok s

/-- SL_UNSIGNED (R305): no pair is complete. -/
def execSlUnsigned (conn msg : Nat) (s : State) : Host.Outcome State Fault Refusal :=
  let key := conn * 512 + msg
  match s.netOn && commandsNet s.module, Tbl.get none s.uplink.out key with
  | true, some o =>
    if !o.sent && o.pdu.isNone then
      ok ((s.updUplink (fun u => { u with out := Tbl.set none u.out key none, slUnsigned := u.slUnsigned + 1 })).raise
        .warn .slUnsigned .svc [((conn : Nat) : Int), ((msg : Nat) : Int)])
    else ok s
  | _, _ => ok s

/-- TIMED_LAUNCH (R314): the connection's held messages whose launch instant has come leave in SEQ order. -/
def execTimedLaunch (conn t : Nat) (s : State) : Host.Outcome State Fault Refusal :=
  let s0 := s.touch t
  if s0.netOn ∧ commandsNet s0.module then ok (s0.launch (fun h => decide (h.key / 512 = conn) && s0.launchDue h))
  else ok s0

/-! ## Ports (R287-R289) -/

/-- UPLINK_FRAME_RX (R288, R289). -/
def execUplinkFrameRx (port : Nat) (frame : List Byte) (t : Nat) (s : State) : Host.Outcome State Fault Refusal :=
  let s0 := s.touch t
  if s0.netOn ∧ s0.portUp port then ok (s0.netRx port frame) else ok s0

/-- PRP_SUPERVISION_SEND (R287). -/
def execPrpSupervisionSend (t : Nat) (s : State) : Host.Outcome State Fault Refusal :=
  let s0 := s.touch t
  let due := match s0.uplink.lastSupervision with
    | none => true
    | some l => decide (l + 2000000000 ≤ s0.now)
  if s0.netSends && due then
    ok ((s0.sendPrp (fun _ => prpDestination) 2 etherPrp (prpSupervision s0.uplink.mac (s0.uplink.supervisionSent % 65536))).updUplink
      (fun u => { u with supervisionSent := u.supervisionSent + 1, lastSupervision := some s0.now }))
  else ok s0

/-! ## Loss and recovery of SVC (Table 1.10, Table 1.11, R403, R431) -/

/-- A load in progress is interrupted: the target slot of each lane that takes it is BAD (R398). -/
def State.breakLoad (s : State) : State :=
  match s.change.loading with
  | none => s
  | some _ =>
    let s1 := s.mapLanes (fun ln L =>
      if s.change.loadLanes.contains ln then
        { L with flash := L.flash.putCfg (fun r => r.setSlot r.target 3 0) }
      else L)
    { s1 with change := { s1.change with loading := none, loadLanes := [] } }

/-- SVC stops: its memory, its registers and queues, its sessions, and everything that passes through it. -/
def State.svcDown (s : State) : State :=
  let s1 := s.breakLoad
  { s1 with
    uplink := { up := false, linkAccepted := false, cmdSeq := s1.uplink.cmdSeq, mac := s1.uplink.mac }
    ptp := { edgeAt := s1.now, quiet := ⟨s1.now, s1.now⟩, syncAt := s1.now }, wb := [], chk := [], regs := {}
    queues := s1.queues.filter (fun e => decide (e.1 < 96))
    access := { s1.access with sessions := [], reply := [] }
    log := { s1.log with q := [], dropped := 0 }
    snap := { s1.snap with windowAt := none, staged := none, svcBank := none } }

/-- Firmware revision that the lanes IN-VOTE run, with SVC's and the plane chips'. -/
def State.comboWith (s : State) (rev : U32) : Combo := { s.change.running with svc := rev }

/-- SVC_RESTART (R403): the lanes accept the restarted SVC only with a firmware set that the manifest names. -/
def execSvcRestart (rev : U32) (s : State) : Host.Outcome State Fault Refusal :=
  if s.svcOn ∧ (runsCycle s.module ∨ s.module = .halt) then
    let s1 := s.svcDown
    let c := s1.comboWith rev
    let good := match s1.man with
      | none => true
      | some m => inCombo m.hdr c
    let s2 : State := { s1 with change := { s1.change with running := c }
                                uplink := { s1.uplink with linkAccepted := good } }
    fin (if good then s2 else s2.raiseModule .fault .comboUntested [(c.lane.toNat : Int), (c.svc.toNat : Int), (c.plane.toNat : Int)])
  else fin s

/-- Deliver the events a lane has held, and the number it lost (R431). -/
def State.deliver (s : State) (ln : LaneId) : State :=
  let L := s.lane ln
  let lost : List Event := if L.lostEvents = 0 then [] else
    [⟨.log, .eventsLost, ln.die, [((L.lostEvents : Nat) : Int)], s.eventCn ln.die, some s.opsec⟩]
  let s1 := s.updLane ln (fun L => { L with heldEvents := [], lostEvents := 0 })
  { s1 with log := (L.heldEvents ++ lost).foldl Logbook.push s1.log }

/-- Change log events that SVC could not log, oldest first: those of the last 64 commands, as the lane with the longest
record holds them (R421). -/
def State.lateChanges (s : State) : List Event :=
  let L := LaneId.all.foldl (fun (A : Lane) ln =>
    if A.lateChanges.length < (s.lane ln).lateChanges.length then s.lane ln else A) (s.lane s.lead)
  L.lateChanges.reverse.filter (fun e =>
    match e.cn, L.supC.lastCmds[63]? with
    | some c, some (_, oldest) => decide (sdiff oldest c ≤ 0)
    | _, _ => true)

/-- Log them, with DEFERRED set. -/
def State.deliverChanges (s : State) : State :=
  let s1 := s.mapLanes (fun _ L => { L with lateChanges := [] })
  { s1 with log := s.lateChanges.foldl Logbook.push s1.log }

/-- What SVC logs when it works again (R421, R431). -/
def State.deliverAll (s : State) : State := (LaneId.all.foldl State.deliver s).deliverChanges

/-- SVC_RECOVERY (R431, Table 1.10): SVC works again, unless the lanes refuse its link. -/
def execSvcRecovery (s : State) : Host.Outcome State Fault Refusal :=
  if s.svcOn ∧ !s.uplink.up ∧ s.uplink.linkAccepted then
    let s1 := s.updUplink (fun u => { u with up := true, limited := s.bist.marks.contains .svc })
    let s2 := match s1.body with
      | none => s1
      | some b => s1.configureWb b
    ok (s2.deliverAll.stageDeferred)
  else ok s

end Sys2Proof.Machine
end

