-- ==== Sys2Proof/Machine/Ptp.lean ====
section
/-! DEFINITION. The PTP clock of SVC: its counter, the servo, the handling of jumps and of a new master, the choice of
the master, peer delay and the transparent clock (chapter 10, R307-R313, R315). -/

namespace Sys2Proof.Machine

open Sys2Proof

/-! ## New masters and jumps (R308, R312) -/

/-- A new master: it must be consistent before its offsets are applied (R312). -/
def Ptp.newMaster (p : Ptp) (m : Option U64) : Ptp :=
  { p with master := m, isNew := true, consistent := 0, lastOffset := none, goodSyncs := 0 }

/-- Magnitude of an offset beyond the jump threshold (R312). -/
def Ptp.jump (p : Ptp) (o : Int) : Bool := decide (p.thresholdUs * 1000 < o.natAbs)

/-- Consistent intervals with a further offset: successive offsets differ by at most 10 µs (R312). -/
def Ptp.intervals (p : Ptp) (o : Int) : Nat :=
  match p.lastOffset with
  | none => 0
  | some l => if (o - l).natAbs ≤ 10000 then p.consistent + 1 else 0

/-- Lock state after a measured offset (R311): 8 in a row within 1 µs lock, one beyond 10 µs unlocks. -/
def Ptp.judgeLock (p : Ptp) (o : Int) : Ptp :=
  if o.natAbs ≤ 1000 then
    { p with goodSyncs := min (p.goodSyncs + 1) 8, locked := p.locked || decide (8 ≤ p.goodSyncs + 1) }
  else { p with goodSyncs := 0, locked := p.locked && decide (o.natAbs ≤ 10000) }

/-- INCR that the servo sets: nominal and a deviation within the slew limit (R311). -/
def servoIncr (slew500 : Bool) (dev : Int) : BitVec 40 :=
  BitVec.ofInt 40 ((incrNominal : Int) + clampInt (-(slewLimit slew500 : Int)) (slewLimit slew500) dev)

/-- Held launches go at once when the clock is not locked (R314). -/
def State.freeLaunches (s : State) : State := if s.ptp.locked then s else s.launch (fun _ => true)

/-- An offset within the threshold of an accepted master: the servo slews, but in the GX2 mode (R311, R313). -/
def State.slew (s : State) (o : Int) : State :=
  let p := s.ptp.judgeLock o
  let s1 : State :=
    if p.gx2Now then { s with ptp := p }
    else { s with ptp := { p with incr := servoIncr p.slew500Now (Config.servoStep s.draw) }, draw := s.draw + 1 }
  s1.freeLaunches

/-- One step of the clock by a consistent offset: every held launch goes first (R312, R315). -/
def State.stepClock (s : State) (o : Int) : State :=
  let s1 := s.launch (fun _ => true)
  let p := s1.ptp.judgeLock o
  { s1 with ptp := { p.setFull (p.full - o) with lastOffset := none } }.raise .info .timeStep .svc [-o]

/-- An offset that is not applied: the rate is held; one beyond the threshold is flagged JUMP_REFUSED (R312). -/
def State.refuseOffset (s : State) (o : Int) (n : Nat) : State :=
  let s1 : State := { s with ptp := { s.ptp.judgeLock o with isNew := true, consistent := n, lastOffset := some o } }
  let s2 := s1.freeLaunches
  if s.ptp.jump o then
    { s2 with ptp := { s2.ptp with jumpRefused := true } }.raise .warn .jumpRefused .svc []
  else s2

/-- The modes written take effect at a Sync (R313, R464). -/
def Ptp.takeModes (p : Ptp) : Ptp := { p with gx2Now := p.gx2, slew500Now := p.slew500 }

/-- One measured offset of a master (R311, R312). In the GX2-compatible mode the firmware asks for the step that an accepted
offset beyond the threshold calls for, or lets it stand (R313; log entry 122). -/
def State.ptpOffset (s : State) (m : U64) (o : Int) : State :=
  let p0 := { (s.ptp.advance s.now).takeModes with syncAt := s.now }
  let p1 := if p0.master = some m then p0 else p0.newMaster (some m)
  let s1 : State := { s with ptp := p1 }
  let n := p1.intervals o
  if !p1.isNew then
    (if p1.jump o then s1.refuseOffset o 0
     else { s1 with ptp := { p1 with lastOffset := some o } }.slew o)
  else if n < 16 then s1.refuseOffset o n
  else
    let s2 : State := { s1 with ptp := { p1 with isNew := false, consistent := 0, lastOffset := some o } }
    if !p1.jump o then s2.slew o
    else if !p1.gx2Now then s2.stepClock o
    else if Config.firmwareStep s.draw then { s2 with draw := s.draw + 1 }.stepClock o
    else { s1 with ptp := { p1.judgeLock o with consistent := n, lastOffset := some o }, draw := s.draw + 1 }.freeLaunches

/-! ## Masters heard (R307, R308) -/

/-- Place of a LAN in a pair kept per LAN. -/
def lanId (lanB : Bool) : PlaneId := if lanB then .b else .a

/-- Dataset of an Announce in the order in which IEEE 1588-2019 compares it. -/
def annKey (a : PtpAnnounce) : List Nat :=
  [a.priority1, a.clockClass, a.accuracy, a.variance, a.priority2, a.identity.toNat, a.stepsRemoved]

/-- Lexicographic comparison of two datasets. -/
def keyLt : List Nat → List Nat → Bool
  | [], [] => false
  | [], _ :: _ => true
  | _ :: _, [] => false
  | a :: r, b :: q => decide (a < b) || (decide (a = b) && keyLt r q)

/-- The options of a message are those of Table 10.5; its log interval lies in a range (R307). -/
def State.ptpSupports (s : State) (h : PtpHdr) (lo hi : Int) : Bool :=
  decide (h.domain = (match s.body with
    | none => 0
    | some b => b.ptpDomain)) &&
  h.annexE && !h.unicast && !h.tlv && decide (lo ≤ h.logInterval) && decide (h.logInterval ≤ hi)

/-- A message with options that are not supported is ignored and counted (R307). -/
def State.ptpIgnore (s : State) : State := { s with ptp := { s.ptp with ignored := s.ptp.ignored + 1 } }

/-- Announce interval in ns by its logarithm. -/
def annNs (k : Nat) : Nat := 1000000000 * 2 ^ k

/-- Announce interval of a master. -/
def Foreign.interval (f : Foreign) : Nat := annNs f.ann.hdr.logInterval.toNat

/-- Two Announces within four intervals and none missed for three: the master is qualified (log entry 121). -/
def Foreign.qualified (now : Nat) (f : Foreign) : Bool :=
  (match f.before with
    | none => false
    | some b => decide (now ≤ b + 4 * f.interval)) &&
  decide (now ≤ f.last + 3 * f.interval) && decide (f.ann.stepsRemoved < 255)

/-- An Announce enters the masters heard; those silent for three intervals leave. -/
def hearMaster (a : PtpAnnounce) (now : Nat) (fs : List Foreign) : List Foreign :=
  let live := fs.filter (fun f => decide (now ≤ f.last + 3 * f.interval))
  match live.find? (fun f => decide (f.ann.identity = a.identity)) with
  | none => live ++ [⟨a, now, none⟩]
  | some o => live.map (fun f => if f.ann.identity = a.identity then ⟨a, now, some o.last⟩ else f)

/-- Better of two masters. -/
def betterMaster (old : Option PtpAnnounce) (a : PtpAnnounce) : Option PtpAnnounce :=
  match old with
  | none => some a
  | some b => if keyLt (annKey a) (annKey b) then some a else some b

/-- Best qualified master of a LAN at an instant. -/
def Ptp.best (p : Ptp) (lanB : Bool) (now : Nat) : Option PtpAnnounce :=
  ((p.heard.get (lanId lanB)).filter (Foreign.qualified now)).foldl (fun o f => betterMaster o f.ann) none

/-- A Sync comes from the master in use: the best master of the LAN in use. -/
def Ptp.fromMaster (p : Ptp) (lanB : Bool) (m : U64) (now : Nat) : Bool :=
  decide (lanB = p.lanB) && (p.best lanB now).any (fun a => decide (a.identity = m))

/-! ## Sync and Follow_Up (R307, R308) -/

/-- PTP_SYNC_RX (R311): a two-step Sync waits for its Follow_Up. -/
def execPtpSyncRx (lanB : Bool) (sync : PtpSync) (t : Nat) (s : State) : Host.Outcome State Fault Refusal :=
  let s0 := s.touch t
  if s0.netOn then
    if !s0.ptpSupports sync.hdr (-4) 0 then ok s0.ptpIgnore
    else if s0.ptp.fromMaster lanB sync.master s0.now then
      if sync.twoStep then
        ok { s0 with ptp := { s0.ptp with twoStep := s0.ptp.twoStep.set (lanId lanB) (some (sync.master, sync.seq)) } }
      else ok (s0.ptpOffset sync.master sync.offset)
    else ok s0
  else ok s0

/-- PTP_FOLLOW_UP_RX (R307): of the Sync that waits. -/
def execPtpFollowUpRx (lanB : Bool) (fup : PtpFollowUp) (t : Nat) (s : State) : Host.Outcome State Fault Refusal :=
  let s0 := s.touch t
  if s0.netOn then
    if !s0.ptpSupports fup.hdr (-4) 0 then ok s0.ptpIgnore
    else if s0.ptp.twoStep.get (lanId lanB) = some (fup.master, fup.seq) then
      let s1 : State := { s0 with ptp := { s0.ptp with twoStep := s0.ptp.twoStep.set (lanId lanB) none } }
      ok (if s1.ptp.fromMaster lanB fup.master s1.now then s1.ptpOffset fup.master fup.offset else s1)
    else ok s0
  else ok s0

/-! ## The master (R308) -/

/-- The clock takes its master on a LAN: a change of LAN is a new master. -/
def Ptp.useLan (p : Ptp) (lanB : Bool) (now : Nat) : Ptp :=
  if p.lanB = lanB then p else { p.newMaster ((p.best lanB now).map (·.identity)) with lanB := lanB }

/-- UTC offset from the master in use (R310). -/
def Ptp.takeUtc (p : Ptp) (now : Nat) : Ptp :=
  match p.best p.lanB now with
  | none => p
  | some a => { p with utcOffset := a.utcOffset, utcValid := a.utcValid }

/-- An Announce on a LAN (R308). -/
def Ptp.announce (p : Ptp) (lanB : Bool) (a : PtpAnnounce) (now : Nat) : Ptp :=
  let l := lanId lanB
  let p1 : Ptp := { p with
    heard := p.heard.set l (hearMaster a now (p.heard.get l)), annLog := p.annLog.set l a.hdr.logInterval.toNat }
  let good := (p1.heard.get l).any (fun f => decide (f.ann.identity = a.identity) && f.qualified now)
  let p2 : Ptp := if good then { p1 with quiet := p1.quiet.set l now, timedOut := p1.timedOut.set l false } else p1
  let p3 : Ptp := if good && p2.timedOut.get (lanId p2.lanB) then p2.useLan lanB now else p2
  let m : Option U64 := (p3.best p3.lanB now).map (fun (b : PtpAnnounce) => b.identity)
  let p4 : Ptp := if p3.master = m then p3 else p3.newMaster m
  p4.takeUtc now

/-- PTP_ANNOUNCE_RX (R308). -/
def execPtpAnnounceRx (lanB : Bool) (ann : PtpAnnounce) (t : Nat) (s : State) : Host.Outcome State Fault Refusal :=
  let s0 := s.touch t
  if s0.netOn then
    if !s0.ptpSupports ann.hdr 0 2 then ok s0.ptpIgnore
    else
      let p := s0.ptp.announce lanB ann s0.now
      let s1 : State := { s0 with ptp := p }
      ok (if s0.ptp.master = p.master then s1 else s1.raise .info .newMaster .svc [if p.lanB then 1 else 0])
  else ok s0

/-- One announce receipt timeout of a LAN: three of its announce intervals. -/
def Ptp.timeoutNs (p : Ptp) (lanB : Bool) : Nat := 3 * annNs (p.annLog.get (lanId lanB))

/-- The clock is unlocked, and its held launches go (R311, R314). -/
def State.unlock (s : State) : State :=
  State.freeLaunches { s with ptp := { s.ptp with locked := false, goodSyncs := 0 } }

/-- ANNOUNCE_RECEIPT_TIMEOUT (R308, R311): a LAN that has heard no qualified master for one timeout has none; the clock
leaves the LAN in use for the other. A clock that has accepted no Sync for one timeout is unlocked. -/
def execAnnounceReceiptTimeout (lanB : Bool) (t : Nat) (s : State) : Host.Outcome State Fault Refusal :=
  let s0 := s.touch t
  let p := s0.ptp
  let gone := decide (p.quiet.get (lanId lanB) + p.timeoutNs lanB ≤ s0.now)
  if s0.netOn then
    let s1 : State := if gone then { s0 with ptp := { p with timedOut := p.timedOut.set (lanId lanB) true } } else s0
    if p.lanB ≠ lanB then ok s1
    else if gone then
      let q := s1.ptp.useLan (!lanB) s1.now
      ok ((State.unlock { s1 with ptp := q }).raise .info .newMaster .svc [if q.lanB then 1 else 0])
    else if p.syncAt + p.timeoutNs lanB ≤ s0.now then ok s1.unlock
    else ok s1
  else ok s0

/-! ## Peer delay and the transparent clock (R307, R309) -/

/-- PDELAY_REQ_SEND (R307). -/
def execPdelayReqSend (port t1 : Nat) (s : State) : Host.Outcome State Fault Refusal :=
  if s.netSends then
    ok { s with ptp := { s.ptp with
      pdelaySeq := Tbl.upd 0 s.ptp.pdelaySeq port (fun n => (n + 1) % 65536)
      pdelayT1 := Tbl.set 0 s.ptp.pdelayT1 port t1 } }
  else ok s

/-- PDELAY_REQ_RX (R309): answered on the port and not forwarded. -/
def execPdelayReqRx (port seq rx tx : Nat) (s : State) : Host.Outcome State Fault Refusal :=
  let turn := tx - rx
  if s.netSends then
    ok { s with ptp := { s.ptp with
      pdelayAnswered := Tbl.set 0 s.ptp.pdelayAnswered port (seq % 65536 * 2 ^ 64 + turn + 1) } }
  else ok s

/-- PDELAY_RESP_RX (R309): the mean link delay of the port. -/
def execPdelayRespRx (port seq turn t4 : Nat) (s : State) : Host.Outcome State Fault Refusal :=
  let p := s.ptp
  if s.netOn ∧ seq = Tbl.get 0 p.pdelaySeq port then
    ok { s with ptp := { p with
      linkDelay := Tbl.set 0 p.linkDelay port ((t4 - Tbl.get 0 p.pdelayT1 port - turn) / 2) } }
  else ok s

/-- TRANSPARENT_CLOCK_FORWARD (R309): correctionField at the other port of the LAN grows by the residence time and the
mean link delay of the ingress port. -/
def execTransparentClockForward (port ingress egress : Nat) (correction : Int) (s : State) :
    Host.Outcome State Fault Refusal :=
  let p := s.ptp
  if s.netOn then
    ok { s with ptp := { p with
      correction := Tbl.set 0 p.correction (otherPort port)
        (correction + ((egress : Int) - ingress) + (Tbl.get 0 p.linkDelay port : Nat)) } }
  else ok s

end Sys2Proof.Machine
end

