-- ==== Sys2Proof/Machine/Quayline.lean ====
section
/-! DEFINITION. The plane chips' tick and plane time, sync frames, receive guardian and downlink slots (R31, R213,
R228, R231-R235, R241, R247, R248, R253-R255, R269, R284, R285, R368, R475). -/

namespace Sys2Proof.Machine

open Sys2Proof

/-! ## Plane access -/

/-- One plane chip. -/
def State.plane (s : State) (pl : PlaneId) : Plane := s.planes.get pl

/-- Replace a plane chip. -/
def State.putPlane (s : State) (pl : PlaneId) (p : Plane) : State := { s with planes := s.planes.set pl p }

/-- Rewrite a plane chip. -/
def State.updPlane (s : State) (pl : PlaneId) (f : Plane → Plane) : State := s.putPlane pl (f (s.plane pl))

/-- The plane chip has power (Table 17.2). -/
def State.planeOn (s : State) (pl : PlaneId) : Bool := s.power.pg.getLsbD (if pl.bit then 10 else 9)

/-- The plane keeps a cycle: its own, or far time (R31, R257). -/
def Plane.live (p : Plane) : Bool := p.running || p.farTick.isSome

/-- Segment state. -/
def Plane.seg (p : Plane) (n : Nat) : Seg := Tbl.get {} p.segs n

/-- Rewrite a segment. -/
def Plane.updSeg (p : Plane) (n : Nat) (f : Seg → Seg) : Plane := { p with segs := Tbl.upd {} p.segs n f }

/-- What the chip keeps of a controller. -/
def Plane.ctrl (p : Plane) (c : Nat) : PCtrl := Tbl.get {} p.ctrls c

/-- Rewrite what the chip keeps of a controller. -/
def Plane.updCtrl (p : Plane) (c : Nat) (f : PCtrl → PCtrl) : Plane := { p with ctrls := Tbl.upd {} p.ctrls c f }

/-- Key of a slot. -/
def slotKey (seg slot : Nat) : Nat := seg * 512 + slot

/-- Controllers of the running manifest. -/
def State.schedule (s : State) : List (Nat × CtrlCfg) :=
  match s.body with
  | none => []
  | some b => b.ctrls

/-- Configuration of a controller. -/
def State.ctrlCfg (s : State) (c : Nat) : Option CtrlCfg :=
  (s.schedule.find? (fun (e : Nat × CtrlCfg) => decide (e.1 = c))).map (fun (e : Nat × CtrlCfg) => e.2)

/-- Controller of a slot (R227). -/
def State.slotCtrl (s : State) (seg slot : Nat) : Option Nat :=
  (s.schedule.find? (fun (e : Nat × CtrlCfg) => decide (e.2.segment = seg ∧ e.2.slot = slot))).map
    (fun (e : Nat × CtrlCfg) => e.1)

/-- The segment serves a configured controller. -/
def State.segConfigured (s : State) (seg : Nat) : Bool :=
  s.schedule.any (fun (e : Nat × CtrlCfg) => decide (e.2.segment = seg))

/-- Line ports of a plane that are not held down (Table 15.8). -/
def State.ports (s : State) (pl : PlaneId) : List Nat :=
  (List.range 8).filter (fun n => !s.bist.marks.contains (.port pl n))

/-- The partner stands by (R256). -/
def State.partnerStandby (s : State) : Bool :=
  s.pair.variantP && ((s.pair.status.a.any (fun x => decide (x.state = .standby))) ||
    (s.pair.status.b.any (fun x => decide (x.state = .standby))))

/-! ## STATUS (R368, Table 13.2, R381) -/

/-- Segments on which a plane chip runs far-end feed or has it due, as a mask (R258). -/
def Plane.fedMask (p : Plane) : BitVec 8 :=
  (List.range 8).foldl (fun m n => if (p.seg n).feed || (p.seg n).feedNext then m ||| (1 <<< n) else m) 0

/-- The STATUS frame a plane chip sends. -/
def State.statusNow (s : State) (p : Plane) (down : Bool) : HwStatus where
  unitB := s.pair.unitB
  state := s.module
  clm := s.pair.clm
  cn := p.cn
  resync := match s.pair.copy with
    | .resync _ => true
    | .none => false
    | .ready _ => false
  ready := match s.pair.copy with
    | .ready _ => true
    | .none => false
    | .resync _ => false
  lastApplied := match s.pair.copy with
    | .ready k => k
    | .none => 0
    | .resync _ => 0
  inVote := s.voters.length
  testRunning := s.rot.active.isSome
  svcOk := s.uplink.up
  holderDown := down
  signature := (imageId s.man).getD 0
  fed := p.fedMask

/-- Send STATUS on the hawser port of a plane chip. -/
def State.sendStatus (s : State) (pl : PlaneId) (down : Bool) : State :=
  if s.pair.variantP then
    { s with pair := { s.pair with statusOut := s.pair.statusOut.set pl (some (s.statusNow (s.plane pl) down)) } }
  else s

/-! ## Drift (R247) -/

/-- Number of the last 16 slots that lay outside ±400 ns. -/
def PCtrl.outside (c : PCtrl) : Nat := c.outs.count true

/-- Set or clear DRIFT. -/
def PCtrl.judgeDrift (c : PCtrl) : PCtrl :=
  if 8 ≤ c.outside then
    (if c.drift then c else { c with drift := true, noteDue := true, measured := false, sinceDset := none })
  else { c with drift := false, noteDue := false, measured := false, sinceDset := none }

/-- One uplink slot of a controller: the arrival error, or no arrival. -/
def PCtrl.slot (c : PCtrl) (e : Option Int) : PCtrl :=
  PCtrl.judgeDrift { c with
    errs := match e with
      | none => c.errs
      | some x => (x :: c.errs).take 16
    outs := ((match e with
      | none => false
      | some x => decide (400 < x.natAbs)) :: c.outs).take 16 }

/-- Log a change of DRIFT. -/
def State.logDrift (s : State) (pl : PlaneId) (ctrl : Nat) (before : Bool) : State :=
  let after := ((s.plane pl).ctrl ctrl).drift
  if before = after then s
  else s.raise .warn (if after then .drift else .driftCleared) pl.die [((ctrl : Nat) : Int)]

/-! ## Plane time (R231, R233) -/

/-- Plane time per clk_q at the nominal 125 MHz, in 2^-32 ns. -/
def nominalIncr : Nat := 8 * 2 ^ 32

/-- Clk_q from one instant to another: the chip's counter runs in steps of 8 ns. -/
def clkq (l t : Nat) : Nat := t / 8 - l / 8

/-- Increment by which one mean interval counts as T_c. DESIGN CHOICE, log entry 108: the mean is over the intervals held,
and the increment is nominal while none is held. -/
def trimmedIncr (tc : Nat) (iv : List Nat) : Nat := if iv.sum = 0 then nominalIncr else tcNs tc * 2 ^ 32 * iv.length / iv.sum

/-- Instant from which the chip counts plane time: the plane tick, or the far tick of a partner (R231, R257). -/
def Plane.base (p : Plane) : Nat := if p.running then p.lastTick.getD 0 else p.farTick.getD 0

/-- Plane time at an instant, in ns. -/
def Plane.timeAt (p : Plane) (t : Nat) : Nat := (t - p.base) * p.incr / nominalIncr

/-- Opening of uplink slot k in plane time (Table 8.2). -/
def upSlotNs (k : Nat) : Nat := 100000 + 2500 * k

/-- Opening of downlink slot k in plane time (Table 8.2). -/
def downSlotNs (tc k : Nat) : Nat := qDownNs tc + 2500 * k

/-! ## The plane tick (R31, R231, R232, R235) -/

/-- What the chip keeps of a controller, at the end of a cycle: a slot without arrival, the cycles the uplink has been
missing, and the cycles since a DSET. -/
def PCtrl.endCycle (c : PCtrl) (arrived accepted : Bool) : PCtrl :=
  let d := if arrived then c else c.slot none
  { d with missing := if accepted then 0 else d.missing + 1
           sinceDset := d.sinceDset.map (· + 1) }

/-- Close the cycle that ends at a tick, and clear everything held for one cycle only. -/
def Plane.nextCycle (p : Plane) (sched : List (Nat × CtrlCfg)) : Plane :=
  let q := sched.foldl (fun (q : Plane) (e : Nat × CtrlCfg) =>
    let k := slotKey e.2.segment e.2.slot
    q.updCtrl e.1 (fun c => c.endCycle (p.slotSeen.contains k) (decide (Tbl.get [] p.fwd k ≠ [])))) p
  { q with
    syncs := [], sentDown := [], fwd := [], slotSeen := [], relayOut := [], store := []
    sawDownlinkPrev := p.sawDownlink, sawDownlink := false
    segs := Tbl.ofList {} (q.segs.map (fun e => (e.1, { e.2 with sent := [] }))) }

/-- Mean of the last 16 tick intervals, in clk_q of 8 ns, more than 100 ppm from T_c (R475). -/
def planeClockBad (tc : Nat) (iv : List Nat) : Bool :=
  decide (iv.length = 16) &&
  (decide (16 * tcNs tc * 1000100 < 8 * iv.sum * 1000000) || decide (8 * iv.sum * 1000000 < 16 * tcNs tc * 999900))

/-- STEP of the cycle: the set of strobing lanes has changed (R232). -/
def Plane.stepOf (p : Plane) : Bool := LaneId.all.any (fun ln => p.curSet.contains ln != p.prevSet.contains ln)

/-- The interval that ended at the last tick counts unless STEP is set (R231). -/
def Plane.countInterval (p : Plane) (was now : Bool) : Plane :=
  match p.lastInterval, was, now with
  | some i, true, false => { p with intervals := (i :: p.intervals).take 16 }
  | some _, false, true => { p with intervals := p.intervals.drop 1 }
  | _, _, _ => p

/-- Trim the increment of plane time (R231). -/
def Plane.trim (p : Plane) (tc : Nat) : Plane := { p with incr := trimmedIncr tc p.intervals }

/-- A timing frame of this module on a segment, from destination address to FCS (R228, Table 8.6). -/
def State.timing (s : State) (pl : PlaneId) (seg : Nat) (x : Timing) : List Byte :=
  timingFrame (moduleMac s.pair.unitB) pl seg x

/-- The sync frame of a module (Table 8.6). -/
def State.syncFrame (s : State) (p : Plane) (far : Bool) (clm cn : U32) (tc : Nat) : SyncOut :=
  { clm := clm, cn := cn, tc := tc, cold := !far && p.coldNext, far := far, step := !far && p.stepNow
    test := decide (s.module = .test), unitB := s.pair.unitB }

/-- The same sync frame with STEP at a value: it has not left yet at the third strobe of a tick. -/
def withStep (f : List Byte) (b : Bool) : List Byte := qlFrame (beAt f 6 6) (setBitAt (slice f 14 (f.length - 18)) 26 b)

/-- Send direct sync frames on every port of the plane (R235, R255). -/
def State.sendSync (s : State) (pl : PlaneId) : State :=
  let p := s.plane pl
  if p.sending && commandsNet s.module then
    let f := s.syncFrame p false s.pair.clm p.cn s.tc
    s.putPlane pl { p with
      syncs := Tbl.ofList [] ((s.ports pl).map (fun n => (n, s.timing pl n (.sync f)))), coldNext := false }
  else s

/-- The chip may start its plane on strobes: not after PLANE_CLOCK, not in STANDBY, not before the cycle after the first
sync of a takeover (R379), and not while the partner shows a later claim (R381). -/
def State.mayStart (s : State) (pl : PlaneId) (cn : U32) : Bool :=
  decide ((s.plane pl).stop ≠ .clock) && decide (s.module ≠ .standby) &&
  (match s.pair.syncFrom with
    | none => true
    | some c => later cn c) &&
  !(s.pair.variantP && ((s.pair.status.a.any (fun x => later x.clm s.pair.clm)) ||
    (s.pair.status.b.any (fun x => later x.clm s.pair.clm))))

/-- The plane tick: the second strobe of the lanes in `set`. -/
def State.planeTick (s : State) (pl : PlaneId) (set : List LaneId) (cn : U32) (t : Nat) : State :=
  let p := s.plane pl
  let q := p.nextCycle s.schedule
  let q1 := { q with
    curSet := set, prevSet := if p.running then p.curSet else [], strobes := []
    lastInterval := if p.running then p.lastTick.map (fun l => clkq l t) else none
    lastTick := some t, cn := cn, running := true, farTick := none, farCoast := false
    segs := Tbl.ofList {} (q.segs.map (fun (g : Nat × Seg) =>
      (g.1, { g.2 with lineAnswered := g.2.lineAnswered && s.partnerStandby }))) }
  let step := q1.stepOf
  let q2 := { (q1.countInterval true step).trim s.tc with stepNow := step }
  let s1 := s.putPlane pl q2
  let s2 := s.schedule.foldl (fun (u : State) (e : Nat × CtrlCfg) => u.logDrift pl e.1 (p.ctrl e.1).drift) s1
  if planeClockBad s.tc q2.intervals then
    (s2.updPlane pl (fun p => { p with running := false, stop := .clock })).raise .fault .planeClock pl.die []
  else (s2.sendSync pl).sendStatus pl false

/-- A third strobe of the same tick: STEP and the interval are judged again. -/
def State.lateStrobe (s : State) (pl : PlaneId) (ln : LaneId) : State :=
  let p := s.plane pl
  let q := { p with curSet := p.curSet ++ [ln] }
  let step := q.stepOf
  let q1 := { (q.countInterval p.stepNow step).trim s.tc with stepNow := step }
  s.putPlane pl { q1 with syncs := q1.syncs.map (fun e => (e.1, withStep e.2 step)) }

/-- The claim holder has sent seals with TRANSFER (R384). -/
def State.handedOver (s : State) : Bool := s.pair.transferNext && s.pair.sealsOut.any (fun x => x.transfer)

/-- TICK_STROBE_RX (R31). A module that has handed over enters STANDBY at this plane tick (R384). -/
def execTickStrobeRx (pl : PlaneId) (ln : LaneId) (t : Nat) (s : State) : Host.Outcome State Fault Refusal :=
  let s0 := s.touch t
  let p := s0.plane pl
  match s0.planeOn pl && runsCycle s0.module && s0.votes ln, (s0.lane ln).strobeCn with
  | true, some cn =>
    if p.running ∧ p.cn = cn then
      ok (if p.curSet.contains ln then s0 else s0.lateStrobe pl ln)
    else if s0.mayStart pl cn then
      let st := (p.strobes.filter (fun m => decide (m ≠ ln) && decide ((s0.lane m).strobeCn = some cn) && s0.votes m)) ++ [ln]
      if st.length < 2 then ok (s0.putPlane pl { p with strobes := st })
      else if s0.handedOver then fin (s0.enterStandby (s0.pair.clm + 1) .none)
      else ok (s0.planeTick pl st cn t)
    else ok s0
  | _, _ => ok s0

/-- PLANE_NO_TICK (R31, R381): the plane falls silent. -/
def execPlaneNoTick (pl : PlaneId) (s : State) : Host.Outcome State Fault Refusal :=
  let p := s.plane pl
  if s.planeOn pl && p.running && decide (p.strobes.length < 2) then
    let q := { p.nextCycle s.schedule with running := false, stop := .noTick, strobes := [], lastInterval := none
                                           rings := ⟨[], [], []⟩ }
    let s1 := (s.putPlane pl q).raise .fault .planeNoTick pl.die []
    ok (if s.pair.variantP && s.pair.holder && commandsNet s.module && s.partnerReady then s1.sendStatus pl true else s1)
  else ok s

/-! ## The receive guardian (R241, R247) -/

/-- Why the guardian discards a frame: 0 EARLY, 1 LATE, 2 SECOND, 3 WRONG_SLOT. -/
def guardianCause (e : Int) (second : Bool) (ctrl : Option Nat) (seg slot : Nat) (frame : List Byte) : Option Nat :=
  if e < -200 then some 0
  else if 600 < e then some 1
  else if second then some 2
  else if ctrl ≠ some (beAt frame 4 2 % 4096) ∨ beAt frame 2 1 % 8 ≠ seg ∨ beAt frame 6 2 % 512 ≠ slot then some 3
  else none

/-- Count a discarded frame. -/
def PCtrl.countCause (c : PCtrl) : Nat → PCtrl
  | 0 => { c with early := c.early + 1 }
  | 1 => { c with late := c.late + 1 }
  | 2 => { c with second := c.second + 1 }
  | _ => { c with wrongSlot := c.wrongSlot + 1 }

/-- The claim holder's claim, as the partner has heard it. -/
def Plane.holderClaim (p : Plane) : U32 := p.farClm

/-- Records an uplink forwarding ring holds: 2 slot rows (Table 9.11). -/
def forwardDepth : Nat := 16

/-- The plane chip forwards to a lane: one IN-VOTE, or one REJOINING in its shadow cycles (R30, R219). -/
def State.forwardsTo (s : State) (ln : LaneId) : Bool :=
  decide (s.laneState ln = .inVote) || decide (s.laneState ln = .rejoining)

/-- An accepted uplink of a controller goes to every such lane of a running plane; a record that meets a full ring is
discarded and counted OVERFLOW (R284, R285). -/
def State.forwardUp (s : State) (pl : PlaneId) (c : Nat) (r : UpRec) : State :=
  if !(s.plane pl).running then s else
  LaneId.all.foldl (fun (u : State) ln =>
    let p := u.plane pl
    if !u.forwardsTo ln then u
    else if (p.rings.get ln).length < forwardDepth then
      u.putPlane pl { p with rings := p.rings.set ln (p.rings.get ln ++ [r]) }
    else (u.putPlane pl (p.updCtrl c (fun x => { x with overflow := x.overflow + 1 }))).raise
      .warn .overflow pl.die [((c : Nat) : Int)]) s

/-- A frame in a slot as the guardian takes or discards it. -/
def State.guard (s : State) (pl : PlaneId) (seg slot : Nat) (e : Int) (frame : List Byte) : State :=
  let p := s.plane pl
  let k := slotKey seg slot
  let own := s.slotCtrl seg slot
  let c := own.getD (beAt frame 4 2 % 4096)
  let second := p.slotSeen.contains k
  let p1 := { p with slotSeen := if second then p.slotSeen else k :: p.slotSeen }
  let p2 := if !second && decide (own = some (beAt frame 4 2 % 4096)) then p1.updCtrl c (fun x => x.slot (some e)) else p1
  match guardianCause e second own seg slot frame with
  | some n =>
    ((s.putPlane pl (p2.updCtrl c (fun x => x.countCause n))).raise .info .guardianCount pl.die
      [((c : Nat) : Int), ((n : Nat) : Int)]).logDrift pl c (p.ctrl c).drift
  | none =>
    let s1 := (s.putPlane pl p2).logDrift pl c (p.ctrl c).drift
    if (p.ctrl c).barred then s1
    else
      (s1.updPlane pl (fun q => { q with
        fwd := Tbl.set [] q.fwd k frame
        relayOut := if decide (s.module = .standby) && (q.seg seg).feed then Tbl.set [] q.relayOut k frame else q.relayOut })).forwardUp
        pl c { frame := frame, cn := p.cn, e := e, relay := false, accepted := true }

/-- Arrival error of a claim holder's downlink at the partner's port, in far time: the slot opens at the holder's port, D_L
away (DEDUCED, log entry 109). -/
def Plane.farError (p : Plane) (tc seg slot t : Nat) : Int :=
  (p.timeAt t : Int) - ((p.seg seg).dL.getD 0 : Nat) - (downSlotNs tc slot : Nat)

/-- UPLINK_GUARDIAN (R241): a frame with another EtherType or a bad FCS is discarded first (R228; log entry 110). In STANDBY
the guardian also records the claim holder's downlinks that reach its port (R256, R382). -/
def execUplinkGuardian (pl : PlaneId) (seg slot t : Nat) (frame : List Byte) (s : State) :
    Host.Outcome State Fault Refusal :=
  let s0 := s.touch t
  let p := s0.plane pl
  match s0.planeOn pl && p.live && s0.segConfigured seg, qlOpen frame with
  | true, some f =>
    if decide (s0.module = .standby) && decide (beAt f 1 1 = 0x10) then
      ok (if (guardianCause (p.farError s0.tc seg slot t) false (s0.slotCtrl seg slot) seg slot f).isNone &&
          decide (beAt f 8 4 = p.holderClaim.toNat) then
        s0.putPlane pl { p with sawDownlink := true } else s0)
    else ok (s0.guard pl seg slot ((p.timeAt t : Int) - (upSlotNs slot : Nat)) f)
  | _, _ => ok s0

/-- BARRED (R248). -/
def execBarred (pl : PlaneId) (ctrl : Nat) (s : State) : Host.Outcome State Fault Refusal :=
  let p := s.plane pl
  let c := p.ctrl ctrl
  match s.planeOn pl && p.live && c.drift, c.sinceDset, s.ctrlCfg ctrl with
  | true, some n, some cfg =>
    if 16 ≤ n then
      let p1 := p.updCtrl ctrl (fun c => { c with barred := true, knownNear := false, knownFar := false, sinceDset := none })
      ok ((s.putPlane pl (p1.updSeg cfg.segment (fun g =>
        { g with sent := g.sent ++ [s.timing pl cfg.segment (.bar ctrl)] }))).raise
        .fault .barred pl.die [((ctrl : Nat) : Int)])
    else ok s
  | _, _, _ => ok s

/-- DELAY_UNKNOWN (R245): the delay of the end this module measures. -/
def execDelayUnknown (pl : PlaneId) (ctrl : Nat) (s : State) : Host.Outcome State Fault Refusal :=
  let p := s.plane pl
  if s.planeOn pl && p.live && decide (16 ≤ (p.ctrl ctrl).missing) then
    ok (s.putPlane pl (p.updCtrl ctrl (fun c =>
      if s.module = .standby then { c with knownFar := false } else { c with knownNear := false })))
  else ok s

/-! ## Downlink slots (R213, R50, R285) -/

/-- Body and code of a lane in a store entry. -/
def StoreEntry.part (e : StoreEntry) (ln : LaneId) : Option (List Byte × List Byte) :=
  (e.bodies.find? (fun p => decide (p.1 = ln))).map (·.2)

/-- The telegram of the first pair of lanes with identical bodies, in the order of R213. -/
def StoreEntry.telegram (e : StoreEntry) (pl : PlaneId) : Option (List Byte) :=
  [(LaneId.l1, LaneId.l2), (LaneId.l1, LaneId.l3), (LaneId.l2, LaneId.l3)].findSome? (fun p =>
    match e.part p.1, e.part p.2 with
    | some a, some b => if a.1 = b.1 then some (withPlane a.1 pl.bit ++ a.2 ++ b.2) else none
    | _, _ => none)

/-- The partner has reported that it feeds a segment of a plane (R258). -/
def State.partnerFeeds (s : State) (pl : PlaneId) (seg : Nat) : Bool :=
  s.partnerStandby && (s.pair.status.get pl).any (fun (x : HwStatus) => x.fed.getLsbD seg)

/-- LANE_BODY_RX (R213, R258): a claim holder relays the telegram of a fed segment once it holds both codes. -/
def execLaneBodyRx (pl : PlaneId) (ln : LaneId) (seg slot : Nat) (body : List Byte) (code : List Byte) (s : State) :
    Host.Outcome State Fault Refusal :=
  let p := s.plane pl
  if s.planeOn pl && p.live && s.votes ln && commandsNet s.module then
    let k := slotKey seg slot
    let e := Tbl.get {} p.store k
    let e1 : StoreEntry := { e with bodies := (e.bodies.filter (fun b => decide (b.1 ≠ ln))) ++ [(ln, body, code)] }
    let relay := match s.partnerFeeds pl seg && s.pair.holder, Tbl.get [] p.relayOut k, e1.telegram pl with
      | true, [], some t => Tbl.set [] p.relayOut k t
      | _, _, _ => p.relayOut
    ok (s.putPlane pl { p with store := Tbl.set {} p.store k e1, relayOut := relay })
  else ok s

/-- DOWNLINK_SLOT_OPEN (R213, R50, R285). -/
def execDownlinkSlotOpen (pl : PlaneId) (seg slot : Nat) (s : State) : Host.Outcome State Fault Refusal :=
  let p := s.plane pl
  let k := slotKey seg slot
  match s.planeOn pl && p.live && p.sending && commandsNet s.module, s.slotCtrl seg slot with
  | true, some c =>
    let free : Plane := { p with store := Tbl.set {} p.store k {} }
    match (Tbl.get {} p.store k).telegram pl with
    | some t =>
      ok (s.putPlane pl { free with sentDown := Tbl.set [] p.sentDown k (qlFrame (moduleMac s.pair.unitB) t) })
    | none =>
      ok ((s.putPlane pl (free.updCtrl c (fun x => { x with signLate := x.signLate + 1 }))).raise
        .warn .signLate pl.die [((c : Nat) : Int)])
  | _, _ => ok s

/-! ## Start-up and another module's sync (R253-R255, R386, R387) -/

/-- The module stops all Quayline sending. -/
def State.stopQuayline (s : State) : State :=
  { s with
    planes := s.planes.map (fun p => { p with sending := false, coldNext := false, syncs := [], stop := (if p.stop = .clock then .clock else .crossing) })
    pair := { s.pair with listenUntil := none } }

/-- Another module's claim, as R254 compares it: later, earlier or equal. -/
inductive Rank where
  | wins | loses | same
deriving DecidableEq, Repr

/-- Rank of another module's direct sync. -/
def State.rankOf (s : State) (unitB : Bool) (clm : U32) : Rank :=
  if later clm s.pair.clm then .wins
  else if clm = s.pair.clm then
    (if unitB = s.pair.unitB then .same else if s.pair.unitB then .wins else .loses)
  else .loses

/-- The direct sync a received frame holds; `none` for any other frame (R228, R242). -/
def directSync (frame : List Byte) : Option SyncOut :=
  match timingOf frame with
  | some (_, .sync f) => if f.far then none else some f
  | _ => none

/-- A partner hears the claim holder's direct sync on a segment: of the far cycle that runs, or for the far tick that it
gives (R257, R258). -/
def Plane.hear (p : Plane) (seg : Nat) (f : SyncOut) (t : Nat) : Plane :=
  p.updSeg seg (fun g =>
    if p.farTick.isSome ∧ f.cn = p.farCn then { g with directSeen := true } else { g with heard := some (t, f) })

/-- MODULE_SYNC_RX (R254). A partner in STANDBY notes the direct sync of its line (R257, R258). -/
def execModuleSyncRx (pl : PlaneId) (seg : Nat) (frame : List Byte) (t : Nat) (s : State) :
    Host.Outcome State Fault Refusal :=
  let s0 := s.touch t
  match s0.planeOn pl, directSync frame with
  | true, some f =>
    if s0.module = .standby then fin (s0.updPlane pl (fun p => p.hear seg f t))
    else if commandsNet s0.module then
      match s0.rankOf f.unitB f.clm with
      | .wins =>
        fin (((s0.raiseModule .fault .crossing [(f.clm.toNat : Int), (f.cn.toNat : Int)]).stopQuayline).loseClaim f.clm)
      | .loses => fin (s0.raiseModule .warn .crossing [(f.clm.toNat : Int), (f.cn.toNat : Int)])
      | .same => fin ((s0.stopQuayline).closePair .unitClash)
    else fin s0
  | _, _ => fin s0

/-- The offset o of a listen time in ns (R253). -/
def listenOffset (clm : U32) (unitB : Bool) : Nat := 250000 * (clm.toNat % 16) + (if unitB then 125000 else 0)

/-- The module starts Quayline: it listens first (R253). -/
def State.startQuayline (s : State) : State :=
  { s with pair := { s.pair with listenUntil := some (s.now + 3 * tcNs s.tc + listenOffset s.pair.clm s.pair.unitB) } }

/-- QUAYLINE_LISTEN_END (R255): the module holds the claim and sends its next sync frames with COLD set. -/
def execQuaylineListenEnd (t : Nat) (s : State) : Host.Outcome State Fault Refusal :=
  let s0 := s.touch t
  match s0.pair.listenUntil with
  | none => ok s0
  | some u =>
    if u ≤ s0.now ∧ commandsNet s0.module then
      ok { s0 with
        pair := { s0.pair with listenUntil := none, holder := true, syncFrom := none }
        planes := s0.planes.map (fun p => { p with sending := true, coldNext := true }) }
    else ok s0

end Sys2Proof.Machine
end

