-- ==== Sys2Proof/Machine/QDyn.lean ====
section
/-! DEFINITION. Q-DYN: windows, delay measurement, line windows, non-cyclic frames (R236, R243, R245, R246, R256, R282,
R283). -/

namespace Sys2Proof.Machine

open Sys2Proof

/-! ## Windows (R236, R256) -/

/-- The cycle of a plane holds a line window on a segment: each module takes the partner to hold no D_L on its own
knowledge (log entry 18). -/
def State.lineWindow (s : State) (p : Plane) (seg : Nat) : Bool :=
  let standby := decide (s.module = .standby)
  (standby || (s.partnerStandby && s.pair.holder)) &&
  (decide (p.cn.toNat % 64 = 0) || decide ((p.seg seg).lineCn = some p.cn) ||
    (decide (p.cn.toNat % 4 = 0) && (if standby then (p.seg seg).dL.isNone else !(p.seg seg).lineAnswered)))

/-- Insert a controller by its slot. -/
def insertSlot (e : Nat × CtrlCfg) : List (Nat × CtrlCfg) → List (Nat × CtrlCfg)
  | [] => [e]
  | x :: r => if e.2.slot ≤ x.2.slot then e :: x :: r else x :: insertSlot e r

/-- Controllers of a segment in ascending slot order. -/
def State.segCtrls (s : State) (seg : Nat) : List Nat :=
  ((s.schedule.filter (fun (e : Nat × CtrlCfg) => decide (e.2.segment = seg))).foldr insertSlot []).map
    (fun (e : Nat × CtrlCfg) => e.1)

/-- The delay of a controller for an end is known. -/
def PCtrl.known (c : PCtrl) (far : Bool) : Bool := if far then c.knownFar else c.knownNear

/-- Controllers of a segment whose delay for an end is unknown. -/
def State.unknown (s : State) (p : Plane) (seg : Nat) (far : Bool) : List Nat :=
  (s.segCtrls seg).filter (fun c => !(p.ctrl c).known far)

/-- The end a window measures on a segment, and `none` where it measures none: W0 near and W2 near catch-up by the claim
holder, W1 far and W3 far catch-up by the partner (Table 8.3, R246). -/
def State.windowEnd (s : State) (p : Plane) (seg win : Nat) : Option Bool :=
  let line := s.lineWindow p seg
  if s.module = .standby then
    (if win = 1 ∧ !line then some true
     else if win = 3 ∧ !line ∧ s.unknown p seg true ≠ [] then some true
     else none)
  else if p.sending ∧ commandsNet s.module then
    (if win = 0 then some false
     else if win = 2 ∧ !line ∧ s.unknown p seg false ≠ [] then some false
     else none)
  else none

/-- A window in which the claim holder may send DNOTE or a request: W2 or W3 that measures nothing and holds no line
window; W3 is left to a partner that is not READY (log entry 18). -/
def State.freeWindow (s : State) (p : Plane) (seg win : Nat) : Bool :=
  p.sending && commandsNet s.module && !s.lineWindow p seg &&
  ((decide (win = 2) && (s.windowEnd p seg win).isNone) ||
   (decide (win = 3) && (!s.partnerStandby || s.partnerReady)))

/-! ## Window start -/

/-- Length of a window in ns: W1-W3 are joined in a line window (Table 8.3). -/
def windowNs (line : Bool) : Nat := if line then 360000 else 120000

/-- A frame leaves on a segment in Q-DYN. -/
def Plane.send (p : Plane) (seg : Nat) (f : List Byte) : Plane := p.updSeg seg (fun g => { g with sent := g.sent ++ [f] })

/-- DSET of the previous measurement of an end. The first one of a measurement made since DRIFT was set starts the 16 cycles
of R248. -/
def State.sendDset (s : State) (pl : PlaneId) (p : Plane) (seg : Nat) (far : Bool) : Plane :=
  let g := p.seg seg
  match (if far then g.dsetFar else g.dsetNear) with
  | none => p
  | some (c, q, d) =>
    let p1 := (p.send seg (s.timing pl seg (.dset far c q d))).updSeg seg (fun g =>
      if far then { g with dsetFar := none } else { g with dsetNear := none })
    if far then p1
    else p1.updCtrl c (fun x => if x.drift && x.measured && x.sinceDset.isNone then { x with sinceDset := some 0 } else x)

/-- DNOTE that is due on a segment (R247). -/
def State.noteDue (s : State) (p : Plane) (seg : Nat) : Option Nat :=
  (s.segCtrls seg).find? (fun c => (p.ctrl c).noteDue)

/-- Mean of the last 16 arrivals. -/
def PCtrl.mean (c : PCtrl) : Int := if c.errs = [] then 0 else c.errs.sum / c.errs.length

/-- Arrivals beyond ±400 ns among the last 16. -/
def PCtrl.beyond (c : PCtrl) : Nat := (c.errs.filter (fun e => decide (400 < e.natAbs))).length

/-- Take the first request for a controller of a segment out of the queue of a plane (R283). -/
def State.takeRequest (s : State) (pl : PlaneId) (seg : Nat) : Option ((Nat × List Byte) × State) :=
  let q := s.uplink.ncQueue.get pl
  match q.find? (fun r => (s.segCtrls seg).contains r.1) with
  | none => none
  | some r => some (r, { s with uplink := { s.uplink with ncQueue := s.uplink.ncQueue.set pl (q.erase r) } })

/-- A request as it leaves (R282): CLM and CN of the module's current cycle. -/
def State.requestFrame (s : State) (pl : PlaneId) (cn : U32) (ctrl : Nat) (cfg : CtrlCfg) (data : List Byte) : List Byte :=
  qlFrame (moduleMac s.pair.unitB) (ncPayload
    { type := 0x12, planeB := pl.bit, seg := cfg.segment, flags := 0, ctrl := ctrl, slot := cfg.slot, clm := s.pair.clm
      cn := cn, age := 0, limit := 0, length := data.length, map := cfg.map, keyset := 0
      site := (s.man.map (fun (m : Manifest) => m.hdr.site)).getD 0 } data)

/-- One non-cyclic request in a free window that opens at `t` (R283). -/
def State.sendRequest (s : State) (pl : PlaneId) (seg t : Nat) : State :=
  match s.takeRequest pl seg with
  | none => s
  | some (r, s1) =>
    match s.ctrlCfg r.1 with
    | none => s1
    | some cfg =>
      s1.updPlane pl (fun p =>
        { p.send seg (s.requestFrame pl p.cn r.1 cfg r.2) with
          ncOpen := Tbl.set none p.ncOpen r.1 (some (r.2.getD 0 0, t + windowNs false)) })

/-- A free window: DNOTE first, otherwise one non-cyclic request. -/
def State.useFree (s : State) (pl : PlaneId) (seg t : Nat) : State :=
  let p := s.plane pl
  match s.noteDue p seg with
  | some c =>
    let x := p.ctrl c
    s.putPlane pl ((p.updCtrl c (fun x => { x with noteDue := false })).send seg (s.timing pl seg (.dnote c x.mean x.beyond)))
  | none => s.sendRequest pl seg t

/-- A controller that gave no result moves to the end of its group (R246). -/
def Seg.defer (g : Seg) (c : Nat) : Seg := { g with openReq := none, deferred := (g.deferred.filter (fun x => decide (x ≠ c))) ++ [c] }

/-- An open request whose window has ended without a response (R243). -/
def Seg.closeReq (g : Seg) : Seg :=
  match g.openReq with
  | none => g
  | some r => if r.mod then { g with openReq := none } else g.defer r.ctrl

/-- One segment at the start of a window at `t`. The window before has ended: an open request that it held is over (R241,
R243), but for a line request while its line window goes on. -/
def State.openWindow (s : State) (pl : PlaneId) (seg win t : Nat) : State :=
  let p := s.plane pl
  let goesOn := s.lineWindow p seg && decide (2 ≤ win) && (p.seg seg).openReq.any (fun r => r.mod)
  let s1 := if goesOn then s else s.putPlane pl (p.updSeg seg Seg.closeReq)
  match s1.windowEnd (s1.plane pl) seg win with
  | some far => s1.putPlane pl (s1.sendDset pl (s1.plane pl) seg far)
  | none => if s1.freeWindow (s1.plane pl) seg win then s1.useFree pl seg t else s1

/-- Q_DYN_WINDOW_START (R236). -/
def execQDynWindowStart (pl : PlaneId) (win t : Nat) (s : State) : Host.Outcome State Fault Refusal :=
  let s0 := s.touch t
  let p := s0.plane pl
  if s0.planeOn pl && p.live then
    ok ((s0.ports pl).foldl (fun (u : State) seg => u.openWindow pl seg win t) (s0.putPlane pl { p with ncOpen := [] }))
  else ok s0

/-! ## Measurement (R243, R246, R256) -/

/-- First of a group that has not failed to answer; then the one that failed the longest ago. -/
def pickFrom (deferred grp : List Nat) : Option Nat :=
  (grp.find? (fun c => !deferred.contains c)).or (deferred.find? (fun c => grp.contains c))

/-- Slot of a controller. -/
def State.slotOf (s : State) (c : Nat) : Nat := ((s.ctrlCfg c).map (fun (x : CtrlCfg) => x.slot)).getD 0

/-- The controller a window measures (R246), and whether it is picked in its turn: with DRIFT set, those not yet measured
first; with unknown delay; every one in turn. -/
def State.measureNext (s : State) (p : Plane) (seg : Nat) (far : Bool) : Option (Nat × Bool) :=
  let cs := s.segCtrls seg
  let g := p.seg seg
  let drifting := cs.filter (fun c => (p.ctrl c).drift)
  let turn := if far then g.turnFar else g.turnNear
  let first := ((pickFrom g.deferred (drifting.filter (fun c => !(p.ctrl c).measured))).or
    (pickFrom g.deferred drifting)).or (pickFrom g.deferred (s.unknown p seg far))
  match first with
  | some c => some (c, false)
  | none => ((cs.find? (fun c => decide (turn ≤ s.slotOf c))).or cs.head?).map (fun c => (c, true))

/-- A request leaves its window 2.0 µs after the window's start, so its window ends this long after t1 (R236). -/
def responseNs (line : Bool) : Nat := windowNs line - 2000

/-- Send a DREQ to a controller; only a pick in its turn moves the turn on (R246). -/
def State.sendDreq (s : State) (pl : PlaneId) (p : Plane) (seg c t1 : Nat) (far inTurn : Bool) : Plane :=
  let q := ((p.seg seg).seq + 1) % 256
  let next := s.slotOf c + 1
  (p.send seg (s.timing pl seg (.dreq far false c q))).updSeg seg (fun g =>
    let g1 : Seg := { g with seq := q, openReq := some ⟨c, far, false, q, t1, t1 + responseNs false⟩ }
    if !inTurn then g1 else if far then { g1 with turnFar := next } else { g1 with turnNear := next })

/-- Send a DREQ to the partner module's port (R256). -/
def State.sendLineDreq (s : State) (pl : PlaneId) (p : Plane) (seg t1 : Nat) : Plane :=
  let q := ((p.seg seg).seq + 1) % 256
  (p.send seg (s.timing pl seg (.dreq true true 0 q))).updSeg seg (fun g =>
    { g with seq := q, openReq := some ⟨0, true, true, q, t1, t1 + responseNs true⟩, lineCn := some p.cn })

/-- DREQ_SEND (R243, R256). -/
def execDreqSend (pl : PlaneId) (seg win : Nat) (t1 : Nat) (s : State) : Host.Outcome State Fault Refusal :=
  let s0 := s.touch t1
  let p := s0.plane pl
  if s0.planeOn pl && p.live && (s0.ports pl).contains seg then
    if s0.module = .standby ∧ win = 1 ∧ s0.lineWindow p seg then ok (s0.putPlane pl (s0.sendLineDreq pl p seg t1))
    else
      match s0.windowEnd p seg win with
      | none => ok s0
      | some far =>
        match s0.measureNext p seg far with
        | none => ok s0
        | some (c, inTurn) => ok (s0.putPlane pl (s0.sendDreq pl p seg c t1 far inTurn))
  else ok s0

/-- d of step 3, rounded to the nearest ns (R243). -/
def delayOf (t1 t4 turn : Nat) : Nat := (t4 - t1 - turn + 1) / 2

/-- The result of a measurement. DESIGN CHOICE, log entry 111: it sets the count of cycles with a missing uplink back to 0, so
that an uplink that stays missing marks the delay unknown again 16 cycles later (R245 does not say). -/
def Plane.measured (p : Plane) (seg : Nat) (r : OpenReq) (d : Nat) : Plane :=
  if r.mod then p.updSeg seg (fun g => { g with openReq := none, dL := some d })
  else
    let p1 := p.updSeg seg (fun g =>
      let g1 : Seg := { g with openReq := none, deferred := g.deferred.filter (fun x => decide (x ≠ r.ctrl)) }
      if r.far then { g1 with dsetFar := some (r.ctrl, r.seq, d) } else { g1 with dsetNear := some (r.ctrl, r.seq, d) })
    p1.updCtrl r.ctrl (fun c =>
      let c1 : PCtrl := { c with barred := false, missing := 0, measured := c.measured || !r.far }
      if r.far then { c1 with knownFar := true } else { c1 with knownNear := true })

/-- DRESP_RX (R243, R241): only the response to the segment's own open request, within its window; a TURN outside
1.0-4.0 µs yields no result. -/
def execDrespRx (pl : PlaneId) (seg : Nat) (frame : List Byte) (t4 : Nat) (s : State) :
    Host.Outcome State Fault Refusal :=
  let s0 := s.touch t4
  let p := s0.plane pl
  match s0.planeOn pl && p.live, (p.seg seg).openReq, timingOf frame with
  | true, some r, some (line, .dresp far mod ctrl seq turn) =>
    if line = (pl.bit, seg) ∧ (far, mod, ctrl, seq) = (r.far, r.mod, r.ctrl, r.seq) ∧ t4 ≤ r.until_ then
      if 1000 ≤ turn ∧ turn ≤ 4000 ∧ r.t1 + turn ≤ t4 then ok (s0.putPlane pl (p.measured seg r (delayOf r.t1 t4 turn)))
      else ok (s0.putPlane pl (p.updSeg seg Seg.closeReq))
    else ok s0
  | _, _, _ => ok s0

/-- DRESP_MISSING (R243). -/
def execDrespMissing (pl : PlaneId) (seg : Nat) (s : State) : Host.Outcome State Fault Refusal :=
  ok (s.updPlane pl (fun p => p.updSeg seg Seg.closeReq))

/-- LINE_DREQ_RX (R256): the claim holder's plane chip answers. -/
def execLineDreqRx (pl : PlaneId) (seg : Nat) (frame : List Byte) (turn : Nat) (s : State) :
    Host.Outcome State Fault Refusal :=
  let p := s.plane pl
  match s.planeOn pl && p.live && p.sending && commandsNet s.module && s.lineWindow p seg, timingOf frame with
  | true, some (line, .dreq _ true _ seq) =>
    if line = (pl.bit, seg) then
      ok (s.putPlane pl ((p.send seg (s.timing pl seg (.dresp true true 0 seq turn))).updSeg seg (fun g =>
        { g with lineAnswered := true, lineCn := some p.cn })))
    else ok s
  | _, _ => ok s

/-! ## Non-cyclic requests (R283) -/

/-- Requests SVC's queue of a plane holds. -/
def ncDepth : Nat := 256

/-- NC_REQUEST_QUEUE (R283). A code that Table 9.9 does not list is not sent. -/
def execNcRequestQueue (pl : PlaneId) (ctrl : Nat) (payload : List Byte) (s : State) : Host.Outcome State Fault Refusal :=
  let q := s.uplink.ncQueue.get pl
  if s.netOn && ncSendable payload then
    if q.length < ncDepth then
      ok { s with uplink := { s.uplink with ncQueue := s.uplink.ncQueue.set pl (q ++ [(ctrl, payload)]) } }
    else ok (s.raise .info .ncBusy .svc [((ctrl : Nat) : Int)])
  else ok s

/-- Responses SVC holds (Q102, Table 16.2). -/
def ncResponseDepth : Nat := 512

/-- A response goes to SVC; one that meets a full queue is counted in OVF (R452). -/
def State.takeResponse (s : State) (c : Nat) (f : List Byte) : State :=
  if s.uplink.ncResponses.length < ncResponseDepth then
    { s with uplink := { s.uplink with ncResponses := s.uplink.ncResponses ++ [(c, f)] } }
  else s.putQueue 102 { s.queue 102 with ovf := sat16 ((s.queue 102).ovf + 1) }

/-- NC_RESPONSE_RX (R283, R241): the response to an open request, with its service code and within its window, goes to SVC. A
plane that does not run takes none (R31), and none of a barred controller (R248). -/
def execNcResponseRx (pl : PlaneId) (seg : Nat) (frame : List Byte) (t : Nat) (s : State) :
    Host.Outcome State Fault Refusal :=
  let s0 := s.touch t
  let p := s0.plane pl
  match s0.netOn && s0.planeOn pl && p.running, qlOpen frame with
  | true, some f =>
    let c := ctrlOf f
    match Tbl.get none p.ncOpen c with
    | some (code, end_) =>
      if beAt f 0 1 = 1 ∧ beAt f 1 1 = 0x13 ∧ lineOf f = (pl.bit, seg) ∧ f.getD 32 0 = code ∧ t ≤ end_ ∧ !(p.ctrl c).barred then
        ok ((s0.putPlane pl { p with ncOpen := Tbl.set none p.ncOpen c none }).takeResponse c f)
      else ok s0
    | none => ok s0
  | _, _ => ok s0

end Sys2Proof.Machine
end

