-- ==== Sys2Proof/Machine/FarTime.lean ====
section
/-! DEFINITION. Far time of a partner in STANDBY, far-end feed, the relay over the hawser, and loss of signal on a line
(R257-R260). -/

namespace Sys2Proof.Machine

open Sys2Proof

/-! ## The far tick (R257) -/

/-- Far tick from the arrival of a direct sync on a segment; D_L counts 0 until it is measured (log entry 19). -/
def farTickAt (g : Seg) (trx : Nat) : Nat := trx - g.dL.getD 0 - 1000

/-- The line state of a segment at a far tick: the run of cycles with direct sync, and the feed due (R258). -/
def Seg.farCycle (g : Seg) : Seg :=
  { g with directRun := if g.directSeen then g.directRun + 1 else 0, directSeen := g.heard.isSome, heard := none
           feed := g.feedNext }

/-- The FAR sync frame of a fed segment: CLM, CN and TC are the claim holder's (R258). -/
def State.farSync (s : State) (p : Plane) : SyncOut := s.syncFrame p true p.farClm p.cn p.farTc

/-- The claim holder's direct sync as it was heard on the lowest-numbered segment, with its arrival (R257). -/
def Plane.heardSync (p : Plane) : Option (Nat × Nat × SyncOut) :=
  p.segs.findSome? (fun (g : Nat × Seg) => g.2.heard.map (fun h => (g.1, h.1, h.2)))

/-- T_c on the trimmed rate, in ns of the chip's clk_q (R257, R231); T_c itself while no interval is held. -/
def Plane.farPeriod (p : Plane) : Nat :=
  if p.farIntervals.sum = 0 then tcNs p.farTc else 8 * p.farIntervals.sum / p.farIntervals.length

/-- The plane chip at a far tick. An interval is measured from one derived tick to the next. -/
def Plane.atFarTick (p : Plane) (sched : List (Nat × CtrlCfg)) (f : Nat) (clm cn : U32) (tc : Nat) (coast : Bool) : Plane :=
  let q := p.nextCycle sched
  let iv := match p.farTick with
    | some l => if coast || p.farCoast then p.farIntervals else (clkq l f :: p.farIntervals).take 16
    | none => p.farIntervals
  { q with
    segs := Tbl.ofList {} (q.segs.map (fun (g : Nat × Seg) => (g.1, g.2.farCycle)))
    farIntervals := iv, incr := trimmedIncr tc iv
    farTick := some f, farCn := cn, farClm := clm, farTc := tc, cn := cn, farCoast := coast, stepNow := false }

/-- What the chip sends at a far tick: direct sync where a takeover has set this tick (R379), FAR sync on the segments it
feeds while the module stands by (R258). -/
def State.farSends (s : State) (pl : PlaneId) : State :=
  let p := s.plane pl
  if s.module = .standby then
    let fed := (s.ports pl).filter (fun n => (p.seg n).feed)
    s.putPlane pl { p with syncs := Tbl.ofList [] (fed.map (fun n => (n, s.timing pl n (.sync (s.farSync p))))) }
  else if s.pair.syncFrom = some p.cn then s.sendSync pl
  else s

/-- Segments fed. -/
def Plane.fed (p : Plane) : List Nat := (p.segs.filter (fun (g : Nat × Seg) => g.2.feed || g.2.feedNext)).map (fun (g : Nat × Seg) => g.1)

/-- FAR_TICK (R257): derived from the direct sync heard, or coasted. -/
def execFarTick (pl : PlaneId) (t : Nat) (s : State) : Host.Outcome State Fault Refusal :=
  let s0 := s.touch t
  let p := s0.plane pl
  if s0.planeOn pl && (decide (s0.module = .standby) || (s0.pair.syncFrom.isSome && !p.running)) then
    match p.heardSync, p.farTick with
    | some (seg, trx, f), _ =>
      let q := p.atFarTick s0.schedule (farTickAt (p.seg seg) trx) f.clm f.cn f.tc false
      ok (((s0.putPlane pl q).farSends pl).sendStatus pl false)
    | none, some l =>
      let q := p.atFarTick s0.schedule (l + p.farPeriod) p.farClm (p.farCn + 1) p.farTc true
      ok (((s0.putPlane pl q).farSends pl).sendStatus pl false)
    | none, none => ok s0
  else ok s0

/-! ## Far-end feed (R258, R259) -/

/-- FAR_END_FEED_START (R258, R259): from the next far tick, on at most four segments of a plane; STATUS carries the report
over the hawser (log entry 107). -/
def execFarEndFeedStart (pl : PlaneId) (seg : Nat) (s : State) : Host.Outcome State Fault Refusal :=
  let p := s.plane pl
  let g := p.seg seg
  if s.planeOn pl && decide (s.module = .standby) && p.farTick.isSome && s.segConfigured seg && !g.directSeen &&
      !g.feedNext then
    if 4 ≤ p.fed.length ∧ !g.feed then ok (s.raise .warn .feedLimit pl.die [((seg : Nat) : Int)])
    else
      ok (((s.putPlane pl (p.updSeg seg (fun g => { g with feedNext := true, directRun := 0 }))).raise
        .warn .feedStart pl.die [((seg : Nat) : Int)]).sendStatus pl false)
  else ok s

/-- FAR_END_FEED_STOP (R258): at the next far tick after 16 consecutive cycles with direct sync. -/
def execFarEndFeedStop (pl : PlaneId) (seg : Nat) (s : State) : Host.Outcome State Fault Refusal :=
  let p := s.plane pl
  let g := p.seg seg
  if s.planeOn pl && decide (s.module = .standby) && g.feedNext &&
      decide (16 ≤ g.directRun + (if g.directSeen then 1 else 0)) then
    ok ((s.putPlane pl (p.updSeg seg (fun g => { g with feedNext := false }))).raise .info .feedStop pl.die [((seg : Nat) : Int)])
  else ok s

/-! ## The relay (R258, R259, Table 9.11) -/

/-- Telegrams the relay ring holds. -/
def relayDepth : Nat := 64

/-- RELAY_RX (R258): a downlink telegram held for its slot by a partner that feeds the segment; an uplink copy taken by the
claim holder for a slot in which no copy arrived at its own port. -/
def execRelayRx (pl : PlaneId) (down : Bool) (seg slot : Nat) (hd : HawserHead) (frame : List Byte) (t : Nat) (s : State) :
    Host.Outcome State Fault Refusal :=
  let s0 := s.touch t
  let p := s0.plane pl
  let k := slotKey seg slot
  match hawserTakes 0x33 hd && s0.planeOn pl && p.live && s0.pair.variantP, s0.slotCtrl seg slot with
  | true, some c =>
    if down then
      if s0.module = .standby ∧ (p.seg seg).feed then
        if p.relayStore.length < relayDepth ∨ (Tbl.get none p.relayStore k).isSome then
          ok (s0.putPlane pl { p with relayStore := Tbl.set none p.relayStore k (some (frame, t)) })
        else ok ((s0.putPlane pl (p.updCtrl c (fun x => { x with overflow := x.overflow + 1 }))).raise
          .warn .overflow pl.die [((c : Nat) : Int)])
      else ok s0
    else if commandsNet s0.module ∧ s0.pair.holder ∧ !p.slotSeen.contains k ∧ Tbl.get [] p.fwd k = [] ∧ !(p.ctrl c).barred then
      ok ((s0.putPlane pl { p with fwd := Tbl.set [] p.fwd k frame }).forwardUp pl c
        { frame := frame, cn := p.cn, e := 0, relay := true, accepted := true })
    else ok s0
  | _, _ => ok s0

/-- RELAY_SLOT_OPEN (R258): sent when it has been held for 2.0 µs; otherwise the slot stays empty. -/
def execRelaySlotOpen (pl : PlaneId) (seg slot : Nat) (t : Nat) (s : State) : Host.Outcome State Fault Refusal :=
  let s0 := s.touch t
  let p := s0.plane pl
  let k := slotKey seg slot
  match s0.planeOn pl && decide (s0.module = .standby) && (p.seg seg).feed, s0.slotCtrl seg slot with
  | true, some c =>
    let p1 : Plane := { p with relayStore := Tbl.set none p.relayStore k none }
    let late := (s0.putPlane pl { p1 with relayLate := p1.relayLate + 1 }).raise .warn .relayLate pl.die [((c : Nat) : Int)]
    match Tbl.get none p.relayStore k with
    | none => ok late
    | some (f, at_) =>
      if at_ + 2000 ≤ t then
        ok (s0.putPlane pl { p1 with sentDown := Tbl.set [] p1.sentDown k (qlFrame (moduleMac s0.pair.unitB) f) })
      else ok late
  | _, _ => ok s0

/-! ## Loss of signal (R260, R384) -/

/-- LOSS_OF_SIGNAL (R260): the line's state, logged at each change. -/
def execLossOfSignal (pl : PlaneId) (seg : Nat) (lost : Bool) (s : State) : Host.Outcome State Fault Refusal :=
  let p := s.plane pl
  if s.planeOn pl && (p.seg seg).lost != lost then
    ok ((s.putPlane pl (p.updSeg seg (fun g => { g with lost := lost }))).raise
      (if lost then .warn else .info) (if lost then .lossOfSignal else .signalReturn) pl.die [((seg : Nat) : Int)])
  else ok s

end Sys2Proof.Machine
end

