-- ==== Sys2Proof/Machine/ClassA.lean ====
section
/-! DEFINITION. Class A time and delays of a controller's timekeepers, its main timing and its Breakwater: rate, validity of a
sync frame, crossing, joining, coasting, launch instants, and the adoption of a delay (R237-R240, R244, R245, R249-R252,
R258, R261). -/

namespace Sys2Proof.Machine

open Sys2Proof

/-! ## Rate and delays (R237, R238) -/

/-- T_c on the corrected rate, in ns of the own clock. DESIGN CHOICE, log entry 112: the mean is over the intervals held, and
nominal while none is held. -/
def ATime.period (p : ATime) : Nat :=
  if p.intervals.sum = 0 then tcNs p.tc else p.intervals.sum / p.intervals.length

/-- A span of corrected time in ns of the own clock. -/
def ATime.span (p : ATime) (x : Nat) : Nat := x * p.period / tcNs p.tc

/-- Delay of a port. -/
def ATime.delay (p : ATime) (port : Nat) : Option Nat := if port = p.nearPort then p.dNear else p.dFar

/-- Delay of an end. -/
def ATime.endDelay (p : ATime) (far : Bool) : Option Nat := if far then p.dFar else p.dNear

/-- Join where a full valid cycle has been seen and d_near is held (R252). -/
def ATime.tryJoin (p : ATime) : ATime :=
  if p.fullCycle && p.dNear.isSome then { p with joined := true, silent := false } else p

/-- Discard class A time (R245, R251, R275). The instant of the last valid sync stays, for the 1.0 s of R245. -/
def ATime.dropTime (p : ATime) : ATime :=
  { p with tick := none, m := none, coasts := 0, intervals := [], onFar := false, noDelay := false, directCn := none
           fullCycle := false, silent := true, joined := false }

/-- Discard both delays (R245, R248). -/
def ATime.dropDelays (p : ATime) : ATime := { p with dNear := none, dFar := none, candNear := none, candFar := none }

/-! ## Sync frames (R237, R251, R252) -/

/-- Largest port-to-port delay of a line in ns (R230). -/
def lineDelayMax : Nat := 112000

/-- Two direct sync frames of different sources within one interval of T_c (R251). The interval runs from the first of
them; frames one cycle apart lie outside it even where the ports' delays differ by the whole line (R261; log entry 22). -/
def ATime.crosses (p : ATime) (src : U32 × Bool × Nat) (t : Nat) : Bool :=
  match p.source, p.lastDirect with
  | some o, some l => decide (o ≠ src) && decide (t + lineDelayMax < l + tcNs p.tc)
  | _, _ => false

/-- Time from the last valid sync to an arrival at a port. From one port to the other the ports' delays are taken off, and
nothing is known while one is not held (R258, R260, R261; log entry 113). -/
def ATime.gap (p : ATime) (port t : Nat) : Option Int :=
  match p.lastSync with
  | none => none
  | some l =>
    if port = p.lastPort then some ((t : Int) - l)
    else match p.delay port, p.delay p.lastPort with
      | some d, some d0 => some ((t : Int) - p.span d - ((l : Int) - p.span d0))
      | _, _ => none

/-- An interval lies within j × T_c ± (100 ppm × j × T_c + 0.2 µs) (R237). -/
def intervalOk (tc j : Nat) (g : Int) : Bool :=
  let due := j * tcNs tc
  decide ((g - due).natAbs ≤ due / 10000 + 200)

/-- The CN that a sync frame may carry: that of the cycle counted next; that of the cycle coasted last; or, for a direct
sync, that of the FAR sync taken in the same cycle, which it replaces (R258). -/
def ATime.cnDue (p : ATime) (m : U32) (f : SyncOut) : Bool :=
  decide (f.cn = m + 1) || (decide (f.cn = m) && (decide (0 < p.coasts) || (p.onFar && !f.far)))

/-- A sync frame is valid in a timekeeper's time: the first one, or one of the cycle due that arrives j × T_c after the last
valid one (R237). -/
def ATime.syncValid (p : ATime) (port : Nat) (f : SyncOut) (t : Nat) : Bool :=
  match p.m with
  | none => true
  | some m =>
    p.cnDue m f &&
    (match p.gap port t with
      | some g => intervalOk p.tc (f.cn - (m - BitVec.ofNat 32 p.coasts)).toNat g
      | none => true)

/-- The near port is the one on which direct sync arrives; a delay belongs to its port (R226, R238, R261). -/
def ATime.setNear (p : ATime) (port : Nat) : ATime :=
  if port = p.nearPort then p
  else { p with nearPort := port, dNear := p.dFar, dFar := p.dNear, candNear := p.candFar, candFar := p.candNear }

/-- The sync intervals after a valid sync frame: one more, but after a missed sync, at STEP, or where the sync replaces one of
the same cycle (R237). -/
def ATime.nextIntervals (p : ATime) (port : Nat) (f : SyncOut) (t : Nat) : List Nat :=
  match p.m, p.gap port t with
  | some m, some g => if f.step ∨ p.coasts ≠ 0 ∨ f.cn ≠ m + 1 then p.intervals else (g.toNat :: p.intervals).take 8
  | _, _ => p.intervals

/-- Take a valid sync frame: offset, rate interval, CN, and the full valid cycle (R237, R252). DESIGN CHOICE, log entry 114:
while the delay of the port is not held it counts 0 in the tick, and nothing is launched on such a tick. -/
def ATime.takeSync (p : ATime) (port : Nat) (f : SyncOut) (same : Bool) (t : Nat) : ATime :=
  let q : ATime := { p with intervals := p.nextIntervals port f t, tc := f.tc }
  ATime.tryJoin { q with
    tick := some (t - q.span ((q.delay port).getD 0 + 1000)), lastSync := some t, lastPort := port, m := some f.cn
    coasts := 0, crossing := false, onFar := f.far, noDelay := (q.delay port).isNone
    directCn := if !f.far then some f.cn
                else if p.source.any (fun o => decide (o.1 = f.clm)) then p.directCn else none
    fullCycle := p.fullCycle || (!f.far && same && decide (p.directCn = some (f.cn - 1))) }

/-- A sync frame with COLD set: both delays go, and the controller starts again (R245, R255). -/
def ATime.cold (p : ATime) : ATime := p.dropDelays.dropTime

/-- Source of a direct sync frame (R251). -/
def syncSource (port : Nat) (f : SyncOut) : U32 × Bool × Nat := (f.clm, f.unitB, port)

/-- A direct sync frame without a crossing. The near port moves before the frame is judged (R261). -/
def ATime.direct (p : ATime) (port : Nat) (f : SyncOut) (t : Nat) : ATime :=
  let src := syncSource port f
  let same := decide (p.source = some src) && !f.cold
  let p0 := (if f.cold then p.cold else p).setNear port
  let p1 : ATime := { p0 with source := some src, lastDirect := some t }
  if p0.syncValid port f t then p1.takeSync port f same t else p1

/-- A sync frame of the timekeeper's own line (R237, R251, R258). -/
def ATime.sync (p : ATime) (port : Nat) (f : SyncOut) (t : Nat) : ATime :=
  if f.far then (if p.syncValid port f t then p.takeSync port f false t else p)
  else if p.crosses (syncSource port f) t then { p.dropTime with crossing := true }
  else p.direct port f t

/-- A direct sync frame that takes the class A time held away: a crossing, or COLD (R245, R251). -/
def ATime.losesTime (p : ATime) (port : Nat) (f : SyncOut) (t : Nat) : Bool :=
  !f.far && (f.cold || p.crosses (syncSource port f) t)

/-- Coast: tick := the previous tick + T_c on the corrected rate, and m grows by one (R239, R275). -/
def ATime.coast (p : ATime) (t : Nat) : ATime :=
  match p.tick, p.m with
  | some k, some m =>
    if k + p.period ≤ t then
      { p with tick := some (k + p.period), m := some (m + 1), coasts := p.coasts + 1 }
    else p
  | _, _ => p

/-- 1.0 s without a valid sync frame on either port (R245). -/
def ATime.syncLost (p : ATime) (t : Nat) : Bool := decide (p.lastSync.getD 0 + 1000000000 ≤ t)

/-! ## Launch (R238, R239, R250) -/

/-- Launch instant of a copy in slot k with the delay of its end. -/
def ATime.launchAt (p : ATime) (tick slot d : Nat) : Nat := tick + p.span (upSlotNs slot - d)

/-- Time a frame of 202 byte-times takes on the wire, in ns (R234). -/
def frameNs : Nat := 1616

/-- Within 28.0 ms of the last valid sync (R239, R250). -/
def ATime.recent (p : ATime) (t : Nat) : Bool := p.lastSync.any (fun l => decide (t ≤ l + 28000000))

/-- The main timing may launch a frame that ends at an instant: joined, not silent, on a tick that rests on a delay, and on a
coasted tick only within 28.0 ms of the last valid sync. -/
def ATime.mayLaunch (p : ATime) (ends : Nat) : Bool :=
  p.joined && !p.silent && !p.noDelay && (decide (p.coasts = 0) || p.recent ends)

/-- A Breakwater enables injection of a frame that ends at an instant (Table 8.7). -/
def ATime.enables (p : ATime) (ends : Nat) : Bool := p.joined && !p.silent && !p.crossing && p.recent ends

/-- Two instants at most `n` ns apart. -/
def within (n a b : Nat) : Bool := decide (a ≤ b + n) && decide (b ≤ a + n)

/-! ## Delays (R244) -/

/-- Adopt a delivered delay or hold it as a candidate: the delay held and the candidate after it. -/
def adoptDelay (cur cand : Option Nat) (d : Nat) : Option Nat × Option Nat :=
  match cur with
  | none => (some d, none)
  | some c =>
    if within 24 c d then (some d, none)
    else match cand with
      | some k => if within 24 k d then (some d, none) else (some c, some d)
      | none => (some c, some d)

/-- A DSET of an end (R244, R252). -/
def ATime.adopt (p : ATime) (far : Bool) (d : Nat) : ATime :=
  ATime.tryJoin (
    if far then
      let r := adoptDelay p.dFar p.candFar d
      { p with dFar := r.1, candFar := r.2 }
    else
      let r := adoptDelay p.dNear p.candNear d
      { p with dNear := r.1, candNear := r.2 })

end Sys2Proof.Machine
end

