-- ==== Sys2Proof/Machine/Controller.lean ====
section
/-! DEFINITION. The object controllers: forwarding, sync, launch through the Breakwater, acceptance of downlinks, data age,
delay measurement, restarts and key loads, and non-cyclic services (R226, R237-R240, R243-R252, R262-R276, R282, R283). -/

namespace Sys2Proof.Machine

open Sys2Proof

/-! ## Access -/

/-- One controller. -/
def State.ctrl (s : State) (c : Nat) : Ctrl := Tbl.get {} s.ctrls c

/-- Replace a controller. -/
def State.putCtrl (s : State) (c : Nat) (x : Ctrl) : State := { s with ctrls := Tbl.set {} s.ctrls c x }

/-- Rewrite a controller. -/
def State.updController (s : State) (c : Nat) (f : Ctrl → Ctrl) : State := s.putCtrl c (f (s.ctrl c))

/-- What a controller keeps for a plane. -/
def Ctrl.plane (x : Ctrl) (pl : PlaneId) : CPlane := x.planes.get pl

/-- Replace what it keeps for a plane. -/
def Ctrl.putPlane (x : Ctrl) (pl : PlaneId) (p : CPlane) : Ctrl := { x with planes := x.planes.set pl p }

/-- Rewrite what it keeps for a plane. -/
def Ctrl.updPlane (x : Ctrl) (pl : PlaneId) (f : CPlane → CPlane) : Ctrl := x.putPlane pl (f (x.plane pl))

/-- Cycle number m of the controller (R275): of either plane. -/
def Ctrl.m (x : Ctrl) : Option U32 := x.planes.a.main.m.or x.planes.b.main.m

/-- A frame received on a port leaves by the other one, unchanged, whatever it holds (R226, R228, R229). -/
def Ctrl.forward (x : Ctrl) (pl : PlaneId) (port : Nat) (frame : List Byte) : Ctrl :=
  x.updPlane pl (fun p => { p with out := Tbl.set [] p.out (1 - port) frame })

/-- The line is the controller's own, by its configuration. -/
def State.onLine (s : State) (ctrl : Nat) (pl : PlaneId) (line : Bool × Nat) : Bool :=
  (s.ctrlCfg ctrl).any (fun (c : CtrlCfg) => decide (line = (pl.bit, c.segment)))

/-- The line is the controller's own, by what its Breakwater has stored (R249). -/
def Ctrl.guardLine (x : Ctrl) (pl : PlaneId) (line : Bool × Nat) : Bool :=
  x.stored.any (fun g => decide (line = (pl.bit, g.1)))

/-- A frame of its line is addressed to the controller, by what its Breakwater has stored. -/
def Ctrl.guardMine (x : Ctrl) (pl : PlaneId) (line : Bool × Nat) (c : Nat) : Bool :=
  x.guardLine pl line && x.stored.any (fun g => decide (g.2.2 = c))

/-- The main timing and the Breakwater each take an event that concerns it. -/
def CPlane.take (p : CPlane) (main guard : Bool) (f g : ATime → ATime) : CPlane :=
  { p with main := if main then f p.main else p.main, guard := if guard then g p.guard else p.guard }

/-- The class A time of a plane has gone. Every object goes to its restrictive state at once when the controller then holds m
of neither plane (R275); while the other plane keeps it, the controller falls back to that plane (R38; log entry 115). -/
def Ctrl.timeGone (x : Ctrl) : Ctrl := if x.m.isNone then { x with restrictive := true } else x

/-! ## Sync frames (R237, R251, R252) -/

/-- CONTROLLER_SYNC_RX (R237, R249, R251): `t` and `tb` are the time stamps of the main timing and of the Breakwater. -/
def execControllerSyncRx (ctrl : Nat) (pl : PlaneId) (port : Nat) (frame : List Byte) (t tb : Nat) (s : State) :
    Host.Outcome State Fault Refusal :=
  let x := (s.ctrl ctrl).forward pl port frame
  match timingOf frame with
  | some (line, .sync f) =>
    let own := s.onLine ctrl pl line
    let lost := own && (x.plane pl).main.losesTime port f t
    let y := if lost then (x.updPlane pl (fun p => { p with main := p.main.dropTime })).timeGone else x
    ok (s.putCtrl ctrl { x.updPlane pl (fun p =>
      p.take own (x.guardLine pl line) (fun a => a.sync port f t) (fun a => a.sync port f tb)) with
        restrictive := y.restrictive })
  | _ => ok (s.putCtrl ctrl x)

/-- CONTROLLER_COAST (R239, R275): each timekeeper that misses the sync coasts. -/
def execControllerCoast (ctrl : Nat) (pl : PlaneId) (t tb : Nat) (s : State) : Host.Outcome State Fault Refusal :=
  ok (s.updController ctrl (fun x => x.updPlane pl (fun p =>
    p.take true true (fun a => a.coast t) (fun a => a.coast tb))))

/-- CONTROLLER_SYNC_LOSS (R245): 1.0 s without a valid sync frame takes the delays and class A time of a timekeeper. -/
def execControllerSyncLoss (ctrl : Nat) (pl : PlaneId) (t tb : Nat) (s : State) : Host.Outcome State Fault Refusal :=
  ok (s.updController ctrl (fun x =>
    let p := x.plane pl
    let y := x.putPlane pl (p.take (p.main.syncLost t) (p.guard.syncLost tb) ATime.cold ATime.cold)
    if p.main.syncLost t then y.timeGone else y))

/-! ## Key sets (R267, R268) -/

/-- Numbers of the key sets held. -/
def Ctrl.keysets (x : Ctrl) : List U16 := x.chan1.map (fun k => k.number)

/-- Key set a controller signs with: of the last downlink accepted, else the higher-numbered one it holds (R268). -/
def Ctrl.signSet (x : Ctrl) : U16 :=
  x.lastKeyset.getD (x.keysets.foldl (fun (a b : U16) => if a.toNat < b.toNat then b else a) 0)

/-- The keys of a set in a channel's store. -/
def keysOf (store : List ChanKeys) (set : U16) : Option ChanKeys := store.find? (fun k => decide (k.number = set))

/-- Uplink key of a channel; 0 where the channel holds no set of that number (log entry 20). -/
def upKey (store : List ChanKeys) (set : U16) : Key := ((keysOf store set).map (fun k => k.up)).getD 0

/-- A set enters a store of two sets, in place of its own number or of the set loaded the longer ago (log entry 20). -/
def loadStore (store : List ChanKeys) (k : ChanKeys) : List ChanKeys :=
  (k :: store.filter (fun e => decide (e.number ≠ k.number))).take 2

/-- The commissioning interface loads a key set into both channels (R267). -/
def Ctrl.loadKeys (x : Ctrl) (k : KeyLoad) : Ctrl :=
  { x with chan1 := loadStore x.chan1 ⟨k.number, k.lanes, k.up1⟩, chan2 := loadStore x.chan2 ⟨k.number, k.lanes, k.up2⟩ }

/-! ## Launch (R238, R239, R250, R262-R264) -/

/-- Controller status, payload bytes 0-1 (Table 9.3). -/
def Ctrl.status (x : Ctrl) (m : U32) : Nat :=
  (if x.rst then 32768 else 0) + (if x.okCn = some (m - 1) then 16384 else 0) + x.lastAck.toNat % 256

/-- Payload area of an uplink: the status, and the designer's fields up to the length. -/
def upArea (st len : Nat) (inputs : List Byte) : List Byte :=
  let used := (beBytes 2 st ++ inputs).take len
  used ++ List.replicate (128 - used.length) 0

/-- The uplink telegram of a controller: 176 bytes. -/
def Ctrl.uplink (x : Ctrl) (m : Manifest) (c : Nat) (cfg : CtrlCfg) (pl : PlaneId) (cn : U32) (inputs : List Byte) :
    List Byte :=
  let h : TeleHdr :=
    { type := 0x11, planeB := pl.bit, seg := cfg.segment, flags := 0, ctrl := c, slot := cfg.slot, clm := x.lastClm
      cn := cn, age := 0, limit := 0, length := cfg.upLen, map := cfg.map, keyset := x.signSet, site := m.hdr.site }
  let body := h.bytes ++ upArea (x.status cn) cfg.upLen inputs
  body ++ teleCodeField (upKey x.chan1 x.signSet) body 1 ++ teleCodeField (upKey x.chan2 x.signSet) body 2

/-- Byte-times the longest frame takes on the wire (R234). -/
def wireMax : Nat := 202

/-- A frame that the Breakwater lets start, of `bytes` byte-times: cut at the end of its window + 1.616 µs, and at 202
byte-times (Table 8.7). A cut frame ends in an invalid code-group. -/
def cutFrame (frame : List Byte) (bytes start due : Nat) : SentFrame :=
  let n := min wireMax ((due + 100 + frameNs - start) / 8)
  if bytes ≤ n then ⟨frame, false⟩ else ⟨frame.take (n - 8), true⟩

/-- An uplink copy at the Breakwater: within ±100 ns of its own launch instant for the port (Table 8.7). -/
def Ctrl.guardCopy (x : Ctrl) (g : ATime) (far : Bool) (L : LaunchAt) (frame : List Byte) : Option SentFrame :=
  match x.stored, g.tick, g.endDelay far with
  | some place, some k, some d =>
    let due := g.launchAt k place.2.1 d
    if !x.guardFault && g.enables (L.guard + frameNs) && within 100 L.guard due then
      some (cutFrame frame L.bytes L.guard due)
    else none
  | _, _, _ => none

/-- A copy of an uplink: the main timing launches it where its delay is known, within ±8 ns (R238). -/
def Ctrl.copy (x : Ctrl) (p : CPlane) (slot : Nat) (far : Bool) (L : LaunchAt) (frame : List Byte) : Option SentFrame :=
  match p.main.tick, p.main.endDelay far with
  | some k, some d =>
    if p.main.mayLaunch (L.start + frameNs) && within 8 L.start (p.main.launchAt k slot d) then
      x.guardCopy p.guard far L frame
    else none
  | _, _ => none

/-- CONTROLLER_LAUNCH (R238, R250): the inputs are latched, and each copy leaves at its own instant. -/
def execControllerLaunch (ctrl : Nat) (pl : PlaneId) (near far : LaunchAt) (inputs : List Byte) (guardFails : Bool)
    (s : State) : Host.Outcome State Fault Refusal :=
  let x : Ctrl := { s.ctrl ctrl with guardFault := (s.ctrl ctrl).guardFault || guardFails }
  let p := x.plane pl
  match s.man, s.ctrlCfg ctrl, p.main.m with
  | some man, some cfg, some m =>
    let tele := x.uplink man ctrl cfg pl m inputs
    let frame := qlFrame (controllerMac ctrl) tele
    let a := x.copy p cfg.slot false near frame
    let b := x.copy p cfg.slot true far frame
    ok (s.putCtrl ctrl (x.putPlane pl { p with
      sent := if a.isSome ∨ b.isSome then some tele else none, sentNear := a, sentFar := b }))
  | _, _, _ => ok (s.putCtrl ctrl (x.putPlane pl { p with sent := none, sentNear := none, sentFar := none }))

/-! ## Acceptance of a downlink (R270-R273) -/

/-- The SFD lies within ±1.0 µs of the instant at which the slot opens, plus d of the port (R240). -/
def ATime.inWindow (p : ATime) (port slot t : Nat) : Bool :=
  match p.fullCycle, p.tick, p.delay port with
  | true, some k, some d => within 1000 t (k + p.span (downSlotNs p.tc slot + d))
  | _, _, _ => false

/-- First failing step of Table 9.6 up to step 8, as the place of its counter. -/
def downCause (x : Ctrl) (p : ATime) (m : Manifest) (c : Nat) (cfg : CtrlCfg) (pl : PlaneId) (port t : Nat) (f : List Byte) :
    Option Nat :=
  let limit := beAt f 16 1 % 16
  if !p.inWindow port cfg.slot t then some 1
  else if beAt f 0 1 ≠ 1 ∨ beAt f 1 1 ≠ 0x10 then some 2
  else if lineOf f ≠ (pl.bit, cfg.segment) ∨ beAt f 6 2 % 512 ≠ cfg.slot ∨ ctrlOf f ≠ c then some 3
  else if beAt f 24 8 ≠ m.hdr.site.toNat ∨ beAt f 18 2 ≠ cfg.map.toNat ∨ !x.keysets.contains (BitVec.ofNat 16 (beAt f 20 2)) then
    some 4
  else if beAt f 17 1 ≠ cfg.downLen ∨ !teleReserved f cfg.downLen ∨ beAt f 3 1 % 64 ≠ 0 ∨ limit < 1 ∨ 10 < limit ∨
      f.length ≠ 176 then some 5
  else if p.m ≠ some (BitVec.ofNat 32 (beAt f 12 4)) then some 6
  else if tagAt f 160 = 0 ∨ tagAt f 168 = 0 ∨ tagAt f 168 ≤ tagAt f 160 then some 7
  else none

/-- The lane a tag names (R213). -/
def tagLane : Nat → Option LaneId
  | 1 => some .l1
  | 2 => some .l2
  | 3 => some .l3
  | _ => none

/-- A code field verifies under a channel's own keys (R266). -/
def codeOk (store : List ChanKeys) (f : List Byte) (off : Nat) : Bool :=
  match keysOf store (BitVec.ofNat 16 (beAt f 20 2)), tagLane (tagAt f off) with
  | some k, some ln => decide (slice f off 8 = teleCodeField (k.lanes.get ln) f (tagAt f off))
  | _, _ => false

/-- A channel's verdicts on SC1 and SC2, with the faults of its datapath (R271). -/
def verdicts (store : List ChanKeys) (e : ChanFault) (f : List Byte) : Bool × Bool :=
  (codeOk store f 160 != e.code1, codeOk store f 168 != e.code2)

/-- A pair (CLM, UNIT) ranks at least as high as another (R272). -/
def claimAtLeast (a b : U32 × Bool) : Bool :=
  later a.1 b.1 || (decide (a.1 = b.1) && (!a.2 || b.2))

/-- The claim filter (R272): against the pairs that arrived within the last 8 cycles. -/
def claimPass (claims : List (U32 × Bool × U32)) (pair : U32 × Bool) (m : U32) : Bool :=
  claims.all (fun e => decide (8 < sdiff m e.2.2) || claimAtLeast pair (e.1, e.2.1))

/-- Record a pair with the CN of its arrival. -/
def recordClaim (claims : List (U32 × Bool × U32)) (pair : U32 × Bool) (m : U32) : List (U32 × Bool × U32) :=
  (pair.1, pair.2, m) :: claims.filter (fun e => decide ((e.1, e.2.1) ≠ pair))

/-- Count a cause of a plane; each count wraps at 2^32. -/
def CPlane.count (p : CPlane) (n : Nat) : CPlane := { p with counts := Tbl.upd 0 p.counts n (· + 1) }

/-- Count a cause in a controller. -/
def Ctrl.count (x : Ctrl) (pl : PlaneId) (n : Nat) : Ctrl := x.putPlane pl ((x.plane pl).count n)

/-- Apply a telegram (R273, R264, R268). -/
def Ctrl.applyDown (x : Ctrl) (f : List Byte) (m clm : U32) (unitB : Bool) : Ctrl :=
  { x with
    applied := some ⟨f, m, beAt f 16 1 / 16, beAt f 16 1 % 16, clm, unitB⟩
    restrictive := false
    lastClm := clm, lastAck := m, lastKeyset := some (BitVec.ofNat 16 (beAt f 20 2))
    okRun := if x.okCn = some m then x.okRun else if x.okCn = some (m - 1) then x.okRun + 1 else 1
    okCn := some m }

/-- Bytes 3-159, over which copies of a cycle are compared. -/
def downBytes (f : List Byte) : List Byte := slice f 3 157

/-- An authentic copy that passes the claim filter: applied, compared, or a DIVERGE (R273). -/
def Ctrl.takeDown (x : Ctrl) (pl : PlaneId) (f : List Byte) (m clm : U32) (unitB : Bool) : Ctrl :=
  match x.applied with
  | none => x.applyDown f m clm unitB
  | some a =>
    if a.cn ≠ m then x.applyDown f m clm unitB
    else if downBytes a.frame = downBytes f then x.count pl 11
    else if (a.clm, a.unitB) = (clm, unitB) then
      { x.count pl 12 with restrictive := true, applied := some { a with age := a.age + 1 } }
    else x.applyDown f m clm unitB

/-- The controller restarts (R264): its objects go restrictive; it keeps its class A time, its delays and its key sets. -/
def Ctrl.restart (x : Ctrl) : Ctrl :=
  { x with rst := true, okRun := 0, okCn := none, applied := none, restrictive := true, lastClm := 0, lastAck := 0
           lastKeyset := none }

/-- An authentic copy: its pair is recorded, and it is applied or compared where the claim filter passes it (R272, R273). -/
def Ctrl.authentic (x : Ctrl) (pl : PlaneId) (f : List Byte) : Ctrl :=
  let m := (x.plane pl).main.m.getD 0
  let clm : U32 := BitVec.ofNat 32 (beAt f 8 4)
  let unitB := bitAt f 25
  let y := { x with claims := recordClaim x.claims (clm, unitB) m }
  if claimPass x.claims (clm, unitB) m then y.takeDown pl f m clm unitB else y.count pl 10

/-- A downlink copy at a controller, by the steps of Table 9.6. -/
def Ctrl.down (x : Ctrl) (man : Manifest) (c : Nat) (cfg : CtrlCfg) (pl : PlaneId) (port t : Nat) (e1 e2 : ChanFault)
    (frame : List Byte) : Ctrl :=
  match qlOpen frame with
  | none => x.count pl 0
  | some f =>
    match downCause x (x.plane pl).main man c cfg pl port t f with
    | some n => x.count pl n
    | none =>
      let v1 := verdicts x.chan1 e1 f
      let v2 := verdicts x.chan2 e2 f
      if v1 ≠ v2 then (x.count pl 8).restart
      else if v1 ≠ (true, true) then x.count pl 8
      else if beAt f 16 1 % 16 < beAt f 16 1 / 16 then x.count pl 9
      else x.authentic pl f

/-- CONTROLLER_DOWNLINK_RX (R270). -/
def execControllerDownlinkRx (ctrl : Nat) (pl : PlaneId) (port : Nat) (frame : List Byte) (t : Nat) (ch1 ch2 : ChanFault)
    (s : State) : Host.Outcome State Fault Refusal :=
  let x := (s.ctrl ctrl).forward pl port frame
  match s.man, s.ctrlCfg ctrl with
  | some man, some cfg => ok (s.putCtrl ctrl (x.down man ctrl cfg pl port t ch1 ch2 frame))
  | _, _ => ok (s.putCtrl ctrl x)

/-- Effective age of the applied telegram (R274). -/
def Applied.effAge (a : Applied) (m : U32) : Nat := (m - a.cn).toNat + a.age

/-- CONTROLLER_AGE_EXPIRY (R274). -/
def execControllerAgeExpiry (ctrl : Nat) (s : State) : Host.Outcome State Fault Refusal :=
  let x := s.ctrl ctrl
  match x.applied, x.m with
  | some a, some m => ok (if a.limit < a.effAge m then s.putCtrl ctrl { x with restrictive := true } else s)
  | _, _ => ok (s.putCtrl ctrl { x with restrictive := true })

/-- RST_CLEAR (R264): a downlink accepted in each of 8 consecutive cycles. -/
def execRstClear (ctrl : Nat) (s : State) : Host.Outcome State Fault Refusal :=
  let x := s.ctrl ctrl
  ok (if 8 ≤ x.okRun then s.putCtrl ctrl { x with rst := false } else s)

/-- CONTROLLER_RESTART (R264), with a key set that the commissioning interface has loaded, and the segment, slot and
controller ID it has stored in the Breakwater (R249, R267). -/
def execControllerRestart (ctrl : Nat) (load : Option KeyLoad) (place : Option (Nat × Nat × Nat)) (s : State) :
    Host.Outcome State Fault Refusal :=
  ok (s.updController ctrl (fun x =>
    let y := { x.restart with stored := place.or x.stored }
    match load with
    | some k => y.loadKeys k
    | none => y))

/-! ## Delays and drift at the controller (R243, R244, R247, R248, R250) -/

/-- CONTROLLER_DREQ_RX (R243): answered after a full valid cycle; the Breakwater lets the DRESP out 1.0-4.0 µs after the DREQ
on its port (Table 8.7). -/
def execControllerDreqRx (ctrl : Nat) (pl : PlaneId) (port : Nat) (frame : List Byte) (turn tb : Nat) (s : State) :
    Host.Outcome State Fault Refusal :=
  let x := (s.ctrl ctrl).forward pl port frame
  match timingOf frame with
  | some (line, .dreq far false c seq) =>
    let p := x.plane pl
    if s.onLine ctrl pl line ∧ c = ctrl ∧ p.main.fullCycle ∧ 1000 ≤ turn ∧ turn ≤ 4000 ∧
        x.guardMine pl line c ∧ !x.guardFault ∧ p.guard.fullCycle ∧ 1000 ≤ tb ∧ tb ≤ 4000 then
      ok (s.putCtrl ctrl (x.putPlane pl { p with
        dresp := some (port, timingFrame (controllerMac ctrl) pl line.2 (.dresp far false c seq turn)) }))
    else ok (s.putCtrl ctrl x)
  | _ => ok (s.putCtrl ctrl x)

/-- CONTROLLER_DSET_RX (R244, R249, R252). -/
def execControllerDsetRx (ctrl : Nat) (pl : PlaneId) (port : Nat) (frame : List Byte) (s : State) :
    Host.Outcome State Fault Refusal :=
  let x := (s.ctrl ctrl).forward pl port frame
  match timingOf frame with
  | some (line, .dset far c _ d) =>
    ok (s.putCtrl ctrl (x.updPlane pl (fun p =>
      p.take (s.onLine ctrl pl line && decide (c = ctrl)) (x.guardMine pl line c)
        (fun a => a.adopt far d) (fun a => a.adopt far d))))
  | _ => ok (s.putCtrl ctrl x)

/-- CONTROLLER_DNOTE_RX (R247). -/
def execControllerDnoteRx (ctrl : Nat) (pl : PlaneId) (port : Nat) (frame : List Byte) (s : State) :
    Host.Outcome State Fault Refusal :=
  let x := (s.ctrl ctrl).forward pl port frame
  match timingOf frame with
  | some (line, .dnote c mean count) =>
    ok (s.putCtrl ctrl (if s.onLine ctrl pl line ∧ c = ctrl then
      x.updPlane pl (fun p => { p with driftNote := some (mean, count) }) else x))
  | _ => ok (s.putCtrl ctrl x)

/-- CONTROLLER_BAR_RX (R248, R275). -/
def execControllerBarRx (ctrl : Nat) (pl : PlaneId) (port : Nat) (frame : List Byte) (s : State) :
    Host.Outcome State Fault Refusal :=
  let x := (s.ctrl ctrl).forward pl port frame
  match timingOf frame with
  | some (line, .bar c) =>
    let own := s.onLine ctrl pl line && decide (c = ctrl)
    let y := x.updPlane pl (fun p => p.take own (x.guardMine pl line c) ATime.cold ATime.cold)
    ok (s.putCtrl ctrl (if own then y.timeGone else y))
  | _ => ok (s.putCtrl ctrl x)

/-! ## Non-cyclic services (R282, R283) -/

/-- The request a received frame holds, addressed to the controller. -/
def State.requestOf (s : State) (ctrl : Nat) (pl : PlaneId) (frame : List Byte) : Option (List Byte) :=
  match qlOpen frame with
  | none => none
  | some f => if beAt f 0 1 = 1 ∧ beAt f 1 1 = 0x12 ∧ s.onLine ctrl pl (lineOf f) ∧ ctrlOf f = ctrl then some f else none

/-- Service code of a request. -/
def serviceOf (f : List Byte) : Nat := beAt f 32 1

/-- Plane that a request names in payload byte 1: 0 A, 1 B. -/
def planeNamed (f : List Byte) : PlaneId := if beAt f 33 1 = 1 then .b else .a

/-- The response to a request: CLM and CN are the request's (R282). -/
def State.responseFrame (s : State) (ctrl : Nat) (pl : PlaneId) (f data : List Byte) : List Byte :=
  match s.man, s.ctrlCfg ctrl with
  | some man, some cfg =>
    qlFrame (controllerMac ctrl) (ncPayload
      { type := 0x13, planeB := pl.bit, seg := cfg.segment, flags := 0, ctrl := ctrl, slot := cfg.slot
        clm := BitVec.ofNat 32 (beAt f 8 4), cn := BitVec.ofNat 32 (beAt f 12 4), age := 0, limit := 0
        length := data.length, map := cfg.map, keyset := 0, site := man.hdr.site } data)
  | _, _ => []

/-- The Breakwater lets the response to a request that came at `t` out, `turn` ns later (Table 8.7). -/
def Ctrl.lets (x : Ctrl) (pl : PlaneId) (f : List Byte) (t turn : Nat) : Bool :=
  let p := x.plane pl
  p.main.joined && !p.main.silent && x.guardMine pl (lineOf f) (ctrlOf f) && !x.guardFault &&
  p.guard.enables (t + turn + frameNs) && decide (1000 ≤ turn) && decide (turn ≤ 4000)

/-- Answer a request: `serve` gives the response's data, and the controller after the service. -/
def State.ncAnswer (s : State) (ctrl : Nat) (pl : PlaneId) (port : Nat) (frame : List Byte) (t turn : Nat)
    (serve : Ctrl → List Byte → Option (List Byte × Ctrl)) : State :=
  let x := (s.ctrl ctrl).forward pl port frame
  match s.requestOf ctrl pl frame with
  | none => s.putCtrl ctrl x
  | some f =>
    match serve x f with
    | none => s.putCtrl ctrl x
    | some (data, y) =>
      s.putCtrl ctrl (if y.lets pl f t turn then
        { y with responses := y.responses ++ [(pl, port, s.responseFrame ctrl pl f data)] } else y)

/-- Low byte of a key set number held at a place; 0 where none is. -/
def setByte (ks : List U16) (n : Nat) : List Byte := beBytes 1 ((ks.getD n 0).toNat)

/-- Data of an IDENT response: designer number, type, firmware revision, MAP, and a byte of each key set number (log entry
21). -/
def Ctrl.identData (x : Ctrl) (map : U16) : List Byte :=
  [1] ++ beBytes 4 x.designer.toNat ++ beBytes 4 x.ctype.toNat ++ beBytes 4 x.fwRev.toNat ++ beBytes 2 map.toNat ++
    setByte x.keysets 0 ++ setByte x.keysets 1

/-- IDENT (Table 9.9). -/
def execIdent (ctrl : Nat) (pl : PlaneId) (port : Nat) (frame : List Byte) (t turn : Nat) (s : State) :
    Host.Outcome State Fault Refusal :=
  let map : U16 := ((s.ctrlCfg ctrl).map (fun (c : CtrlCfg) => c.map)).getD 0
  ok (s.ncAnswer ctrl pl port frame t turn (fun x f => if serviceOf f = 1 then some (x.identData map, x) else none))

/-- COUNTERS (Table 9.9): 13 counters of 4 bytes. -/
def execCounters (ctrl : Nat) (pl : PlaneId) (port : Nat) (frame : List Byte) (t turn : Nat) (s : State) :
    Host.Outcome State Fault Refusal :=
  ok (s.ncAnswer ctrl pl port frame t turn (fun x f =>
    if serviceOf f = 2 then
      some ([2] ++ (List.range 13).flatMap (fun n => beBytes 4 (Tbl.get 0 (x.plane (planeNamed f)).counts n).toNat), x)
    else none))

/-- CLRCNT (Table 9.9). -/
def execClrcnt (ctrl : Nat) (pl : PlaneId) (port : Nat) (frame : List Byte) (t turn : Nat) (s : State) :
    Host.Outcome State Fault Refusal :=
  ok (s.ncAnswer ctrl pl port frame t turn (fun x f =>
    if serviceOf f = 3 then some ([3], x.updPlane (planeNamed f) (fun p => { p with counts := [] })) else none))

/-- NC_DESIGNER (Table 9.9): a designer's service answers with the designer's data, a code not used with code 0x00. -/
def execNcDesigner (ctrl : Nat) (pl : PlaneId) (port : Nat) (frame : List Byte) (data : List Byte) (t turn : Nat) (s : State) :
    Host.Outcome State Fault Refusal :=
  ok (s.ncAnswer ctrl pl port frame t turn (fun x f =>
    if serviceOf f = 0 ∨ 3 < serviceOf f then
      some (if 128 ≤ serviceOf f then beBytes 1 (serviceOf f) ++ data.take 127 else [0], x)
    else none))

end Sys2Proof.Machine
end

