-- ==== Sys2Proof/Machine/Rejoin.lean ====
section
/-! DEFINITION. Restart and rejoin of a lane (R197, R217-R220), the rotating lane test (R222, R223), and the loss of a
lane's clock or supply (R472, R475). -/

namespace Sys2Proof.Machine

open Sys2Proof

/-- 24 h of operating time in ns. -/
def dayNs : Nat := 86400000000000

/-- The cause keeps a lane out until a rejoin is commanded (R197). -/
def stayOut : Cause → Bool
  | .clx => true | .test => true | .power => true | .halt => true
  | .none => false | .coded _ => false | .overrun => false | .clock => false | .agree => false | .sigcmp => false
  | .silent => false | .rejoin => false | .exchange => false | .rotate => false | .pilot => false
  | .shutdown => false

/-- The lane may restart without a command, 1.0 s after its exclusion at `f` (R197). -/
def State.mayRestart (s : State) (ln : LaneId) (f : Nat) : Bool :=
  let L := s.lane ln
  !stayOut L.cause && decide (2 ≤ s.voters.length) && decide (s.module ≠ .halt) &&
  (match L.outFaultEnd with
    | none => true
    | some e => decide (dayNs < f - e))

/-- LANE_RESTART (R197): judged once, 1.0 s after the exclusion. -/
def execLaneRestart (ln : LaneId) (t : Nat) (trips : Trips) (s : State) : Host.Outcome State Fault Refusal :=
  let s0 := s.touch t
  match s0.laneState ln, (s0.lane ln).faultAt with
  | .outFault, some f =>
    if f + 1000000000 ≤ t then
      let s1 := s0.updLane ln (fun L => { L with faultAt := none })
      if s0.mayRestart ln f then fin ((s1.calibrate ln trips).startRejoin ln) else fin s1
    else fin s0
  | _, _ => fin s0

/-- A received word that is read-only and differs from the lane's own manifest (R218). -/
def Lane.readOnlyBad (L : Lane) (ws : List (Nat × Int)) : Bool :=
  ws.any (fun e => decide ((L.sig e.1).owner = 7) && L.configured e.1 && decide (L.plain e.1 ≠ e.2))

/-- A donor stands between the end of its P-CONS and its next P-AGREE, when all transfer traffic passes (R218). -/
def Lane.sendsState (L : Lane) : Bool :=
  match L.phase with
  | .idle => true | .judged => true | .pSign => true | .signed => true
  | .pAgree => false | .pass1 => false | .pass2 => false | .waitCons => false | .pCons => false

/-- The update records behind chunk k: every word committed in the donor's cycle within chunks 0 to k − 1 (R218). -/
def Lane.updatesBefore (L : Lane) (k : Nat) : List (Nat × Int) :=
  (L.updated.filter (fun key => (chunkOf key).any (fun j => decide (j < k)))).map (fun key => (key, L.plain key))

/-- The higher-numbered donor of a rejoin. -/
def State.checker (s : State) : LaneId := s.voters.getLastD s.lead

/-- The donors may send a chunk to a lane now. -/
def State.chunkMay (s : State) (ln : LaneId) : Bool :=
  let r := (s.lane ln).rejoin
  decide (s.laneState ln = .rejoining) && decide (r.chunks < 64) && s.voters.all (fun v => (s.lane v).sendsState) &&
    decide (r.chunkCn ≠ some (s.lane s.lead).cn)

/-- REJOIN_CHUNK_RX (R218): the chunk as it arrived is held against the CRC-64 of the higher-numbered donor's committed
state, and coded into both copies with the lower-numbered donor's update records. -/
def execRejoinChunkRx (ln : LaneId) (chunk : List (Nat × Int)) (s : State) : Host.Outcome State Fault Refusal :=
  let L := s.lane ln
  let donor := s.lane s.lead
  let k := L.rejoin.chunks
  if s.chunkMay ln then
    if crc64 (wordBytes chunk) ≠ crc64 (wordBytes ((s.lane s.checker).chunkWords k)) ∨ L.readOnlyBad chunk then
      fin (s.excludeAgreed ln .rejoin)
    else
      let L1 := L.putAll (chunk ++ donor.updatesBefore k)
      fin (s.putLane ln { L1 with rejoin := { L1.rejoin with chunks := k + 1, chunkCn := some donor.cn } })
  else fin s

/-- The committed I frame state: address and plain value of every configured I word, held values included (R218). -/
def Lane.frameState (L : Lane) : List (Nat × Int) :=
  (L.sigs.filter (fun (e : Nat × SigEntry) => decide (spaceOf e.1 = some .i) && decide (e.2.b ≠ (0 : U24)))).map
    (fun e => (keyAddr e.1, Tbl.get 0 L.supC.frames (keyAddr e.1)))

/-- What a rejoining lane takes from the lower-numbered donor with the I frame state: the committed supervisor
state and the values every lane holds alike. -/
def Lane.takeFrom (donor L : Lane) (frames : List (Nat × Int)) : Lane :=
  let u := frames.foldl (fun (u : Sup) e => { u with frames := Tbl.set 0 u.frames e.1 e.2 }) donor.supC
  Lane.codeFrames { L with
    sup := u, supC := u, cnC := donor.cnC, everCompleted := donor.everCompleted, bodyAge := donor.bodyAge
    vec := donor.vec, prevVec := donor.prevVec, prevVec2 := donor.prevVec2, epoch := donor.epoch, cnE := donor.cnE
    sweep := donor.sweep, startCold := donor.startCold, startWarm := donor.startWarm
    rejoin := { L.rejoin with framesDone := true } }

/-- REJOIN_FRAME_STATE_RX (R218): in the cycle of chunk 63, held against the CRC-64 of the higher-numbered donor. -/
def execRejoinFrameStateRx (ln : LaneId) (frames : List (Nat × Int)) (s : State) : Host.Outcome State Fault Refusal :=
  let L := s.lane ln
  if s.laneState ln = .rejoining ∧ L.rejoin.chunks = 64 ∧ !L.rejoin.framesDone ∧
      s.voters.all (fun v => (s.lane v).sendsState) ∧ L.rejoin.chunkCn = some (s.lane s.lead).cn then
    if crc64 (wordBytes frames) = crc64 (wordBytes (s.lane s.checker).frameState) then
      fin (s.putLane ln (Lane.takeFrom (s.lane s.lead) L frames))
    else fin (s.excludeAgreed ln .rejoin)
  else fin s

/-- A lane becomes IN-VOTE: every lane counts it, and the lanes IN-VOTE drive their switches again (R219, R211). -/
def State.intoVote (s : State) (ln : LaneId) : State :=
  let s1 := s.mapLanes (fun m L =>
    let V := { L with views := L.views.set ln .inVote }
    if m = ln then { V with rejoin := {}, cause := .none, committed := decide (V.phase = .judged ∨ V.phase = .pSign) }
    else V)
  s1.mapLanes (fun m L => if L.views.get m = .inVote ∧ commandsNet s.module then L.driveHeld m else L)

/-- REJOIN_COMPLETE (R219). -/
def execRejoinComplete (ln : LaneId) (s : State) : Host.Outcome State Fault Refusal :=
  if s.laneState ln = .rejoining ∧ 3 ≤ (s.lane ln).rejoin.matching ∧ runsCycle s.module then
    fin (((s.intoVote ln).raiseLane ln .info .rejoinDone [ln.num]).endTest ln).noteCons
  else fin s

/-- REJOIN_FAILURE (R220): the conditions of R217 no longer hold, or 16 shadow cycles without three matches. -/
def execRejoinFailure (ln : LaneId) (s : State) : Host.Outcome State Fault Refusal :=
  let r := (s.lane ln).rejoin
  if s.laneState ln = .rejoining ∧ (!s.rejoinOk ln ∨ (16 ≤ r.shadow ∧ r.matching < 3)) then
    fin ((s.raiseLane ln .fault .rejoinFailed [ln.num]).excludeAgreed ln .rejoin)
  else fin s

/-- REJOIN_COMMAND (R197): a Maintainer's rejoin of a lane that is OUT-FAULT. -/
def execRejoinCommand (sess : Nat) (ln : LaneId) (trips : Trips) (s : State) : Host.Outcome State Fault Refusal :=
  if s.maintainer sess then
    let s0 := s.keepAlive sess
    if s0.laneState ln = .outFault ∧ 2 ≤ s0.voters.length ∧ s0.module ≠ .halt then
      fin (((s0.logChange sess .rejoinStart [ln.num]).calibrate ln trips).startRejoin ln)
    else fin (s0.logChange sess .commandRefused [ln.num])
  else fin s

/-! ## Rotating lane test (R222, R223, R390) -/

/-- A lane leaves the vote for a test: gated and open; the others open the pairs they share with it. -/
def State.takeOut (s : State) (ln : LaneId) (c : Cause) : State :=
  s.mapLanes (fun m L =>
    if m = ln then
      { (L.gate.openAll) with views := L.views.set ln .outTest, cause := c, committed := false, minorityRun := 0 }
    else { L.openPair m ln with views := L.views.set ln .outTest })

/-- The test interval of the running manifest in ns; 24 h on the factory image. -/
def State.testInterval (s : State) : Nat :=
  (match s.body with
    | none => 24
    | some b => b.testIntervalH) * 3600000000000

/-- The partner meets the start condition of R390; a single module has none. -/
def State.partnerTestOk (s : State) : Bool :=
  match s.body with
  | none => true
  | some b =>
    if b.partner && s.pair.variantP then
      match s.partner with
      | none => false
      | some p => !p.testRunning && (if s.pair.holder then p.ready else decide (p.inVote = 3))
    else true

/-- The test interval has run, with what a Maintainer has deferred (R222). -/
def State.testDue (s : State) : Bool := decide (s.rot.lastEnd + s.testInterval + s.rot.deferNs ≤ s.now)

/-- The lane whose turn it is: one that is not IN-VOTE when its turn comes is passed over (R222). -/
def State.turn (s : State) : LaneId :=
  let n := s.rot.next
  ([n, nextLane n, nextLane (nextLane n)].find? s.votes).getD n

/-- The lanes stand at the end of a P-CONS; in STANDBY, where they run no passes, at any instant of far time. -/
def State.atConsEnd (s : State) : Bool :=
  decide (s.module = .standby) || s.voters.all (fun ln => decide ((s.lane ln).phase = .pSign))

/-- The start conditions of R222. -/
def State.testMayStart (s : State) : Bool :=
  (decide (s.module = .restricted) || decide (s.module = .operational) || decide (s.module = .standby)) && s.atConsEnd &&
  decide (s.voters.length = 3) && s.rot.active.isNone && s.pilot.isNone && s.change.switchCn.isNone &&
  (match s.rot.threeSince with
    | none => false
    | some t => decide (t + 600000000000 ≤ s.now)) &&
  s.testDue && s.partnerTestOk

/-- ROTATING_TEST_START (R222): the lane whose turn it is becomes OUT-TEST with cause ROTATE. -/
def execRotatingTestStart (t : Nat) (s : State) : Host.Outcome State Fault Refusal :=
  let s1 := s.touch t
  let s0 : State := if s1.testDue && runsCycle s1.module then { s1 with rot := { s1.rot with next := s1.turn } } else s1
  if s0.testMayStart then
    let ln := s0.rot.next
    let s1 := (s0.takeOut ln .rotate).raiseLane ln .info .rotatingTest [ln.num]
    fin { s1 with rot := { s1.rot with active := some ln, step := 1, started := s1.now, deferNs := 0 } }
  else fin s0

/-- What a lane expects of a midpoint while its own switch of a pair is closed alone: HIGH for an upstream switch, the
terminal's level for a downstream one (R320, Table 11.2). The lower-numbered lane of a pair has the upstream switch. -/
def switchExpect (me : LaneId) (L : Lane) (x : MidTest) : Option Mid :=
  let term := if (Tbl.get {} L.inp.term x.ch).value then RawLevel.on else RawLevel.off
  me.others.findSome? (fun m =>
    if pairBit me m = x.pair then midTable (decide (me.idx < m.idx)) (decide (m.idx < me.idx)) term else none)

/-- One switch shows what R320 expects: closed alone, and open again. -/
def switchGood (me : LaneId) (L : Lane) (x : MidTest) : Bool :=
  (switchExpect me L x).any (fun e => decide (midLevel x.closedMv = e)) && decide (midLevel x.openedMv = .mid)

/-- Step 6 passes: every own switch has been read, and every reading is as expected (R320). -/
def midsGood (me : LaneId) (L : Lane) (xs : List MidTest) : Bool :=
  xs.all (switchGood me L) &&
  switchChannels.all (fun ch => me.others.all (fun m => xs.any (fun x => decide (x.ch = ch) && decide (x.pair = pairBit me m))))

/-- Differences that the other lane of each pair reads, and logs (R320). -/
def State.logMids (s : State) (me : LaneId) (xs : List MidTest) : State :=
  me.others.foldl (fun s m => s.raiseLaneAll m ((xs.filter (fun x =>
    decide (x.pair = pairBit me m) && (decide (midLevel x.peerClosedMv ≠ midLevel x.closedMv) ||
      decide (midLevel x.peerOpenedMv ≠ midLevel x.openedMv)))).map
    (fun x => (LogClass.warn, EventName.midDiffers, [((x.ch : Nat) : Int), ((x.pair : Nat) : Int), me.num])))) s

/-- A step of the test has passed: step 6 by the midpoints, every other by the verdict it shows. -/
def State.stepPasses (s : State) (ln : LaneId) (r : TestReading) : Bool :=
  r.passed && (decide (s.rot.step ≠ 6) || midsGood ln (s.lane ln) r.mids)

/-- TEST_STEP_END (R223): a passed step leads to the next, the seventh to the rejoin; a failed one excludes the
lane with cause TEST. -/
def execTestStepEnd (ln : LaneId) (r : TestReading) (s : State) : Host.Outcome State Fault Refusal :=
  if s.rot.active = some ln ∧ s.laneState ln = .outTest then
    let passed := s.stepPasses ln r
    let s0 := if s.rot.step = 6 then s.logMids ln r.mids else s
    let s1 := s0.raiseLane ln (if passed then .info else .fault) .testStep [((s.rot.step : Nat) : Int), if passed then 1 else 0]
    if !passed then fin (s1.excludeAgreed ln .test)
    else
      let s2 : State := { s1 with rot := { s1.rot with step := s1.rot.step + 1 } }
      if s.rot.step < 7 then fin s2 else fin ((s2.calibrate ln r.trips).startRejoin ln)
  else fin s

/-- ROTATING_TEST_TIMEOUT (R223): the test, with its rejoin, has not ended in 120 s. -/
def execRotatingTestTimeout (t : Nat) (s : State) : Host.Outcome State Fault Refusal :=
  let s0 := s.touch t
  match s0.rot.active with
  | none => fin s0
  | some ln =>
    if s0.rot.started + 120000000000 ≤ s0.now then fin (s0.excludeAgreed ln .test) else fin s0

/-- DEFER_TEST (R222): by up to one interval. -/
def execDeferTest (sess ns : Nat) (s : State) : Host.Outcome State Fault Refusal :=
  if s.maintainer sess then
    let s0 := s.keepAlive sess
    if ns ≤ s0.testInterval then
      let s1 := s0.logChange sess .testDeferred [((ns : Nat) : Int)]
      ok { s1 with rot := { s1.rot with deferNs := ns } }
    else ok (s0.logChange sess .commandRefused [((ns : Nat) : Int)])
  else ok s

/-! ## Loss of a lane's clock or supply (R475, R472) -/

/-- PLL_LOCK_LOSS (R475): OUT-FAULT, cause CLOCK. -/
def execPllLockLoss (ln : LaneId) (s : State) : Host.Outcome State Fault Refusal :=
  if runsCycle s.module then fin ((s.raiseLane ln .fault .pllLockLoss [ln.num]).exclude ln .clock) else fin s

/-- Domains of a lane lose power-good: LnC, and with LnI both. -/
def Power.laneLoss (p : Power) (ln : LaneId) (ofLnI : Bool) : Power :=
  let i : BitVec 12 := if ofLnI then lnI ln else 0
  { p with pg := p.pg &&& ~~~(lnC ln ||| i), on := p.on &&& ~~~(lnC ln ||| i) }

/-- The lane's supply is gone: without LnC it is OUT-FAULT with cause POWER, without LnI it is LANE-OFF (R472). -/
def State.supplyLoss (s : State) (ln : LaneId) (ofLnI : Bool) : State :=
  let s1 : State := { s with power := s.power.laneLoss ln ofLnI }
  if runsCycle s1.module ∨ s1.module = .halt then
    if ofLnI then
      let s2 := (s1.laneOff ln).raiseModule .fault .laneSupply [ln.num]
      let s3 := if ln = .l1 then s2.endPilot else s2
      if runsCycle s3.module then s3.checkVote else s3
    else (s1.exclude ln .power).seenByVoters ln
  else s1

end Sys2Proof.Machine
end

