-- ==== Sys2Proof/Machine/Pairing.lean ====
section
/-! DEFINITION. The pair: hawser STATUS, the copy at the partner, takeover, rollback, handover (chapter 13). -/

namespace Sys2Proof.Machine

open Sys2Proof

/-! ## Far time at the lanes (R376) -/

/-- The plane chip whose far tick the lanes take: PIA's while it is valid, PIB's otherwise. -/
def State.farPlane (s : State) : Plane := if s.planes.a.farTick.isSome then s.planes.a else s.planes.b

/-- Far time runs. -/
def State.farOn (s : State) : Bool := s.planes.a.farTick.isSome || s.planes.b.farTick.isSome

/-- FAR_TICK_STROBE_RX (R376): φ, and the CN of the claim holder's sync frames. -/
def execFarTickStrobeRx (ln : LaneId) (phi : Int) (s : State) : Host.Outcome State Fault Refusal :=
  if s.module = .standby ∧ s.farOn ∧ (s.laneState ln = .inVote ∨ s.laneState ln = .rejoining) then
    ok (s.updLane ln (fun L => { L with phi := some (phi - 220), cn := s.farPlane.farCn }))
  else ok s

/-! ## STATUS (R368, R378, R386, R387) -/

/-- Plane chip of a hawser port: HW1 on PIA, HW2 on PIB. -/
def portPlane (port : Nat) : PlaneId := if port = 0 then .a else .b

/-- Identity of the manifest in the slot that is not active. -/
def State.otherId (s : State) : Option (BitVec 768) := imageId s.newMan

/-- A module sees another that runs a manifest of another signature (R387): a commanding module one that commands or stands
by, and a module in STANDBY one that has closed. The old and the new manifest of an online change do not count: such a
partner is in RESYNC only (R414; log entry 24). -/
def State.manDiffers (s : State) (st : HwStatus) : Bool :=
  ((commandsNet s.module && (commandsNet st.state || decide (st.state = .standby))) ||
    (decide (s.module = .standby) && decide (st.state = .closed))) &&
  decide (imageId s.man ≠ some st.signature) && decide (s.otherId ≠ some st.signature)

/-- HAWSER_STATUS_RX (R368). -/
def execHawserStatusRx (port : Nat) (hd : HawserHead) (st : HwStatus) (s : State) : Host.Outcome State Fault Refusal :=
  let pl := portPlane port
  if hawserTakes 0x32 hd && s.pair.variantP && s.planeOn pl then
    let p := s.pair
    let down := if st.holderDown && decide (s.module = .standby) && later st.clm p.clm then some s.farPlane.farCn else p.holderDownAt
    let s1 : State := { s with pair := { p with
      status := p.status.set pl (some st), linkUp := p.linkUp.set pl true, holderDownAt := down } }
    if s1.manDiffers st then fin (s1.closePair .pairManifest)
    else if commandsNet s1.module && decide (st.clm = p.clm) && decide (st.unitB = p.unitB) then fin (s1.closePair .unitClash)
    else if commandsNet s1.module && later st.clm p.clm then fin (s1.loseClaim st.clm)
    else fin s1
  else fin s

/-! ## Receiving the copy (R371-R373) -/

/-- COPY_RX (R373): the first good delivery of each place. -/
def execCopyRx (ln : LaneId) (port idx : Nat) (hd : HawserHead) (rec : CopyRec) (s : State) :
    Host.Outcome State Fault Refusal :=
  let L := s.lane ln
  if hawserTakes 0x30 hd && decide (s.module = .standby) && s.planeOn (portPlane port) && L.active ln &&
      (Tbl.get none L.copyRecs idx).isNone then
    ok (s.putLane ln { L with copyRecs := Tbl.set none L.copyRecs idx (some rec) })
  else ok s

/-- SEAL_RX (R371, R386). -/
def execSealRx (ln : LaneId) (port : Nat) (hd : HawserHead) (sl : Seal) (count : Nat) (s : State) :
    Host.Outcome State Fault Refusal :=
  let L := s.lane ln
  if hawserTakes 0x31 hd && s.pair.variantP && s.planeOn (portPlane port) then
    if s.module = .standby then
      if L.active ln ∧ !L.copySeals.any (fun x => decide (x.1.lane = sl.lane)) then
        fin (s.putLane ln { L with copySeals := L.copySeals ++ [(sl, count)] })
      else fin s
    else if later sl.clm s.pair.clm then fin (s.loseClaim sl.clm)
    else fin s
  else fin s

/-! ## The copy decision (R373) -/

/-- Records of a copy in order, where all of them have arrived. -/
def Lane.copyList (L : Lane) (count : Nat) : Option (List CopyRec) :=
  (List.range count).mapM (fun i => Tbl.get none L.copyRecs i)

/-- Seal that bears a lane's own tag. -/
def Lane.ownSeal (me : LaneId) (L : Lane) : Option (Seal × Nat) := L.copySeals.find? (fun x => decide (x.1.lane = me))

/-- A lane's record on the copy: present with its digest and the records, or absent. -/
def Lane.copyView (me : LaneId) (L : Lane) : Option (U64 × List CopyRec) :=
  match L.image, L.ownSeal me with
  | some m, some (x, n) =>
    match L.copyList n with
    | none => none
    | some rs =>
      let crc := copyCrc rs
      if L.copySeals.all (fun y => decide (y.1.crc = crc)) ∧ x.cn = L.cn ∧
          x.code = sealCode (m.body.key me false 7 0) { x with code := 0 } then some (crc, rs)
      else none
  | _, _ => none

/-- The accepted copy: two lanes present with equal digests. -/
def State.acceptedCopy (s : State) : Option (U64 × List CopyRec) :=
  let vs := s.voters.filterMap (fun ln => (s.lane ln).copyView ln)
  vs.find? (fun v => decide (2 ≤ (vs.filter (fun w => decide (w.1 = v.1))).length))

/-- A partner lane is excluded: its record differs from the accepted copy, and not for want of its own seal. -/
def State.copyDiffers (s : State) (ln : LaneId) (crc : U64) : Bool :=
  match (s.lane ln).copyView ln with
  | some v => decide (v.1 ≠ crc)
  | none => ((s.lane ln).ownSeal ln).isSome

/-! ## Applying it (R374, R375) -/

/-- Chunks received before a copy of RESYNC; all of them otherwise. -/
def CopyState.chunks : CopyState → Nat
  | .none => 0
  | .resync n => min n 64
  | .ready _ => 64

/-- Rewrite the supervisor's committed and prepared state alike. -/
def Lane.setSup (L : Lane) (f : Sup → Sup) : Lane := { L with sup := f L.sup, supC := f L.supC }

/-- One record of an accepted copy in a lane that holds the first `n` chunks; chunk `n` is the next. -/
def Lane.applyRec (n : Nat) (L : Lane) : CopyRec → Lane
  | .header h => { L with epoch := h.epoch, cnE := h.cnE }
  | .update k x =>
    match chunkOf k with
    | some c => if c < n then L.put k x else L
    | none => L
  | .frame f st fs => L.setSup (fun u => u.setFrame f st fs)
  | .chunk k ws => if k = n then L.putAll ws else L
  | .conn k e qs bs =>
    L.setSup (fun u => { u with conns := Tbl.upd {} u.conns k (fun c =>
      { c with peerEpoch := e, seqs := Tbl.ofList none (qs.map (fun q => (q.1, some (q.2.1, q.2.2))))
               bounds := Tbl.ofList none (bs.map (fun b => (b.1, some (b.2.1, b.2.2)))) }) })
  | .gen ps ns rs ds =>
    L.setSup (fun u => { u with
      pend := Tbl.ofList none (ps.map (fun p => (p.1, some (p.2.1, p.2.2))))
      noData := Tbl.ofList 0 ns, present := Tbl.ofList [] rs, demanded := ds })

/-- Header of a copy. -/
def copyHeader (rs : List CopyRec) : Option CopyHdr :=
  rs.findSome? (fun r => match r with
    | .header h => some h
    | _ => none)

/-- Chunk of a copy. -/
def copyChunk (rs : List CopyRec) : Option Nat :=
  rs.findSome? (fun r => match r with
    | .chunk k _ => some k
    | _ => none)

/-- Copy state before a copy is judged (R375): RESYNC begins with the next copy after NONE or after one not accepted, and
a chunk 0 begins it afresh. -/
def State.copyStart (s : State) (rs : Option (List CopyRec)) : CopyState :=
  match s.pair.copy with
  | .none => .resync 0
  | .ready k => if s.pair.lastAccepted then .ready k else .resync 0
  | .resync n => if n < 64 ∧ (rs.bind copyChunk) = some 0 then .resync 0 else .resync n

/-- Copy state after an accepted copy of cycle `cn` (R375). -/
def CopyState.accept (c : CopyState) (rs : List CopyRec) (cn : U32) : CopyState :=
  match c with
  | .none => .none
  | .ready k => if cn = k + 1 then .ready cn else .resync 0
  | .resync n =>
    if n < 64 then (if copyChunk rs = some n then .resync (n + 1) else .resync n)
    else if n < 66 then .resync (n + 1)
    else .ready cn

/-- Copy state after a copy that is not accepted: a READY partner keeps its state for a takeover (R375, R378). -/
def CopyState.miss : CopyState → CopyState
  | .none => .resync 0
  | .resync _ => .resync 0
  | .ready k => .ready k

/-- The partner switches to the manifest a copy's header names, which it has staged (R414). -/
def State.followSwitch (s : State) (rs : List CopyRec) : State :=
  match copyHeader rs, s.newMan with
  | some h, some new =>
    if imageId s.man ≠ some h.signature ∧ new.hdr.signature = h.signature ∧ s.change.staged.isSome then
      let s1 := s.mapLanes (fun ln L => if L.active ln then (L.switchTo new).activateTarget else L)
      { s1 with change := { s1.change with staged := none } }
    else s
  | _, _ => s

/-- The copy belongs to the manifest the partner runs, or to the one it has staged (R414). -/
def State.copyFits (s : State) (rs : List CopyRec) : Bool :=
  match copyHeader rs with
  | none => false
  | some h => decide (imageId s.man = some h.signature) || (decide (s.otherId = some h.signature) && s.change.staged.isSome)

/-- COPY_DECISION (R373-R375, R414). -/
def execCopyDecision (s : State) : Host.Outcome State Fault Refusal :=
  if s.module = .standby then
    let clear (s : State) : State := s.mapLanes (fun _ L => { L with copyRecs := [], copySeals := [] })
    match s.acceptedCopy.filter (fun v => s.copyFits v.2) with
    | none =>
      let c := (s.copyStart none).miss
      fin (clear { s with pair := { s.pair with copy := c, lastAccepted := false, transferSeen := false } })
    | some (crc, rs) =>
      let bad := s.voters.filter (fun ln => s.copyDiffers ln crc)
      let s1 := bad.foldl (fun s ln => s.excludeAgreed ln .agree) s
      let c0 := s.copyStart (some rs)
      let transfer := s.voters.any (fun ln => ((s.lane ln).ownSeal ln).any (fun (x : Seal × Nat) => x.1.transfer))
      let s2 := (s1.followSwitch rs).mapLanes (fun ln L => if L.active ln then rs.foldl (Lane.applyRec c0.chunks) L else L)
      let cn := (s.lane s.lead).cn
      fin (clear { s2 with pair := { s2.pair with
        copy := c0.accept rs cn, lastAccepted := true, transferSeen := transfer
        copyHdr := (copyHeader rs).or s2.pair.copyHdr } })
  else fin s

/-! ## Takeover (R378-R382) -/

/-- A direct sync of the claim holder has arrived in this far cycle on a configured segment. -/
def State.directSeen (s : State) : Bool :=
  (List.range 8).any (fun n => s.segConfigured n && ((s.planes.a.seg n).directSeen || (s.planes.b.seg n).directSeen))

/-- The copy of the cycle before `j` was accepted. -/
def State.acceptedFor (s : State) (j : U32) : Bool :=
  s.pair.lastAccepted && (match s.pair.copy with
    | .ready k => decide (sdiff j k ≤ 1)
    | .none => false
    | .resync _ => false)

/-- The trigger that holds in cycle `j`: 0 TRANSFER, 1 HOLDER_DOWN, 2 SILENT (Table 13.6). -/
def State.takeoverTrigger (s : State) (j : U32) : Option Nat :=
  if s.acceptedFor j && s.pair.transferSeen then some 0
  else if s.pair.holderDownAt.any (fun c => decide (sdiff j c ≤ 1)) then some 1
  else if !s.acceptedFor j && !s.directSeen then some 2
  else none

/-- The rollback of a lane: routes in SIGNAL-CLEAR become LOCKED, with PERMIT FALSE and the outcome of R382. -/
def Lane.rollback (L : Lane) : Lane :=
  match L.image with
  | none => L
  | some m =>
    (imgRoutes m.body).foldl (fun L r =>
      if L.plain (keyRoute r 0) = 4 then
        ((L.put (keyRoute r 0) 3).put (keyRoute r 5) (outcome 127 5)).put (keyE (L.plain (keyRoute r 1)).toNat 9) vFalse
      else L) L

/-- A connection under a new EPOCH: every SEQ starts at 1 and the echo record is empty (R380). -/
def Conn.newEpoch (c : Conn) : Conn := { c with echo := none, outSeq := 0, lastSent := [], agreedNew := false }

/-- A lane at a takeover in cycle `j` (R379, R380). -/
def Lane.takeover (j : U32) (epoch : U32) (roll : Bool) (me : LaneId) (L : Lane) : Lane :=
  let L1 := L.setSup (fun u => { u with conns := Tbl.ofList {} (u.conns.map (fun e => (e.1, e.2.newEpoch))) })
  let L2 := { L1 with epoch := epoch, cnE := j, flash := if L1.views.get me = .laneOff then L1.flash else { L1.flash with epoch := epoch }, everCompleted := false
                      bodyAge := 0, startWarm := true, startCold := false }
  if roll then L2.rollback else L2

/-- The later of two counters of 32 bits (R11). -/
def laterOf (a b : U32) : U32 := if later b a then b else a

/-- The latest of several counters (R11); 0 where there is none. -/
def latestOf : List U32 → U32
  | [] => 0
  | c :: r => r.foldl laterOf c

/-- The EPOCH after one: 0 is never used (R295). -/
def nextEpoch (e : U32) : U32 := if e + 1 = 0 then 1 else e + 1

/-- The partner takes the claim (R379). -/
def State.takeClaim (s : State) (h : CopyHdr) (j : U32) (trig : Nat) : State :=
  let stored := latestOf (h.epoch :: s.voters.map (fun ln => (s.lane ln).flash.epoch))
  let roll := !s.acceptedFor j && (s.planes.a.sawDownlinkPrev || s.planes.b.sawDownlinkPrev)
  let s1 := s.mapLanes (fun ln L => Lane.takeover j (nextEpoch stored) roll ln L)
  let s2 := ((s1.setModule h.state).setClaim (h.clm + 2)).raiseModule .fault .takeover [((trig : Nat) : Int)]
  let s3 := if roll then s2.raiseModule .fault .rollback [] else s2
  let s4 : State := { s3 with
    pair := { s3.pair with
      holder := true, copy := .none, holderDownAt := none, transferSeen := false, lastAccepted := false, copyHdr := none
      rollbackHold := roll, takeoverCn := some j, syncFrom := some (if trig = 0 then j else j + 1) }
    planes := s3.planes.map (fun p => { p with sending := true, coldNext := false, stepNow := false }) }
  let s5 := if trig = 0 then (s4.sendSync .a).sendSync .b else s4
  match s5.rot.active with
  | none => s5.noteCons
  | some ln => ((s5.endTest ln).startRejoin ln).noteCons

/-- TAKEOVER (R378). -/
def execTakeover (s : State) : Host.Outcome State Fault Refusal :=
  let j := s.farPlane.farCn
  match s.pair.copy, s.pair.copyHdr with
  | .ready k, some h =>
    if s.module = .standby ∧ s.farOn ∧ 2 ≤ s.voters.length ∧ sdiff j k ≤ 2 then
      match s.takeoverTrigger j with
      | some trig => fin (s.takeClaim h j trig)
      | none => fin s
    else fin s
  | _, _ => fin s

/-- Largest TMAX of the connections in ns. -/
def State.tmaxLargest (s : State) : Nat :=
  match s.body with
  | none => 0
  | some b => b.conns.foldl (fun a (e : Nat × ConnCfg) => max a (e.2.tmax * 1000000)) 0

/-- ROLLBACK_HOLD ends (R382): every configured connection has been heard under the new EPOCH, or the largest TMAX has
passed since the takeover. -/
def State.holdEnds (s : State) : Bool :=
  let L := s.lane s.lead
  let heard := match s.body with
    | none => true
    | some b => b.conns.all (fun (e : Nat × ConnCfg) => (Tbl.get {} L.supC.conns e.1).agreedNew)
  heard || s.pair.takeoverCn.any (fun c => decide (s.tmaxLargest ≤ (L.cn - c).toNat * tcNs s.tc))

/-- ROLLBACK_HOLD_CLEAR (R382). -/
def execRollbackHoldClear (s : State) : Host.Outcome State Fault Refusal :=
  if s.pair.rollbackHold ∧ s.holdEnds then ok { s with pair := { s.pair with rollbackHold := false } } else ok s

/-! ## Handover (R384) and loss of the hawser (R385) -/

/-- The claim holder may hand over: it commands the site and its partner is READY. -/
def State.mayHandOver (s : State) : Bool :=
  s.pair.variantP && s.pair.holder && commandsNet s.module && s.partnerReady

/-- HANDOVER (R384). -/
def execHandover (sess : Nat) (s : State) : Host.Outcome State Fault Refusal :=
  if s.maintainer sess then
    let s0 := s.keepAlive sess
    if s0.mayHandOver then
      ok (({ s0 with pair := { s0.pair with transferNext := true } } : State).logChange sess .handover [flag s0.pair.unitB])
    else ok (s0.logChange sess .commandRefused [])
  else ok s

/-- Loss of signal on every configured segment of both planes. -/
def State.allLost (s : State) : Bool :=
  s.schedule != [] &&
  (List.range 8).all (fun n => !s.segConfigured n || ((s.planes.a.seg n).lost && (s.planes.b.seg n).lost))

/-- AUTO_HANDOVER (R384): judged once in each cycle. -/
def execAutoHandover (s : State) : Host.Outcome State Fault Refusal :=
  let p := { s.pair with
    svcSilent := if s.uplink.up then 0 else s.pair.svcSilent + 1
    losCycles := if s.allLost then s.pair.losCycles + 1 else 0 }
  let s1 : State := { s with pair := p }
  let due := (decide (3 ≤ p.svcSilent) && s.partner.any (fun (x : HwStatus) => x.svcOk)) || decide (2 ≤ p.losCycles)
  if s1.mayHandOver && due && !p.transferNext then
    ok (({ s1 with pair := { p with transferNext := true } } : State).raiseChange .module .handover
      (noWho ++ [flag s1.pair.unitB]))
  else ok s1

/-- HAWSER_LOST (R385): no STATUS stands, and the pair is not protected. -/
def execHawserLost (s : State) : Host.Outcome State Fault Refusal :=
  if s.pair.variantP then
    ok (({ s with pair := { s.pair with status := ⟨none, none⟩, linkUp := ⟨false, false⟩ } } : State).raise
      .fault .hawserLost .module [])
  else ok s

end Sys2Proof.Machine
end

