-- ==== Sys2Proof/Machine/Sha256.lean ====
section
/-! DEFINITION. PBKDF2 over HMAC-SHA-256 (FIPS 180-4, FIPS 198-1, SP 800-132), which R416 names. -/

namespace Sys2Proof

/-! ## SHA-256 -/

/-- Rows of the round constants of FIPS 180-4, eight words each, the first word of a row most significant. -/
def shaRows : List Nat :=
  [0x428A2F9871374491B5C0FBCFE9B5DBA53956C25B59F111F1923F82A4AB1C5ED5,
   0xD807AA9812835B01243185BE550C7DC372BE5D7480DEB1FE9BDC06A7C19BF174,
   0xE49B69C1EFBE47860FC19DC6240CA1CC2DE92C6F4A7484AA5CB0A9DC76F988DA,
   0x983E5152A831C66DB00327C8BF597FC7C6E00BF3D5A7914706CA635114292967] ++
  [0x27B70A852E1B21384D2C6DFC53380D13650A7354766A0ABB81C2C92E92722C85,
   0xA2BFE8A1A81A664BC24B8B70C76C51A3D192E819D6990624F40E3585106AA070,
   0x19A4C1161E376C082748774C34B0BCB5391C0CB34ED8AA4A5B9CCA4F682E6FF3,
   0x748F82EE78A5636F84C878148CC7020890BEFFFAA4506CEBBEF9A3F7C67178F2]

/-- Round constant. -/
def shaK (t : Nat) : U32 := BitVec.ofNat 32 ((shaRows.getD (t / 8) 0) / 2 ^ (32 * (7 - t % 8)))

/-- Initial hash value. -/
def shaInit : List U32 := [0x6A09E667, 0xBB67AE85, 0x3C6EF372, 0xA54FF53A, 0x510E527F, 0x9B05688C, 0x1F83D9AB, 0x5BE0CD19]

/-- The message schedule in reverse: `n` further words before those held, newest first. -/
def shaSchedule : Nat → List U32 → List U32
  | 0, w => w
  | n + 1, w =>
    let a := w.getD 14 0
    let b := w.getD 1 0
    let s0 := a.rotateRight 7 ^^^ a.rotateRight 18 ^^^ (a >>> 3)
    let s1 := b.rotateRight 17 ^^^ b.rotateRight 19 ^^^ (b >>> 10)
    shaSchedule n ((w.getD 15 0 + s0 + w.getD 6 0 + s1) :: w)

/-- The eight working variables. -/
structure ShaVars where
  a : U32
  b : U32
  c : U32
  d : U32
  e : U32
  f : U32
  g : U32
  h : U32
deriving DecidableEq, Repr

/-- One round. -/
def shaRound (v : ShaVars) (kw : U32) : ShaVars :=
  let s1 := v.e.rotateRight 6 ^^^ v.e.rotateRight 11 ^^^ v.e.rotateRight 25
  let ch := (v.e &&& v.f) ^^^ (~~~v.e &&& v.g)
  let t1 := v.h + s1 + ch + kw
  let s0 := v.a.rotateRight 2 ^^^ v.a.rotateRight 13 ^^^ v.a.rotateRight 22
  let maj := (v.a &&& v.b) ^^^ (v.a &&& v.c) ^^^ (v.b &&& v.c)
  ⟨t1 + (s0 + maj), v.a, v.b, v.c, v.d + t1, v.e, v.f, v.g⟩

/-- Words of a hash value. -/
def ShaVars.words (v : ShaVars) : List U32 := [v.a, v.b, v.c, v.d, v.e, v.f, v.g, v.h]

/-- Working variables from a hash value. -/
def shaVars (h : List U32) : ShaVars :=
  ⟨h.getD 0 0, h.getD 1 0, h.getD 2 0, h.getD 3 0, h.getD 4 0, h.getD 5 0, h.getD 6 0, h.getD 7 0⟩

/-- Compression of one block of 64 bytes. -/
def shaBlock (h : List U32) (b : List Byte) : List U32 :=
  let w := (shaSchedule 48 ((List.range 16).map (fun i => BitVec.ofNat 32 (beAt b (4 * i) 4))).reverse).reverse
  let v := ((List.range 64).zip w).foldl (fun v x => shaRound v (shaK x.1 + x.2)) (shaVars h)
  List.zipWith (· + ·) h v.words

/-- Compression of the blocks of a padded message. -/
def shaBlocks : Nat → List U32 → List Byte → List U32
  | 0, h, _ => h
  | n + 1, h, bs => shaBlocks n (shaBlock h (bs.take 64)) (bs.drop 64)

/-- SHA-256 of a message. -/
def sha256 (m : List Byte) : List Byte :=
  let n := m.length
  let p := m ++ [0x80] ++ List.replicate ((119 - n % 64) % 64) 0 ++ beBytes 8 (8 * n)
  (shaBlocks (p.length / 64) shaInit p).flatMap (fun w => beBytes 4 w.toNat)

/-! ## HMAC and PBKDF2 -/

/-- HMAC-SHA-256 under a key of at most 64 bytes, as a password is (R416). -/
def hmacSha256 (k m : List Byte) : List Byte :=
  let pad (x : Byte) : List Byte := (k ++ List.replicate (64 - k.length) 0).map (· ^^^ x)
  sha256 (pad 0x5C ++ sha256 (pad 0x36 ++ m))

/-- The further iterations of PBKDF2: the last value, and the exclusive or of all. -/
def pbkdfLoop (k : List Byte) : Nat → List Byte → List Byte → List Byte
  | 0, _, acc => acc
  | n + 1, u, acc =>
    let v := hmacSha256 k u
    pbkdfLoop k n v (List.zipWith (· ^^^ ·) acc v)

/-- PBKDF2-HMAC-SHA-256 of a password under a 16-byte salt: one block of 256 bits after `n + 1` iterations. -/
def pbkdf2Iter (n : Nat) (password : List Byte) (salt : Key) : BitVec 256 :=
  let u := hmacSha256 password (beBytes 16 salt.toNat ++ beBytes 4 1)
  BitVec.ofNat 256 (beNat (pbkdfLoop password n u u))

/-- PBKDF2-HMAC-SHA-256 with 200 000 iterations (R416). -/
def pbkdf2 (password : List Byte) (salt : Key) : BitVec 256 := pbkdf2Iter 199999 password salt

end Sys2Proof
end

