-- ==== Sys2Proof/Machine/Access.lean ====
section
/-! DEFINITION. Maintenance access: accounts, sessions, passwords, reading and exporting (R415-R417, R421-R425,
R438). -/

namespace Sys2Proof.Machine

open Sys2Proof

/-! ## Login and sessions (R415, R416) -/

/-- Rewrite the access state. -/
def State.updAccess (s : State) (f : Access → Access) : State := { s with access := f s.access }

/-- Put or remove an account. -/
def Access.putAccount (a : Access) (n : Nat) (x : Option Account) : Access := { a with accounts := Tbl.set none a.accounts n x }

/-- Put or remove a session. -/
def Access.putSession (a : Access) (n : Nat) (x : Option Session) : Access := { a with sessions := Tbl.set none a.sessions n x }

/-- The lowest session number not in use. -/
def Access.freeSession (a : Access) : Nat :=
  ((List.range (a.sessions.length + 1)).find? (fun n => (Tbl.get none a.sessions n).isNone)).getD 0

/-- Account and role as a change log record holds them; the port is the maintenance port. -/
def accountWho (n : Nat) (role : Role) : List Int := [((n : Nat) : Int), roleCode role]

/-- A password fits an account: its hash, or the factory account's first login in CLOSED with the key closed (R416). -/
def State.passwordOk (s : State) (a : Account) (password : List Byte) : Bool :=
  match a.hash with
  | some h => decide (pbkdf2 password a.salt = h)
  | none => decide (a.role = .commissioner) && decide (s.module = .closed) && s.keyClosed

/-- 300 s of operating time (R416). -/
def accountLockNs : Nat := 300000000000

/-- A failed login counts toward the account lock (R416). -/
def State.failLogin (s : State) (n : Nat) (a : Account) : State :=
  let s1 := s.raise .change .loginFailed .svc (accountWho n a.role)
  if a.fails + 1 < 5 then s1.updAccess (fun x => x.putAccount n (some { a with fails := a.fails + 1 }))
  else
    (s1.raise .change .accountLock .svc (accountWho n a.role)).updAccess
      (fun x => x.putAccount n (some { a with fails := 0, lockedAt := some s.now }))

/-- One item of the report: unit, item, result, STEP, duration, and a mask of the supplies whose channels it did not
run on. -/
def bistRow (unit : Nat) (r : BistRec) : List Int :=
  [((unit : Nat) : Int), ((r.item : Nat) : Int), ((resultCode r.result : Nat) : Int), ((r.step : Nat) : Int),
    ((r.durMs : Nat) : Int), (((r.absent.map (fun k => 2 ^ k)).sum : Nat) : Int)]

/-- What a mark names: its kind, and its numbers. -/
def markVals : Mark → List Int
  | .lane ln => [0, ln.num]
  | .slot ln n => [1, ln.num, ((n : Nat) : Int)]
  | .retention ln => [2, ln.num]
  | .link l => [3, l.ends.1.num, l.ends.2.num]
  | .channel ch => [4, ((ch : Nat) : Int)]
  | .sdr j => [5, ((j : Nat) : Int)]
  | .stage n => [6, ((n : Nat) : Int)]
  | .plane pl => [7, flag pl.bit]
  | .port pl n => [8, flag pl.bit, ((n : Nat) : Int)]
  | .svc => [9]
  | .recordSlot n => [10, ((n : Nat) : Int)]
  | .frameSlot n => [11, ((n : Nat) : Int)]
  | .supercap => [12]
  | .svcPort n => [13, ((n : Nat) : Int)]

/-- The report of SHUTDOWN_READY (R483): every item of every unit, then every unit newly marked. -/
def State.bistReport (s : State) : List Int :=
  LaneId.all.flatMap (fun ln => (s.lane ln).flash.bist.flatMap (bistRow ln.idx)) ++
  s.bist.results.flatMap (fun (e : Nat × Option BistRec) => match e.2 with
    | none => []
    | some r => bistRow (e.1 / 32) r) ++
  s.bist.newMarks.flatMap markVals

/-- What a connection reports at its start: CFG_DEFAULTED and LOG_CHANGE_AT_RISK (R396, R425), and at SHUTDOWN_READY the
results of the self-test (R483). -/
def State.greeting (s : State) : List Int :=
  [flag s.change.cfgDefaulted, flag s.log.atRisk] ++ (if s.bist.ready then s.bistReport else [])

/-- LOGIN (R416). -/
def execLogin (account : Nat) (password : List Byte) (t : Nat) (s : State) : Host.Outcome State Fault Refusal :=
  let s0 := s.touch t
  match s0.uplink.up, s0.account account with
  | true, some a =>
    if a.lockedAt.isSome then ok (s0.raise .change .loginFailed .svc (accountWho account a.role))
    else if s0.passwordOk a password then
      ok ((s0.raise .change .login .svc (accountWho account a.role)).updAccess (fun x =>
        { (x.putAccount account (some { a with fails := 0 })).putSession x.freeSession (some ⟨account, a.role, s0.now⟩) with
          reply := s0.greeting }))
    else ok (s0.failLogin account a)
  | true, none => ok (s0.raise .change .loginFailed .svc [((account : Nat) : Int), 0])
  | false, _ => ok s0

/-- ACCOUNT_UNLOCK (R416). -/
def execAccountUnlock (account t : Nat) (s : State) : Host.Outcome State Fault Refusal :=
  let s0 := s.touch t
  match s0.account account with
  | none => ok s0
  | some a =>
    match a.lockedAt with
    | none => ok s0
    | some l =>
      if l + accountLockNs ≤ s0.now then
        ok (s0.updAccess (fun x => x.putAccount account (some { a with lockedAt := none })))
      else ok s0

/-- A session ends. -/
def State.endSession (s : State) (sess : Nat) : State :=
  match s.session sess with
  | none => s
  | some e =>
    (s.raise .change .logout .svc (accountWho e.account e.role)).updAccess (fun x => x.putSession sess none)

/-- LOGOUT (R415). -/
def execLogout (sess : Nat) (s : State) : Host.Outcome State Fault Refusal :=
  if s.uplink.up then ok (s.endSession sess) else ok s

/-- 30 min of operating time (R416). -/
def sessionNs : Nat := 1800000000000

/-- SESSION_TIMEOUT (R416). -/
def execSessionTimeout (sess t : Nat) (s : State) : Host.Outcome State Fault Refusal :=
  let s0 := s.touch t
  match s0.session sess with
  | none => ok s0
  | some e => if e.last + sessionNs ≤ s0.now then ok (s0.endSession sess) else ok s0

/-! ## Accounts (R415, R416) -/

/-- A password has 12-32 characters. -/
def passwordFits (p : List Byte) : Bool := decide (12 ≤ p.length) && decide (p.length ≤ 32)

/-- An account with a password under a fresh salt (R416). -/
def State.withPassword (s : State) (n : Nat) (a : Account) (password : List Byte) : State :=
  let salt := Config.freeSalt s.access.saltDraw
  s.updAccess (fun x =>
    { x.putAccount n (some { a with salt := salt, hash := some (pbkdf2 password salt) }) with
      saltDraw := x.saltDraw + 1 })

/-- A change command that its conditions refuse. -/
def State.refuse (s : State) (sess : Nat) (vals : List Int) : State := (s.keepAlive sess).logChange sess .commandRefused vals

/-- ACCOUNT_CREATE (R415): up to 32 accounts. -/
def execAccountCreate (sess account : Nat) (role : Role) (password : List Byte) (s : State) :
    Host.Outcome State Fault Refusal :=
  if s.commissioner sess then
    if (s.account account).isNone ∧ s.access.accounts.length < 32 ∧ passwordFits password then
      ok (((s.keepAlive sess).logChange sess .accountCreated (accountWho account role)).withPassword account
        ⟨role, 0, none, 0, none⟩ password)
    else ok (s.refuse sess [((account : Nat) : Int)])
  else ok s

/-- ACCOUNT_REMOVE (R415): the sessions of the account end. -/
def execAccountRemove (sess account : Nat) (s : State) : Host.Outcome State Fault Refusal :=
  if s.commissioner sess then
    match s.account account with
    | none => ok (s.refuse sess [((account : Nat) : Int)])
    | some a =>
      ok (((s.keepAlive sess).logChange sess .accountRemoved (accountWho account a.role)).updAccess (fun x =>
        { x.putAccount account none with
          sessions := x.sessions.filter (fun e => e.2.any (fun (y : Session) => decide (y.account ≠ account))) }))
  else ok s

/-- The session may set the password of an account: its own, or any for a Commissioner. -/
def State.maySetPassword (s : State) (sess account : Nat) : Bool :=
  s.uplink.up &&
  (match s.session sess with
    | none => false
    | some e => decide (e.account = account) || s.commissioner sess)

/-- PASSWORD_CHANGE (R416). -/
def execPasswordChange (sess account : Nat) (password : List Byte) (s : State) : Host.Outcome State Fault Refusal :=
  if s.maySetPassword sess account then
    match s.account account with
    | none => ok (s.refuse sess [((account : Nat) : Int)])
    | some a =>
      if passwordFits password then
        ok (((s.keepAlive sess).logChange sess .passwordChanged (accountWho account a.role)).withPassword account a password)
      else ok (s.refuse sess [((account : Nat) : Int)])
  else ok s

/-! ## Reading (R415, R396, R425, R438) -/

/-- What a read command returns. -/
def State.answer (s : State) (sess : Nat) (vals : List Int) : State :=
  (s.keepAlive sess).updAccess (fun a => { a with reply := vals })

/-- Counts of a plane chip by controller (R241, R285, R286), read through SVC. -/
def Plane.counts (p : Plane) (pl : PlaneId) : List Int :=
  p.ctrls.flatMap (fun e => ([if pl.bit then 1 else 0, e.1, e.2.early, e.2.late, e.2.second, e.2.wrongSlot, e.2.signLate,
    e.2.overflow] : List Nat).map (fun n => ((n : Nat) : Int))) ++ [((p.relayLate : Nat) : Int)]

/-- Counts of Table 9.7 and Table 9.8 in a lane: place and count (R286). -/
def Lane.counts (L : Lane) : List Int := L.upCounts.flatMap (fun e => [((e.1 : Nat) : Int), ((e.2 : Nat) : Int)])

/-- States and counters as a reader sees them: module and lane states, flags reported on every connection, cycle, counters
of SVC, and the counts of the plane chips and the lanes. -/
def State.report (s : State) : List Int :=
  [((modCode s.module : Nat) : Int), ((s.voteBits.toNat : Nat) : Int), flag s.lanes2of2, flag s.change.cfgDefaulted,
    flag s.log.atRisk, (((s.lane s.lead).cn.toNat : Nat) : Int), ((s.opsec : Nat) : Int), ((s.log.pwrcyc : Nat) : Int),
    ((s.log.dropped : Nat) : Int), ((s.uplink.slDrop : Nat) : Int), ((s.uplink.slUnsigned : Nat) : Int),
    flag s.ptp.locked, flag s.claimHolder, flag s.partnerReady, flag s.bist.ready] ++
  s.planes.a.counts .a ++ s.planes.b.counts .b ++ s.lanes.toList.flatMap Lane.counts

/-- READ_STATE (R415). -/
def execReadState (sess : Nat) (s : State) : Host.Outcome State Fault Refusal :=
  if s.reader sess then ok (s.answer sess s.report) else ok s

/-- Bytes as a reader sees them. -/
def byteValues (bs : List Byte) : List Int := bs.map (fun b => ((b.toNat : Nat) : Int))

/-- READ_LOGBOOK (R415). A record whose CRC fails on reading is reported TORN with its slot, and skipped (R430). -/
def execReadLogbook (sess slot : Nat) (crcOk : Bool) (s : State) : Host.Outcome State Fault Refusal :=
  if s.reader sess ∧ s.power.pg.getLsbD 1 then
    match Tbl.get none s.log.slots slot with
    | none => ok (s.answer sess [])
    | some r =>
      if crcOk then ok (s.answer sess (byteValues r.bytes))
      else ok ((s.raise .log .torn .svc [((slot : Nat) : Int)]).answer sess [((slot : Nat) : Int)])
  else ok s

/-- READ_BLACKBOX (R438): reading without export changes nothing in the store. -/
def execReadBlackbox (sess slot : Nat) (s : State) : Host.Outcome State Fault Refusal :=
  if s.reader sess ∧ s.power.pg.getLsbD 1 then
    ok (s.answer sess (match s.snap.frameAt slot with
      | none => []
      | some f => byteValues f.header))
  else ok s

/-! ## Exports (R424, R425, R438) -/

/-- LOG_EXPORT (R424): the export mark moves to a record that has been written, and never back. -/
def execLogExport (sess : Nat) (seq : U32) (s : State) : Host.Outcome State Fault Refusal :=
  if s.reader sess ∧ s.power.pg.getLsbD 1 then
    let newer := match s.log.exportMark with
      | none => true
      | some m => later seq m
    if newer && later s.log.seq seq then
      ok { s.keepAlive sess with log := Logbook.judge { s.log with exportMark := some seq } }
    else ok (s.keepAlive sess)
  else ok s

/-- BLACKBOX_EXPORT (R438). -/
def execBlackboxExport (sess slot : Nat) (s : State) : Host.Outcome State Fault Refusal :=
  if s.reader sess ∧ s.power.pg.getLsbD 1 then
    ok { s.keepAlive sess with snap := { s.snap with
      ring := Tbl.upd none s.snap.ring slot (fun o => o.map (fun f => { f with exported := true, prot := false })) } }
  else ok s

end Sys2Proof.Machine
end

