-- ==== Sys2Proof/Machine/Change.lean ====
section
/-! DEFINITION. Commands that reach the lanes, signing keys, manifest and firmware loading, and the switch of an online
change (chapter 14). -/

namespace Sys2Proof.Machine

open Sys2Proof

/-! ## Commands for agreement (R200, R418, Table 14.8, Table 14.9) -/

/-- SVC queues a command of a session for the lanes (R200). The lanes judge it (R417). -/
def State.sendCmd (s : State) (sess : Nat) (c : LaneCmd) : State :=
  match s.session sess with
  | none => s
  | some e =>
    let n := s.uplink.cmdSeq + 1
    (s.keepAlive sess).updUplink (fun u => { u with cmdSeq := n, cmds := u.cmds ++ [⟨n, e.account, e.role, c⟩] })

/-- RESTRICTIVE_FORCE (R159). -/
def execRestrictiveForce (sess elem : Nat) (s : State) : Host.Outcome State Fault Refusal :=
  if s.maintainer sess then ok (s.sendCmd sess (.restrictiveForce elem)) else ok s

/-- REMOVE_RESTRICTIVE_FORCE (R418). -/
def execRemoveRestrictiveForce (sess elem : Nat) (s : State) : Host.Outcome State Fault Refusal :=
  if s.maintainer sess then ok (s.sendCmd sess (.removeRestrictive elem)) else ok s

/-- FORCE_VALUE (R161). -/
def execForceValue (sess : Nat) (tgt : ForceTarget) (value : Int) (s : State) : Host.Outcome State Fault Refusal :=
  if s.commissioner sess then ok (s.sendCmd sess (.forceValue tgt value)) else ok s

/-- REMOVE_FORCED_VALUE (R418). -/
def execRemoveForcedValue (sess : Nat) (tgt : ForceTarget) (s : State) : Host.Outcome State Fault Refusal :=
  if s.commissioner sess then ok (s.sendCmd sess (.removeForced tgt)) else ok s

/-- INDIVIDUAL_RELEASE (R419). -/
def execIndividualRelease (sess route : Nat) (s : State) : Host.Outcome State Fault Refusal :=
  if s.maintainer sess then ok (s.sendCmd sess (.individualRelease route)) else ok s

/-- ONLINE_CHANGE (R410). -/
def execOnlineChange (sess : Nat) (s : State) : Host.Outcome State Fault Refusal :=
  if s.commissioner sess then ok (s.sendCmd sess .onlineChange) else ok s

/-! ## Signing keys (R394) -/

/-- Rewrite the flash of every lane whose LnI domain has power. -/
def State.mapFlash (s : State) (f : LaneFlash → LaneFlash) : State :=
  s.mapLanes (fun ln L => if s.lnIOn ln then { L with flash := f L.flash } else L)

/-- SIGNING_KEY_ENROL (R394): up to two keys, only in CLOSED. -/
def execSigningKeyEnrol (sess : Nat) (signer : U64) (key : BitVec 776) (s : State) : Host.Outcome State Fault Refusal :=
  if s.commissioner sess then
    let others := (s.lane s.lead).flash.signers.filter (fun e => decide (e.1 ≠ signer))
    if s.module = .closed ∧ others.length < 2 then
      ok (((s.keepAlive sess).logChange sess .keyEnrolled [((signer.toNat : Nat) : Int)]).mapFlash (fun f =>
        { f with signers := f.signers.filter (fun e => decide (e.1 ≠ signer)) ++ [(signer, key)] }))
    else ok (s.refuse sess [((signer.toNat : Nat) : Int)])
  else ok s

/-- SIGNING_KEY_REMOVE (R394). -/
def execSigningKeyRemove (sess : Nat) (signer : U64) (s : State) : Host.Outcome State Fault Refusal :=
  if s.commissioner sess then
    if s.module = .closed then
      ok (((s.keepAlive sess).logChange sess .keyRemoved [((signer.toNat : Nat) : Int)]).mapFlash (fun f =>
        { f with signers := f.signers.filter (fun e => decide (e.1 ≠ signer)) }))
    else ok (s.refuse sess [((signer.toNat : Nat) : Int)])
  else ok s

/-! ## Loading a manifest (R397-R399, R409) -/

/-- Firmware sets a header may name: the running one, and the one loaded for activation. -/
def Change.sets (c : Change) : List Combo := c.running :: c.loaded.toList

/-- First failing header check of a lane (Table 14.3). -/
def State.laneHeaderBad (s : State) (h : ManHeader) (sigOk : Tri Bool) (ln : LaneId) : Option Nat :=
  headerBad h (s.lane ln).flash (sigOk.get ln) (decide (s.module = .closed)) false (s.lane ln).image s.change.sets

/-- Lanes that take part in a load: LnI powered. -/
def State.loadable (s : State) : List LaneId := LaneId.all.filter s.lnIOn

/-- The target slot of a lane is BAD and holds nothing (R397, R398). -/
def Lane.badTarget (L : Lane) : Lane :=
  let n := L.cfgRec.target
  { L with flash := (L.flash.setMan n none).putCfg (fun r => r.setSlot n 3 0) }

/-- Slot and refusal code of a manifest event. -/
def manVals (no : U32) (slot code : Nat) : List Int := [((no.toNat : Nat) : Int), ((slot : Nat) : Int), ((code : Nat) : Int)]

/-- MANIFEST_LOAD (R397): refused unless every lane IN-VOTE passes; a powered lane out of the vote that fails has its
target slot BAD. The target slots hold nothing valid until the body has been written. -/
def execManifestLoad (sess : Nat) (hdr : ManHeader) (sigOk : Tri Bool) (s : State) : Host.Outcome State Fault Refusal :=
  if s.commissioner sess then
    let s0 := s.keepAlive sess
    let slot := (s0.lane s0.lead).cfgRec.target
    match s0.voters.findSome? (s0.laneHeaderBad hdr sigOk) with
    | some code => ok (s0.logChange sess .manifestRefused (manVals hdr.number slot code))
    | none =>
      if s0.voters = [] then ok (s0.logChange sess .manifestRefused (manVals hdr.number slot 0))
      else
        let good := s0.loadable.filter (fun ln => (s0.laneHeaderBad hdr sigOk ln).isNone)
        let bad := s0.loadable.filter (fun ln => (s0.laneHeaderBad hdr sigOk ln).isSome)
        let s1 := s0.mapLanes (fun ln L => if s0.lnIOn ln then L.badTarget else L)
        let s2 := bad.foldl (fun s ln => s.raiseLane ln .change .manifestRefused
          (s0.who sess ++ manVals hdr.number slot ((s0.laneHeaderBad hdr sigOk ln).getD 0))) s1
        ok { s2 with change := { s2.change with
          loading := some hdr, loader := s0.who sess, loadLanes := good, staged := none } }
  else ok s

/-- The body has been written in a lane and compared with BODY_HASH (R398). `man` is the manifest as the lane reads it. -/
def Lane.takeBody (man : Manifest) (good : Bool) (L : Lane) : Lane :=
  let n := L.cfgRec.target
  if good then { L with flash := (L.flash.setMan n (some man)).putCfg (fun r => r.setSlot n 1 man.hdr.number) }
  else L.badTarget

/-- MANIFEST_BODY_WRITTEN (R398). -/
def execManifestBodyWritten (man : Manifest) (hashOk : Tri Bool) (s : State) : Host.Outcome State Fault Refusal :=
  if s.change.loading = some man.hdr then
    let ls := s.change.loadLanes.filter s.lnIOn
    let slot := (s.lane s.lead).cfgRec.target
    let s1 := s.mapLanes (fun ln L => if ls.contains ln then L.takeBody (Manifest.forLane man ln) (hashOk.get ln) else L)
    let good := ls.all (fun ln => hashOk.get ln)
    ok (({ s1 with change := { s1.change with loading := none, loadLanes := [] } } : State).raise .change
      (if good then .manifestLoaded else .manifestRefused) .svc (s.change.loader ++ manVals man.hdr.number slot 0))
  else ok s

/-- The background checks of a LOADED slot end in a lane (R399). -/
def Lane.verifySlot (slot : Nat) (gcmOk : Bool) (L : Lane) : Lane :=
  if L.cfgRec.slotState slot = 1 then
    match L.flash.man slot with
    | none => L
    | some m =>
      { L with flash := L.flash.putCfg (fun r =>
          r.setSlot slot (if gcmOk && loadOk m then 2 else 3) (r.slotNo slot)) }
  else L

/-- MANIFEST_VERIFIED (R399). -/
def execManifestVerified (slot : Nat) (gcmOk : Tri Bool) (s : State) : Host.Outcome State Fault Refusal :=
  let ls := s.loadable.filter (fun ln => decide ((s.lane ln).cfgRec.slotState slot = 1))
  if ls = [] then ok s
  else
    let s1 := s.mapLanes (fun ln L => if ls.contains ln then L.verifySlot slot (gcmOk.get ln) else L)
    let good := ls.all (fun ln => decide ((s1.lane ln).cfgRec.slotState slot = 2))
    let no := (s1.lane (ls.headD .l1)).cfgRec.slotNo slot
    ok (s1.raise .change (if good then .manifestVerified else .manifestRefused) .svc
      (noWho ++ manVals no slot 0))

/-- A configured word of an image. -/
def imgWord (b : ManBody) (key : Nat) : Option WordCfg := (b.words.find? (fun e => decide (e.1 = key))).map (·.2)

/-- Entries of the delta for one word (R409): its signature entry, its value where it is read-only or a K word, and itself
where it is carried and its B changes. -/
def wordDelta (old new : Option WordCfg) (key : Nat) : Nat :=
  let sig (w : Option WordCfg) := w.map (fun w => (w.b, w.owner, w.kind))
  let b (w : Option WordCfg) := w.map (fun (w : WordCfg) => w.b)
  let fixed := decide (spaceOf key = some .k) || new.any (fun w => decide (w.owner = 7))
  (if sig old = sig new then 0 else 1) +
  (if fixed then (if old.map (fun w => w.x) = new.map (fun w => w.x) then 0 else 1) else if b old = b new then 0 else 1)

/-- Entries of the delta from a manifest to another (R409): changed code words, and those of the words of both. -/
def deltaSize (old new : ManBody) : Nat :=
  let codes := new.code.filter (fun e => decide (Tbl.get 0 old.code e.1 ≠ e.2))
  let gone := old.code.filter (fun e => new.code.all (fun x => decide (x.1 ≠ e.1)))
  let removed := old.words.filter (fun e => (imgWord new e.1).isNone)
  codes.length + gone.length + ((new.words ++ removed).map (fun e => wordDelta (imgWord old e.1) (imgWord new e.1) e.1)).sum

/-- The delta of the change that stands in the slots. -/
def State.deltaNow (s : State) : Nat :=
  match s.man, s.newMan with
  | some old, some new => deltaSize old.body new.body
  | _, _ => 0

/-- MANIFEST_STAGED (R409): the deltas' CRC-64 are agreed, and the slot is VERIFIED in every lane that staged. -/
def execManifestStaged (crcs : Tri U64) (s : State) : Host.Outcome State Fault Refusal :=
  let c := crcs.get s.lead
  if s.voters.all (fun ln => decide (crcs.get ln = c) &&
      decide ((s.lane ln).cfgRec.slotState (s.lane ln).cfgRec.target = 2)) ∧ s.voters ≠ [] then
    ok { s with change := { s.change with staged := some s.deltaNow } }
  else ok { s with change := { s.change with staged := none } }

/-! ## Activation (R400, R401, R421) -/

/-- ACTIVATE_PENDING (R400): the slot that is not ACTIVE_MAN is to run after the next restart. -/
def execActivatePending (sess slot pending : Nat) (s : State) : Host.Outcome State Fault Refusal :=
  if s.commissioner sess then
    let r := (s.lane s.lead).cfgRec
    if slot = r.target ∧ (pending = 1 ∨ pending = 2) then
      ok (((s.keepAlive sess).logChange sess .manifestActivated (manVals (r.slotNo slot) slot 0)).mapFlash (fun f =>
        f.putCfg (fun r => { r with pending := pending })))
    else ok (s.refuse sess [((slot : Nat) : Int), ((pending : Nat) : Int)])
  else ok s

/-- Revisions of a firmware set as a change log record holds them. -/
def comboVals (c : Combo) : List Int :=
  [((c.lane.toNat : Nat) : Int), ((c.svc.toNat : Nat) : Int), ((c.plane.toNat : Nat) : Int)]

/-- Lane firmware slot that is not in use. -/
def CfgRec.otherFw (r : CfgRec) : Nat := if r.activeFw = 0 then 1 else 0

/-- Put a revision into a firmware slot. -/
def LaneFlash.setFw (f : LaneFlash) (slot : Nat) (rev : U32) : LaneFlash :=
  if slot = 0 then { f with fw0 := rev } else { f with fw1 := rev }

/-- FIRMWARE_LOAD (R421): the set goes into the slots not in use; an image that fails its signature is refused. -/
def execFirmwareLoad (sess : Nat) (set : Combo) (sigOk : Bool) (s : State) : Host.Outcome State Fault Refusal :=
  if s.commissioner sess then
    let s0 := s.keepAlive sess
    if sigOk then
      let s1 := (s0.logChange sess .firmwareLoaded (comboVals set)).mapFlash (fun f =>
        f.setFw (f.cfg.getD {}).otherFw set.lane)
      ok { s1 with change := { s1.change with loaded := some set } }
    else ok (s0.logChange sess .firmwareRefused (comboVals set))
  else ok s

/-- FIRMWARE_ACTIVATE (R401): a set that the active manifest's COMBO does not name is refused as COMBO_UNTESTED; another runs from the next BOOT. -/
def execFirmwareActivate (sess : Nat) (s : State) : Host.Outcome State Fault Refusal :=
  if s.commissioner sess then
    let s0 := s.keepAlive sess
    match s0.change.loaded with
    | none => ok (s0.logChange sess .firmwareRefused [])
    | some c =>
      if s0.man.all (fun m => inCombo m.hdr c) then
        let s1 := (s0.logChange sess .firmwareActivated (comboVals c)).mapFlash (fun f =>
          f.putCfg (fun r => { r with prevFw := some r.activeFw, activeFw := r.otherFw }))
        ok { s1 with change := { s1.change with previous := some s1.change.running, loaded := none } }
      else ok ((s0.raiseModule .fault .comboUntested (comboVals c)).logChange sess .firmwareRefused (comboVals c))
  else ok s

/-! ## The switch decision (R410-R412) -/

/-- Values of an online change event: who commanded it, both numbers and the switch cycle. -/
def State.onlineVals (s : State) (at_ : U32) : List Int :=
  let no (m : Option Manifest) : Int := match m with
    | none => 0
    | some m => ((m.hdr.number.toNat : Nat) : Int)
  s.change.changer ++ [no s.man, no s.newMan, ((at_.toNat : Nat) : Int)]

/-- The three lanes switch (R410 step 2). -/
def State.switchNow (s : State) (new : Manifest) (at_ : U32) : State :=
  let s1 := (s.raiseChange .module .onlineSwitched (s.onlineVals at_)).mapLanes (fun _ L =>
    (L.switchTo ((L.flash.man L.cfgRec.target).getD new)).activateTarget)
  let s2 : State := { s1 with change := { s1.change with switchCn := none, staged := none, firstNewCn := some at_ } }
  match s.body with
  | none => s2
  | some old => s2.changeWb old new.body

/-- SWITCH_DECISION (R410): at the end of P-SIGN of s − 1. When that cycle was skipped the switch moves on by one. -/
def execSwitchDecision (s : State) : Host.Outcome State Fault Refusal :=
  let L := s.lane s.lead
  match s.change.switchCn, s.newMan with
  | some at_, some new =>
    if L.cn + 1 = at_ then
      if !L.committed then ok { s with change := { s.change with switchCn := some (at_ + 1) } }
      else match s.onlineRefusal with
        | some r =>
          ok (({ s with change := { s.change with switchCn := none } } : State).raiseChange .module .onlineRefused
            (s.onlineVals at_ ++ [((r.1 : Nat) : Int), ((r.2 : Nat) : Int)]))
        | none => fin (s.switchNow new at_)
    else ok s
  | _, _ => ok s

end Sys2Proof.Machine
end

