-- ==== Sys2Proof/Machine/PilotOps.lean ====
section
/-! DEFINITION. Pilot debug replay (R109-R114). -/

namespace Sys2Proof.Machine

open Sys2Proof

/-- Lane 1 is stopped in pass 1 of the captured cycle, where the debugger works. -/
def State.pilotPass1 (s : State) : Bool := s.pilot.isSome && decide (s.lanes.l1.pass = some .p1)

/-- Some lane is REJOINING. -/
def State.anyRejoin (s : State) : Bool := LaneId.all.any (fun ln => decide (s.laneState ln = .rejoining))

/-- The conditions to open a session (R109). -/
def State.mayPilot (s : State) : Bool :=
  decide (s.module = .test) && decide (s.voters.length = 3) && s.rot.active.isNone && !s.anyRejoin &&
  s.change.switchCn.isNone && s.pilot.isNone && !s.pilotDue

/-- PILOT_OPEN (R109, R110): Lane 1 captures this cycle when it has agreed the inputs of it and not yet started PASS1;
else it captures the next, at its PASS1 strobe. -/
def execPilotOpen (sess : Nat) (s : State) : Host.Outcome State Fault Refusal :=
  if s.commissioner sess then
    let s1 := s.keepAlive sess
    let s0 : State := { s1 with change := { s1.change with pilotBy := s1.who sess } }
    if s0.mayPilot then
      fin (if s0.lanes.l1.readyForPass1 then s0.capture else { s0 with pilotDue := true })
    else fin (s0.logChange sess .pilotRefused [])
  else fin s

/-- Rewrite the session. -/
def State.updPilot (s : State) (f : Pilot → Pilot) : State := { s with pilot := s.pilot.map f }

/-- A report to the debugger that its request is refused. -/
def State.pilotRefuse (s : State) : State :=
  (s.updPilot (fun p => { p with reply := none })).raise .info .pilotRefused .svc []

/-- PILOT_BREAKPOINT_SET (R111): up to 16. An occurrence count of 0 stands for none. -/
def execPilotBreakpointSet (core : CoreId) (idx occ : Nat) (s : State) : Host.Outcome State Fault Refusal :=
  match s.pilot with
  | none => ok s
  | some p =>
    if p.breakpoints.length < 16 then
      ok (s.updPilot (fun p => { p with breakpoints := p.breakpoints ++ [(core.idx, idx, occ)] }))
    else ok s.pilotRefuse

/-- Where a core of Lane 1 stands: its index, and which occurrence of it comes next. -/
def Core.place (c : Core) : Nat × Nat := (c.pc, Tbl.get 0 c.occ c.pc + 1)

/-- Lane 1 stops at a core's index. -/
def State.stopAt (s : State) (core : CoreId) : State :=
  s.updPilot (fun p => { p with stoppedAt := some (core.idx, (s.lanes.l1.cores.get core).pc) })

/-- PILOT_STEP (R111): one instruction of a core of Lane 1 in pass 1. -/
def execPilotStep (core : CoreId) (s : State) : Host.Outcome State Fault Refusal :=
  if s.pilotPass1 then fin ((issueFetched .l1 core s).stopAt core) else fin s

/-- A register or word of Lane 1 decoded to its plain value (R111). -/
def Lane.inspect (L : Lane) (core : CoreId) (tgt : PilotTarget) : Option Int :=
  let c := L.cores.get core
  let coded (r : VReg) : Option Int := (checkWord .p1 r.c r.tag (stamp L.cn)).toOption
  match tgt with
  | .v n => coded (Tbl.get {} c.v n)
  | .p n => coded (Tbl.get {} c.p n)
  | .x n => some (Tbl.get ({} : XReg) c.x n).val.toInt
  | .word k => (L.decode .p1 k).toOption
  | .pc => some (c.pc : Int)
  | .cn => some (L.cn.toNat : Int)
  | .sg => some (c.sg.toNat : Int)

/-- PILOT_READ (R111). -/
def execPilotRead (core : CoreId) (tgt : PilotTarget) (s : State) : Host.Outcome State Fault Refusal :=
  if s.pilotPass1 then ok (s.updPilot (fun p => { p with reply := s.lanes.l1.inspect core tgt })) else ok s

/-- What the debugger may write (R111): any V, P or X register, any configured word of L, E, M or O. -/
def Lane.mayPoke (L : Lane) (tgt : PilotTarget) (x : Int) : Bool :=
  inS32 x &&
  (match tgt with
    | .v n => decide (n < 64)
    | .p n => decide (n < 8)
    | .x n => decide (n < 8)
    | .word k => L.configured k && (match spaceOf k with
      | some .l => true
      | some .e => true
      | some .m => true
      | some .o => true
      | some .t => false
      | some .i => false
      | some .k => false
      | none => false)
    | .pc => false
    | .cn => false
    | .sg => false)

/-- PILOT_WRITE (R111, R112): coded with A1, fed into SG, and entered in the replay journal; a write that finds the
journal full is refused. It stands after the generated code of its core, as in the replay; a memory write that finds the
pre-image journal full is a JOURNAL fault (Table 3.6). -/
def execPilotWrite (core : CoreId) (tgt : PilotTarget) (value : Int) (s : State) : Host.Outcome State Fault Refusal :=
  match s.pilot with
  | none => ok s
  | some p =>
    let L := s.lanes.l1
    let c := L.cores.get core
    if s.pilotPass1 then
      if p.journal.length < 256 ∧ L.mayPoke tgt value then
        match L.genTo .p1 core none with
        | .error e => fin (s.codedFault .l1 core.idx .p1 c.pc c.clk e)
        | .ok a =>
          match pilotApply .p1 core a.1 a.2 tgt value with
          | .error e => fin (s.codedFault .l1 core.idx .p1 c.pc a.2.clk e)
          | .ok r =>
            let s1 := s.putLane .l1 { r.1 with cores := r.1.cores.set core r.2 }
            fin (s1.updPilot (fun p => { p with
              journal := p.journal ++ [(core.idx, c.place.1, c.place.2, tgt, value)], reply := some value }))
      else ok s.pilotRefuse
    else ok s

/-- A breakpoint stands at a core's index, for any occurrence or for this one. -/
def Pilot.breaks (p : Pilot) (core : CoreId) (c : Core) : Bool :=
  p.breakpoints.any (fun b => decide (b.1 = core.idx) && decide (b.2.1 = c.pc) &&
    (decide (b.2.2 = 0) || decide (b.2.2 = c.place.2)))

/-- PILOT_BREAKPOINT_HIT (R111). -/
def execPilotBreakpointHit (core : CoreId) (s : State) : Host.Outcome State Fault Refusal :=
  match s.pilot with
  | none => ok s
  | some p => if s.pilotPass1 && p.breaks core (s.lanes.l1.cores.get core) then ok (s.stopAt core) else ok s

/-- Put the pre-images of the journal back, and Lane 1 where it stood at its capture; the agreed inputs stay (R113). -/
def Lane.rewind (p : Pilot) (L : Lane) : Lane :=
  let L1 := L.journal.foldl (fun L e => L.setWord e.pass e.key e.pre) L.gate
  { L1 with journal := [], cores := p.cores0, route := p.route0, sup := p.sup0, phase := .pAgree, faultRec := none
            ovr := false, snapTally := none }

/-- PILOT_RERUN (R113). -/
def execPilotRerun (s : State) : Host.Outcome State Fault Refusal :=
  match s.pilot with
  | none => ok s
  | some p =>
    ok ((s.updLane .l1 (Lane.rewind p)).updPilot (fun p =>
      { p with journal := [], ended := false, stoppedAt := none, reply := none }))

/-- PILOT_CLOSE (R114). -/
def execPilotClose (s : State) : Host.Outcome State Fault Refusal := fin s.endPilot

end Sys2Proof.Machine
end

