-- ==== Sys2Proof/Machine/Bist.lean ====
section
/-! DEFINITION. The items of the shutdown self-test: verdicts, results, marks, and an item cut short (R440-R447). -/

namespace Sys2Proof.Machine

open Sys2Proof

/-! ## Items (Table 15.7, R442) -/

/-- Duration of an item in ms. -/
def itemMs : Nat → Nat
  | 1 => 50 | 2 => 18000 | 3 => 60000 | 4 => 1000 | 5 => 400 | 6 => 1000 | 7 => 2000 | 8 => 500 | 9 => 2000 | 10 => 500
  | 11 => 8000 | 12 => 1500 | 13 => 10000 | 14 => 4000 | 15 => 500 | 16 => 3200 | 17 => 1500 | 18 => 800 | 19 => 200
  | _ => 0

/-- Terminal step count T of an item; the manual gives it for the SRAM march only (Table 15.9). -/
def itemTerminal (item : Nat) : Nat := if item = 3 then 62914560 else Config.bistTerminal item

/-- Items that scan (R440): they need the ZEROISED flag of their die. -/
def scanItem (item : Nat) : Bool := decide (item = 2) || decide (item = 11) || decide (item = 13)

/-- Lane of a unit. -/
def unitLane : Nat → Option LaneId
  | 0 => some .l1 | 1 => some .l2 | 2 => some .l3
  | _ => none

/-- Plane of a unit. -/
def unitPlane : Nat → Option PlaneId
  | 3 => some .a | 4 => some .b
  | _ => none

/-- Die of a unit. -/
def unitDie : Nat → Die
  | 0 => .lc1 | 1 => .lc2 | 2 => .lc3 | 3 => .pia | 4 => .pib
  | _ => .svc

/-- ZEROISED flag of a unit's die. -/
def State.zeroisedUnit (s : State) (unit : Nat) : Bool :=
  match unitLane unit, unitPlane unit with
  | some ln, _ => (s.lane ln).zeroised
  | none, some pl => (s.plane pl).zeroised
  | none, none => s.bist.svcZeroised

/-- Items a unit has not ended. -/
def State.itemsLeft (s : State) (unit : Nat) : List Nat := Tbl.get [] s.bist.left unit

/-- The item a unit runs now. Item 9 runs in one lane at a time, in order (R442). -/
def State.itemRunning (s : State) (unit : Nat) : Option Nat :=
  if !s.bist.running then none
  else match s.itemsLeft unit with
    | [] => none
    | i :: _ =>
      if i = 9 ∧ (List.range unit).any (fun u => (s.itemsLeft u).contains 9) then none else some i

/-! ## Verdicts (R443) -/

/-- SIGF: the compactor continued over STEP. -/
def sigf (compactor : U64) (step : Nat) : U64 := crc64Word compactor (BitVec.ofNat 64 step)

/-- Verdict of an item. -/
def verdict (item step : Nat) (f : U64) (ready : Bool) : BistResult :=
  if !ready then .notRun
  else if step ≠ itemTerminal item then .cut
  else if f = Config.bistExpected item then .pass
  else .fail

/-! ## Marks (R446, R447, Table 15.8) -/

/-- What a FAIL of an item may mark, among the parts it names. -/
def mayMark (unit item : Nat) (m : Mark) : Bool :=
  match m with
  | .slot ln _ => decide (item = 4) && decide (unitLane unit = some ln)
  | .link _ => decide (item = 7)
  | .channel _ => decide (item = 8) || decide (item = 9)
  | .sdr _ => decide (item = 9)
  | .stage _ => decide (item = 10)
  | .plane pl => decide (item = 12) && decide (unitPlane unit = some pl)
  | .port pl _ => decide (item = 12) && decide (unitPlane unit = some pl)
  | .recordSlot _ => decide (item = 16)
  | .frameSlot _ => decide (item = 17)
  | .supercap => decide (item = 17)
  | .svcPort _ => decide (item = 18)
  | .lane _ => false
  | .retention _ => false
  | .svc => false

/-- The units a FAIL marks unusable. -/
def failMarks (unit item : Nat) (found : List Mark) : List Mark :=
  match unitLane unit, unitPlane unit with
  | some ln, _ =>
    if item = 2 ∨ item = 3 ∨ item = 6 then [.lane ln]
    else if item = 5 then [.retention ln]
    else found.filter (mayMark unit item)
  | none, some pl => if item = 11 then [.plane pl] else found.filter (mayMark unit item)
  | none, none => if item = 13 ∨ item = 14 then [.svc] else found.filter (mayMark unit item)

/-- A mark stands for a channel of a supply that was absent: the item did not run on it (R442). -/
def notRunOn (absent : List Nat) (m : Mark) : Bool :=
  match m with
  | .channel ch => absent.contains (supplyOf ch)
  | .sdr _ => absent.contains 3
  | _ => false

/-- Marks after a verdict: a PASS clears those of the item, a FAIL adds to them, and the other verdicts change none; nor
does any for a channel that the item did not run on. -/
def markList (l : List (Nat × Mark)) (key : Nat) (r : BistResult) (absent : List Nat) (ms : List Mark) :
    List (Nat × Mark) :=
  match r with
  | .pass => l.filter (fun e => decide (e.1 ≠ key) || notRunOn absent e.2)
  | .fail => l ++ (ms.map (fun m => (key, m))).filter (fun e => !l.contains e)
  | .cut => l
  | .notRun => l

/-! ## Results (R445) -/

/-- Write a result: lane items to the lane's flash, the others to the service flash. -/
def State.putResult (s : State) (unit : Nat) (r : BistRec) (ms : List Mark) : State :=
  match unitLane unit with
  | some ln =>
    s.updLane ln (fun L => { L with flash := { L.flash with
      bist := L.flash.bist.filter (fun x => decide (x.item ≠ r.item)) ++ [r]
      marks := markList L.flash.marks r.item r.result r.absent ms } })
  | none =>
    { s with bist := { s.bist with
      results := Tbl.set none s.bist.results (unit * 32 + r.item) (some r)
      stored := markList s.bist.stored (unit * 32 + r.item) r.result r.absent ms } }

/-- BIST_DUE is logged, or at the next BOOT when the logbook has stopped (R444). -/
def State.bistDue (s : State) : State :=
  if s.logWrites then s.raise .warn .bistDue .svc [] else { s with bist := { s.bist with due := true } }

/-- An item of a unit ends with a result. -/
def State.endItem (s : State) (unit : Nat) (r : BistRec) (ms : List Mark) : State :=
  let s1 := s.putResult unit r ms
  let s2 := s1.raise .bist .bistItem (unitDie unit)
    [((r.item : Nat) : Int), ((resultCode r.result : Nat) : Int), ((r.step : Nat) : Int), ((r.terminal : Nat) : Int),
      ((r.sigf.toNat : Nat) : Int), ((r.durMs : Nat) : Int)]
  let s3 : State := { s2 with bist := { s2.bist with
    left := Tbl.set [] s2.bist.left unit ((s2.itemsLeft unit).filter (fun i => decide (i ≠ r.item)))
    full := s2.bist.full && (decide (r.result = .pass) || decide (r.result = .fail))
    newMarks := if r.result = .fail then s2.bist.newMarks ++ ms else s2.bist.newMarks } }
  if r.result = .cut then s3.bistDue else s3

/-- Item 1 passed: the die has zeroised its secrets and sets its flag (R440). -/
def State.zeroise (s : State) (unit : Nat) : State :=
  match unitLane unit, unitPlane unit with
  | some ln, _ => s.updLane ln (fun L => { L with zeroised := true, image := none, code := [] })
  | none, some pl => s.updPlane pl (fun p => { p with zeroised := true, relayStore := [], relayOut := [] })
  | none, none =>
    { s with bist := { s.bist with svcZeroised := true }
             access := { s.access with sessions := [], reply := [] } }

/-- BIST_ITEM_END (R443); `absent` are the field supplies absent while item 9 ran (R442). -/
def execBistItemEnd (unit item step : Nat) (compactor : U64) (ready : Bool) (durMs : Nat) (found : List Mark)
    (absent : List Nat) (s : State) : Host.Outcome State Fault Refusal :=
  if s.itemRunning unit = some item then
    let f := sigf compactor step
    let v := verdict item step f (ready && (!scanItem item || s.zeroisedUnit unit))
    let out := if item = 9 then absent else []
    let ms := if v = .fail then (failMarks unit item found).filter (fun m => !notRunOn out m) else []
    let s1 := s.endItem unit ⟨item, v, step, itemTerminal item, f, durMs, out⟩ ms
    ok (if item = 1 ∧ v = .pass then s1.zeroise unit else s1)
  else ok s

/-- BIST_ITEM_OVERTIME (R444): beyond twice its duration an item is cut short. -/
def execBistItemOvertime (unit item step durMs : Nat) (s : State) : Host.Outcome State Fault Refusal :=
  if s.itemRunning unit = some item ∧ 2 * itemMs item < durMs then
    let s1 := s.endItem unit ⟨item, .cut, step, itemTerminal item, (Config.cutReading s.draw).2.1, durMs, []⟩ []
    ok { s1 with draw := s1.draw + 1 }
  else ok s

/-- The item that a unit runs ends as CUT, and the unit runs no further one (R444). -/
def State.cutUnit (s : State) (unit : Nat) : State :=
  match s.itemRunning unit with
  | none => { s with bist := { s.bist with left := Tbl.set [] s.bist.left unit [] } }
  | some i =>
    let c := Config.cutReading s.draw
    let s1 := s.endItem unit ⟨i, .cut, c.1, itemTerminal i, c.2.1, c.2.2, []⟩ []
    { s1 with draw := s1.draw + 1, bist := { s1.bist with left := Tbl.set [] s1.bist.left unit [] } }

/-- Every running item is cut short, and the BIST ends. -/
def State.cutBist (s : State) : State :=
  if s.bist.running then
    let s1 := bistUnits.foldr (fun u s => State.cutUnit s u) s
    { s1 with bist := { s1.bist with running := false, left := [] } }
  else s

end Sys2Proof.Machine
end

