-- ==== Sys2Proof/Machine/Power.lean ====
section
/-! DEFINITION. Power: feeds, the power-fail warning, the domains and their sequencer, PWR_REQ, and what the module keeps
without power (R463, R465-R475, Table 17.1, Table 17.2). -/

namespace Sys2Proof.Machine

open Sys2Proof

/-! ## Feeds (R465, R467) -/

/-- PFn_OK with its hysteresis (R467). -/
def pfStep (prev : Bool) (mv : Nat) : Bool := if 16800 < mv then true else if mv < 16300 then false else prev

/-- The feeds after a measurement. -/
def Power.measure (p : Power) (feed mv : Nat) : Power :=
  let f := if feed = 0 then (mv, p.feedMv.2) else (p.feedMv.1, mv)
  let o := if feed = 0 then (pfStep p.pfOk.1 mv, p.pfOk.2) else (p.pfOk.1, pfStep p.pfOk.2 mv)
  { p with feedMv := f, pfOk := o, holdUpOn := decide (f.1 < 16000) && decide (f.2 < 16000) }

/-- FEED_LEVEL_CHANGE (R467): the loss of a feed is logged as FEED_LOW (R465). -/
def execFeedLevelChange (feed mv : Nat) (s : State) : Host.Outcome State Fault Refusal :=
  let p := s.power.measure feed mv
  let lost := if feed = 0 then s.power.pfOk.1 && !p.pfOk.1 else s.power.pfOk.2 && !p.pfOk.2
  let s1 : State := { s with power := p }
  ok (if lost then s1.raise .warn .feedLow .carrier [((feed + 1 : Nat) : Int)] else s1)

/-! ## What survives without power -/

/-- Memory of the scan map that keeps its content: service flash, logbook MRAM and black-box MRAM (Table 16.3). -/
def keptMemory (m : Memory) : Memory :=
  m.filter (fun e => decide (0x0100000000 ≤ e.1) && decide (e.1 < 0x0380000000))

/-- A lane without power: its flash and its retention record remain (R23). -/
def Lane.unpowered (L : Lane) : Lane := { flash := L.flash, retention := L.retention }

/-- The module without power: flash, MRAM, the controllers on the lines, and what stands outside it remain. DESIGN CHOICE,
log entry 87: the end of the previous rotating test, and whose turn it is, remain too, as operating time does (R222). -/
def State.unpowered (s : State) : State :=
  { State.reset with
    pending := s.pending, now := s.now, draw := s.draw
    lanes := s.lanes.map Lane.unpowered
    rot := { lastEnd := s.dropTest.rot.lastEnd, next := s.dropTest.rot.next }
    ctrls := s.ctrls
    pair := { variantP := s.pair.variantP, unitPins := s.pair.unitPins }
    access := { accounts := s.access.accounts, saltDraw := s.access.saltDraw }
    change := { running := s.change.running, loaded := s.change.loaded, previous := s.change.previous }
    log := { s.log with q := [], dropped := 0, stopped := true, opsecOff := s.now - s.log.opsecCell * 1000000000 }
    snap := { frameSeq := s.snap.frameSeq, ring := s.snap.ring, supercapOk := s.snap.supercapOk
              staged := if s.bbPower then s.snap.staged else none }
    bist := { results := s.bist.results, stored := s.bist.stored, marks := s.bist.marks, lastFull := s.bist.lastFull
              due := s.bist.due }
    power := { feedMv := s.power.feedMv, pfOk := s.power.pfOk, holdUpOn := s.power.holdUpOn, ibcOk := s.power.ibcOk
               stageOk := s.power.stageOk, temps := s.power.temps }
    mem := keptMemory s.mem }

/-! ## Power-fail warning and power-down (R468, Table 17.1) -/

/-- A lane at the power-fail warning: everything gated and open; a lane IN-VOTE has its retention record written. -/
def Lane.powerFail (me : LaneId) (L : Lane) : Lane :=
  match L.views.get me with
  | .inVote => L.retain.gate.openAll
  | .outTest => L.gate.openAll
  | .outFault => L.gate.openAll
  | .rejoining => L.gate.openAll
  | .laneOff => L.gate.openAll

/-- POWER_FAIL_WARNING (R468). -/
def execPowerFailWarning (s : State) : Host.Outcome State Fault Refusal :=
  if s.power.feedMv.1 < 15000 ∧ s.power.feedMv.2 < 15000 ∧ s.power.on ≠ 0 ∧ !s.power.pfw then
    let s1 : State := { s with log := { s.log with stopped := true, opsecCell := s.opsec } }
    let s2 := (s1.cutBist.breakLoad).mapLanes Lane.powerFail
    ok { s2 with
      module := .powerOff
      planes := s2.planes.map (fun p => { p with sending := false, running := false, coldNext := false, stop := .powerFail })
      pair := { s2.pair with listenUntil := none }
      power := { s2.power with pfw := true } }
  else ok s

/-- DOMAIN_POWER_DOWN (R468). -/
def execDomainPowerDown (s : State) : Host.Outcome State Fault Refusal := if s.power.pfw then ok s.unpowered else ok s

/-! ## The sequencer (R473, R474) -/

/-- Bit of a domain in PWR_STAT. -/
def domBit : Domain → Nat
  | .aon => 0 | .nvm => 1 | .svc => 2 | .l1c => 3 | .l2c => 4 | .l3c => 5 | .l1i => 6 | .l2i => 7 | .l3i => 8
  | .neta => 9 | .netb => 10 | .vliof => 11

/-- Order of coming up. -/
def domOrder : List Domain := [.aon, .nvm, .svc, .l1i, .l2i, .l3i, .l1c, .l2c, .l3c, .neta, .netb, .vliof]

/-- Mask of one domain. -/
def domMask (d : Domain) : BitVec 12 := (1 : BitVec 12) <<< domBit d

/-- Lane of a lane domain, and whether it is the LnI domain. -/
def domLane : Domain → Option (LaneId × Bool)
  | .l1c => some (.l1, false) | .l2c => some (.l2, false) | .l3c => some (.l3, false)
  | .l1i => some (.l1, true) | .l2i => some (.l2, true) | .l3i => some (.l3, true)
  | .aon => none | .nvm => none | .svc => none | .neta => none | .netb => none | .vliof => none

/-- Plane of a plane domain. -/
def domPlane : Domain → Option PlaneId
  | .neta => some .a | .netb => some .b
  | .aon => none | .nvm => none | .svc => none | .l1c => none | .l2c => none | .l3c => none
  | .l1i => none | .l2i => none | .l3i => none | .vliof => none

/-- Domains of a mask, in the order of coming up. -/
def domsOf (mask : BitVec 12) : List Domain := domOrder.filter (fun d => mask.getLsbD (domBit d))

/-- Number of LnI domains with power. -/
def Power.lnIs (p : Power) : Nat := (LaneId.all.filter (fun ln => p.pg.getLsbD (6 + ln.idx))).length

/-- The dependencies of R473. -/
def State.mayPower (s : State) (d : Domain) : Bool :=
  match domLane d, domPlane d with
  | some (ln, false), _ => s.lnIOn ln
  | some (_, true), _ => true
  | none, some _ => s.uplink.up
  | none, none => decide (d ≠ .vliof) || decide (2 ≤ s.power.lnIs)

/-- The domain stays off, and is logged (R473). -/
def State.domainMissed (s : State) (d : Domain) : State :=
  ({ s with power := { s.power with on := s.power.on &&& ~~~domMask d, seqMissed := true } } : State).raise
    .warn .domainMissed .carrier [((domBit d : Nat) : Int)]

/-- The sequence ends; of a request, its result is set (R463). -/
def State.seqEnd (s : State) : State :=
  { s with power := { s.power with
      seq := [], seqByReq := false, seqMissed := false
      resultDone := s.power.resultDone || s.power.seqByReq
      resultCode := if s.power.seqByReq then (if s.power.seqMissed then 4 else 0) else s.power.resultCode } }

/-- The sequence goes on with the next domain: one that is up already is passed by, one whose dependencies do not hold
stays off, and any other is switched on. -/
def State.seqNext (s : State) : List Domain → State
  | [] => s.seqEnd
  | d :: r =>
    if s.power.pg.getLsbD (domBit d) then s.seqNext r
    else if s.mayPower d then { s with power := { s.power with on := s.power.on ||| domMask d, seq := d :: r } }
    else (s.domainMissed d).seqNext r

/-- The image a lane starts on: the manifest its own record names, unless the module runs the factory CLOSED image. -/
def State.ownImage (s : State) (ln : LaneId) : Option Manifest :=
  if s.man.isNone then none
  else match (s.lane ln).cfgRec.activeMan with
    | none => none
    | some n => (s.lane ln).flash.man n

/-- A lane has its start done: REJOINING while the module runs, the lane state of HALT or of the self-test otherwise
(R463, R478). -/
def State.laneStart (s : State) (ln : LaneId) (trips : Trips) : State :=
  if s.testing then
    s.mapLanes (fun m L =>
      if m = ln then { L.openAll with views := L.views.set ln .outTest, cause := .shutdown }
      else { L with views := L.views.set ln .outTest })
  else if s.module = .halt then
    s.mapLanes (fun m L =>
      if m = ln then { L.openAll with views := L.views.set ln .outFault, cause := .halt }
      else { L with views := L.views.set ln .outFault })
  else if runsCycle s.module then
    ((s.updLane ln (fun L => { L with image := s.ownImage ln })).calibrate ln trips).startRejoin ln
  else s

/-- A lane whose supply has come back by a request: LANE-OFF, or OUT-FAULT for want of it. -/
def State.laneDown (s : State) (ln : LaneId) : Bool :=
  decide (s.laneState ln = .laneOff) || decide (s.laneState ln = .outFault)

/-- What a domain does when it has power; `trips` are the round trips of a lane that starts (R53). -/
def State.domainUp (s : State) (d : Domain) (trips : Trips) : State :=
  match domLane d, domPlane d with
  | some (ln, false), _ =>
    let s1 := s.updLane ln (fun L => { L with zeroised := false })
    if s1.lnIOn ln && s1.laneDown ln then s1.laneStart ln trips else s1
  | some (ln, true), _ =>
    if s.power.pg.getLsbD (3 + ln.idx) && s.laneDown ln then s.laneStart ln trips else s
  | none, some pl => s.putPlane pl {}
  | none, none =>
    if d = .nvm then { s with log := { s.log with stopped := false } }
    else if d = .vliof then { s with power := { s.power with feedAt := s.now } }
    else if d = .svc then
      State.deliverAll
        ({ s with
          uplink := { s.uplink with up := true, linkAccepted := true, limited := s.marked .svc }
          ptp := { edgeAt := s.now, quiet := ⟨s.now, s.now⟩, syncAt := s.now }
          bist := { s.bist with svcZeroised := false } } : State)
    else s

/-- DOMAIN_POWER_GOOD (R473). -/
def execDomainPowerGood (d : Domain) (trips : Trips) (s : State) : Host.Outcome State Fault Refusal :=
  match s.power.seq with
  | [] => fin s
  | h :: r =>
    if h = d then
      fin ((State.domainUp { s with power := { s.power with pg := s.power.pg ||| domMask d } } d trips).seqNext r)
    else fin s

/-- DOMAIN_PG_TIMEOUT (R473). -/
def execDomainPgTimeout (d : Domain) (s : State) : Host.Outcome State Fault Refusal :=
  match s.power.seq with
  | [] => fin s
  | h :: r => if h = d then fin ((s.domainMissed d).seqNext r) else fin s

/-! ## Switching domains off, and their loss (R463, R472) -/

/-- Domains lose power. -/
def State.cutPower (s : State) (mask : BitVec 12) : State :=
  { s with power := { s.power with on := s.power.on &&& ~~~mask, pg := s.power.pg &&& ~~~mask } }

/-- A plane chip has no power: it forgets everything, and its hawser port is down. -/
def State.planeDown (s : State) (pl : PlaneId) : State :=
  let s1 := (s.cutPower (if pl.bit then 0x400 else 0x200)).putPlane pl {}
  { s1 with pair := { s1.pair with status := s1.pair.status.set pl none, linkUp := s1.pair.linkUp.set pl false
                                   statusOut := s1.pair.statusOut.set pl none } }

/-- One domain goes off by a request (R463): a lane domain makes its lane LANE-OFF. -/
def State.domainOff (s : State) (d : Domain) : State :=
  match domLane d, domPlane d with
  | some (ln, false), _ => (s.cutPower (domMask d)).laneOff ln
  | some (ln, true), _ => (s.cutPower (domMask d ||| lnC ln)).laneOff ln
  | none, some pl => s.planeDown pl
  | none, none => s.cutPower (domMask d)

/-- LANE_SUPPLY_LOSS (R472). A self-test item that the lane runs is cut short (R444). -/
def execLaneSupplyLoss (ln : LaneId) (ofLnI : Bool) (s : State) : Host.Outcome State Fault Refusal :=
  fin ((s.cutUnit ln.idx).supplyLoss ln ofLnI)

/-- DOMAIN_PG_LOSS (R472, Table 17.2): AON takes the module to POWER-OFF, NVM is NVM_FAIL, SVC is as a failure of SVC, a
plane is lost, VLIOF leaves inputs unknown and outputs de-energised; a lane's is LANE_SUPPLY_LOSS. Each is logged (R40):
by the lanes, which miss the link of a plane or of SVC. -/
def execDomainPgLoss (d : Domain) (s : State) : Host.Outcome State Fault Refusal :=
  if s.power.pg.getLsbD (domBit d) then
    match domLane d, domPlane d with
    | some (ln, i), _ => fin ((s.cutUnit ln.idx).supplyLoss ln i)
    | none, some pl =>
      fin (((s.cutUnit (if pl.bit then 4 else 3)).planeDown pl).raiseModule .fault .planeLost [flag pl.bit])
    | none, none =>
      if d = .aon then fin s.unpowered
      else if d = .nvm then fin ((s.cutPower (domMask d)).raise .fault .nvmFail .carrier [])
      else if d = .svc then fin (((s.cutUnit 5).svcDown.cutPower (domMask d)).raiseModule .fault .svcLost [])
      else fin ((s.cutPower (domMask d)).raiseModule .fault .vliofLost [])
  else fin s

/-! ## PWR_REQ (R463) -/

/-- Lanes whose LnC or LnI domain a mask names. -/
def maskLanes (mask : BitVec 12) : List LaneId :=
  LaneId.all.filter (fun ln => mask.getLsbD (3 + ln.idx) || mask.getLsbD (6 + ln.idx))

/-- First refusal case of a request, judged as a whole; 0 for none. -/
def State.reqRefusal (s : State) (mask : BitVec 12) (off : Bool) : Nat :=
  let left := (s.voters.filter (fun ln => !(maskLanes mask).contains ln)).length
  let a := mask.getLsbD 9
  let b := mask.getLsbD 10
  if mask.getLsbD 0 || mask.getLsbD 1 || mask.getLsbD 2 then 1
  else if off && decide (maskLanes mask ≠ []) && decide (left < 2) then 2
  else if off && mask.getLsbD 11 && (commandsNet s.module || decide (s.module = .standby)) then 3
  else if off && ((a && b) || (a && !s.planeOn .b) || (b && !s.planeOn .a)) then 3
  else 0

/-- A request is written: its fields, and its result when it ends at once. -/
def State.noteReq (s : State) (mask : BitVec 12) (off : Bool) (done : Bool) (code : Nat) : State :=
  { s with power := { s.power with
      reqMask := mask, reqOff := off, resultDone := s.power.resultDone || done
      resultCode := if done then code else s.power.resultCode } }

/-- An on-request (R463). -/
def State.requestOn (s : State) (mask : BitVec 12) : State :=
  let c := s.reqRefusal mask false
  if c ≠ 0 then s.noteReq mask false true c
  else
    let s1 := s.noteReq mask false false 0
    State.seqNext { s1 with power := { s1.power with
      seqByReq := true, seqMissed := false, offByReq := s1.power.offByReq &&& ~~~mask } } (domsOf mask)

/-- An off-request (R463). -/
def State.requestOff (s : State) (mask : BitVec 12) : State :=
  let c := s.reqRefusal mask true
  if c ≠ 0 then s.noteReq mask true true c
  else
    let s1 := (domsOf mask).reverse.foldl State.domainOff (s.noteReq mask true true 0)
    { s1 with power := { s1.power with offByReq := s1.power.offByReq ||| mask } }

/-- PWR_REQ_ON (R463): a write to an RWL register. -/
def execPwrReqOn (mask : BitVec 12) (t : Nat) (s : State) : Host.Outcome State Fault Refusal :=
  if s.svcOn then fin (s.rwl .pwr 4 t (fun s => s.requestOn mask)) else fin s

/-- PWR_REQ_OFF (R463). -/
def execPwrReqOff (mask : BitVec 12) (t : Nat) (s : State) : Host.Outcome State Fault Refusal :=
  if s.svcOn then fin (s.rwl .pwr 4 t (fun s => s.requestOff mask)) else fin s

/-! ## Converters, coding pins, temperature (R465, R40, R484, R489) -/

/-- IBC_FAIL (R465): the other converter carries full load. -/
def execIbcFail (n : Nat) (s : State) : Host.Outcome State Fault Refusal :=
  let p := { s.power with ibcOk := if n = 1 then (false, s.power.ibcOk.2) else (s.power.ibcOk.1, false) }
  ok (({ s with power := p } : State).raise .warn .ibcFail .carrier [((n : Nat) : Int)])

/-- VLIOF_STAGE_FAIL (R40): the lanes see it, and the other stage carries. -/
def execVliofStageFail (n : Nat) (s : State) : Host.Outcome State Fault Refusal :=
  let p := { s.power with stageOk := if n = 1 then (false, s.power.stageOk.2) else (s.power.stageOk.1, false) }
  ok (({ s with power := p } : State).raiseModule .warn .vliofStage [((n : Nat) : Int)])

/-- UNITSEL_CHANGE (R484): read at BOOT only, so a later change is logged and ignored. -/
def execUnitselChange (pinA pinB : Bool) (s : State) : Host.Outcome State Fault Refusal :=
  if s.module = .powerOff ∨ s.module = .boot then ok { s with pair := { s.pair with unitPins := (pinA, pinB) } }
  else
    ok (({ s with pair := { s.pair with unitPins := (pinA, pinB) } } : State).raiseModule .info .unitChange
      [flag pinA, flag pinB])

/-- Die of a number 0-5: LC1-LC3, PIA, PIB, SVC. -/
def dieOf (n : Nat) : Die := unitDie n

/-- TEMP_HIGH (R489): logged above 105 °C; no vital action. -/
def execTempHigh (die : Nat) (celsius : Int) (s : State) : Host.Outcome State Fault Refusal :=
  let s1 : State := { s with power := { s.power with temps := Tbl.set 0 s.power.temps die celsius } }
  if 105 < celsius then
    ok (match unitLane die with
      | some ln => s1.raiseLane ln .warn .tempHigh [celsius]
      | none => s1.raise .warn .tempHigh (dieOf die) [celsius])
  else ok s1

end Sys2Proof.Machine
end

