-- ==== Sys2Proof/Machine/Boot.lean ====
section
/-! DEFINITION. BOOT (R471, R477): its start by power-good and by a command, the checks of firmware, configuration and
manifest (R396, R400-R402), cold and warm start (R404-R407), and the state it ends in (Table 17.4). -/

namespace Sys2Proof.Machine

open Sys2Proof

/-! ## The start of BOOT (R446, R471, R474, R481) -/

/-- Marks as BOOT reads them: those of every lane's flash, and those of the service flash (R446). -/
def State.readMarks (s : State) : List Mark :=
  ((LaneId.all.flatMap (fun ln => (s.lane ln).flash.marks)) ++ s.bist.stored).map (fun (e : Nat × Mark) => e.2)

/-- Record slots that the logbook skips (Table 15.8). -/
def markedRecords (ms : List Mark) : List Nat :=
  ms.filterMap (fun m => match m with
    | .recordSlot n => some n
    | _ => none)

/-- The marks take effect. -/
def State.applyMarks (s : State) : State :=
  let ms := s.readMarks
  { s with bist := { s.bist with marks := ms }, log := { s.log with skip := markedRecords ms } }

/-- A lane does not start: it is marked, or it is the higher-numbered end of a marked link (Table 15.8). -/
def State.laneHeld (s : State) (ln : LaneId) : Bool :=
  s.marked (.lane ln) ||
  [ClxLink.l12, ClxLink.l23, ClxLink.l13].any (fun l => s.marked (.link l) && decide (l.ends.2 = ln))

/-- A domain is held off by a mark (R474, Table 15.8). -/
def State.domainHeld (s : State) (d : Domain) : Bool :=
  match domPlane d with
  | some pl => s.marked (.plane pl)
  | none => false

/-- The sequencer switches domains on, from the first of the order. -/
def State.powerOn (s : State) (mask : BitVec 12) : State :=
  State.seqNext { s with power := { s.power with seqByReq := false, seqMissed := false } }
    ((domsOf mask).filter (fun d => !s.domainHeld d))

/-- What a lane's age cell reads (R405). -/
def ageCell (offUs draw idx : Nat) : Bool :=
  if offUs ≤ 1600000 then true else if 2000000 ≤ offUs then false else Config.ageCellReads idx draw

/-- POWER_GOOD (R471, R405): BOOT starts; the age cells show how long power was off. -/
def execPowerGood (t offUs : Nat) (s : State) : Host.Outcome State Fault Refusal :=
  let s0 := s.touch t
  if s0.module = .powerOff ∧ s0.power.on = 0 ∧ (s0.power.pfOk.1 ∨ s0.power.pfOk.2) then
    let s1 := (s0.mapLanes (fun ln L => { L with fresh := ageCell offUs s0.draw ln.idx })).applyMarks
    ok (State.powerOn { s1 with
      module := .boot, draw := s0.draw + 1
      change := { s1.change with bootAt := s1.now }
      log := { s1.log with pwrcyc := (s1.log.pwrcyc + 1) % 2 ^ 24 }
      snap := { s1.snap with staged := none } } 0xFFF)
  else ok s0

/-- A lane while BOOT runs after a command: its flash, its retention record, its input paths, its frozen banks and the
events it holds stay. -/
def Lane.booting (L : Lane) : Lane :=
  { flash := L.flash, retention := L.retention, inp := L.inp, heldEvents := L.heldEvents, lostEvents := L.lostEvents
    lateChanges := L.lateChanges
    bank := L.bank, xbank := L.xbank, xmissed := L.xmissed, zeroised := L.zeroised, fresh := true }

/-- BOOT starts by a command (R481): every powered domain stays on, and those that PWR_REQ has switched off come on
again, but not a plane that is marked (R474). -/
def State.enterBoot (s : State) (cold : Bool) : State :=
  let s1 := ((s.dropTest.dropPilot.cutBist.breakLoad).setModule .boot).mapLanes (fun _ L => L.booting)
  let s2 := (State.deliverAll { s1 with
    planes := s1.planes.map (fun p => ({ zeroised := p.zeroised } : Plane))
    skippedCn := none
    rot := { lastEnd := s1.rot.lastEnd, next := s1.rot.next }
    pair := { variantP := s1.pair.variantP, unitB := s1.pair.unitB, unitPins := s1.pair.unitPins, clm := s1.pair.clm
              status := s1.pair.status, linkUp := s1.pair.linkUp }
    uplink := { up := s1.svcOn, linkAccepted := true, cmdSeq := s1.uplink.cmdSeq, mac := s1.uplink.mac }
    access := { s1.access with sessions := [], reply := [] }
    change := { s1.change with switchCn := none, staged := none, firstNewCn := none, bootAt := s1.now
                               coldAsked := cold, fullChecksPassed := false }
    bist := { s1.bist with running := false, ready := false, shutdownDue := false, left := [], newMarks := [] } }).applyMarks
  let s3 : State := { s2 with uplink := { s2.uplink with limited := s2.marked .svc } }
  let s4 := [PlaneId.a, PlaneId.b].foldl (fun s pl => if s.marked (.plane pl) then s.planeDown pl else s) s3
  let off := s4.power.offByReq
  State.powerOn { s4 with power := { s4.power with offByReq := 0 } } off

/-! ## Lanes and firmware at the end of BOOT (R401, R402, R477) -/

/-- Both domains of a lane have power. -/
def State.lanePowered (s : State) (ln : LaneId) : Bool := s.lnIOn ln && s.power.pg.getLsbD (3 + ln.idx)

/-- Lanes that start: powered, and not held off by a mark. -/
def State.bootLanes (s : State) : List LaneId :=
  LaneId.all.filter (fun ln => s.lanePowered ln && !s.laneHeld ln)

/-- Lanes whose configuration record BOOT reads. -/
def State.recordLanes (s : State) : List LaneId := LaneId.all.filter s.lnIOn

/-- The record the lanes agree, when they agree one. -/
def State.bootRec (s : State) : CfgRec := (s.lane (s.recordLanes.headD .l1)).cfgRec

/-- CFG_DEFAULTED (R396): a powered lane holds no valid record, or the records differ; it stays set until a slot is
selected. -/
def State.bootDefaulted (s : State) : Bool :=
  s.change.cfgDefaulted || s.recordLanes.any (fun ln =>
    (s.lane ln).flash.cfg.isNone || decide ((s.lane ln).cfgRec.content ≠ s.bootRec.content))

/-- Selected slot: ACTIVE_MAN, or the slot that PENDING activates (R400). -/
def State.bootSlot (s : State) : Option Nat :=
  if s.bootRec.pending = 0 then s.bootRec.activeMan else some s.bootRec.target

/-- Manifest of the selected slot in a lane's flash; none where the slot is marked or BAD (R398, Table 15.8). -/
def State.slotMan (s : State) (ln : LaneId) : Option Manifest :=
  match s.bootSlot with
  | none => none
  | some n =>
    if s.marked (.slot ln n) ∨ (s.lane ln).cfgRec.slotState n = 3 then none else (s.lane ln).flash.man n

/-- Header of the selected manifest, as the first lane that has one holds it. -/
def State.bootHdr (s : State) : Option ManHeader := (s.bootLanes.findSome? s.slotMan).map (·.hdr)

/-- Lanes whose firmware image fails its signature. -/
def State.badFw (s : State) (o : BootObs) : List LaneId := s.bootLanes.filter (fun ln => !(o.lanes.get ln).firmwareOk)

/-- The images fail in two lanes, or in the service or plane firmware (R402). -/
def State.fwFails (s : State) (o : BootObs) : Bool := decide (2 ≤ (s.badFw o).length) || !o.imagesOk

/-- The whole previous set is booted: there is one, and the manifest's COMBO names it (R402). -/
def State.bootPrev (s : State) (o : BootObs) : Bool :=
  s.fwFails o && s.bootRec.prevFw.isSome && s.bootHdr.any (fun h => inCombo h o.prevSet)

/-- Lanes whose firmware runs. -/
def State.fwLanes (s : State) (o : BootObs) : List LaneId :=
  if s.bootPrev o then s.bootLanes else s.bootLanes.filter (fun ln => (o.lanes.get ln).firmwareOk)

/-- The firmware set that runs. -/
def State.bootCombo (s : State) (o : BootObs) : Combo :=
  if s.bootPrev o then o.prevSet
  else ⟨(o.lanes.get ((s.fwLanes o).headD .l1)).fwRev, o.svcRev, if s.planeOn .a then o.piaRev else o.pibRev⟩

/-- The reports of R401 agree: PIA with PIB, and the lanes with each other. -/
def State.revsAgree (s : State) (o : BootObs) (vs : List LaneId) : Bool :=
  s.bootPrev o ||
  ((!(s.planeOn .a && s.planeOn .b) || decide (o.piaRev = o.pibRev)) &&
    vs.all (fun ln => decide ((o.lanes.get ln).fwRev = (s.bootCombo o).lane)))

/-- COMBO_UNTESTED (R401, R402). -/
def State.comboBad (s : State) (o : BootObs) (vs : List LaneId) : Bool :=
  (s.fwFails o && !s.bootPrev o) || !s.revsAgree o vs || !s.bootHdr.any (fun h => inCombo h (s.bootCombo o))

/-! ## Manifest checks and the vote (R400, R477) -/

/-- A lane's slot passes the full boot checks (R400): Table 14.3 without order 6, the hash, the decryption and the tag
as observed, partition headers and tables. Order 7 is judged by R401. -/
def State.manPasses (s : State) (o : BootObs) (ln : LaneId) : Bool :=
  (s.slotMan ln).any (fun m =>
    (headerBad m.hdr (s.lane ln).flash (o.lanes.get ln).fullChecksOk true true none (m.hdr.combo.take m.hdr.comboCount)).isNone &&
    (o.lanes.get ln).fullChecksOk && loadOk m)

/-- Lanes whose slot fails. -/
def State.manFails (s : State) (o : BootObs) : List LaneId := (s.fwLanes o).filter (fun ln => !s.manPasses o ln)

/-- A slot is selected and its checks fail in two or more lanes (R400). -/
def State.manBad (s : State) (o : BootObs) : Bool :=
  !s.bootDefaulted && s.bootSlot.isSome && decide (2 ≤ (s.manFails o).length)

/-- The lanes run the factory CLOSED image (R396, R400, R477). -/
def State.runsFactory (s : State) (o : BootObs) : Bool := s.bootDefaulted || s.bootSlot.isNone || s.manBad o

/-- A lane has passed its firmware, configuration and manifest checks (R477), and has read its copies back (R151). -/
def State.lanePasses (s : State) (o : BootObs) (ln : LaneId) : Bool :=
  (s.fwLanes o).contains ln &&
  (if s.runsFactory o then (o.lanes.get ln).factoryOk else s.manPasses o ln && (o.lanes.get ln).readbackOk)

/-- Image of a lane that has passed. -/
def State.bootImage (s : State) (o : BootObs) (ln : LaneId) : Option Manifest :=
  if s.runsFactory o then none else s.slotMan ln

/-- The link of two lanes calibrates at the start of the lanes (R53), and no mark keeps it out of service. -/
def State.bootLink (s : State) (o : BootObs) (a b : LaneId) : Bool :=
  (linkOf a b).any (fun l => tripsOk (o.trips.link l) && !s.marked (.link l))

/-- Lanes that meet the three conditions of R477: images are compared and ticks aligned over a link that works. -/
def State.bootVoters (s : State) (o : BootObs) : List LaneId :=
  LaneId.all.filter (fun ln => s.lanePasses o ln && (o.lanes.get ln).tickNear &&
    ln.others.any (fun m => s.lanePasses o m && s.bootLink o ln m &&
      decide (imageId (s.bootImage o m) = imageId (s.bootImage o ln))))

/-! ## Warm start (R405-R407, R470) -/

/-- A lane's retention record counts: its age cell reads FRESH, its memory is not marked and its check word verifies. -/
def State.goodRecord (s : State) (ln : LaneId) : Option Retention :=
  let L := s.lane ln
  match L.retention with
  | none => none
  | some r => if L.fresh && !s.marked (.retention ln) && decide (r.check = retentionCheck r.words r.cn r.identity) then some r
              else none

/-- Two records agree. -/
def sameRecord (a b : Retention) : Bool := decide (a.words = b.words ∧ a.cn = b.cn ∧ a.identity = b.identity)

/-- Lanes that hold the record. -/
def State.recordHolders (s : State) (vs : List LaneId) (r : Retention) : List LaneId :=
  vs.filter (fun ln => (s.goodRecord ln).any (sameRecord r))

/-- The record that at least two of the lanes hold alike, which a link that works joins: they compare it over the CLX. -/
def State.agreedRecord (s : State) (o : BootObs) (vs : List LaneId) : Option Retention :=
  (vs.filterMap s.goodRecord).find? (fun r =>
    let hs := s.recordHolders vs r
    hs.any (fun a => hs.any (fun b => s.bootLink o a b)))

/-- The manifest a record was written under: the one in use, or its BASE_NO predecessor in the other slot unless PENDING
asks for a cold restart (R406, R470). -/
def State.recordMan (s : State) (m : Manifest) (r : Retention) (ln : LaneId) : Option Manifest :=
  if r.identity = m.hdr.signature then some m
  else
    match [0, 1].filterMap (fun n => (s.lane ln).flash.man n) |>.find? (fun x => decide (x.hdr.signature = r.identity ∧ x.hdr.number = m.hdr.base)) with
    | some x => some x
    | none => none

/-- The record of a warm start, and the manifest it was written under; none for a cold start (R404, R406). -/
def State.warmFrom (s : State) (o : BootObs) (vs : List LaneId) : Option (Retention × Manifest) :=
  let ln := vs.headD .l1
  match s.bootImage o ln, s.agreedRecord o vs with
  | some m, some r =>
    if s.change.coldAsked ∨ s.bootRec.pending = 2 then none
    else (s.recordMan m r ln).map (fun x => (r, x))
  | _, _ => none

/-- Value of a word at a warm start: as committed, or carried over; TFORCE is removed (Table 14.4). -/
def warmX (r : Retention) (old new : Manifest) (key : Nat) (w : WordCfg) : Int :=
  if w.owner ≠ 7 ∧ spaceOf key = some .e ∧ keyAddr key % 16 = 7 then -1
  else if !retained key then w.x
  else if old.hdr.signature = new.hdr.signature then Tbl.get w.x r.words key
  else carryX ⟨old.body, Tbl.get 0 r.words⟩ new.body key w

/-- Stage records of the emergency-stop pairs, as their STAGE words hold them (R167). -/
def Lane.stageWords (L : Lane) (m : Manifest) : Tbl Nat :=
  (m.body.elems.filter (fun e => decide (e.2.type = .esPair))).foldl (fun t e =>
    Tbl.set 0 t ((L.plain (keyE e.1 11)).toNat - 1) (L.plain (keyE e.1 10)).toNat) []

/-- Supervisor state at a start: I frames under R280 and R303, connections under a new epoch. -/
def Sup.start (u : Sup) (m : Manifest) : Sup :=
  Sup.startFrames
    { conns := Tbl.ofList {} (u.conns.map (fun (e : Nat × Conn) => (e.1, { e.2.newEpoch with bounds := [] })))
      pend := u.pend, noData := u.noData, present := u.present, demanded := u.demanded } m (fun _ => true)

/-- What every lane that ends BOOT IN-VOTE starts with. -/
def Lane.started (L : Lane) (cn epoch : U32) (views : Tri LaneState) : Lane :=
  { L with cn := cn, cnC := cn - 1, cnE := cn, epoch := epoch, views := views, cause := .none, strobeCn := some cn
           retention := none, fresh := true, flash := { L.flash with epoch := epoch } }

/-- Input latches of the emergency-stop pairs and output latches start clear. -/
def Lane.clearEs (L : Lane) (stage : Tbl Nat) : Lane :=
  { L with inp := { L.inp with cross := [], stuck := [], disc := [], openSeen := [], stage := stage } }

/-- A lane starts on the factory CLOSED image. -/
def Lane.startFactory (L : Lane) : Lane := ({ L with image := none, startCold := true } : Lane).clearEs []

/-- A lane makes a cold start (R404). -/
def Lane.startCold' (L : Lane) (m : Manifest) : Lane :=
  let u := Sup.start {} m
  (Lane.codeFrames { L.runImage m (withX m.body (coldX m.body)) with
    sup := u, supC := u, startCold := true, startWarm := false }).clearEs []

/-- A lane makes a warm start (R407). -/
def Lane.startWarm' (L : Lane) (m : Manifest) (w : Retention × Manifest) : Lane :=
  let u := Sup.start w.1.sup m
  let L1 := (L.runImage m (withX m.body (warmX w.1 w.2 m))).rollback
  (Lane.codeFrames { L1 with sup := u, supC := u, startCold := false, startWarm := true }).clearEs (L1.stageWords m)

/-- A lane starts on its image. -/
def Lane.startOn (L : Lane) (img : Option Manifest) (w : Option (Retention × Manifest)) : Lane :=
  match img, w with
  | none, _ => L.startFactory
  | some m, none => L.startCold' m
  | some m, some r => L.startWarm' m r

/-! ## The state BOOT ends in (Table 17.4) -/

/-- BOOT ends in HALT (R477, R478). -/
def State.bootHalt (s : State) : State :=
  let v : Tri LaneState := Tri.ofFn (fun ln => if s.lnIOn ln then .outFault else .laneOff)
  let s1 := s.mapLanes (fun ln L =>
    { L.openAll with views := v, cause := if s.lnIOn ln then .halt else .none, phase := .idle })
  (s1.setModule .halt).raiseModule .fault .moduleHalt []

/-- BOOT_TIMEOUT (R477). -/
def execBootTimeout (t : Nat) (s : State) : Host.Outcome State Fault Refusal :=
  let s0 := s.touch t
  if s0.module = .boot ∧ s0.change.bootAt + 10000000000 ≤ s0.now then
    fin (s0.raiseModule .fault .bootTimeout []).bootHalt
  else fin s0

/-- A bit that lanes have read each for itself, agreed as R202 agrees input bits: by majority of three, and TRUE of two
only where both read it (R24). -/
def agreedBit (bs : List Bool) : Bool := decide (2 ≤ bs.count true)

/-- UNITSEL_A and UNITSEL_B as the lanes agree them (R24, R484). -/
def State.bootUnit (_ : State) (o : BootObs) (vs : List LaneId) : Bool × Bool :=
  (agreedBit (vs.map (fun ln => (o.lanes.get ln).unitA)), agreedBit (vs.map (fun ln => (o.lanes.get ln).unitB)))

/-- The unit coding is in error (R484): a single module ignores it. -/
def State.codingBad (s : State) (o : BootObs) (vs : List LaneId) : Bool :=
  s.pair.variantP && ((s.bootUnit o vs).1 == (s.bootUnit o vs).2)

/-- The manifest configures a partner, and the pair licence is absent (R490). -/
def State.licenceBad (s : State) (m : Option Manifest) : Bool :=
  m.any (fun m => m.body.partner) && (!s.pair.variantP || s.recordLanes.any (fun ln => !(s.lane ln).flash.pairLicence))

/-- The other unit of the pair holds the claim, as its STATUS shows (R391). -/
def State.otherHolds (s : State) (m : Option Manifest) : Option HwStatus :=
  if s.pair.variantP ∧ m.any (fun m => m.body.partner) then s.partner.filter (fun p => commandsNet p.state) else none

/-- The failing field or entry of the manifest in a lane's slot (R100, R174). -/
def State.loadFail (s : State) (ln : LaneId) : Option (List Int) := (s.slotMan ln).bind loadBad

/-- Every cause for CLOSED, as it is logged. -/
def State.closedCauses (s : State) (o : BootObs) (vs : List LaneId) (m : Option Manifest) : List (EventName × List Int) :=
  let c := s.bootCombo o
  let add (b : Bool) (n : EventName) (d : List Int) : List (EventName × List Int) := if b then [(n, d)] else []
  add s.bootDefaulted .cfgDefaulted [] ++
  add (!s.bootDefaulted && s.bootSlot.isNone) .noManifest [] ++
  add (s.manBad o) .manifestBad [] ++
  (if s.manBad o then (s.manFails o).filterMap (fun ln => (s.loadFail ln).map (fun v => (EventName.loadCheck, v)))
   else []) ++
  add (m.isSome && s.comboBad o vs) .comboUntested (comboVals c) ++
  add (m.any (fun m => m.hdr.testOnly)) .testOnly [] ++
  add (s.codingBad o vs) .unitCoding [] ++
  add (s.licenceBad m) .pairLicence [] ++
  add ((s.otherHolds m).any (fun p => decide (imageId m ≠ some p.signature))) .pairManifest [] ++
  add ((s.otherHolds m).any (fun p => decide (p.unitB = (s.bootUnit o vs).2))) .unitClash []

/-- The agreed EPOCH (R295): one more than the largest stored. -/
def State.newEpoch (s : State) : U32 :=
  nextEpoch (BitVec.ofNat 32 ((s.recordLanes.map (fun ln => (s.lane ln).flash.epoch.toNat)).foldl max 0))

/-- The agreed claim (R369): the latest stored with the site of the running manifest, else 0. -/
def State.storedClaim (s : State) (m : Option Manifest) : U32 :=
  match m with
  | none => 0
  | some m => latestOf ((s.recordLanes.filter (fun ln => decide ((s.lane ln).flash.claimSite = m.hdr.site))).map
      (fun ln => (s.lane ln).flash.claim))

/-- The records after BOOT: a pending activation is done (R400). -/
def Lane.takePending (L : Lane) : Lane :=
  match L.flash.cfg with
  | none => L
  | some r => if r.pending = 0 then L else L.activateTarget

/-- Events of the lanes that do not end BOOT IN-VOTE (R400, R402, R151). -/
def State.laneFailures (s : State) (o : BootObs) : State :=
  LaneId.all.foldl (fun s1 ln =>
    if (s.badFw o).contains ln ∧ !s.bootPrev o then s1.raiseLane ln .fault .firmwareRefused [ln.num]
    else if !s.runsFactory o ∧ (s.manFails o).contains ln then s1.raiseLane ln .fault .loadCheck (ln.num :: (s.loadFail ln).getD [])
    else if !s.runsFactory o ∧ s.manPasses o ln ∧ !(o.lanes.get ln).readbackOk then
      s1.raiseLane ln .fault .codedFault [ln.num, causeCode (.coded .code)]
    else s1) s

/-- BIST events of BOOT (R444, R445). -/
def State.bistAtBoot (s : State) : State :=
  let s1 := if s.bist.due then ({ s with bist := { s.bist with due := false } } : State).raise .warn .bistDue .svc [] else s
  if s1.bist.lastFull + 31536000000000000 ≤ s1.now then s1.raise .warn .bistOverdue .svc [] else s1

/-- The lanes that start calibrate their links (R53). A link that fails between two of them is failed under R28. -/
def State.bootCalibrate (s : State) (o : BootObs) (vs : List LaneId) : State :=
  let s1 := s.mapLanes (fun ln L => if vs.contains ln then Lane.calibrated ln o.trips L else L)
  let s2 : State := { s1 with clxOk := [ClxLink.l12, .l23, .l13].foldl (fun (t : Tri Bool) l =>
    t.setLink l (tripsOk (o.trips.link l) && !s.marked (.link l))) s1.clxOk }
  [ClxLink.l12, .l23, .l13].foldl (fun (s : State) l =>
    if vs.contains l.ends.1 && vs.contains l.ends.2 && !tripsOk (o.trips.link l) then s.linkFail l else s) s2

/-- The lanes start: `ws` IN-VOTE, and the others of `vs` REJOINING (R406, R477). -/
def State.startLanes (s : State) (o : BootObs) (vs ws : List LaneId) (w : Option (Retention × Manifest)) : State :=
  let views : Tri LaneState := Tri.ofFn (fun ln => if ws.contains ln then .inVote else .laneOff)
  let epoch := s.newEpoch
  let cn : U32 := match w with
    | none => 0
    | some r => r.1.cn + 1
  let s1 := s.mapLanes (fun ln L =>
    if vs.contains ln then
      let L1 := (L.openAll.started cn epoch views).startOn (s.bootImage o ln) w
      if ws.contains ln then L1.latchInputs s.dead s.power.pfOk else L1
    else { L.openAll with views := views, retention := if s.lanePowered ln then none else L.retention })
  s1.bootCalibrate o vs

/-- The fields of the module as a whole after BOOT; `s` is the state in which the observations were judged. -/
def State.startModule (s1 s : State) (o : BootObs) (vs : List LaneId) : State :=
  { s1 with
    rot := { lastEnd := s.rot.lastEnd, next := s.rot.next }, skippedCn := none
    uplink := { s1.uplink with cn := (s1.lane s1.lead).cn, cycleStart := none, notices := [] }
    pair := { s1.pair with unitB := s.pair.variantP && (s.bootUnit o vs).2, unitPins := s.bootUnit o vs }
    change := { s.change with
      running := s.bootCombo o, planeRevs := (o.piaRev, o.pibRev), cfgDefaulted := s.bootDefaulted
      coldAsked := false, staged := none, switchCn := none, firstNewCn := none
      fullChecksPassed := !s.runsFactory o && !s.comboBad o vs } }

/-- The module state BOOT ends in (Table 17.4). -/
def State.bootEnds (s : State) (causes : List (EventName × List Int)) (other : Option HwStatus) : State :=
  match causes, other with
  | [], some p => (s.setModule .standby).enterStandby (p.clm - 1) (.resync 0)
  | [], none => (s.setModule .restricted).startQuayline
  | _, _ => causes.foldl (fun (s : State) e => s.raiseModule .fault e.1 e.2) (s.setModule .closed)

/-- Wharf bus configuration of the image that runs. -/
def State.startWb (s : State) : State :=
  match s.body with
  | none => { s with wb := [] }
  | some b => if s.netOn then s.configureWb b else s

/-- BOOT ends with an agreed tick (R477). -/
def State.bootDone (s : State) (o : BootObs) (vs : List LaneId) : State :=
  let m := s.bootImage o (vs.headD .l1)
  let w := s.warmFrom o vs
  let ws := match w with
    | none => vs
    | some r => s.recordHolders vs r.1
  let claim := s.storedClaim m
  let causes := s.closedCauses o vs m
  let other := s.otherHolds m
  let s1 := (s.laneFailures o).startLanes o vs ws w
  let s3 := (s1.mapLanes (fun ln L => if s.lnIOn ln then L.takePending else L)).startModule s o vs
  let s4 := ((s3.setClaim claim).bootEnds causes other).startWb
  let s5 := (vs.filter (fun ln => !ws.contains ln)).foldl (fun s ln => s.startRejoin ln) s4
  let s6 := s5.raise .change .restart .svc
    [-1, 0, if w.isSome then 1 else 0, if s.bootDefaulted then 1 else 0]
  let s7 := s6.raiseModule .info (if w.isSome then .warmStart else .coldStart) []
  (if s.bootPrev o then s7.raise .change .firmwareFallback .svc (noWho ++ comboVals (s.bootCombo o)) else s7).bistAtBoot.noteCons

/-- BOOT_COMPLETE (R477): HALT with fewer than two lanes, even where a cause for CLOSED holds. -/
def execBootComplete (t : Nat) (o : BootObs) (s : State) : Host.Outcome State Fault Refusal :=
  let s0 := s.touch t
  if s0.module = .boot then
    let vs := s0.bootVoters o
    if vs.length < 2 then fin (s0.laneFailures o).bootHalt.bistAtBoot else fin (s0.bootDone o vs)
  else fin s0

end Sys2Proof.Machine
end

