-- ==== Sys2Proof/Machine/Registers.lean ====
section
/-! DEFINITION. The service address map: the mirrors of the lanes, and a service write at an address (R14-R16, R448-R450,
Table 16.1). -/

namespace Sys2Proof.Machine

open Sys2Proof

/-! ## Mirrors (R449) -/

/-- MIRROR_REFRESH (R449): what the lane's blocks hold, and the CN. -/
def execMirrorRefresh (ln : LaneId) (s : State) : Host.Outcome State Fault Refusal :=
  if s.uplink.up ∧ s.power.pg.getLsbD (6 + ln.idx) ∧ s.laneState ln ≠ .laneOff then
    let L := s.lane ln
    let b := L.netBank (s.queues.filter (fun e => decide (queueLane e.1 = some ln)))
    ok { s with regs := { s.regs with mirrors := s.regs.mirrors.set ln (some b), mirrorCn := s.regs.mirrorCn.set ln L.cn } }
  else ok s

/-! ## The address map (Table 16.1) -/

/-- Block and offset of a service address. -/
def blkAt (addr : Nat) : Option (Blk × Nat) :=
  let off := addr % 65536
  match addr / 65536 with
  | 0x4000 => some (.upl, off) | 0x4001 => some (.ptp, off) | 0x4002 => some (.wb, off) | 0x4003 => some (.chk, off)
  | 0x4004 => some (.que, off) | 0x4005 => some (.snp, off) | 0x4006 => some (.pwr, off) | 0x4007 => some (.bist, off)
  | 0x4008 => some (.log, off) | 0x4010 => some (.qla, off) | 0x4011 => some (.qlb, off)
  | _ => none

/-- The address lies in the window of a lane. -/
def inMirror (addr : Nat) : Bool := decide (0x41000000 ≤ addr) && decide (addr < 0x41300000)

/-- A 64-bit register covers an offset of a block. -/
def is64 (b : Blk) (off : Nat) : Bool :=
  let r := off - off % 8
  match b with
  | .ptp => decide (r = 0x08) || decide (r = 0x10)
  | .chk => decide (off < 0x400) && [0x00, 0x08, 0x10, 0x20, 0x28, 0x30].contains (r % 0x100)
  | .que => decide (off < 0x800) && [0x00, 0x08].contains (r % 0x40)
  | .upl => false | .wb => false | .snp => false | .pwr => false | .bist => false | .log => false | .qla => false
  | .qlb => false

/-- The state a register's meaning leads to. -/
def after (r : Host.Outcome State Fault Refusal) (s : State) : State :=
  match r with
  | .next t => t
  | .fault _ => s
  | .refused _ => s

/-! ## Registers by block -/

/-- PTP_ registers of 32 bits (R464). -/
def State.writePtp32 (s : State) (off : Nat) (v : U32) (t : Nat) : State :=
  if off = 0x00 then after (execPtpModeWrite v t s) s
  else if off = 0x20 then
    s.rwl .ptp off t (fun s =>
      let n := v.toNat % 2 ^ 20
      if 100 ≤ n ∧ n ≤ 1000000 then { s with ptp := { s.ptp with thresholdUs := n } } else s)
  else if off = 0x24 then
    let s1 := s.wrote .ptp
    { s1 with ptp := { s1.ptp with incrRange := s1.ptp.incrRange && !v.getLsbD 1
                                   jumpRefused := s1.ptp.jumpRefused && !v.getLsbD 0 } }
  else s.wrote .ptp

/-- A write to the configuration of an engine, ignored while it scans (R458). -/
def State.cfgChk (s : State) (n : Nat) (f : CheckEngine → CheckEngine) : State :=
  if (s.chkEngine n).busy then s else s.putChk n (f (s.chkEngine n))

/-- START and ABORT of one write to CHK_CTRL: START is judged first, and ABORT stops a scan that was in progress. -/
def State.ctrlChk (s : State) (n : Nat) (v : U32) : State :=
  let busy := (s.chkEngine n).busy
  let s1 := if v.getLsbD 31 then after (execChkStart n (v.getLsbD 30) s) s else s.wrote .chk
  if v.getLsbD 29 && busy then after (execChkAbort n s1) s1 else s1

/-- CHK_ registers of 32 bits of engine `n`, at `r` of its window. -/
def State.writeChk32 (s : State) (n r : Nat) (v : U32) (t : Nat) : State :=
  if r = 0x18 then
    s.rwl .chk (0x100 * n + r) t (fun s => s.cfgChk n (fun e =>
      { e with refout := v.getLsbD 9, refin := v.getLsbD 8, width := v.toNat % 4 }))
  else if r = 0x38 then (s.wrote .chk).cfgChk n (fun e => { e with len := v.toNat % 2 ^ 24 })
  else if r = 0x3C then s.ctrlChk n v
  else if r = 0x40 then
    let e := s.chkEngine n
    (s.wrote .chk).putChk n { e with done := e.done && !v.getLsbD 30, startIgn := e.startIgn && !v.getLsbD 29 }
  else s.wrote .chk

/-- CHK_ registers of 64 bits. -/
def State.writeChk64 (s : State) (n r : Nat) (v : U64) (t : Nat) : State :=
  if r = 0x00 then s.rwl .chk (0x100 * n + r) t (fun s => s.cfgChk n (fun e => { e with poly := v }))
  else if r = 0x08 then s.rwl .chk (0x100 * n + r) t (fun s => s.cfgChk n (fun e => { e with init := v }))
  else if r = 0x10 then s.rwl .chk (0x100 * n + r) t (fun s => s.cfgChk n (fun e => { e with xorout := v }))
  else if r = 0x20 then after (execChkValueWrite n v s) s
  else if r = 0x30 then (s.wrote .chk).cfgChk n (fun e => { e with addr := v.toNat % 2 ^ 40 })
  else s.wrote .chk

/-- QUE_ registers of 32 bits. -/
def State.writeQue32 (s : State) (off : Nat) (v : U32) (t : Nat) : State :=
  let q := 96 + off / 0x40
  let r := off % 0x40
  if off = 0x800 then s.rwl .que off t (fun s => { s with regs := { s.regs with fcmap := v } })
  else if off = 0x804 then s.rwl .que off t (fun s => { s with regs := { s.regs with fcpol := v.setWidth 4 } })
  else if 0x800 ≤ off then s.wrote .que
  else if r = 0x10 then
    let s1 := after (execQueEnable q (v.getLsbD 0) s) s
    if v.getLsbD 31 then after (execQueFlush q t s1) s1 else s1
  else if r = 0x18 then after (execQueWmWrite q v t s) s
  else if r = 0x1C then after (execQueCfgWrite q v t s) s
  else s.wrote .que

/-- SNP_ registers. -/
def State.writeSnp (s : State) (off : Nat) (v : U32) (t : Nat) : State :=
  if off = 0x000 then after (execSnpTrigGo v t s) s
  else if off = 0x004 then after (execSnpBankRelease v s) s
  else if off = 0x020 then
    let s1 := s.wrote .snp
    { s1 with snap := { s1.snap with bankSel := v.toNat % 16 } }
  else s.wrote .snp

/-- PWR_ registers (R463). -/
def State.writePwr (s : State) (off : Nat) (v : U32) (t : Nat) : State :=
  if off = 0x004 then
    if v.getLsbD 13 then after (execPwrReqOff (v.setWidth 12) t s) s else after (execPwrReqOn (v.setWidth 12) t s) s
  else if off = 0x008 then
    let s1 := s.wrote .pwr
    { s1 with power := { s1.power with resultDone := s1.power.resultDone && !v.getLsbD 31 } }
  else s.wrote .pwr

/-- A word of a block whose registers the manual does not lay out is stored. -/
def State.storeWord (s : State) (b : Blk) (addr : Nat) (v : U32) : State :=
  let s1 := s.wrote b
  { s1 with regs := { s1.regs with file := Tbl.set 0 s1.regs.file addr (v.setWidth 64) } }

/-- WB_ words: the bit timing and the mode of a channel that is not OFF stay, and the write is recorded as a locked one
(R350); the offsets above the four channels of Table 16.1 are reserved, and ignore writes (R14). -/
def State.writeWb (s : State) (addr off : Nat) (v : U32) : State :=
  let ch := off / 0x2000
  let f := Config.wbField s.regs.file addr v
  if 0x8000 ≤ off then s.wrote .wb
  else if offOnly f ∧ (s.chan ch).mode ≠ .off then s.lockedWrite .wb off
  else (s.storeWord .wb addr v).writeField ch f

/-- A 32-bit write at an offset of a block. -/
def State.write32 (s : State) (b : Blk) (addr off : Nat) (v : U32) (t : Nat) : State :=
  if off = 0xFFF8 then after (execLockKeyWrite b v t s) s
  else if off = 0xFFFC then s.wrote b
  else match b with
    | .ptp => s.writePtp32 off v t
    | .chk => if off < 0x400 then s.writeChk32 (off / 0x100) (off % 0x100) v t else s.wrote .chk
    | .que => s.writeQue32 off v t
    | .snp => s.writeSnp off v t
    | .pwr => s.writePwr off v t
    | .wb => s.writeWb addr off v
    | .upl => s.storeWord .upl addr v
    | .bist => s.storeWord .bist addr v
    | .log => s.storeWord .log addr v
    | .qla => if s.power.pg.getLsbD 9 then s.storeWord .qla addr v else s
    | .qlb => if s.power.pg.getLsbD 10 then s.storeWord .qlb addr v else s

/-- A 64-bit write to a 64-bit register. -/
def State.write64 (s : State) (b : Blk) (off : Nat) (v : U64) (t : Nat) : State :=
  match b with
  | .ptp => if off = 0x08 then after (execPtpIncrWrite v s) s else s.wrote .ptp
  | .chk => s.writeChk64 (off / 0x100) (off % 0x100) v t
  | .que => if off % 0x40 = 0x08 then after (execQuePush (96 + off / 0x40) (v.setWidth 63) s) s else s.wrote .que
  | .upl => s | .wb => s | .snp => s | .pwr => s | .bist => s | .log => s | .qla => s | .qlb => s

/-- A write of the wrong width or alignment is counted (R448). -/
def State.badWidth (s : State) : State := { s with regs := { s.regs with accWidth := s.regs.accWidth + 1 } }

/-- A write to a block: a 64-bit access that meets no 64-bit register reaches the two of 32 bits, the lower first. -/
def State.writeBlk (s : State) (b : Blk) (addr off bits : Nat) (v : U64) (t : Nat) : State :=
  if bits = 32 then
    if is64 b off then s.badWidth else s.write32 b addr off (v.setWidth 32) t
  else if is64 b off then s.write64 b off v t
  else (s.write32 b addr off (v.setWidth 32) t).write32 b (addr + 4) (off + 4) ((v >>> 32).setWidth 32) t

/-- REGISTER_WRITE (R14, R16, R448, R449): no access raises a bus error. -/
def execRegisterWrite (addr bits : Nat) (v : U64) (t : Nat) (s : State) : Host.Outcome State Fault Refusal :=
  let s0 := s.touch t
  if !s0.svcOn then fin s0
  else if (bits ≠ 32 ∧ bits ≠ 64) ∨ addr % (bits / 8) ≠ 0 then fin s0.badWidth
  else if inMirror addr then fin { s0 with regs := { s0.regs with mirrorWr := s0.regs.mirrorWr + 1 } }
  else match blkAt addr with
    | some (b, off) => fin (s0.writeBlk b addr off bits v t)
    | none => fin s0

end Sys2Proof.Machine
end

