-- ==== Sys2Proof/Machine/Restart.lean ====
section
/-! DEFINITION. Commands that change the module state: restarts, slot selection, TEST, closing the module, and the planned
shutdown with its self-test (R396, R404-R406, R439, R476, R483). -/

namespace Sys2Proof.Machine

open Sys2Proof

/-- The module is past BOOT and has power. -/
def State.booted (s : State) : Bool := decide (s.module ≠ .powerOff) && decide (s.module ≠ .boot)

/-! ## Restarts (R404-R406, Table 14.8, Table 17.4) -/

/-- Lanes IN-VOTE write their retention record at a warm restart command (R405, R469). -/
def State.retainVoters (s : State) : State :=
  s.mapLanes (fun ln L => if L.views.get ln = .inVote then L.retain else L)

/-- RESTART_WARM (R406). -/
def execRestartWarm (sess t : Nat) (s : State) : Host.Outcome State Fault Refusal :=
  let s0 := s.touch t
  if s0.maintainer sess && s0.booted then
    fin (((s0.logChange sess .restart [1]).retainVoters).enterBoot false)
  else fin s0

/-- RESTART_COLD (R404). -/
def execRestartCold (sess t : Nat) (s : State) : Host.Outcome State Fault Refusal :=
  let s0 := s.touch t
  if s0.maintainer sess && s0.booted then fin ((s0.logChange sess .restart [2]).enterBoot true) else fin s0

/-- The record that selects a slot, written alike in every powered lane (R396). -/
def State.writeSelected (s : State) (slot : Nat) : State :=
  let r := s.bootRec
  s.mapFlash (fun f => f.putCfg (fun x => { r with seq := x.seq, activeMan := some slot, pending := 0 }))

/-- SLOT_SELECT (R396, R400): in CLOSED only. -/
def execSlotSelect (sess slot t : Nat) (s : State) : Host.Outcome State Fault Refusal :=
  let s0 := s.touch t
  if s0.commissioner sess then
    if s0.module = .closed ∧ slot < 2 then
      let s1 := (s0.logChange sess .manifestSelected (manVals (s0.bootRec.slotNo slot) slot 0)).writeSelected slot
      fin (State.enterBoot { s1 with change := { s1.change with cfgDefaulted := false } } false)
    else fin (s0.refuse sess [((slot : Nat) : Int)])
  else fin s0

/-! ## TEST and CLOSED (R476, R161) -/

/-- The active manifest may be tested: it passed its full boot checks, and at least two lanes run it. -/
def State.mayTest (s : State) : Bool :=
  decide (s.module = .closed) && s.change.fullChecksPassed && decide (2 ≤ s.voters.length) && !s.testing

/-- ENTER_TEST (R476): the module starts Quayline (R253). -/
def execEnterTest (sess t : Nat) (s : State) : Host.Outcome State Fault Refusal :=
  let s0 := s.touch t
  if s0.commissioner sess then
    if s0.mayTest then fin (((s0.logChange sess .testEntry [((modCode s0.module : Nat) : Int)]).setModule .test).keepAlive sess).startQuayline
    else fin (s0.refuse sess [])
  else fin s0

/-- The module sends its own direct sync frames, or listens before it does. -/
def State.onQuayline (s : State) : Bool := s.planes.a.sending || s.planes.b.sending || s.pair.listenUntil.isSome

/-- LEAVE_TEST (R161, R476): to RESTRICTED, or to CLOSED when the manifest may run only in TEST. Quayline goes on. -/
def execLeaveTest (sess t : Nat) (s : State) : Host.Outcome State Fault Refusal :=
  let s0 := s.touch t
  if s0.commissioner sess then
    if s0.module = .test then
      let s1 := (s0.logChange sess .testExit [((modCode s0.module : Nat) : Int)]).keepAlive sess
      if s0.man.any (fun m => m.hdr.testOnly) then fin s1.closeModule
      else
        let s2 := (s1.setModule .restricted).checkPilot
        fin (if s2.onQuayline then s2 else s2.startQuayline)
    else fin (s0.refuse sess [])
  else fin s0

/-- MODULE_CLOSE (R476). -/
def execModuleClose (sess : Nat) (s : State) : Host.Outcome State Fault Refusal :=
  if s.commissioner sess then
    if commandsNet s.module then fin ((s.logChange sess .moduleState [((modCode .closed : Nat) : Int)]).keepAlive sess).closeModule
    else fin (s.refuse sess [])
  else fin s

/-! ## Planned shutdown (R439, R483) -/

/-- PLANNED_SHUTDOWN (R439): a claim holder whose partner is READY hands over; any other commanding module goes to CLOSED at
the next P-CONS; a module that does not command starts the self-test at once. -/
def execPlannedShutdown (sess t : Nat) (s : State) : Host.Outcome State Fault Refusal :=
  let s0 := s.touch t
  if s0.maintainer sess && s0.booted && !s0.testing then
    let s1 := (s0.logChange sess .powerDown []).keepAlive sess
    let due : State := { s1 with bist := { s1.bist with shutdownDue := true } }
    if s1.mayHandOver then fin { due with pair := { due.pair with transferNext := true } }
    else if commandsNet s1.module then fin due
    else fin s1.beginBist
  else fin s0

/-- BIST_ABORT (R439): the items running end as CUT, and the module restarts through BOOT. -/
def execBistAbort (sess t : Nat) (s : State) : Host.Outcome State Fault Refusal :=
  let s0 := s.touch t
  if s0.maintainer sess && s0.bist.running then fin ((s0.logChange sess .restart [3]).enterBoot false) else fin s0

/-- SHUTDOWN_READY (R439, R483): every item of every unit has ended. -/
def execShutdownReady (s : State) : Host.Outcome State Fault Refusal :=
  if s.bist.running && bistUnits.all (fun u => decide (s.itemsLeft u = [])) then
    let s1 := s.raiseModule .info .shutdownReady []
    fin { s1 with
      bist := { s1.bist with running := false, ready := true, lastFull := if s1.bist.full then s1.now else s1.bist.lastFull }
      access := { s1.access with reply := s1.bistReport } }
  else fin s

end Sys2Proof.Machine
end

