-- ==== Sys2Proof/Machine/Dispatch.lean ====
section
/-! DEFINITION. What each command does: one arm per constructor, each one call of its meaning. -/

namespace Sys2Proof.Machine

open Sys2Proof

def exec (i : Instr) (s : State) : Host.Outcome State Fault Refusal :=
  match i with
  | .feedLevelChange feed mv => Sys2Proof.Machine.execFeedLevelChange feed mv s
  | .powerFailWarning => Sys2Proof.Machine.execPowerFailWarning s
  | .domainPowerDown => Sys2Proof.Machine.execDomainPowerDown s
  | .powerGood t offUs => Sys2Proof.Machine.execPowerGood t offUs s
  | .domainPowerGood d trips => Sys2Proof.Machine.execDomainPowerGood d trips s
  | .domainPgTimeout d => Sys2Proof.Machine.execDomainPgTimeout d s
  | .bootComplete t o => Sys2Proof.Machine.execBootComplete t o s
  | .bootTimeout t => Sys2Proof.Machine.execBootTimeout t s
  | .pllLockLoss ln => Sys2Proof.Machine.execPllLockLoss ln s
  | .laneSupplyLoss ln ofLnI => Sys2Proof.Machine.execLaneSupplyLoss ln ofLnI s
  | .agreedTick ln t mids => Sys2Proof.Machine.execAgreedTick ln t mids s
  | .tickMarkerRx ln src rx => Sys2Proof.Machine.execTickMarkerRx ln src rx s
  | .wakeRequest ln => Sys2Proof.Machine.execWakeRequest ln s
  | .wakeDeadline ln coresAck reAck => Sys2Proof.Machine.execWakeDeadline ln coresAck reAck s
  | .pAgreeStart ln => Sys2Proof.Machine.execPAgreeStart ln s
  | .agreementRecordRx ln src rec bits => Sys2Proof.Machine.execAgreementRecordRx ln src rec bits s
  | .agreementEchoRx ln src crc => Sys2Proof.Machine.execAgreementEchoRx ln src crc s
  | .inputAgreement ln => Sys2Proof.Machine.execInputAgreement ln s
  | .repairPayloadRx ln src input payload => Sys2Proof.Machine.execRepairPayloadRx ln src input payload s
  | .agreeMinorityLimit ln => Sys2Proof.Machine.execAgreeMinorityLimit ln s
  | .uplinkAgeLimit ln frame => Sys2Proof.Machine.execUplinkAgeLimit ln frame s
  | .safeLinkAgeExpiry ln frame => Sys2Proof.Machine.execSafeLinkAgeExpiry ln frame s
  | .pass1Start ln => Sys2Proof.Machine.execPass1Start ln s
  | .pass2Start ln => Sys2Proof.Machine.execPass2Start ln s
  | .passBudgetCheck ln => Sys2Proof.Machine.execPassBudgetCheck ln s
  | .pConsStart ln => Sys2Proof.Machine.execPConsStart ln s
  | .consensusRecordRx ln src rec => Sys2Proof.Machine.execConsensusRecordRx ln src rec s
  | .exchangeDeadline ln => Sys2Proof.Machine.execExchangeDeadline ln s
  | .consensusDecision => Sys2Proof.Machine.execConsensusDecision s
  | .secondSkipHalt => Sys2Proof.Machine.execSecondSkipHalt s
  | .pConsEnd ln => Sys2Proof.Machine.execPConsEnd ln s
  | .pSignStart ln => Sys2Proof.Machine.execPSignStart ln s
  | .mirrorRefresh ln => Sys2Proof.Machine.execMirrorRefresh ln s
  | .exclusionNoticeRx ln src => Sys2Proof.Machine.execExclusionNoticeRx ln src s
  | .clxLinkFailure link damaged => Sys2Proof.Machine.execClxLinkFailure link damaged s
  | .laneRestart ln t trips => Sys2Proof.Machine.execLaneRestart ln t trips s
  | .rejoinChunkRx ln chunk => Sys2Proof.Machine.execRejoinChunkRx ln chunk s
  | .rejoinFrameStateRx ln frames => Sys2Proof.Machine.execRejoinFrameStateRx ln frames s
  | .rejoinComplete ln => Sys2Proof.Machine.execRejoinComplete ln s
  | .rejoinFailure ln => Sys2Proof.Machine.execRejoinFailure ln s
  | .rotatingTestStart t => Sys2Proof.Machine.execRotatingTestStart t s
  | .testStepEnd ln r => Sys2Proof.Machine.execTestStepEnd ln r s
  | .rotatingTestTimeout t => Sys2Proof.Machine.execRotatingTestTimeout t s
  | .tickStrobeRx pl ln t => Sys2Proof.Machine.execTickStrobeRx pl ln t s
  | .planeNoTick pl => Sys2Proof.Machine.execPlaneNoTick pl s
  | .uplinkGuardian pl seg slot t frame => Sys2Proof.Machine.execUplinkGuardian pl seg slot t frame s
  | .barred pl ctrl => Sys2Proof.Machine.execBarred pl ctrl s
  | .delayUnknown pl ctrl => Sys2Proof.Machine.execDelayUnknown pl ctrl s
  | .laneBodyRx pl ln seg slot body code => Sys2Proof.Machine.execLaneBodyRx pl ln seg slot body code s
  | .downlinkSlotOpen pl seg slot => Sys2Proof.Machine.execDownlinkSlotOpen pl seg slot s
  | .qDynWindowStart pl win t => Sys2Proof.Machine.execQDynWindowStart pl win t s
  | .dreqSend pl seg win t1 => Sys2Proof.Machine.execDreqSend pl seg win t1 s
  | .drespRx pl seg frame t4 => Sys2Proof.Machine.execDrespRx pl seg frame t4 s
  | .drespMissing pl seg => Sys2Proof.Machine.execDrespMissing pl seg s
  | .lineDreqRx pl seg frame turn => Sys2Proof.Machine.execLineDreqRx pl seg frame turn s
  | .moduleSyncRx pl seg frame t => Sys2Proof.Machine.execModuleSyncRx pl seg frame t s
  | .quaylineListenEnd t => Sys2Proof.Machine.execQuaylineListenEnd t s
  | .ncRequestQueue pl ctrl payload => Sys2Proof.Machine.execNcRequestQueue pl ctrl payload s
  | .ncResponseRx pl seg frame t => Sys2Proof.Machine.execNcResponseRx pl seg frame t s
  | .uplinkTelegramRx ln pl => Sys2Proof.Machine.execUplinkTelegramRx ln pl s
  | .controllerSyncRx ctrl pl port frame t tb => Sys2Proof.Machine.execControllerSyncRx ctrl pl port frame t tb s
  | .controllerCoast ctrl pl t tb => Sys2Proof.Machine.execControllerCoast ctrl pl t tb s
  | .controllerSyncLoss ctrl pl t tb => Sys2Proof.Machine.execControllerSyncLoss ctrl pl t tb s
  | .controllerLaunch ctrl pl near far inputs guardFails => Sys2Proof.Machine.execControllerLaunch ctrl pl near far inputs guardFails s
  | .controllerDownlinkRx ctrl pl port frame t ch1 ch2 => Sys2Proof.Machine.execControllerDownlinkRx ctrl pl port frame t ch1 ch2 s
  | .controllerAgeExpiry ctrl => Sys2Proof.Machine.execControllerAgeExpiry ctrl s
  | .rstClear ctrl => Sys2Proof.Machine.execRstClear ctrl s
  | .controllerDreqRx ctrl pl port frame turn tb => Sys2Proof.Machine.execControllerDreqRx ctrl pl port frame turn tb s
  | .controllerDsetRx ctrl pl port frame => Sys2Proof.Machine.execControllerDsetRx ctrl pl port frame s
  | .controllerDnoteRx ctrl pl port frame => Sys2Proof.Machine.execControllerDnoteRx ctrl pl port frame s
  | .controllerBarRx ctrl pl port frame => Sys2Proof.Machine.execControllerBarRx ctrl pl port frame s
  | .ident ctrl pl port frame t turn => Sys2Proof.Machine.execIdent ctrl pl port frame t turn s
  | .counters ctrl pl port frame t turn => Sys2Proof.Machine.execCounters ctrl pl port frame t turn s
  | .clrcnt ctrl pl port frame t turn => Sys2Proof.Machine.execClrcnt ctrl pl port frame t turn s
  | .ncDesigner ctrl pl port frame data t turn => Sys2Proof.Machine.execNcDesigner ctrl pl port frame data t turn s
  | .farTick pl t => Sys2Proof.Machine.execFarTick pl t s
  | .farTickStrobeRx ln phi => Sys2Proof.Machine.execFarTickStrobeRx ln phi s
  | .farEndFeedStart pl seg => Sys2Proof.Machine.execFarEndFeedStart pl seg s
  | .farEndFeedStop pl seg => Sys2Proof.Machine.execFarEndFeedStop pl seg s
  | .relayRx pl down seg slot hd frame t => Sys2Proof.Machine.execRelayRx pl down seg slot hd frame t s
  | .relaySlotOpen pl seg slot t => Sys2Proof.Machine.execRelaySlotOpen pl seg slot t s
  | .copyRx ln port idx hd rec => Sys2Proof.Machine.execCopyRx ln port idx hd rec s
  | .sealRx ln port hd sl count => Sys2Proof.Machine.execSealRx ln port hd sl count s
  | .hawserStatusRx port hd st => Sys2Proof.Machine.execHawserStatusRx port hd st s
  | .copyDecision => Sys2Proof.Machine.execCopyDecision s
  | .takeover => Sys2Proof.Machine.execTakeover s
  | .rollbackHoldClear => Sys2Proof.Machine.execRollbackHoldClear s
  | .handover sess => Sys2Proof.Machine.execHandover sess s
  | .autoHandover => Sys2Proof.Machine.execAutoHandover s
  | .cycleStartNotice ln t => Sys2Proof.Machine.execCycleStartNotice ln t s
  | .safeLinkFrameRx port frame t => Sys2Proof.Machine.execSafeLinkFrameRx port frame t s
  | .batchClose => Sys2Proof.Machine.execBatchClose s
  | .safeLinkCopyCheck ln => Sys2Proof.Machine.execSafeLinkCopyCheck ln s
  | .slCopyExpire t => Sys2Proof.Machine.execSlCopyExpire t s
  | .safeLinkSend conn msg => Sys2Proof.Machine.execSafeLinkSend conn msg s
  | .slUnsigned conn msg => Sys2Proof.Machine.execSlUnsigned conn msg s
  | .timedLaunch conn t => Sys2Proof.Machine.execTimedLaunch conn t s
  | .uplinkFrameRx port frame t => Sys2Proof.Machine.execUplinkFrameRx port frame t s
  | .prpSupervisionSend t => Sys2Proof.Machine.execPrpSupervisionSend t s
  | .svcRestart rev => Sys2Proof.Machine.execSvcRestart rev s
  | .svcRecovery => Sys2Proof.Machine.execSvcRecovery s
  | .ptpSyncRx lanB sync t => Sys2Proof.Machine.execPtpSyncRx lanB sync t s
  | .ptpFollowUpRx lanB fup t => Sys2Proof.Machine.execPtpFollowUpRx lanB fup t s
  | .ptpAnnounceRx lanB ann t => Sys2Proof.Machine.execPtpAnnounceRx lanB ann t s
  | .announceReceiptTimeout lanB t => Sys2Proof.Machine.execAnnounceReceiptTimeout lanB t s
  | .pdelayReqSend port t1 => Sys2Proof.Machine.execPdelayReqSend port t1 s
  | .pdelayReqRx port seq rx tx => Sys2Proof.Machine.execPdelayReqRx port seq rx tx s
  | .pdelayRespRx port seq turn t4 => Sys2Proof.Machine.execPdelayRespRx port seq turn t4 s
  | .transparentClockForward port ingress egress correction => Sys2Proof.Machine.execTransparentClockForward port ingress egress correction s
  | .canFrameRx ch rx sofTime => Sys2Proof.Machine.execCanFrameRx ch rx sofTime s
  | .txRequestAdmit ch t => Sys2Proof.Machine.execTxRequestAdmit ch t s
  | .frameStart ch leftUs t => Sys2Proof.Machine.execFrameStart ch leftUs t s
  | .canFrameEnd ch r t => Sys2Proof.Machine.execCanFrameEnd ch r t s
  | .busOffHoldoffEnd ch t => Sys2Proof.Machine.execBusOffHoldoffEnd ch t s
  | .busOffRecovery ch t => Sys2Proof.Machine.execBusOffRecovery ch t s
  | .busoffLimit ch t => Sys2Proof.Machine.execBusoffLimit ch t s
  | .tideRowStart ch t => Sys2Proof.Machine.execTideRowStart ch t s
  | .exclusiveWindow ch col => Sys2Proof.Machine.execExclusiveWindow ch col s
  | .channelModeChange ch => Sys2Proof.Machine.execChannelModeChange ch s
  | .comparatorSample ln sm t => Sys2Proof.Machine.execComparatorSample ln sm t s
  | .esStuck ln ch => Sys2Proof.Machine.execEsStuck ln ch s
  | .esDisc ln pair => Sys2Proof.Machine.execEsDisc ln pair s
  | .inputTest ln ch onRead offRead => Sys2Proof.Machine.execInputTest ln ch onRead offRead s
  | .esTask ln => Sys2Proof.Machine.execEsTask ln s
  | .login account password t => Sys2Proof.Machine.execLogin account password t s
  | .accountUnlock account t => Sys2Proof.Machine.execAccountUnlock account t s
  | .logout sess => Sys2Proof.Machine.execLogout sess s
  | .sessionTimeout sess t => Sys2Proof.Machine.execSessionTimeout sess t s
  | .accountCreate sess account role password => Sys2Proof.Machine.execAccountCreate sess account role password s
  | .accountRemove sess account => Sys2Proof.Machine.execAccountRemove sess account s
  | .passwordChange sess account password => Sys2Proof.Machine.execPasswordChange sess account password s
  | .readState sess => Sys2Proof.Machine.execReadState sess s
  | .readLogbook sess slot crcOk => Sys2Proof.Machine.execReadLogbook sess slot crcOk s
  | .readBlackbox sess slot => Sys2Proof.Machine.execReadBlackbox sess slot s
  | .logExport sess seq => Sys2Proof.Machine.execLogExport sess seq s
  | .blackboxExport sess slot => Sys2Proof.Machine.execBlackboxExport sess slot s
  | .signingKeyEnrol sess signer key => Sys2Proof.Machine.execSigningKeyEnrol sess signer key s
  | .signingKeyRemove sess signer => Sys2Proof.Machine.execSigningKeyRemove sess signer s
  | .manifestLoad sess hdr sigOk => Sys2Proof.Machine.execManifestLoad sess hdr sigOk s
  | .manifestBodyWritten man hashOk => Sys2Proof.Machine.execManifestBodyWritten man hashOk s
  | .manifestVerified slot gcmOk => Sys2Proof.Machine.execManifestVerified slot gcmOk s
  | .manifestStaged crcs => Sys2Proof.Machine.execManifestStaged crcs s
  | .slotSelect sess slot t => Sys2Proof.Machine.execSlotSelect sess slot t s
  | .activatePending sess slot pending => Sys2Proof.Machine.execActivatePending sess slot pending s
  | .restartWarm sess t => Sys2Proof.Machine.execRestartWarm sess t s
  | .restartCold sess t => Sys2Proof.Machine.execRestartCold sess t s
  | .firmwareLoad sess set sigOk => Sys2Proof.Machine.execFirmwareLoad sess set sigOk s
  | .firmwareActivate sess => Sys2Proof.Machine.execFirmwareActivate sess s
  | .onlineChange sess => Sys2Proof.Machine.execOnlineChange sess s
  | .switchDecision => Sys2Proof.Machine.execSwitchDecision s
  | .enterTest sess t => Sys2Proof.Machine.execEnterTest sess t s
  | .leaveTest sess t => Sys2Proof.Machine.execLeaveTest sess t s
  | .moduleClose sess => Sys2Proof.Machine.execModuleClose sess s
  | .restrictiveForce sess elem => Sys2Proof.Machine.execRestrictiveForce sess elem s
  | .removeRestrictiveForce sess elem => Sys2Proof.Machine.execRemoveRestrictiveForce sess elem s
  | .forceValue sess tgt value => Sys2Proof.Machine.execForceValue sess tgt value s
  | .removeForcedValue sess tgt => Sys2Proof.Machine.execRemoveForcedValue sess tgt s
  | .individualRelease sess route => Sys2Proof.Machine.execIndividualRelease sess route s
  | .firstMessageLapse ln => Sys2Proof.Machine.execFirstMessageLapse ln s
  | .irelEntry ln => Sys2Proof.Machine.execIrelEntry ln s
  | .rejoinCommand sess ln trips => Sys2Proof.Machine.execRejoinCommand sess ln trips s
  | .deferTest sess ns => Sys2Proof.Machine.execDeferTest sess ns s
  | .pilotOpen sess => Sys2Proof.Machine.execPilotOpen sess s
  | .pilotBreakpointSet core idx occ => Sys2Proof.Machine.execPilotBreakpointSet core idx occ s
  | .pilotStep core => Sys2Proof.Machine.execPilotStep core s
  | .pilotRead core tgt => Sys2Proof.Machine.execPilotRead core tgt s
  | .pilotWrite core tgt value => Sys2Proof.Machine.execPilotWrite core tgt value s
  | .pilotBreakpointHit core => Sys2Proof.Machine.execPilotBreakpointHit core s
  | .pilotRerun => Sys2Proof.Machine.execPilotRerun s
  | .pilotClose => Sys2Proof.Machine.execPilotClose s
  | .plannedShutdown sess t => Sys2Proof.Machine.execPlannedShutdown sess t s
  | .bistAbort sess t => Sys2Proof.Machine.execBistAbort sess t s
  | .bistItemEnd unit item step compactor ready durMs found absent => Sys2Proof.Machine.execBistItemEnd unit item step compactor ready durMs found absent s
  | .bistItemOvertime unit item step durMs => Sys2Proof.Machine.execBistItemOvertime unit item step durMs s
  | .shutdownReady => Sys2Proof.Machine.execShutdownReady s
  | .logEvent t => Sys2Proof.Machine.execLogEvent t s
  | .snapRequest src t => Sys2Proof.Machine.execSnapRequest src t s
  | .snapinEdge heldNs t => Sys2Proof.Machine.execSnapinEdge heldNs t s
  | .snapWindowEnd => Sys2Proof.Machine.execSnapWindowEnd s
  | .snapLocalLatch ln => Sys2Proof.Machine.execSnapLocalLatch ln s
  | .blackboxFrameWritten => Sys2Proof.Machine.execBlackboxFrameWritten s
  | .lockKeyWrite blk v t => Sys2Proof.Machine.execLockKeyWrite blk v t s
  | .lockRead blk => Sys2Proof.Machine.execLockRead blk s
  | .lockTimeout blk t => Sys2Proof.Machine.execLockTimeout blk t s
  | .registerWrite addr bits v t => Sys2Proof.Machine.execRegisterWrite addr bits v t s
  | .queDataRead q => Sys2Proof.Machine.execQueDataRead q s
  | .quePush q w => Sys2Proof.Machine.execQuePush q w s
  | .queFlush q t => Sys2Proof.Machine.execQueFlush q t s
  | .queEnable q en => Sys2Proof.Machine.execQueEnable q en s
  | .queWmWrite q v t => Sys2Proof.Machine.execQueWmWrite q v t s
  | .queCfgWrite q v t => Sys2Proof.Machine.execQueCfgWrite q v t s
  | .queErrRead q => Sys2Proof.Machine.execQueErrRead q s
  | .chkStart n fromInit => Sys2Proof.Machine.execChkStart n fromInit s
  | .chkAbort n => Sys2Proof.Machine.execChkAbort n s
  | .chkValueWrite n v => Sys2Proof.Machine.execChkValueWrite n v s
  | .chkScanEnd n err => Sys2Proof.Machine.execChkScanEnd n err s
  | .snpTrigGo v t => Sys2Proof.Machine.execSnpTrigGo v t s
  | .snpBankRelease v => Sys2Proof.Machine.execSnpBankRelease v s
  | .pwrReqOn mask t => Sys2Proof.Machine.execPwrReqOn mask t s
  | .pwrReqOff mask t => Sys2Proof.Machine.execPwrReqOff mask t s
  | .ptpModeWrite v t => Sys2Proof.Machine.execPtpModeWrite v t s
  | .ptpIncrWrite v => Sys2Proof.Machine.execPtpIncrWrite v s
  | .cadd ln core f => Sys2Proof.Machine.execCadd ln core f s
  | .csub ln core f => Sys2Proof.Machine.execCsub ln core f s
  | .cmulk ln core f => Sys2Proof.Machine.execCmulk ln core f s
  | .ccmpEq ln core f => Sys2Proof.Machine.execCcmpEq ln core f s
  | .ccmpNe ln core f => Sys2Proof.Machine.execCcmpNe ln core f s
  | .ccmpLt ln core f => Sys2Proof.Machine.execCcmpLt ln core f s
  | .ccmpLe ln core f => Sys2Proof.Machine.execCcmpLe ln core f s
  | .band ln core f => Sys2Proof.Machine.execBand ln core f s
  | .bor ln core f => Sys2Proof.Machine.execBor ln core f s
  | .bnot ln core f => Sys2Proof.Machine.execBnot ln core f s
  | .bsel ln core f => Sys2Proof.Machine.execBsel ln core f s
  | .ldl ln core f => Sys2Proof.Machine.execLdl ln core f s
  | .stl ln core f => Sys2Proof.Machine.execStl ln core f s
  | .lde ln core f => Sys2Proof.Machine.execLde ln core f s
  | .ste ln core f => Sys2Proof.Machine.execSte ln core f s
  | .ldi ln core f => Sys2Proof.Machine.execLdi ln core f s
  | .sto ln core f => Sys2Proof.Machine.execSto ln core f s
  | .tmsStart ln core f => Sys2Proof.Machine.execTmsStart ln core f s
  | .tmsRestart ln core f => Sys2Proof.Machine.execTmsRestart ln core f s
  | .tmsCancel ln core f => Sys2Proof.Machine.execTmsCancel ln core f s
  | .tmx ln core f => Sys2Proof.Machine.execTmx ln core f s
  | .edg ln core f => Sys2Proof.Machine.execEdg ln core f s
  | .rrq ln core f => Sys2Proof.Machine.execRrq ln core f s
  | .brf ln core f => Sys2Proof.Machine.execBrf ln core f s
  | .loopnInit ln core f => Sys2Proof.Machine.execLoopnInit ln core f s
  | .loopnClose ln core f => Sys2Proof.Machine.execLoopnClose ln core f s
  | .ckpt ln core f => Sys2Proof.Machine.execCkpt ln core f s
  | .snap ln core f => Sys2Proof.Machine.execSnap ln core f s
  | .endp ln core f => Sys2Proof.Machine.execEndp ln core f s
  | .routeSet ln => Sys2Proof.Machine.execRouteSet ln s
  | .routeCancel ln => Sys2Proof.Machine.execRouteCancel ln s
  | .routeCheck ln => Sys2Proof.Machine.execRouteCheck ln s
  | .irel ln => Sys2Proof.Machine.execIrel ln s
  | .domainPgLoss d => Sys2Proof.Machine.execDomainPgLoss d s
  | .ibcFail n => Sys2Proof.Machine.execIbcFail n s
  | .vliofStageFail n => Sys2Proof.Machine.execVliofStageFail n s
  | .lossOfSignal pl seg lost => Sys2Proof.Machine.execLossOfSignal pl seg lost s
  | .hawserLost => Sys2Proof.Machine.execHawserLost s
  | .controllerRestart ctrl load place => Sys2Proof.Machine.execControllerRestart ctrl load place s
  | .unitselChange pinA pinB => Sys2Proof.Machine.execUnitselChange pinA pinB s
  | .tempHigh die celsius => Sys2Proof.Machine.execTempHigh die celsius s

end Sys2Proof.Machine
end

