-- ==== Sys2Proof/Safety.lean ====
section
/-! DEFINITION. What counts as safe, and the conditions on a state, in the terms the statements use. -/

namespace Sys2Proof.Machine

open Sys2Proof

/-! ## Invariants -/

/-- LANES_2OF2 is set exactly while two lanes are IN-VOTE (R19). -/
def State.flagOk (s : State) : Prop := s.lanes2of2 = decide (s.voters.length = 2)

/-- A lane that is not IN-VOTE holds every one of its switches open (R34, R211). -/
def State.switchesSafe (s : State) : Prop := ∀ ln, s.laneState ln ≠ .inVote → (s.lane ln).switches = []

/-- The service memory is in canonical form. -/
def State.memOk (s : State) : Prop := s.mem.wf = true

/-- Whatever a service-side command does, the switches, the votes and the coded state stay (R3). -/
def vitalSame (s t : State) : Prop := t.lanes = s.lanes ∧ t.module = s.module

/-- Events of the Wharf bus (chapter 12). -/
def wharfBusCommand : Instr → Bool
  | .canFrameRx _ _ _ => true | .txRequestAdmit _ _ => true | .frameStart _ _ _ => true | .canFrameEnd _ _ _ => true
  | .busOffHoldoffEnd _ _ => true | .busOffRecovery _ _ => true | .busoffLimit _ _ => true | .tideRowStart _ _ => true
  | .exclusiveWindow _ _ => true | .channelModeChange _ => true
  | _ => false

/-- Events of PTP time, the logbook, the snapshot network, and the service registers outside PWR_ (chapters 10, 15 and
16). -/
def serviceCommand : Instr → Bool
  | .ptpSyncRx _ _ _ => true | .ptpFollowUpRx _ _ _ => true | .ptpAnnounceRx _ _ _ => true
  | .announceReceiptTimeout _ _ => true | .pdelayReqSend _ _ => true | .pdelayReqRx _ _ _ _ => true
  | .pdelayRespRx _ _ _ _ => true | .transparentClockForward _ _ _ _ => true
  | .logEvent _ => true | .snapRequest _ _ => true | .snapinEdge _ _ => true | .snapWindowEnd => true
  | .snapLocalLatch _ => true | .blackboxFrameWritten => true
  | .lockKeyWrite _ _ _ => true | .lockRead _ => true | .lockTimeout _ _ => true
  | .queDataRead _ => true | .quePush _ _ => true | .queFlush _ _ => true | .queEnable _ _ => true
  | .queWmWrite _ _ _ => true | .queCfgWrite _ _ _ => true | .queErrRead _ => true
  | .chkStart _ _ => true | .chkAbort _ => true | .chkValueWrite _ _ => true | .chkScanEnd _ _ => true
  | .snpTrigGo _ _ => true | .snpBankRelease _ => true | .ptpModeWrite _ _ => true | .ptpIncrWrite _ => true
  | c => wharfBusCommand c

/-! ## Tally instructions -/

/-- Every Tally instruction that a core issues, on one set of fields (Table 4.12). -/
def tallyForms (ln : LaneId) (core : CoreId) (f : Fields) : List Instr :=
  [.cadd ln core f, .csub ln core f, .cmulk ln core f, .ccmpEq ln core f, .ccmpNe ln core f, .ccmpLt ln core f,
    .ccmpLe ln core f, .band ln core f, .bor ln core f, .bnot ln core f, .bsel ln core f, .ldl ln core f, .stl ln core f,
    .lde ln core f, .ste ln core f, .ldi ln core f, .sto ln core f, .tmsStart ln core f, .tmsRestart ln core f,
    .tmsCancel ln core f, .tmx ln core f, .edg ln core f, .rrq ln core f, .brf ln core f, .loopnInit ln core f,
    .loopnClose ln core f, .ckpt ln core f, .snap ln core f, .endp ln core f]

/-- What the next instruction of a core sees: the lane and the core once the generated code before the program has run and
the debugger's writes of its index have been replayed (R492, R112). -/
def tctx (s : State) (ln : LaneId) (core : CoreId) (p : Pass) : TCtx :=
  match (s.lane ln).context (s.pilotOf ln) core p with
  | .ok t => t
  | .error _ => ⟨s.lane ln, core, p, (s.lane ln).cores.get core⟩

/-- A core has an instruction to issue in pass `p`: its lane is in that pass, its gate is open, and neither what runs before
the instruction nor the fetch meets a fault (R115). -/
def issuing (s : State) (ln : LaneId) (core : CoreId) (p : Pass) : Prop :=
  (s.lane ln).issues core = some p ∧ (s.lane ln).context (s.pilotOf ln) core p = .ok (tctx s ln core p) ∧
  fetchReady (tctx s ln core p) = .ok ()

/-- A V or P register holds a plain value under its own tag (R81). -/
def regHolds (t : TCtx) (isP : Bool) (r : BitVec 6) (x : Int) : Prop :=
  inS32 x = true ∧ (t.c.reg isP r).c = encodeWord t.p x (t.c.reg isP r).tag t.d

/-- A word of memory is configured, without an SRAM error, and holds a plain value (R82, R88). -/
def wordHolds (t : TCtx) (off key : Nat) (x : Int) : Prop :=
  wordReady t off key = .ok () ∧ inS32 x = true ∧
  t.read key off = encodeWord t.p x (t.L.sig key).b (dOf key t.L.cn)

/-- TRUE or FALSE (R84). -/
def isBoolean (x : Int) : Prop := x = vTrue ∨ x = vFalse

/-- The state once a core has retired the instruction at `pc` in `n` clk_t that left lane `L` and core `c`: only that lane
changes. -/
def retired (s : State) (ln : LaneId) (core : CoreId) (pc n : Nat) (L : Lane) (c : Core) : State :=
  let c1 : Core := { c with clk := c.clk + n, occ := Tbl.upd 0 c.occ pc (· + 1) }
  (s.putLane ln { L with cores := L.cores.set core c1 }).settle

/-! ## Lanes and consensus -/

/-- A lane is out of the vote for a cause: gated, and with every switch open (R107, R210). -/
def leftVote (u : State) (ln : LaneId) (c : Cause) : Prop :=
  u.laneState ln = .outFault ∧ (u.lane ln).cause = c ∧ (u.lane ln).switches = [] ∧ (u.lane ln).pass = none ∧
  (u.lane ln).route.gated = true ∧ ∀ k, ((u.lane ln).cores.get k).running = false

/-- Every lane IN-VOTE holds the same record of every lane IN-VOTE: the one that lane made (R207, R208). -/
def recordsAgree (s : State) : Prop :=
  ∀ ln m, s.votes ln = true → s.votes m = true →
    (s.lane ln).consRecs.get m = (s.lane m).consRecs.get m ∧ ((s.lane m).consRecs.get m).isSome = true

/-- Nothing but the cycle itself goes on: SVC is up, no Pilot session, no shutdown, no online change agreed. -/
def quiet (s : State) : Prop :=
  s.uplink.up = true ∧ s.pilot = none ∧ s.pilotDue = false ∧ s.bist.shutdownDue = false ∧ s.testing = false ∧
  ∀ ln, ∀ c ∈ (s.lane ln).agreedCmds, c.cmd ≠ .onlineChange

end Sys2Proof.Machine
end

