-- ==== Sys2Proof/Certificates/Slice0/Obligations.lean ====
section
/-! DEFINITION. The statements for the provers. -/

open Sys2Proof Sys2Proof.Machine

/-! ## Tally instructions -/

/-- R122, R123: CADD, CSUB and CMULK put the coded exact result with the tag B_d into V DST and change nothing else
but the core's own PC, count, signature and occurrence count. R81, R107: a sum, difference or product outside the
signed 32-bit range is a RANGE fault of the lane. -/
def Obligations.CodedArithmeticResult : Prop :=
  (∀ (s : State) (ln : LaneId) (core : CoreId) (p : Pass) (f : Fields) (x y : Int),
    let t := tctx s ln core p
    issuing s ln core p → fbd f ≠ 0 → regHolds t false f.src1 x →
    (ffld f 24 14 = 0 → regHolds t false f.src2 y → inS32 (x + y) = true →
      exec (.cadd ln core f) s = .next (retired s ln core t.c.pc 1 t.L
        (t.c.writeReg false f.dst (encodeWord p (x + y) (fbd f) t.d) (fbd f) (x + y)).next)) ∧
    (ffld f 24 14 = 0 → regHolds t false f.src2 y → inS32 (x - y) = true →
      exec (.csub ln core f) s = .next (retired s ln core t.c.pc 1 t.L
        (t.c.writeReg false f.dst (encodeWord p (x - y) (fbd f) t.d) (fbd f) (x - y)).next)) ∧
    (f.src2 = 0 → toSigned 14 (ffld f 24 14) ≠ 0 → inS32 (toSigned 14 (ffld f 24 14) * x) = true →
      exec (.cmulk ln core f) s = .next (retired s ln core t.c.pc 3 t.L
        (t.c.writeReg false f.dst (encodeWord p (toSigned 14 (ffld f 24 14) * x) (fbd f) t.d) (fbd f)
          (toSigned 14 (ffld f 24 14) * x)).next))) ∧
  (∀ (s : State) (ln : LaneId) (core : CoreId) (p : Pass) (f : Fields) (x y : Int),
    let t := tctx s ln core p
    issuing s ln core p → fbd f ≠ 0 → regHolds t false f.src1 x →
    (ffld f 24 14 = 0 → regHolds t false f.src2 y → inS32 (x + y) = false →
      exec (.cadd ln core f) s = .next (s.codedFault ln core.idx p t.c.pc t.c.clk
        ⟨.range, 0, encodeWord p (x + y) (fbd f) t.d, fbd f, t.d⟩).settle) ∧
    (ffld f 24 14 = 0 → regHolds t false f.src2 y → inS32 (x - y) = false →
      exec (.csub ln core f) s = .next (s.codedFault ln core.idx p t.c.pc t.c.clk
        ⟨.range, 0, encodeWord p (x - y) (fbd f) t.d, fbd f, t.d⟩).settle) ∧
    (f.src2 = 0 → toSigned 14 (ffld f 24 14) ≠ 0 → inS32 (toSigned 14 (ffld f 24 14) * x) = false →
      exec (.cmulk ln core f) s = .next (s.codedFault ln core.idx p t.c.pc t.c.clk
        ⟨.range, 0, encodeWord p (toSigned 14 (ffld f 24 14) * x) (fbd f) t.d, fbd f, t.d⟩).settle))

/-- R124: the compares put TRUE or FALSE into V or P DST and change nothing else of the machine. R125, R126: the
boolean instructions on V and P registers. -/
def Obligations.CompareAndBooleanResult : Prop :=
  (∀ (s : State) (ln : LaneId) (core : CoreId) (p : Pass) (f : Fields) (x y : Int),
    let t := tctx s ln core p
    let after (b : Bool) := retired s ln core t.c.pc 2 t.L
      (t.c.writeReg (fbit f 37) f.dst (encodeWord p (if b then 13769 else 2614) (fbd f) t.d) (fbd f)
        (if b then 13769 else 2614)).next
    issuing s ln core p → fbd f ≠ 0 → ffld f 24 13 = 0 → (fbit f 37 = true → isPX f.dst = true) →
    regHolds t false f.src1 x → regHolds t false f.src2 y →
    exec (.ccmpEq ln core f) s = .next (after (decide (x = y))) ∧
    exec (.ccmpNe ln core f) s = .next (after (decide (x ≠ y))) ∧
    exec (.ccmpLt ln core f) s = .next (after (decide (x < y))) ∧
    exec (.ccmpLe ln core f) s = .next (after (decide (x ≤ y)))) ∧
  (∀ (s : State) (ln : LaneId) (core : CoreId) (p : Pass) (f : Fields) (x y z : Int),
    let t := tctx s ln core p
    let after (v : Int) := retired s ln core t.c.pc 1 t.L
      (t.c.writeReg (fbit f 37) f.dst (encodeWord p v (fbd f) t.d) (fbd f) v).next
    issuing s ln core p → fbd f ≠ 0 → (fbit f 37 = true → isPX f.dst = true) →
    (fbit f 36 = true → isPX f.src1 = true) → (fbit f 35 = true → isPX f.src2 = true) →
    regHolds t (fbit f 36) f.src1 x →
    (ffld f 24 11 = 0 → regHolds t (fbit f 35) f.src2 y → isBoolean x → isBoolean y →
      exec (.band ln core f) s = .next (after (if x = vTrue ∧ y = vTrue then vTrue else vFalse)) ∧
      exec (.bor ln core f) s = .next (after (if x = vTrue ∨ y = vTrue then vTrue else vFalse))) ∧
    (ffld f 24 12 = 0 → f.src2 = 0 → isBoolean x →
      exec (.bnot ln core f) s = .next (after (if x = vTrue then vFalse else vTrue))) ∧
    (ffld f 24 8 = 0 → regHolds t (fbit f 35) f.src2 y →
      regHolds t true (BitVec.ofNat 6 (ffld f 32 3)) z → isBoolean z →
      (fbit f 36 = true → isBoolean x) → (fbit f 35 = true → isBoolean y) →
      (fbit f 37 = true → isBoolean (if z = vTrue then x else y)) →
      exec (.bsel ln core f) s = .next (after (if z = vTrue then x else y))))

/-- R130: LDL, LDE and LDI bring the plain value of the word into V DST with the word's own B as tag, or into X DST
plain. -/
def Obligations.LoadResult : Prop :=
  ∀ (s : State) (ln : LaneId) (core : CoreId) (p : Pass) (f : Fields) (sp : Space) (a : Nat) (x : Int),
    let t := tctx s ln core p
    let key := flatKey sp a
    let after (n : Nat) := retired s ln core t.c.pc n (t.corrected [key])
      (if fbit f 37 then t.c.writeX f.dst x
       else t.c.writeReg false f.dst (encodeWord p x (t.L.sig key).b t.d) (t.L.sig key).b x).next
    issuing s ln core p → ffld f 32 3 = 0 → f.src1 = 0 → addrFormat f = true →
    (fbit f 37 = true → isPX f.dst = true ∧ t.c.counts f.dst = false) →
    resolve t sp f = .ok a → wordHolds t 0 key x →
    (sp = (if fbit f 35 then .k else .l) → exec (.ldl ln core f) s = .next (after 2)) ∧
    (sp = (if fbit f 35 then .t else .e) → exec (.lde ln core f) s = .next (after 2)) ∧
    (sp = .i → fbit f 35 = false → exec (.ldi ln core f) s = .next (after 3))

/-- R131, R132: STL, STE and STO write the source's plain value, coded by the word's own B, into the word of the
pass's copy the address names, with its pre-image in the journal; STO with BF = 1 asks for a boolean. R131: a store of a
pass changes the one word it names in the pass's own copy: every other word of that copy and every word of the other
copy read as the instruction saw them, and every other lane is as before. A source whose tag is not the word's B is a
CODE fault of the lane, and a store to K, T or word 0 of a frame in O, which no core owns, an OWNER fault. -/
def Obligations.StoreResult : Prop :=
  (∀ (s : State) (ln : LaneId) (core : CoreId) (p : Pass) (f : Fields) (sp : Space) (a off : Nat) (x : Int),
    let t := tctx s ln core p
    let key := flatKey sp a
    let r := t.c.reg (fbit f 34) f.src1
    let after (n : Nat) := retired s ln core t.c.pc n (storePlain t (t.corrected [key]) key x off) t.c.next
    let fault (e : TFault) := Host.Outcome.next (s.codedFault ln core.idx p t.c.pc t.c.clk e).settle
    issuing s ln core p → fbit f 37 = false → ffld f 32 2 = 0 → f.dst = 0 → addrFormat f = true →
    (fbit f 34 = true → isPX f.src1 = true) →
    resolve t sp f = .ok a → wordReady t off key = .ok () → inS32 x = true →
    (r.tag = (t.L.sig key).b → r.c = encodeWord p x (t.L.sig key).b t.d →
      (storeReady t off 1 [key] = .ok () →
        (sp = .l → fbit f 35 = false → off = 1 → exec (.stl ln core f) s = .next (after 2)) ∧
        (sp = .e → fbit f 35 = false → off = 2 → exec (.ste ln core f) s = .next (after 3)) ∧
        (sp = .o → off = 2 → (fbit f 35 = true → isBoolean x) → a % 32 ≠ 0 →
          exec (.sto ln core f) s = .next (after 3))) ∧
      (sp = .k → fbit f 35 = true → off = 1 → exec (.stl ln core f) s = fault (t.L.wordFault p off key .owner)) ∧
      (sp = .t → fbit f 35 = true → off = 2 → exec (.ste ln core f) s = fault (t.L.wordFault p off key .owner)) ∧
      (sp = .o → off = 2 → (fbit f 35 = true → isBoolean x) → a % 32 = 0 →
        exec (.sto ln core f) s = fault (t.L.wordFault p off key .owner))) ∧
    (r.tag ≠ (t.L.sig key).b →
      (sp = (if fbit f 35 then .k else .l) → off = 1 →
        exec (.stl ln core f) s = fault ⟨.code, off, r.c, (t.L.sig key).b, t.d⟩) ∧
      (sp = (if fbit f 35 then .t else .e) → off = 2 →
        exec (.ste ln core f) s = fault ⟨.code, off, r.c, (t.L.sig key).b, t.d⟩) ∧
      (sp = .o → off = 2 → exec (.sto ln core f) s = fault ⟨.code, off, r.c, (t.L.sig key).b, t.d⟩))) ∧
  (∀ (s : State) (ln : LaneId) (core : CoreId) (p : Pass) (f : Fields) (sp : Space) (a off : Nat) (x : Int) (i : Instr),
    let t := tctx s ln core p
    let key := flatKey sp a
    let r := t.c.reg (fbit f 34) f.src1
    (i = .stl ln core f ∧ sp = .l ∧ fbit f 35 = false ∧ off = 1 ∨
     i = .ste ln core f ∧ sp = .e ∧ fbit f 35 = false ∧ off = 2 ∨
     i = .sto ln core f ∧ sp = .o ∧ off = 2 ∧ (fbit f 35 = true → isBoolean x) ∧ a % 32 ≠ 0) →
    issuing s ln core p → fbit f 37 = false → ffld f 32 2 = 0 → f.dst = 0 → addrFormat f = true →
    (fbit f 34 = true → isPX f.src1 = true) →
    resolve t sp f = .ok a → wordReady t off key = .ok () → inS32 x = true → r.tag = (t.L.sig key).b →
    r.c = encodeWord p x (t.L.sig key).b t.d → storeReady t off 1 [key] = .ok () →
    s.uplink.up = true →
    ∃ u, exec i s = .next u ∧
      (u.lane ln).word p key = encodeWord p x (t.L.sig key).b 0 ∧
      (∀ q k, q ≠ p ∨ k ≠ key → (u.lane ln).word q k = t.L.word q k) ∧
      (∀ m, m ≠ ln → u.lane m = s.lane m))

/-- R492, R112, R117: what an instruction sees once the generated code of its partition has run and no debugger writes
at its index is the lane and the core as they stand, with the fetched word's single-bit error corrected: no memory
word, register, count or signature has changed. R108, R115, R149, for every Tally instruction: a fault of the generated
code before the core's first instruction, or of the fetch, takes the lane out at the instruction's place. R58: a gated core
issues nothing. -/
def Obligations.InstructionContext : Prop :=
  ∀ (s : State) (ln : LaneId) (core : CoreId) (p : Pass) (m : Manifest) (f : Fields) (t : TCtx) (e : TFault),
    let L := s.lane ln
    (L.image = some m → (genList m core).length ≤ (L.cores.get core).gen → s.pilotOf ln = none →
      L.context (s.pilotOf ln) core p =
        .ok ⟨L.correct [softCode (core.idx * 262144 + (L.cores.get core).pc)], core, p, L.cores.get core⟩ ∧
      ∀ q k, (tctx s ln core p).L.word q k = L.word q k) ∧
    (∀ i ∈ tallyForms ln core f,
      (L.issues core = some p → L.context (s.pilotOf ln) core p = .error e →
        exec i s = .next (s.codedFault ln core.idx p (L.cores.get core).pc (L.cores.get core).clk e).settle) ∧
      (L.issues core = some p → L.context (s.pilotOf ln) core p = .ok t → fetchReady t = .error e →
        exec i s = .next (s.codedFault ln core.idx p t.c.pc t.c.clk e).settle) ∧
      (L.issues core = none → exec i s = .next s.settle))

/-- R133-R135: TMS starts, restarts and cancels a timer, TMX tells whether it has run out; each in both words of the
timer. R136, R138-R140: EDG stores its input in the detector and answers the edge of its MODE; RRQ puts a request into
the route engine's queue. -/
def Obligations.TimerEdgeAndRouteRequest : Prop :=
  (∀ (s : State) (ln : LaneId) (core : CoreId) (p : Pass) (f : Fields) (a : Nat) (st ex d : Int),
    let t := tctx s ln core p
    let k0 := flatKey .m a
    let k1 := flatKey .m (a + 1)
    let set : Int × Int := if d ≤ 0 then (2, t.L.cn.toInt) else (1, (t.L.cn + BitVec.ofInt 32 d).toInt)
    let after (r : Int × Int) := retired s ln core t.c.pc 2 (storePlain t (storePlain t (t.corrected [k0, k1]) k0 r.1 1) k1 r.2 1) t.c.next
    issuing s ln core p → addrFormat f = true → resolve t .m f = .ok a → a % 2 = 0 → a < 32768 →
    wordHolds t 0 k0 st → wordHolds t 0 k1 ex →
    (fbit f 37 = false → ffld f 32 2 = 0 → f.dst = 0 → storeReady t 1 2 [k0, k1] = .ok () →
      regHolds t false f.src1 d →
      exec (.tmsStart ln core f) s = .next (after (if st = 1 then (st, ex) else set)) ∧
      exec (.tmsRestart ln core f) s = .next (after set)) ∧
    (fbit f 37 = false → ffld f 32 2 = 0 → f.dst = 0 → f.src1 = 0 → storeReady t 1 2 [k0, k1] = .ok () →
      exec (.tmsCancel ln core f) s = .next (after (0, ex))) ∧
    (ffld f 32 4 = 0 → f.src1 = 0 → (fbit f 37 = true → isPX f.dst = true) → storeReady t 2 1 [k0] = .ok () →
      let st' : Int := if st = 1 then (if notEarlier t.L.cn (BitVec.ofInt 32 ex) then 2 else 1)
        else if st = 2 then 2 else 0
      let v : Int := if st' = 2 then vTrue else vFalse
      exec (.tmx ln core f) s = .next (retired s ln core t.c.pc 3 (storePlain t (t.corrected [k0, k1]) k0 st' 2)
        (t.c.writeReg (fbit f 37) f.dst (encodeWord p v (t.L.sig k0).b t.d) (t.L.sig k0).b v).next))) ∧
  (∀ (s : State) (ln : LaneId) (core : CoreId) (p : Pass) (f : Fields) (a : Nat) (old x r : Int),
    let t := tctx s ln core p
    let key := flatKey .m a
    issuing s ln core p →
    (ffld f 34 2 ≠ 3 → fbit f 32 = false → (fbit f 37 = true → isPX f.dst = true) →
      (fbit f 33 = true → isPX f.src1 = true) → addrFormat f = true → resolve t .m f = .ok a → 32768 ≤ a →
      wordHolds t 0 key old → isBoolean old → regHolds t (fbit f 33) f.src1 x → isBoolean x →
      storeReady t 2 1 [key] = .ok () →
      let edge : Prop := old ≠ x ∧
        (ffld f 34 2 = 0 ∧ x = vTrue ∨ ffld f 34 2 = 1 ∧ x = vFalse ∨ ffld f 34 2 = 2)
      ∃ v, (edge ∧ v = vTrue ∨ ¬ edge ∧ v = vFalse) ∧
        exec (.edg ln core f) s = .next (retired s ln core t.c.pc 3 (storePlain t (t.corrected [key]) key x 2)
          (t.c.writeReg (fbit f 37) f.dst (encodeWord p v (t.L.sig key).b t.d) (t.L.sig key).b v).next)) ∧
    (ffld f 32 5 = 0 → ffld f 13 15 = 0 → ffld f 28 4 < 3 → f.dst = 0 → f.src2 = 0 →
      (if fbit f 37 then f.src1 = 0 ∧ r = (ffld f 0 13 : Int) else ffld f 0 13 = 0 ∧ regHolds t false f.src1 r) →
      0 ≤ r → r ≤ 8191 → (t.L.sig (keyRoute r.toNat 0)).b ≠ 0 → (t.L.sig (keyRoute r.toNat 0)).parityOk = true →
      t.L.eccSig.contains (keyRoute r.toNat 0) = false → t.L.route.accepted < 256 →
      exec (.rrq ln core f) s = .next (retired s ln core t.c.pc 2
        { t.L.correct [softSig (keyRoute r.toNat 0)] with route := { t.L.route with
            queue := enqueue ⟨core.idx, t.c.pc, r.toNat, ffld f 28 4, t.c.clk + 2⟩ t.L.route.queue
            accepted := t.L.route.accepted + 1, gated := false } } t.c.next)))

/-- R141-R145: BRF branches on FALSE and where it always branches; LOOPN opens a loop with its counter at 0, goes back
while the counted value does not exceed the bound, and closes the loop after that. R104, R105, R146-R148: CKPT keeps
SG in pass 1 and demands the same SG in pass 2; the first SNAP of a pass 1 is kept as the trigger; ENDP feeds the
count, hands SG over and gates the core. -/
def Obligations.FlowAndPassControlResult : Prop :=
  (∀ (s : State) (ln : LaneId) (core : CoreId) (p : Pass) (f : Fields) (x : Int) (e : LoopEntry) (rest : List LoopEntry),
    let t := tctx s ln core p
    let target := ffld f 0 18
    issuing s ln core p →
    (ffld f 18 18 = 0 → f.dst = 0 → f.src2 = 0 → t.c.pc < target → target < t.codeLen →
      (∀ k, t.c.innerClose = some k → target ≤ k) →
      (if fbit f 37 then f.src1 = 0 ∧ fbit f 36 = false
       else (fbit f 36 = true → isPX f.src1 = true) ∧ regHolds t (fbit f 36) f.src1 x ∧ isBoolean x) →
      exec (.brf ln core f) s = .next (retired s ln core t.c.pc 2 t.L
        (if fbit f 37 = true ∨ x = vFalse then { t.c with pc := target } else t.c.next))) ∧
    (ffld f 34 3 = 0 → isPX f.dst = true → f.src1 = 0 → f.src2 = 0 → t.c.pc < target →
      (∀ k, t.c.innerClose = some k → target < k) → t.c.loops.length < 4 → t.c.counts f.dst = false →
      exec (.loopnInit ln core f) s = .next (retired s ln core t.c.pc 2 t.L
        (Core.next { t.c.writeX f.dst 0 with
          loops := ⟨t.c.pc + 1, target, f.dst.toNat, ffld f 18 16⟩ :: t.c.loops }))) ∧
    (ffld f 34 3 = 0 → isPX f.dst = true → f.src1 = 0 → f.src2 = 0 → t.c.loops = e :: rest →
      e.close = t.c.pc → e.counter = f.dst.toNat → e.bound = ffld f 18 16 → e.start = target →
      let xr := Tbl.get ({} : XReg) t.c.x f.dst.toNat
      xr.parityOk = true → xr.written = true →
      let n := xr.val.toInt + 1
      exec (.loopnClose ln core f) s = .next (retired s ln core t.c.pc 2 t.L
        (if n ≤ e.bound then { t.c.writeX f.dst n with pc := e.start }
         else Core.next { t.c.writeX f.dst n with loops := rest })))) ∧
  (∀ (s : State) (ln : LaneId) (core : CoreId) (p : Pass) (f : Fields) (h : PartHdr) (M : Lane) (c : Core),
    let t := tctx s ln core p
    let k := ffld f 0 6
    issuing s ln core p → f.dst = 0 → f.src1 = 0 → f.src2 = 0 →
    (ffld f 6 32 = 0 → t.L.part core = some h → k < h.ckpts → t.c.loops = [] →
      (p = .p1 → Tbl.get none t.c.ckptSlots k = none →
        exec (.ckpt ln core f) s = .next (retired s ln core t.c.pc 12 t.L
          (Core.next { t.c with ckptSlots := Tbl.set none t.c.ckptSlots k (some t.c.sg)
                                ckptCount := t.c.ckptCount + 1 }))) ∧
      (p = .p2 → Tbl.get none t.c.ckptSlots k = some t.c.sg →
        exec (.ckpt ln core f) s = .next (retired s ln core t.c.pc 12 t.L
          (Core.next { t.c with ckptCount := t.c.ckptCount + 1 }))) ∧
      (p = .p2 → Tbl.get none t.c.ckptSlots k ≠ some t.c.sg →
        exec (.ckpt ln core f) s = .next
          (s.codedFault ln core.idx p t.c.pc t.c.clk { cause := .ckpt }).settle)) ∧
    (ffld f 16 22 = 0 →
      (p = .p1 → t.L.snapTally = none →
        exec (.snap ln core f) s = .next (retired s ln core t.c.pc 2
          { t.L with snapTally := some (t.c.clk, core.idx, t.c.pc, ffld f 0 16), snapUnacked := true } t.c.next)) ∧
      (p = .p2 → exec (.snap ln core f) s = .next (retired s ln core t.c.pc 2 t.L t.c.next))) ∧
    (f.opnd = 0 → t.c.loops = [] → presentRun t = .ok (M, c) →
      (p = .p2 → c.ckptCount = c.ckptPass1) →
      let fed := c.feed 0x50 ((c.clk + 16 : Nat) : Int)
      exec (.endp ln core f) s = .next (retired s ln core t.c.pc 16 M
        (if p = .p1 then { fed with finalSg := fed.sg, endp := true, running := false, ckptPass1 := c.ckptCount }
         else { fed with finalSg := fed.sg, endp := true, running := false }))))

/-! ## The lane's cycle -/

/-- R44, R52, R199: at its tick a lane counts CN on, moves its next tick by the rule of R52 (R376 in STANDBY), holds its
trim within 50 ppm, and latches its local bit vector; no other lane changes. R54: a lane whose tick lies more than 0.25 µs
from the median, or whose trim would exceed 50 ppm, leaves the vote with cause CLOCK. R55: with two lanes IN-VOTE, ticks
more than 0.5 µs apart take the module to HALT. R52, R53, R59: a marker gives the offset of its sender less the latency of the link, a
wake request is noted, and a gate that has not acknowledged takes the lane out with cause CLOCK. R58, R77, R102, R104,
R42, R63, R64: each pass starts with the registers, the clk_t and the signatures at their pass start values; a core
that has not ended by the budget is an overrun, and a pass that has is closed. -/
def Obligations.TickMarkersAndPasses : Prop :=
  (∀ (s : State) (ln : LaneId) (t : Nat) (mids : List (Nat × Nat × Nat)),
    let L := s.lane ln
    let dist := tickShift ln L
    let shift := if s.module = .standby then s.phiShift else dist
    let cs := (shift :: L.corrections).take 16
    let trim := trimOf (tcOf L.image) cs
    runsCycle s.module = true → s.uplink.up = true →
    (s.laneState ln = .inVote ∧ clockBad ln L dist trim = false ∧ ticksApart ln L = false ∨
      s.laneState ln = .rejoining) →
    ∃ u, exec (.agreedTick ln t mids) s = .next u ∧ (u.lane ln).cn = L.cn + 1 ∧ (u.lane ln).phase = .idle ∧
      (u.lane ln).tickMove = shift ∧ (u.lane ln).corrections = cs ∧
      (u.lane ln).trim = max (-50000) (min 50000 trim) ∧ (u.lane ln).theta = L.thetaNext ∧
      (u.lane ln).inp.latched = localVector L.localCfg L.inp s.dead ∧
      (u.lane ln).views = L.views ∧ (u.lane ln).copy1 = L.copy1 ∧ (u.lane ln).copy2 = L.copy2 ∧
      (u.lane ln).switches = L.switches ∧ (∀ m, m ≠ ln → u.lane m = s.lane m) ∧
      u.now = max s.now t ∧ u.module = s.module) ∧
  (∀ (s : State) (ln : LaneId) (t : Nat) (mids : List (Nat × Nat × Nat)),
    let L := s.lane ln
    let shift := if s.module = .standby then s.phiShift else tickShift ln L
    let trim := trimOf (tcOf L.image) ((shift :: L.corrections).take 16)
    runsCycle s.module = true → s.laneState ln = .inVote → s.testing = false → s.uplink.up = true →
    (clockBad ln L (tickShift ln L) trim = true →
      ∃ u, exec (.agreedTick ln t mids) s = .next u ∧ leftVote u ln .clock) ∧
    (clockBad ln L (tickShift ln L) trim = false → ticksApart ln L = true →
      ∃ u, exec (.agreedTick ln t mids) s = .next u ∧ u.module = .halt)) ∧
  ((∀ (s : State) (ln src : LaneId) (rx : Int) (l : ClxLink) (a b : Bool),
    (linkOf ln src = some l → s.clxOk.link l = true → runsCycle s.module = true → s.laneState src = .inVote →
      exec (.tickMarkerRx ln src rx) s = .next (s.updLane ln (fun L =>
        if rx < 0 then { L with thetaNext := L.thetaNext.set src (some (rx - L.latency.get src)) }
        else { L with theta := L.theta.set src (some (rx - L.latency.get src)) }))) ∧
    ((s.lane ln).active ln = true → runsPasses s.module = true →
      exec (.wakeRequest ln) s = .next (s.updLane ln (fun L => { L with wakeRequested := true }))) ∧
    ((s.lane ln).wakeRequested = true → (a && b) = false → s.votes ln = true → s.testing = false →
      ∃ u, exec (.wakeDeadline ln a b) s = .next u ∧ leftVote u ln .clock)) ∧
  (∀ (s : State) (ln : LaneId),
    let L := s.lane ln
    let started (u : State) (p : Pass) : Prop := (u.lane ln).pass = some p ∧
      ∀ c, ((u.lane ln).cores.get c).v = [] ∧ ((u.lane ln).cores.get c).p = [] ∧ ((u.lane ln).cores.get c).x = [] ∧
        ((u.lane ln).cores.get c).pc = 0 ∧ ((u.lane ln).cores.get c).clk = 0 ∧ ((u.lane ln).cores.get c).loops = [] ∧
        (((u.lane ln).part c).isSome = true → ((u.lane ln).cores.get c).running = true ∧
          ((u.lane ln).cores.get c).sg = BitVec.ofNat 64 (L.cn.toNat * 2 ^ 32 + 0xA5A0 + c.idx))
    (s.pilotDue = false → s.pilot = none → L.active ln = true → runsPasses s.module = true →
      L.readyForPass1 = true →
      ∃ u, exec (.pass1Start ln) s = .next u ∧ started u .p1 ∧ (u.lane ln).phase = .pass1 ∧
        (u.lane ln).views = L.views) ∧
    (s.pilot = none → L.active ln = true → L.phase = .pass1 → L.ovr = false →
      ∃ u, exec (.pass2Start ln) s = .next u ∧ started u .p2 ∧ (u.lane ln).phase = .pass2 ∧
        (u.lane ln).views = L.views) ∧
    (s.pilot = none → L.pass.isSome = true → overrunNow L = true →
      exec (.passBudgetCheck ln) s = .next ((s.putLane ln { L.gate with ovr := true, phase := .waitCons }).raiseLaneAll ln
        (overBudget L)).settle) ∧
    (s.pilot = none → L.pass = some .p1 → overrunNow L = false → s.uplink.up = true →
      ∃ u, exec (.passBudgetCheck ln) s = .next u ∧ (u.lane ln).sig1 = passSig L ∧ (u.lane ln).pass = none ∧
        ∀ c, ((u.lane ln).cores.get c).running = false) ∧
    (s.pilotDue = false → L.active ln = true → runsPasses s.module = true → L.phase = .pAgree → L.decided = true →
      L.repairs ≠ [] → s.testing = false →
      ∃ u, exec (.pass1Start ln) s = .next u ∧ leftVote u ln .agree)))

/-! ## Agreement -/

/-- R202 (Table 7.5): what the lanes decide for one input, with three lanes and with two, and for one bit of the local
vector. -/
def Obligations.InputDecisionTable : Prop :=
  ∀ (a b c : LaneId) (x y z : Option U64) (v w r : BitVec 128) (i : Nat),
    ((decideInput [(a, x), (b, y), (c, z)]).digest =
      if x = y ∨ x = z then x else if y = z then y else none) ∧
    ((decideInput [(a, x), (b, y), (c, z)]).noMajority = true ↔ x ≠ y ∧ x ≠ z ∧ y ≠ z) ∧
    (x = y → z ≠ x → (decideInput [(a, x), (b, y), (c, z)]).minority = [c]) ∧
    (x = z → y ≠ x → (decideInput [(a, x), (b, y), (c, z)]).minority = [b]) ∧
    (y = z → x ≠ y → (decideInput [(a, x), (b, y), (c, z)]).minority = [a]) ∧
    ((decideInput [(a, x), (b, y)]).digest = if x = y then x else none) ∧
    ((decideInput [(a, x), (b, y)]).disagree = true ↔ x ≠ y) ∧
    ((decideBits [v, w, r]).getLsbD i =
      (v.getLsbD i && w.getLsbD i || v.getLsbD i && r.getLsbD i || w.getLsbD i && r.getLsbD i)) ∧
    ((decideBits [v, w]).getLsbD i = (v.getLsbD i && w.getLsbD i))

/-- R200, R201: P-AGREE opens with the lane's own records, one for every configured input, a peer's record is held beside
its bit vector, and a lane
whose records on its two links differ leaves the vote with cause AGREE. R279, R302: a controller frame older
than UPMAX and a safe-link frame past its bound take F := 1 and their restrictive values. R418: a first message of a two-message command that has stood for more than 60 s is
dropped. -/
def Obligations.AgreementExchangeAndAges : Prop :=
  (∀ (s : State) (ln src t : LaneId) (r : AgreeRec) (bits : LocalBits) (crc : U64),
    let L := s.lane ln
    (L.active ln = true → runsCycle s.module = true → L.phase = .idle → s.uplink.up = true →
      ∃ u, exec (.pAgreeStart ln) s = .next u ∧ (u.lane ln).phase = .pAgree ∧ (u.lane ln).vectors.get ln = L.localBits ∧
        (∀ i ∈ L.inputs ++ L.localInputs, (Tbl.get none ((u.lane ln).recs.get ln) i).isSome = true) ∧
        (u.lane ln).recsFrom = ln :: L.recsFrom ∧ (u.lane ln).views = L.views ∧
        (∀ m, m ≠ ln → (u.lane ln).recs.get m = L.recs.get m) ∧ (∀ m, m ≠ ln → u.lane m = s.lane m)) ∧
    (L.phase = .pAgree → L.decided = false → src ≠ ln → L.views.get src = .inVote →
      exec (.agreementRecordRx ln src (some r) bits) s = .next (s.putLane ln { L with
        recs := L.recs.set src (Tbl.set none (L.recs.get src) r.input (some r))
        recsFrom := if L.recsFrom.contains src then L.recsFrom else src :: L.recsFrom
        vectors := L.vectors.set src bits }).settle) ∧
    (L.phase = .pAgree → L.decided = false → src ≠ ln → thirdLane ln src = some t → s.voters.length = 3 →
      L.recsFrom.contains t = true → crc ≠ recsCrc (L.recs.get t) → s.testing = false →
      ∃ u, exec (.agreementEchoRx ln src crc) s = .next u ∧ leftVote u t .agree ∧
        ∀ m, (u.lane m).leftOut.contains t = true)) ∧
  ((∀ (s : State) (ln : LaneId) (frame : Nat) (m : Manifest) (e : Nat × CtrlCfg) (k : Nat) (c : ConnCfg) (g : MsgCfg)
    (a : Nat) (at_ : U32),
    let L := s.lane ln
    let w := L.sup.frameWord frame 0
    L.image = some m → L.phase = .pAgree →
    (m.body.ctrls.find? (fun e => decide (e.1 = frame)) = some e → L.decided = true → (e.2.upMax : Int) < w / 2 →
      w % 2 = 0 →
      exec (.uplinkAgeLimit ln frame) s = .next (s.putLane ln (Lane.codeFrames
        { L with sup := L.sup.heldFrame frame (w + 1) e.2.up }))) ∧
    ((inMsgs m).find? (fun e => decide (e.2.2.frame = frame)) = some (k, c, g) →
      Tbl.get none (Tbl.get {} L.sup.conns k).bounds g.msg = some (a, at_) →
      c.tmax * 10 < a + (L.st - safeTime at_ L.cnE (tcOf L.image)).toNat →
      exec (.safeLinkAgeExpiry ln frame) s = .next (s.putLane ln (Lane.codeFrames
        { L with sup := L.sup.heldFrame frame (w / 2 * 2 + 1) g.fields })))) ∧
  (∀ (s : State) (ln : LaneId), s.uplink.up = true →
    ∃ u, exec (.firstMessageLapse ln) s = .next u ∧
      (∀ f ∈ (s.lane ln).sup.firsts, 120000 < sinceHalfMs (s.lane ln) f.cn → f ∉ (u.lane ln).sup.firsts) ∧
      (∀ f ∈ (s.lane ln).sup.firsts, sinceHalfMs (s.lane ln) f.cn < 120000 → f ∈ (u.lane ln).sup.firsts) ∧
      (u.lane ln).views = (s.lane ln).views ∧ (u.lane ln).copy1 = (s.lane ln).copy1 ∧
      (u.lane ln).copy2 = (s.lane ln).copy2 ∧ ∀ m, m ≠ ln → u.lane m = s.lane m))

/-- R202, R203, R204: the lane decides; a lane that would need more than 64 repairs, a repair that fails its check, and a
lane in the minority for 8 cycles or on more than 64 inputs leave the vote with cause AGREE. -/
def Obligations.AgreementDecision : Prop :=
  ∀ (s : State) (ln src : LaneId) (input : Nat) (payload : List Byte) (d : U64),
    let L := s.lane ln
    (L.phase = .pAgree → L.decided = false → L.recordsHeld ln = true → L.active ln = true → s.uplink.up = true →
      (L.decideAll ln).repairs ≠ [] →
      ((L.decideAll ln).repairs.length ≤ 64 →
        ∃ u, exec (.inputAgreement ln) s = .next u ∧ (u.lane ln).decided = true ∧
          (u.lane ln).repairs = (L.decideAll ln).repairs ∧ (u.lane ln).localViews = (L.decideAll ln).localViews ∧
          (∀ m, m ≠ ln → u.lane m = s.lane m)) ∧
      (64 < (L.decideAll ln).repairs.length → s.testing = false →
        ∃ u, exec (.inputAgreement ln) s = .next u ∧ leftVote u ln .agree)) ∧
    (L.phase = .pAgree → L.decided = false → L.recordsHeld ln = true → L.active ln = true → s.uplink.up = true →
      (L.decideAll ln).repairs = [] → laterClaim s.pair.clm (clmReport s.pair.clm (L.decideAll ln)) = none →
      ∃ u, exec (.inputAgreement ln) s = .next u ∧ (u.lane ln).decided = true ∧
        u.pair.clmReports.get ln = clmReport s.pair.clm (L.decideAll ln) ∧ (∀ m, m ≠ ln → u.lane m = s.lane m)) ∧
    (Tbl.get none L.repairs input = some d → L.phase = .pAgree →
      (L.deciders ln).find? (fun m => decide (m ≠ ln) && decide (L.viewOf input m = some d)) = some src →
      (crc64 payload = d → Tbl.set none L.repairs input none ≠ [] →
        exec (.repairPayloadRx ln src input payload) s = .next (s.putLane ln { L with
          repairs := Tbl.set none L.repairs input none
          localViews := Tbl.upd {} L.localViews input (fun v => { v with payload := payload }) }).settle) ∧
      (crc64 payload ≠ d → s.testing = false → L.active ln = true →
        ∃ u, exec (.repairPayloadRx ln src input payload) s = .next u ∧ leftVote u ln .agree)) ∧
    (L.decided = true → s.votes ln = true → 64 < L.minority ∨ 8 ≤ L.minorityRun → s.testing = false →
      ∃ u, exec (.agreeMinorityLimit ln) s = .next u ∧ leftVote u ln .agree)

/-! ## Consensus -/

/-- R207, R208: a lane whose passes agree puts its record into P-CONS; a lane whose passes differ excludes itself with
PASSCMP; a peer's record is held. R208, R28, R51, R210: a record missing at both other lanes excludes its lane as
SILENT; the failure of a link, and an exchange damaged after its resend, take out the higher-numbered of its lanes; a
notice of an exclusion opens the receiver's switches of the shared pair. -/
def Obligations.ConsensusRecordsAndFailures : Prop :=
  (∀ (s : State) (ln src : LaneId) (r : ConsRec),
    let L0 := s.lane ln
    let L := L0.closePass.gate
    (s.pilot = none → L0.active ln = true → runsCycle s.module = true → L0.phase = .pass2 → L0.ovr = false →
      (L.sig1 = L.sig2 → L.outBad = none →
        let vec := switchVector L s.module s.dead (resetLatches L L.sup.outs)
        exec (.pConsStart ln) s = .next (s.putLane ln (Lane.holdRec ln
          ⟨L.cn, L.sig1, L.outDigest vec, false, L.views⟩ { L with phase := .pCons, newVec := vec })).settle) ∧
      (L.sig1 ≠ L.sig2 → s.testing = false →
        ∃ u, exec (.pConsStart ln) s = .next u ∧ leftVote u ln (.coded .passcmp))) ∧
    (s.pilot = none → L0.active ln = true → runsCycle s.module = true → L0.phase = .waitCons → L0.ovr = true →
      exec (.pConsStart ln) s = .next (s.putLane ln (Lane.holdRec ln ⟨L.cn, 0, 0, true, L.views⟩
        { L with phase := .pCons })).settle) ∧
    (L0.phase = .pCons → src ≠ ln → L0.views.get src = .inVote →
      exec (.consensusRecordRx ln src (some r)) s = .next (s.putLane ln (L0.holdRec src r)).settle)) ∧
  (∀ (s : State) (ln src t : LaneId) (l : ClxLink),
    s.testing = false → runsCycle s.module = true →
    (s.voters = [.l1, .l2, .l3] → (s.lane ln).phase = .pCons → src ≠ ln → thirdLane ln src = some t →
      ((s.lane ln).consRecs.get src).isNone = true → ((s.lane t).consRecs.get src).isNone = true →
      ((s.lane ln).consRecs.get t).isSome = true →
      ∃ u, exec (.exchangeDeadline ln) s = .next u ∧ leftVote u src .silent) ∧
    (s.voters = [.l1, .l2, .l3] →
      ∃ u, exec (.clxLinkFailure l false) s = .next u ∧ leftVote u l.ends.2 .clx ∧ u.clxOk = s.clxOk.setLink l false) ∧
    (s.voters = [.l1, .l2, .l3] →
      ∃ u, exec (.clxLinkFailure l true) s = .next u ∧ leftVote u l.ends.2 .exchange ∧ u.clxOk = s.clxOk) ∧
    (ln ≠ src → s.laneState src = .outFault → 2 ≤ s.voters.length → (s.lane ln).views.get src ≠ .outFault →
      exec (.exclusionNoticeRx ln src) s = .next (s.updLane ln (Lane.see ln src)).settle ∧
      (∀ ch,
        (Tbl.get 0 (Lane.see ln src (s.lane ln)).switches ch).getLsbD (pairBit ln src) = false)))

/-- R65, R208 (Tables 2.5 and 7.8): what three and two records decide. -/
def Obligations.ConsensusTable : Prop :=
  ∀ (a b c : LaneId) (x y z : ConsRec),
    let same (p q : ConsRec) : Prop := p.sig = q.sig ∧ p.out = q.out
    (x.ovr = false → y.ovr = false → z.ovr = false →
      (same x y → same x z → decideCons [(a, x), (b, y), (c, z)] = .commit none) ∧
      (same x y → ¬ same x z → decideCons [(a, x), (b, y), (c, z)] = .commit (some c)) ∧
      (same x z → ¬ same x y → decideCons [(a, x), (b, y), (c, z)] = .commit (some b)) ∧
      (same y z → ¬ same x y → decideCons [(a, x), (b, y), (c, z)] = .commit (some a)) ∧
      (¬ same x y → ¬ same x z → ¬ same y z → decideCons [(a, x), (b, y), (c, z)] = .lost)) ∧
    (x.ovr = false → y.ovr = false → z.ovr = true →
      (same x y → decideCons [(a, x), (b, y), (c, z)] = .commit (some c)) ∧
      (¬ same x y → decideCons [(a, x), (b, y), (c, z)] = .lost)) ∧
    (x.ovr = false → y.ovr = true → z.ovr = true →
      decideCons [(a, x), (b, y), (c, z)] = .skip (some a) false) ∧
    (x.ovr = true → y.ovr = true → z.ovr = true → decideCons [(a, x), (b, y), (c, z)] = .skip none false) ∧
    (x.ovr = false → y.ovr = false →
      (same x y → decideCons [(a, x), (b, y)] = .commit none) ∧ (¬ same x y → decideCons [(a, x), (b, y)] = .lost)) ∧
    (x.ovr = true → y.ovr = false → decideCons [(a, x), (b, y)] = .skip none true) ∧
    (x.ovr = true → y.ovr = true → decideCons [(a, x), (b, y)] = .skip none false)

/-- R208, R209: when the lanes IN-VOTE hold equal records without an overrun, each of them commits its cycle, and a lane
neither IN-VOTE nor REJOINING is left as it was. -/
def Obligations.EqualRecordsCommit : Prop :=
  ∀ (s : State) (sg od : U64),
    runsCycle s.module = true → s.inCons = true → quiet s → 2 ≤ s.voters.length → recordsAgree s →
    (∀ ln r, s.votes ln = true → (s.lane ln).consRecs.get ln = some r → r.sig = sg ∧ r.out = od ∧ r.ovr = false) →
    ∃ u, exec .consensusDecision s = .next u ∧
      (∀ ln, s.votes ln = true → u.lane ln = (s.lane ln).commitCycle) ∧
      (∀ ln, s.votes ln = false → s.laneState ln ≠ .rejoining → u.lane ln = s.lane ln) ∧
      u.skippedCn = none ∧ (u.module = s.module ∨ s.module = .restricted ∧ u.module = .operational)

/-- R208, R210: a lane of three whose signature or output digest stands alone is excluded with cause SIGCMP, with its
switches open, and the other two commit. R216, R478: the second skipped cycle in succession takes the module to HALT:
no lane is IN-VOTE and no switch is closed. -/
def Obligations.MinorityExcludedAndSecondSkipHalts : Prop :=
  (∀ (s : State) (bad : LaneId) (sg od : U64) (rb : ConsRec),
    runsCycle s.module = true → quiet s → s.voters = [.l1, .l2, .l3] → recordsAgree s → s.inCons = true →
    (s.lane bad).consRecs.get bad = some rb → rb.ovr = false → (rb.sig ≠ sg ∨ rb.out ≠ od) →
    (∀ ln r, ln ≠ bad → (s.lane ln).consRecs.get ln = some r → r.sig = sg ∧ r.out = od ∧ r.ovr = false) →
    ∃ u, exec .consensusDecision s = .next u ∧ leftVote u bad .sigcmp ∧
      ∀ ln, ln ≠ bad → u.laneState ln = .inVote ∧ (u.lane ln).committed = true ∧
        (u.lane ln).cnC = (s.lane ln).cn ∧ (u.lane ln).views.get bad = .outFault) ∧
  (∀ (s : State),
    runsCycle s.module = true → quiet s → s.inCons = true → 2 ≤ s.voters.length → recordsAgree s →
    (∀ ln r, s.votes ln = true → (s.lane ln).consRecs.get ln = some r → r.ovr = true) →
    s.skippedCn = some ((s.lane s.lead).cn - 1) →
    ∃ u, exec .secondSkipHalt s = .next u ∧ u.module = .halt ∧ u.voters = [] ∧
      ∀ ln, (u.lane ln).switches = [] ∧ u.laneState ln ≠ .inVote)

/-- R209, R211, R66, R153: at the end of P-CONS a lane that committed its cycle issues the new switch vector, after a
skipped cycle it holds the one it has, and a lane of a module that does not command opens every switch; the sweep moves on
by 16 384 words, and a word it finds bad takes the lane out. R212, R206: P-SIGN leaves the lane's downlink bodies with its
code, none where the module signs nothing, and reports the agreed messages and commands of a committed cycle. R419: a
release whose time has passed enters the head of the route engine's queue. -/
def Obligations.SwitchCommandsSignAndRelease : Prop :=
  (∀ (s : State) (ln : LaneId) (e : Pass × TFault),
    let L := s.lane ln
    let done : Prop := L.everCompleted = true ∧ L.cnC = L.cn
    runsCycle s.module = true → L.active ln = true → L.phase = .judged ∨ s.module = .standby →
    ((L.issueVector ln s.module).sweepBad = none →
      ∃ u, exec (.pConsEnd ln) s = .next u ∧
        (u.lane ln).phase = (if L.phase = .judged then .pSign else L.phase) ∧
        (commandsNet s.module = true → done → (u.lane ln).vec = L.newVec ∧ (u.lane ln).prevVec = L.vec ∧
          (∀ e ∈ (u.lane ln).switches, L.newVec.getLsbD e.1 = true ∧ s.laneState ln = .inVote)) ∧
        (commandsNet s.module = true → ¬ done → (u.lane ln).vec = L.vec ∧ (u.lane ln).switches = L.switches) ∧
        (commandsNet s.module = false → (u.lane ln).vec = 0 ∧ (u.lane ln).switches = []) ∧
        (u.lane ln).sweep = (L.sweep + 16384) % 589824 ∧ (u.lane ln).eccSoft = [] ∧
        (u.lane ln).views = L.views ∧ (u.lane ln).copy1 = L.copy1 ∧ (u.lane ln).copy2 = L.copy2 ∧
        u.module = s.module ∧ (s.uplink.up = true → ∀ k, k ≠ ln → u.lane k = s.lane k)) ∧
    ((L.issueVector ln s.module).sweepBad = some e → s.testing = false → s.pilot = none →
      ∃ u, exec (.pConsEnd ln) s = .next u ∧ leftVote u ln (.coded e.2.cause))) ∧
  (∀ (s : State) (ln : LaneId) (m : Manifest),
    let L := s.lane ln
    let test := decide (s.module = .test)
    let due := L.sup.irels.filter (fun e => notEarlier L.cn e.2 &&
      !L.route.queue.any (fun q => decide (q.kind = 15) && decide (q.route = e.1)))
    let signs : Prop := commandsNet s.module = true ∧ (L.committed = true ∨ L.everCompleted = true)
    (s.votes ln = true → runsPasses s.module = true → L.phase = .pSign →
      ∃ u, exec (.pSignStart ln) s = .next u ∧ (u.lane ln).phase = .signed ∧ (u.lane ln).views = L.views ∧
        (L.image = some m → signs →
          (u.lane ln).signedDown = (signAll ln L m test s.pair.unitB s.pair.clm).1 ∧
          (u.lane ln).supC.conns = (buildAll L m test s.pair.unitB s.pair.clm).1) ∧
        (L.image = some m → ¬ signs → (u.lane ln).signedDown = []) ∧
        (L.committed = true → u.uplink.cmds = s.uplink.cmds.filter (fun c => !L.reportCmds.contains c.seq.toNat) ∧
          u.uplink.held = s.uplink.held.filter (fun c => !L.reportMsgs.any (fun r => retires r c.toSlCopy))) ∧
        (u.lane ln).switches = L.switches ∧ (u.lane ln).copy1 = L.copy1 ∧ (u.lane ln).copy2 = L.copy2 ∧
        (∀ k, k ≠ ln → u.lane k = s.lane k) ∧ u.module = s.module) ∧
    (s.laneState ln = .rejoining → runsPasses s.module = true → L.phase = .pSign →
      ∃ u, exec (.pSignStart ln) s = .next u ∧ (u.lane ln).phase = .signed ∧ u.uplink = s.uplink ∧
        (L.image = some m → signs → (u.lane ln).supC.conns = (buildAll L m test s.pair.unitB s.pair.clm).1) ∧
        (u.lane ln).signedDown = L.signedDown ∧ (∀ k, k ≠ ln → u.lane k = s.lane k)) ∧
    (L.pass.isSome = true → L.route.busyUntil = 0 → due ≠ [] →
      exec (.irelEntry ln) s = .next (s.putLane ln { L with route := { L.route with
        queue := due.map (fun e => ⟨5, 0, e.1, 15, 0⟩) ++ L.route.queue, gated := false } })))

/-! ## Restart, rejoin and tests of a lane -/

/-- R197, R217: 1.0 s after its exclusion a lane that may restart becomes REJOINING on its own image, and so does one
a Maintainer commands to rejoin, where exactly two lanes run the same manifest and its links calibrate (R53); no other lane
changes its state. R219, R220: the third matching shadow cycle brings the lane into the vote at every lane; a rejoin whose
conditions no longer hold, or that has not matched in 16 shadow cycles, ends with cause REJOIN. R218: a chunk that has the
CRC of the higher-numbered donor's, and its updates, are coded into both copies of the rejoining lane, and the frame state
after 64 of them completes the transfer; a check code that differs, or a read-only word that differs, fails the rejoin. -/
def Obligations.RejoinOfLane : Prop :=
  ((∀ (s : State) (ln : LaneId) (f t sess : Nat) (trips : Trips),
    let rejoins (u : State) : Prop := u.laneState ln = .rejoining ∧ (u.lane ln).rejoin = {} ∧
      (u.lane ln).switches = [] ∧ (u.lane ln).journal = [] ∧ (∀ m, m ≠ ln → u.laneState m = s.laneState m) ∧
      ∀ m, (u.lane m).views.get ln = .rejoining
    s.laneState ln = .outFault → s.voters.length = 2 → runsCycle s.module = true →
    (∀ v, s.votes v = true → imageId (s.lane v).image = imageId (s.lane ln).image) →
    (∀ m l, linkOf ln m = some l → tripsOk (trips.link l) = true ∧ s.marked (.link l) = false) →
    ((s.lane ln).faultAt = some f → f + 1000000000 ≤ t → (s.touch t).mayRestart ln f = true →
      ∃ u, exec (.laneRestart ln t trips) s = .next u ∧ rejoins u ∧
        ∀ m l, linkOf ln m = some l → (u.lane ln).latency.get m = ((trips.link l).sum / 128 : Nat)) ∧
    (s.maintainer sess = true → ∃ u, exec (.rejoinCommand sess ln trips) s = .next u ∧ rejoins u)) ∧
  (∀ (s : State) (ln : LaneId),
    s.laneState ln = .rejoining → s.testing = false →
    (3 ≤ (s.lane ln).rejoin.matching → runsCycle s.module = true →
      ∃ u, exec (.rejoinComplete ln) s = .next u ∧ u.laneState ln = .inVote ∧ (u.lane ln).cause = .none ∧
        (∀ m, (u.lane m).views.get ln = .inVote) ∧ (∀ m, m ≠ ln → u.laneState m = s.laneState m)) ∧
    (s.rejoinOk ln = false ∨ 16 ≤ (s.lane ln).rejoin.shadow ∧ (s.lane ln).rejoin.matching < 3 →
      ∃ u, exec (.rejoinFailure ln) s = .next u ∧ leftVote u ln .rejoin))) ∧
  (∀ (s : State) (ln : LaneId) (chunk : List (Nat × Int)) (frames : List (Nat × Int)),
    let L := s.lane ln
    let donor := s.lane s.lead
    let k := L.rejoin.chunks
    let same : Prop := crc64 (wordBytes chunk) = crc64 (wordBytes ((s.lane s.checker).chunkWords k))
    let sameF : Prop := crc64 (wordBytes frames) = crc64 (wordBytes (s.lane s.checker).frameState)
    let L1 := L.putAll (chunk ++ donor.updatesBefore k)
    s.laneState ln = .rejoining → s.testing = false → (∀ v ∈ s.voters, (s.lane v).sendsState = true) →
    (k < 64 → L.rejoin.chunkCn ≠ some donor.cn →
      (same → L.readOnlyBad chunk = false →
        exec (.rejoinChunkRx ln chunk) s = .next (s.putLane ln
          { L1 with rejoin := { L1.rejoin with chunks := k + 1, chunkCn := some donor.cn } }).settle) ∧
      (¬ same ∨ L.readOnlyBad chunk = true →
        ∃ u, exec (.rejoinChunkRx ln chunk) s = .next u ∧ leftVote u ln .rejoin)) ∧
    (k = 64 → L.rejoin.framesDone = false → L.rejoin.chunkCn = some donor.cn →
      (sameF → exec (.rejoinFrameStateRx ln frames) s = .next (s.putLane ln (Lane.takeFrom donor L frames)).settle) ∧
      (¬ sameF → ∃ u, exec (.rejoinFrameStateRx ln frames) s = .next u ∧ leftVote u ln .rejoin)))

/-- R222, R223, R475: the rotating test takes the lane whose turn it is out of the vote with its switches open; a lane
that is not IN-VOTE when its turn comes is passed over; a passed step leads to the next, the seventh to the rejoin, and a
failed step (R320: step 6 by the midpoints read) and the 120 s limit exclude the lane with cause TEST; a Maintainer defers
a test; the loss of a lane's PLL lock excludes it with cause CLOCK. -/
def Obligations.RotatingTestAndClockLoss : Prop :=
  ∀ (s : State) (ln : LaneId) (t sess ns : Nat) (r : TestReading),
    ((s.touch t).testMayStart = true →
      ∃ u, exec (.rotatingTestStart t) s = .next u ∧ u.laneState s.rot.next = .outTest ∧
        (u.lane s.rot.next).cause = .rotate ∧ (u.lane s.rot.next).switches = [] ∧ u.rot.active = some s.rot.next ∧
        u.rot.step = 1 ∧ u.rot.started = max s.now t ∧
        ∀ m, m ≠ s.rot.next → u.laneState m = s.laneState m ∧ (u.lane m).views.get s.rot.next = .outTest) ∧
    ((s.touch t).testDue = true → runsCycle s.module = true → (s.touch t).testMayStart = false →
      ∃ u, exec (.rotatingTestStart t) s = .next u ∧ u.rot.active = s.rot.active ∧
        (s.votes s.rot.next = true → u.rot.next = s.rot.next) ∧
        (s.votes s.rot.next = false → s.votes (nextLane s.rot.next) = true → u.rot.next = nextLane s.rot.next) ∧
        (∀ m, u.laneState m = s.laneState m)) ∧
    (s.rot.active = some ln → s.laneState ln = .outTest → s.testing = false →
      (s.stepPasses ln r = true → s.rot.step < 7 →
        ∃ u, exec (.testStepEnd ln r) s = .next u ∧ u.rot.step = s.rot.step + 1 ∧ u.laneState ln = .outTest) ∧
      (s.stepPasses ln r = true → 7 ≤ s.rot.step → s.voters.length = 2 → runsCycle s.module = true →
        (∀ v, s.votes v = true → imageId (s.lane v).image = imageId (s.lane ln).image) →
        (∀ m l, linkOf ln m = some l → tripsOk (r.trips.link l) = true ∧ s.marked (.link l) = false) →
        ∃ u, exec (.testStepEnd ln r) s = .next u ∧ u.laneState ln = .rejoining ∧ (u.lane ln).switches = []) ∧
      (s.stepPasses ln r = false →
        ∃ u, exec (.testStepEnd ln r) s = .next u ∧ leftVote u ln .test ∧ u.rot.active = none) ∧
      (s.rot.started + 120000000000 ≤ t →
        ∃ u, exec (.rotatingTestTimeout t) s = .next u ∧ leftVote u ln .test ∧ u.rot.active = none)) ∧
    (s.maintainer sess = true → ns ≤ s.testInterval →
      ∃ u, exec (.deferTest sess ns) s = .next u ∧ u.rot.deferNs = ns ∧ u.lanes = s.lanes) ∧
    (s.votes ln = true → runsCycle s.module = true → s.testing = false →
      ∃ u, exec (.pllLockLoss ln) s = .next u ∧ leftVote u ln .clock)

/-! ## Pilot -/

/-- R109, R110, R114: a session captures the cycle of Lane 1, which leaves the vote with its switches open; at its end
the lane's memory goes back to the committed state and the lane rejoins. R111-R113: what the debugger does in pass 1
of the captured cycle: breakpoints, a step of one instruction, reads, writes with their replay journal (a memory write
that finds the pre-image journal full ends the replay as a fault), and a rerun from the pre-images. -/
def Obligations.PilotSessionAndDebugger : Prop :=
  (∀ (s : State) (sess : Nat) (p : Pilot),
    (s.commissioner sess = true → (s.keepAlive sess).mayPilot = true →
      (s.lanes.l1.readyForPass1 = true →
        ∃ u, exec (.pilotOpen sess) s = .next u ∧ u.pilot.isSome = true ∧ u.laneState .l1 = .outTest ∧
          (u.lane .l1).cause = .pilot ∧ (u.lane .l1).switches = [] ∧
          u.laneState .l2 = .inVote ∧ u.laneState .l3 = .inVote) ∧
      (s.lanes.l1.readyForPass1 = false →
        ∃ u, exec (.pilotOpen sess) s = .next u ∧ u.pilotDue = true ∧ u.lanes = s.lanes)) ∧
    (s.pilot = some p → s.uplink.up = true → s.laneState .l1 = .outTest → s.voters = [.l2, .l3] →
      runsCycle s.module = true → s.linksUp .l1 = true →
      imageId s.lanes.l2.image = imageId s.lanes.l1.image → imageId s.lanes.l3.image = imageId s.lanes.l1.image →
      ∃ u, exec .pilotClose s = .next u ∧ u.pilot = none ∧ u.pilotDue = false ∧ u.laneState .l1 = .rejoining ∧
        u.voters = [.l2, .l3])) ∧
  (∀ (s : State) (core : CoreId) (p : Pilot) (idx occ : Nat) (tgt : PilotTarget) (x : Int) (L : Lane) (c : Core)
    (g w : Lane × Core) (e : TFault),
    let c0 := s.lanes.l1.cores.get core
    let op := opOf (Tbl.get 0 s.lanes.l1.code (core.idx * 262144 + c0.pc))
    let t := tctx s .l1 core .p1
    s.pilot = some p →
    (p.breakpoints.length < 16 → exec (.pilotBreakpointSet core idx occ) s =
      .next { s with pilot := some { p with breakpoints := p.breakpoints ++ [(core.idx, idx, occ)] } }) ∧
    exec .pilotRerun s = .next { s.updLane .l1 (Lane.rewind p) with
      pilot := some { p with journal := [], ended := false, stoppedAt := none, reply := none } } ∧
    (s.pilotPass1 = true →
      exec (.pilotRead core tgt) s = .next { s with pilot := some { p with reply := s.lanes.l1.inspect core tgt } } ∧
      (p.journal.length < 256 → s.lanes.l1.mayPoke tgt x = true → s.lanes.l1.genTo .p1 core none = .ok g →
        (pilotApply .p1 core g.1 g.2 tgt x = .ok w → exec (.pilotWrite core tgt x) s =
          .next (State.settle { s.putLane .l1 { w.1 with cores := w.1.cores.set core w.2 } with
            pilot := some { p with
              journal := p.journal ++ [(core.idx, c0.pc, Tbl.get 0 c0.occ c0.pc + 1, tgt, x)], reply := some x } })) ∧
        (pilotApply .p1 core g.1 g.2 tgt x = .error e → exec (.pilotWrite core tgt x) s =
          .next (s.codedFault .l1 core.idx .p1 c0.pc g.2.clk e).settle)) ∧
      (p.breaks core c0 = true → exec (.pilotBreakpointHit core) s =
        .next { s with pilot := some { p with stoppedAt := some (core.idx, c0.pc) } }) ∧
      (issuing s .l1 core .p1 → op.2 t = .ok (L, c) → s.uplink.up = true →
        ∃ u, exec (.pilotStep core) s = .next u ∧ u.lane .l1 = (retired s .l1 core t.c.pc op.1 L c).lane .l1 ∧
          u.pilot = some { p with stoppedAt := some (core.idx, c.pc) })))

/-! ## Quayline: the plane chips -/

/-- R31: the second strobe of the lanes for a tick sets the plane tick, with its CN; a plane that gets fewer than two falls
silent. -/
def Obligations.PlaneTickFromStrobes : Prop :=
  ∀ (s : State) (pl : PlaneId) (ln m : LaneId) (t : Nat) (cn : U32),
    let p := s.plane pl
    s.planeOn pl = true →
    (runsCycle s.module = true → s.votes ln = true → (s.lane ln).strobeCn = some cn →
      ¬ (p.running = true ∧ p.cn = cn) → (s.touch t).mayStart pl cn = true →
      (p.strobes = [] →
        exec (.tickStrobeRx pl ln t) s = .next ((s.touch t).putPlane pl { p with strobes := [ln] })) ∧
      (p.strobes = [m] → m ≠ ln → s.votes m = true → (s.lane m).strobeCn = some cn → s.handedOver = false →
        ∃ u, exec (.tickStrobeRx pl ln t) s = .next u ∧ (u.plane pl).cn = cn ∧ (u.plane pl).lastTick = some t ∧
          (u.plane pl).curSet = [m, ln] ∧ (u.plane pl).strobes = [] ∧
          (p.intervals.length < 15 → (u.plane pl).running = true) ∧
          ((u.plane pl).running = false → (u.plane pl).stop = .clock) ∧
          u.lanes = s.lanes ∧ u.plane pl.other = s.plane pl.other)) ∧
    (p.running = true → p.strobes.length < 2 →
      ∃ u, exec (.planeNoTick pl) s = .next u ∧ (u.plane pl).running = false ∧ (u.plane pl).stop = .noTick ∧
        u.lanes = s.lanes ∧ u.plane pl.other = s.plane pl.other)

/-- R228, R231, R241, R284: a frame with another EtherType or a bad FCS is discarded; the guardian measures the arrival of
every other in plane time, and forwards a frame of its own slot that arrives 0.2 µs early to 0.6 µs late, once, to every
lane IN-VOTE or REJOINING whose ring has room; it discards and counts every other. R248, R245: a controller that still
drifts 16 cycles after its DSET is barred on its plane and its delay is unknown; a controller missing for 16 cycles has an
unknown delay. -/
def Obligations.ReceiveGuardian : Prop :=
  (∀ (s : State) (pl : PlaneId) (seg slot c t : Nat) (frame f : List Byte),
    let p := s.plane pl
    let k := slotKey seg slot
    let e : Int := (p.timeAt t : Int) - (upSlotNs slot : Nat)
    let right : Prop := c = beAt f 4 2 % 4096 ∧ beAt f 2 1 % 8 = seg ∧ beAt f 6 2 % 512 = slot
    s.planeOn pl = true → p.live = true → s.segConfigured seg = true → s.slotCtrl seg slot = some c →
    (qlOpen frame = none → exec (.uplinkGuardian pl seg slot t frame) s = .next (s.touch t)) ∧
    (qlOpen frame = some f → s.module ≠ .standby ∨ beAt f 1 1 ≠ 0x10 →
      (-200 ≤ e → e ≤ 600 → k ∉ p.slotSeen → right → (p.ctrl c).barred = false →
        ∃ u, exec (.uplinkGuardian pl seg slot t frame) s = .next u ∧ (u.plane pl).fwd = Tbl.set [] p.fwd k f ∧
          (u.plane pl).slotSeen = k :: p.slotSeen ∧
          (p.running = true → ∀ ln, s.forwardsTo ln = true → (p.rings.get ln).length < 16 →
            (u.plane pl).rings.get ln = p.rings.get ln ++ [⟨f, p.cn, e, false, true⟩]) ∧ u.lanes = s.lanes) ∧
      (e < -200 → ∃ u, exec (.uplinkGuardian pl seg slot t frame) s = .next u ∧ (u.plane pl).fwd = p.fwd ∧
        ((u.plane pl).ctrl c).early = (p.ctrl c).early + 1 ∧ (u.plane pl).rings = p.rings ∧ u.lanes = s.lanes) ∧
      (600 < e → ∃ u, exec (.uplinkGuardian pl seg slot t frame) s = .next u ∧ (u.plane pl).fwd = p.fwd ∧
        ((u.plane pl).ctrl c).late = (p.ctrl c).late + 1 ∧ (u.plane pl).rings = p.rings ∧ u.lanes = s.lanes) ∧
      (-200 ≤ e → e ≤ 600 → k ∈ p.slotSeen →
        ∃ u, exec (.uplinkGuardian pl seg slot t frame) s = .next u ∧ (u.plane pl).fwd = p.fwd ∧
          ((u.plane pl).ctrl c).second = (p.ctrl c).second + 1 ∧ (u.plane pl).rings = p.rings ∧ u.lanes = s.lanes) ∧
      (-200 ≤ e → e ≤ 600 → k ∉ p.slotSeen → ¬ right →
        ∃ u, exec (.uplinkGuardian pl seg slot t frame) s = .next u ∧ (u.plane pl).fwd = p.fwd ∧
          ((u.plane pl).ctrl c).wrongSlot = (p.ctrl c).wrongSlot + 1 ∧ (u.plane pl).rings = p.rings ∧
          u.lanes = s.lanes))) ∧
  (∀ (s : State) (pl : PlaneId) (c n : Nat) (cfg : CtrlCfg),
    let p := s.plane pl
    s.planeOn pl = true → p.live = true →
    ((p.ctrl c).drift = true → (p.ctrl c).sinceDset = some n → 16 ≤ n → s.ctrlCfg c = some cfg →
      ∃ u, exec (.barred pl c) s = .next u ∧ ((u.plane pl).ctrl c).barred = true ∧
        ((u.plane pl).ctrl c).knownNear = false ∧ ((u.plane pl).ctrl c).knownFar = false ∧
        ((u.plane pl).seg cfg.segment).sent = (p.seg cfg.segment).sent ++ [s.timing pl cfg.segment (.bar c)] ∧
        u.lanes = s.lanes ∧ u.plane pl.other = s.plane pl.other) ∧
    (16 ≤ (p.ctrl c).missing →
      ∃ u, exec (.delayUnknown pl c) s = .next u ∧
        (s.module = .standby → ((u.plane pl).ctrl c).knownFar = false) ∧
        (s.module ≠ .standby → ((u.plane pl).ctrl c).knownNear = false) ∧ u.lanes = s.lanes))

/-- R213: the plane chip keeps the bodies of the lanes IN-VOTE, and at the slot sends the first pair of identical
bodies with both codes, as a whole Ethernet frame (R269); a slot without such a pair stays empty and is counted. R213: the
telegram of a slot carries the body of lanes 1 and 2, else of 1 and 3, else of 2 and 3, with their codes. R258: a claim
holder relays the telegram of a segment that its partner feeds once it holds both codes. -/
def Obligations.DownlinkSlots : Prop :=
  (∀ (s : State) (pl : PlaneId) (ln : LaneId) (seg slot c : Nat) (body code tel : List Byte),
    let p := s.plane pl
    let k := slotKey seg slot
    let e := Tbl.get {} p.store k
    let e1 : StoreEntry := { e with bodies := (e.bodies.filter (fun b => decide (b.1 ≠ ln))) ++ [(ln, body, code)] }
    s.planeOn pl = true → p.live = true → commandsNet s.module = true →
    (s.votes ln = true →
      (s.partnerFeeds pl seg = false ∨ s.pair.holder = false ∨ e1.telegram pl = none →
        exec (.laneBodyRx pl ln seg slot body code) s = .next (s.putPlane pl { p with
          store := Tbl.set {} p.store k e1 })) ∧
      (s.partnerFeeds pl seg = true → s.pair.holder = true → e1.telegram pl = some tel → Tbl.get [] p.relayOut k = [] →
        exec (.laneBodyRx pl ln seg slot body code) s = .next (s.putPlane pl { p with
          store := Tbl.set {} p.store k e1, relayOut := Tbl.set [] p.relayOut k tel }))) ∧
    (p.sending = true → s.slotCtrl seg slot = some c →
      (e.telegram pl = some tel →
        exec (.downlinkSlotOpen pl seg slot) s = .next (s.putPlane pl { p with
          store := Tbl.set {} p.store k {}
          sentDown := Tbl.set [] p.sentDown k (qlFrame (moduleMac s.pair.unitB) tel) })) ∧
      (e.telegram pl = none →
        ∃ u, exec (.downlinkSlotOpen pl seg slot) s = .next u ∧ (u.plane pl).sentDown = p.sentDown ∧
          ((u.plane pl).ctrl c).signLate = (p.ctrl c).signLate + 1 ∧ u.lanes = s.lanes))) ∧
  (∀ (e : StoreEntry) (pl : PlaneId) (a b c : List Byte × List Byte),
    e.part .l1 = some a → e.part .l2 = some b → e.part .l3 = some c →
    (a.1 = b.1 → e.telegram pl = some (withPlane a.1 pl.bit ++ a.2 ++ b.2)) ∧
    (a.1 ≠ b.1 → a.1 = c.1 → e.telegram pl = some (withPlane a.1 pl.bit ++ a.2 ++ c.2)) ∧
    (a.1 ≠ b.1 → a.1 ≠ c.1 → b.1 = c.1 → e.telegram pl = some (withPlane b.1 pl.bit ++ b.2 ++ c.2)) ∧
    (a.1 ≠ b.1 → a.1 ≠ c.1 → b.1 ≠ c.1 → e.telegram pl = none))

/-- R253-R255, R387: the module listens, then sends its first sync with COLD; another module's later claim stops a single
module's Quayline and takes a paired module to STANDBY with the claim before it (R386), an earlier one changes nothing but
the log, and an equal claim of an equal unit takes both to CLOSED. R228, R242: any frame but a direct sync is discarded. -/
def Obligations.QuaylineStartAndCrossing : Prop :=
  ∀ (s : State) (pl : PlaneId) (seg t listen : Nat) (frame : List Byte) (f : SyncOut),
    let calm : Prop := s.pilot = none ∧ s.pilotDue = false ∧ s.bist.shutdownDue = false
    commandsNet s.module = true → s.uplink.up = true →
    (s.pair.listenUntil = some listen → listen ≤ t →
      ∃ u, exec (.quaylineListenEnd t) s = .next u ∧ u.pair.holder = true ∧ u.pair.listenUntil = none ∧
        (∀ q, (u.plane q).sending = true ∧ (u.plane q).coldNext = true) ∧ u.lanes = s.lanes) ∧
    (s.planeOn pl = true →
      (directSync frame = none → exec (.moduleSyncRx pl seg frame t) s = .next (s.touch t).settle) ∧
      (directSync frame = some f →
        (s.rankOf f.unitB f.clm = .wins → s.pair.variantP = false →
          ∃ u, exec (.moduleSyncRx pl seg frame t) s = .next u ∧ (∀ q, (u.plane q).sending = false) ∧
            u.lanes = s.lanes ∧ u.module = s.module) ∧
        (s.rankOf f.unitB f.clm = .wins → s.pair.variantP = true → calm →
          ∃ u, exec (.moduleSyncRx pl seg frame t) s = .next u ∧ (∀ q, (u.plane q).sending = false) ∧
            u.module = .standby ∧ u.pair.clm = f.clm - 1 ∧ u.pair.holder = false) ∧
        (s.rankOf f.unitB f.clm = .loses →
          ∃ u, exec (.moduleSyncRx pl seg frame t) s = .next u ∧ u.planes = s.planes ∧ u.lanes = s.lanes ∧
            u.module = s.module) ∧
        (s.rankOf f.unitB f.clm = .same → calm →
          ∃ u, exec (.moduleSyncRx pl seg frame t) s = .next u ∧ u.module = .closed ∧
            (∀ q, (u.plane q).sending = false))))

/-- R236, R243, R246, R247: what a window sends at its start, the request of a measurement, and its result. R241: a response
after the end of its window yields none. R256, R283: the claim holder answers a line request in a line window; a non-cyclic
request is queued in SVC while fewer than 256 wait and leaves in a free window, and the response to an open request goes to
SVC. -/
def Obligations.DelayMeasurementAndLine : Prop :=
  (∀ (s : State) (pl : PlaneId) (seg win c q d t t1 t4 turn : Nat) (far inTurn : Bool) (r : OpenReq) (f : List Byte)
    (cfg : CtrlCfg) (x : Nat × List Byte) (s1 : State),
    let p := s.plane pl
    let p0 (n : Nat) := (s.touch n).plane pl
    s.planeOn pl = true → p.live = true →
    (exec (.qDynWindowStart pl win t) s = .next (((s.touch t).ports pl).foldl (fun u seg => u.openWindow pl seg win t)
      ((s.touch t).putPlane pl { p0 t with ncOpen := [] }))) ∧
    (s.windowEnd p seg win = some far → (if far then (p.seg seg).dsetFar else (p.seg seg).dsetNear) = some (c, q, d) →
      (((s.openWindow pl seg win t).plane pl).seg seg).sent =
        (p.seg seg).sent ++ [s.timing pl seg (.dset far c q d)]) ∧
    (s.windowEnd p seg win = none → s.freeWindow p seg win = true →
      (s.noteDue p seg = some c →
        (((s.openWindow pl seg win t).plane pl).seg seg).sent =
          (p.seg seg).sent ++ [s.timing pl seg (.dnote c (p.ctrl c).mean (p.ctrl c).beyond)]) ∧
      (s.noteDue p seg = none → s.takeRequest pl seg = some (x, s1) → s.ctrlCfg x.1 = some cfg →
        (((s.openWindow pl seg win t).plane pl).seg seg).sent =
          (p.seg seg).sent ++ [s.requestFrame pl p.cn x.1 cfg x.2] ∧
        (s.openWindow pl seg win t).uplink.ncQueue.get pl = (s.uplink.ncQueue.get pl).erase x)) ∧
    ((s.ports pl).contains seg = true → ¬ (s.module = .standby ∧ win = 1 ∧ s.lineWindow p seg = true) →
      s.windowEnd p seg win = some far → s.measureNext p seg far = some (c, inTurn) →
      ∃ u, exec (.dreqSend pl seg win t1) s = .next u ∧
        ((u.plane pl).seg seg).openReq = some ⟨c, far, false, ((p.seg seg).seq + 1) % 256, t1, t1 + 118000⟩ ∧
        ((u.plane pl).seg seg).sent =
          (p.seg seg).sent ++ [s.timing pl seg (.dreq far false c (((p.seg seg).seq + 1) % 256))] ∧
        (if inTurn then (if far then ((u.plane pl).seg seg).turnFar else ((u.plane pl).seg seg).turnNear) = s.slotOf c + 1
         else ((u.plane pl).seg seg).turnFar = (p.seg seg).turnFar ∧
           ((u.plane pl).seg seg).turnNear = (p.seg seg).turnNear) ∧
        u.lanes = s.lanes) ∧
    ((p.seg seg).openReq = some r → r.mod = false →
      (timingOf f = some ((pl.bit, seg), .dresp r.far false r.ctrl r.seq turn) →
        (1000 ≤ turn → turn ≤ 4000 → r.t1 + turn ≤ t4 → t4 ≤ r.until_ →
          ∃ u, exec (.drespRx pl seg f t4) s = .next u ∧
            ((u.plane pl).ctrl r.ctrl).known r.far = true ∧ ((u.plane pl).ctrl r.ctrl).barred = false ∧
            (if r.far then ((u.plane pl).seg seg).dsetFar else ((u.plane pl).seg seg).dsetNear) =
              some (r.ctrl, r.seq, (t4 - r.t1 - turn + 1) / 2) ∧ u.lanes = s.lanes) ∧
        (turn < 1000 ∨ 4000 < turn → t4 ≤ r.until_ →
          exec (.drespRx pl seg f t4) s =
            .next ((s.touch t4).putPlane pl ((p0 t4).updSeg seg (fun g => g.defer r.ctrl)))) ∧
        (r.until_ < t4 → exec (.drespRx pl seg f t4) s = .next (s.touch t4))) ∧
      exec (.drespMissing pl seg) s = .next (s.putPlane pl (p.updSeg seg (fun g => g.defer r.ctrl))))) ∧
  (∀ (s : State) (pl : PlaneId) (seg seq turn c t end_ : Nat) (far : Bool) (payload frame f : List Byte) (code : Byte),
    let p := s.plane pl
    (s.planeOn pl = true → p.live = true → p.sending = true → commandsNet s.module = true → s.lineWindow p seg = true →
      timingOf frame = some ((pl.bit, seg), .dreq far true c seq) →
      exec (.lineDreqRx pl seg frame turn) s = .next (s.putPlane pl (p.updSeg seg (fun g =>
        { g with sent := g.sent ++ [s.timing pl seg (.dresp true true 0 seq turn)], lineAnswered := true
                 lineCn := some p.cn })))) ∧
    (s.netOn = true → ncSendable payload = true → (s.uplink.ncQueue.get pl).length < 256 →
      exec (.ncRequestQueue pl c payload) s = .next { s with uplink := { s.uplink with
        ncQueue := s.uplink.ncQueue.set pl (s.uplink.ncQueue.get pl ++ [(c, payload)]) } }) ∧
    (s.netOn = true → s.planeOn pl = true → p.running = true → qlOpen frame = some f → ctrlOf f = c →
      Tbl.get none p.ncOpen c = some (code, end_) → beAt f 0 1 = 1 → beAt f 1 1 = 0x13 → lineOf f = (pl.bit, seg) →
      f.getD 32 0 = code → t ≤ end_ → (p.ctrl c).barred = false → s.uplink.ncResponses.length < 512 →
      ∃ u, exec (.ncResponseRx pl seg frame t) s = .next u ∧
        u.uplink.ncResponses = s.uplink.ncResponses ++ [(c, f)] ∧ Tbl.get none (u.plane pl).ncOpen c = none ∧
        u.lanes = s.lanes))

/-- R257: the far tick of a partner in STANDBY lies one port-to-port delay and 1.0 µs before the direct sync heard on the
lowest-numbered segment, and without a sync one T_c on the trimmed rate after the last. R258-R260: far-end feed starts
where no direct sync has come and at most three segments are fed, and stops after 16 cycles of direct sync; a relayed
downlink waits 2.0 µs for its slot, and a relayed uplink is taken for a slot whose own port saw none; a change of a line's
signal is kept. -/
def Obligations.FarTickFeedAndRelay : Prop :=
  (∀ (s : State) (pl : PlaneId) (seg trx t last : Nat) (f : SyncOut),
    let p := s.plane pl
    s.planeOn pl = true → s.module = .standby →
    (p.heardSync = some (seg, trx, f) →
      ∃ u, exec (.farTick pl t) s = .next u ∧
        (u.plane pl).farTick = some (trx - (p.seg seg).dL.getD 0 - 1000) ∧ (u.plane pl).farCn = f.cn ∧
        (u.plane pl).farClm = f.clm ∧ (u.plane pl).farTc = f.tc ∧ (u.plane pl).farCoast = false ∧ u.lanes = s.lanes) ∧
    (p.heardSync = none → p.farTick = some last →
      ∃ u, exec (.farTick pl t) s = .next u ∧ (u.plane pl).farTick = some (last + p.farPeriod) ∧
        (p.farIntervals = [] → p.farPeriod = tcNs p.farTc) ∧
        (u.plane pl).farCn = p.farCn + 1 ∧ (u.plane pl).farClm = p.farClm ∧ (u.plane pl).farCoast = true ∧
        u.lanes = s.lanes)) ∧
  (∀ (s : State) (pl : PlaneId) (seg slot c t at_ : Nat) (hd : HawserHead) (frame : List Byte) (lost : Bool),
    let p := s.plane pl
    let g := p.seg seg
    let k := slotKey seg slot
    s.planeOn pl = true →
    (s.module = .standby →
      (p.farTick.isSome = true → s.segConfigured seg = true → g.directSeen = false → g.feedNext = false →
        (p.fed.length < 4 →
          ∃ u, exec (.farEndFeedStart pl seg) s = .next u ∧ ((u.plane pl).seg seg).feedNext = true ∧
            ((u.plane pl).seg seg).directRun = 0 ∧ u.lanes = s.lanes ∧
            (s.pair.variantP = true → (u.pair.statusOut.get pl).isSome = true)) ∧
        (4 ≤ p.fed.length → g.feed = false →
          ∃ u, exec (.farEndFeedStart pl seg) s = .next u ∧ u.planes = s.planes ∧ u.lanes = s.lanes)) ∧
      (g.feedNext = true → 16 ≤ g.directRun + (if g.directSeen then 1 else 0) →
        ∃ u, exec (.farEndFeedStop pl seg) s = .next u ∧ ((u.plane pl).seg seg).feedNext = false ∧ u.lanes = s.lanes) ∧
      (s.slotCtrl seg slot = some c → g.feed = true →
        (hawserTakes 0x33 hd = true → p.live = true → s.pair.variantP = true → p.relayStore.length < 64 →
          exec (.relayRx pl true seg slot hd frame t) s = .next ((s.touch t).putPlane pl
            { p with relayStore := Tbl.set none p.relayStore k (some (frame, t)) })) ∧
        (Tbl.get none p.relayStore k = some (frame, at_) → at_ + 2000 ≤ t →
          exec (.relaySlotOpen pl seg slot t) s = .next ((s.touch t).putPlane pl
            { p with relayStore := Tbl.set none p.relayStore k none
                     sentDown := Tbl.set [] p.sentDown k (qlFrame (moduleMac s.pair.unitB) frame) })) ∧
        (Tbl.get none p.relayStore k = some (frame, at_) → t < at_ + 2000 →
          ∃ u, exec (.relaySlotOpen pl seg slot t) s = .next u ∧ (u.plane pl).sentDown = p.sentDown ∧
            (u.plane pl).relayLate = p.relayLate + 1 ∧ u.lanes = s.lanes))) ∧
    (hawserTakes 0x33 hd = true → p.live = true → s.pair.variantP = true → s.slotCtrl seg slot = some c →
      commandsNet s.module = true →
      s.pair.holder = true → k ∉ p.slotSeen → Tbl.get [] p.fwd k = [] → (p.ctrl c).barred = false →
      ∃ u, exec (.relayRx pl false seg slot hd frame t) s = .next u ∧ (u.plane pl).fwd = Tbl.set [] p.fwd k frame ∧
        (p.running = true → ∀ ln, s.forwardsTo ln = true → (p.rings.get ln).length < 16 →
          (u.plane pl).rings.get ln = p.rings.get ln ++ [⟨frame, p.cn, 0, true, true⟩]) ∧ u.lanes = s.lanes) ∧
    (g.lost ≠ lost →
      ∃ u, exec (.lossOfSignal pl seg lost) s = .next u ∧ ((u.plane pl).seg seg).lost = lost ∧ u.lanes = s.lanes))

/-! ## Object controllers -/

/-- R237, R239, R245, R251, R255, R258, R261: a valid sync sets the controller's tick one port delay and 1.0 µs before its
arrival, the near port being the one direct sync comes by; a missed one is coasted on the corrected rate; a second source
within a cycle, a COLD sync and 1.0 s without sync take class A time of the plane away, and the objects to their
restrictive state where the other plane gives no time (R38). R226: every frame received on a port leaves by the other.
R238, R250: each copy of a telegram leaves 100 µs and 2.5 µs for each slot after the tick, earlier by the delay of its
end, where main timing and Breakwater each hold that delay and agree within 8 ns and 100 ns, and not at all where the
controller is not joined, is silent, or its Breakwater has failed. -/
def Obligations.ControllerTimeAndLaunch : Prop :=
  (∀ (s : State) (c : Nat) (pl : PlaneId) (port t tb k : Nat) (m : U32) (frame : List Byte) (f : SyncOut)
    (cfg : CtrlCfg),
    let x := s.ctrl c
    let p := (x.plane pl).main
    let p0 := p.setNear port
    let q (a : ATime) : ATime := { a with intervals := a.nextIntervals port f t, tc := f.tc }
    let now (u : State) : ATime := ((u.ctrl c).plane pl).main
    let takes (u : State) (a : ATime) : Prop :=
      (now u).tick = some (t - (q a).span (((q a).delay port).getD 0 + 1000)) ∧ (now u).m = some f.cn ∧
      (now u).coasts = 0 ∧ (now u).lastSync = some t
    let falls (u : State) : Prop :=
      ((x.plane pl.other).main.m = none → (u.ctrl c).restrictive = true) ∧
      ((x.plane pl.other).main.m ≠ none → (u.ctrl c).restrictive = x.restrictive)
    let lost (u : State) : Prop := (now u).tick = none ∧ (now u).m = none ∧ (now u).joined = false ∧
      (now u).silent = true ∧ falls u
    let others (u : State) : Prop := (∀ d, d ≠ c → u.ctrl d = s.ctrl d) ∧ u.lanes = s.lanes
    (s.ctrlCfg c = some cfg → timingOf frame = some ((pl.bit, cfg.segment), .sync f) →
      (f.far = false → f.cold = false → p.crosses (f.clm, f.unitB, port) t = false → p0.syncValid port f t = true →
        ∃ u, exec (.controllerSyncRx c pl port frame t tb) s = .next u ∧ takes u p0 ∧ (now u).nearPort = port ∧
          (u.ctrl c).restrictive = x.restrictive ∧ others u) ∧
      (f.far = true → p.syncValid port f t = true →
        ∃ u, exec (.controllerSyncRx c pl port frame t tb) s = .next u ∧ takes u p ∧ (now u).onFar = true ∧
          (u.ctrl c).restrictive = x.restrictive ∧ others u) ∧
      (f.far = false → p.crosses (f.clm, f.unitB, port) t = true →
        ∃ u, exec (.controllerSyncRx c pl port frame t tb) s = .next u ∧ lost u ∧ (now u).dNear = p.dNear ∧ others u) ∧
      (f.far = false → f.cold = true → p.crosses (f.clm, f.unitB, port) t = false →
        ∃ u, exec (.controllerSyncRx c pl port frame t tb) s = .next u ∧ (now u).dNear = none ∧ (now u).dFar = none ∧
          (now u).joined = false ∧ (now u).m = some f.cn ∧ falls u ∧ others u)) ∧
    (p.tick = some k → p.m = some m → k + p.period ≤ t →
      ∃ u, exec (.controllerCoast c pl t tb) s = .next u ∧
        now u = { p with tick := some (k + p.period), m := some (m + 1), coasts := p.coasts + 1 } ∧
        (u.ctrl c).restrictive = x.restrictive ∧ others u) ∧
    (p.lastSync = some k → k + 1000000000 ≤ t →
      ∃ u, exec (.controllerSyncLoss c pl t tb) s = .next u ∧ lost u ∧ (now u).dNear = none ∧ (now u).dFar = none ∧
        others u)) ∧
  (∀ (s : State) (c : Nat) (pl : PlaneId) (port t tb turn : Nat) (frame data : List Byte) (e1 e2 : ChanFault),
    ∀ i ∈ [Instr.controllerSyncRx c pl port frame t tb, .controllerDownlinkRx c pl port frame t e1 e2,
      .controllerDreqRx c pl port frame turn tb, .controllerDsetRx c pl port frame, .controllerDnoteRx c pl port frame,
      .controllerBarRx c pl port frame, .ident c pl port frame t turn, .counters c pl port frame t turn,
      .clrcnt c pl port frame t turn, .ncDesigner c pl port frame data t turn],
    ∃ u, exec i s = .next u ∧
      ((u.ctrl c).plane pl).out = Tbl.set [] ((s.ctrl c).plane pl).out (1 - port) frame ∧
      (∀ d, d ≠ c → u.ctrl d = s.ctrl d) ∧ u.lanes = s.lanes ∧ u.planes = s.planes) ∧
  (∀ (s : State) (c : Nat) (pl : PlaneId) (at_ : Bool → LaunchAt) (inputs : List Byte) (man : Manifest) (cfg : CtrlCfg)
    (m : U32) (end_ fails : Bool) (k kg d dg : Nat) (place : Nat × Nat × Nat),
    let x := s.ctrl c
    let p := x.plane pl
    let L := at_ end_
    let tele := x.uplink man c cfg pl m inputs
    let due := p.guard.launchAt kg place.2.1 dg
    let copy (u : State) : Option SentFrame :=
      if end_ then ((u.ctrl c).plane pl).sentFar else ((u.ctrl c).plane pl).sentNear
    s.man = some man → s.ctrlCfg c = some cfg → p.main.m = some m →
    (p.main.tick = some k → p.main.endDelay end_ = some d → p.main.mayLaunch (L.start + 1616) = true →
      within 8 L.start (p.main.launchAt k cfg.slot d) = true → x.stored = some place → p.guard.tick = some kg →
      p.guard.endDelay end_ = some dg → x.guardFault = false → p.guard.enables (L.guard + 1616) = true →
      within 100 L.guard due = true →
      ∃ u, exec (.controllerLaunch c pl (at_ false) (at_ true) inputs false) s = .next u ∧
        ((u.ctrl c).plane pl).sent = some tele ∧
        copy u = some (cutFrame (qlFrame (controllerMac c) tele) L.bytes L.guard due) ∧
        (∀ d, d ≠ c → u.ctrl d = s.ctrl d) ∧ u.lanes = s.lanes) ∧
    (p.main.endDelay end_ = none ∨ p.main.joined = false ∨ p.main.silent = true ∨ p.main.noDelay = true ∨
        x.guardFault = true ∨ fails = true →
      ∃ u, exec (.controllerLaunch c pl (at_ false) (at_ true) inputs fails) s = .next u ∧ copy u = none ∧
        u.lanes = s.lanes) ∧
    (p.main.intervals = [] → 0 < p.main.tc → p.main.launchAt k cfg.slot d = k + (100000 + 2500 * cfg.slot - d)))

/-- R270-R273: a copy that fails a check is counted and applies nothing; codes that the channels judge differently restart
the controller; a copy that both channels verify and the claim filter passes is applied in a cycle in which none was; the
second of a cycle with the same bytes is a duplicate, one with other bytes takes the objects to their restrictive state.
R264, R274: past its limit the effective age takes the objects to their restrictive state; RST clears after downlinks
accepted in 8 consecutive cycles, and a restart sets it with the objects restrictive, and takes the keys loaded. -/
def Obligations.ControllerDownlinks : Prop :=
  (∀ (s : State) (c : Nat) (pl : PlaneId) (port t n : Nat) (frame f : List Byte) (man : Manifest) (cfg : CtrlCfg)
    (e1 e2 : ChanFault),
    let x := s.ctrl c
    let p := (x.plane pl).main
    let m := p.m.getD 0
    let clm : U32 := BitVec.ofNat 32 (beAt f 8 4)
    let age := beAt f 16 1 / 16
    let limit := beAt f 16 1 % 16
    let v1 := verdicts x.chan1 e1 f
    let v2 := verdicts x.chan2 e2 f
    let i := Instr.controllerDownlinkRx c pl port frame t e1 e2
    let counted (u : State) (n : Nat) : Prop := u.lanes = s.lanes ∧ (∀ d, d ≠ c → u.ctrl d = s.ctrl d) ∧
      Tbl.get 0 ((u.ctrl c).plane pl).counts n = Tbl.get 0 (x.plane pl).counts n + 1
    let kept (u : State) : Prop := (u.ctrl c).applied = x.applied ∧ (u.ctrl c).restrictive = x.restrictive
    s.man = some man → s.ctrlCfg c = some cfg →
    (qlOpen frame = none → ∃ u, exec i s = .next u ∧ counted u 0 ∧ kept u) ∧
    (qlOpen frame = some f → downCause x p man c cfg pl port t f = some n →
      ∃ u, exec i s = .next u ∧ counted u n ∧ kept u) ∧
    (qlOpen frame = some f → downCause x p man c cfg pl port t f = none →
      (v1 ≠ v2 → ∃ u, exec i s = .next u ∧ counted u 8 ∧ (u.ctrl c).rst = true ∧ (u.ctrl c).restrictive = true ∧
        (u.ctrl c).applied = none) ∧
      (v1 = v2 → v1 ≠ (true, true) → ∃ u, exec i s = .next u ∧ counted u 8 ∧ kept u) ∧
      (v1 = (true, true) → v2 = (true, true) → limit < age → ∃ u, exec i s = .next u ∧ counted u 9 ∧ kept u) ∧
      (v1 = (true, true) → v2 = (true, true) → age ≤ limit →
        (claimPass x.claims (clm, bitAt f 25) m = false → ∃ u, exec i s = .next u ∧ counted u 10 ∧ kept u) ∧
        (claimPass x.claims (clm, bitAt f 25) m = true →
          ((∀ a, x.applied = some a → a.cn ≠ m) →
            ∃ u, exec i s = .next u ∧ (u.ctrl c).applied = some ⟨f, m, age, limit, clm, bitAt f 25⟩ ∧
              (u.ctrl c).restrictive = false ∧ (u.ctrl c).lastAck = m ∧ (u.ctrl c).lastClm = clm ∧ u.lanes = s.lanes) ∧
          (∀ a, x.applied = some a → a.cn = m → downBytes a.frame = downBytes f →
            ∃ u, exec i s = .next u ∧ counted u 11 ∧ kept u) ∧
          (∀ a, x.applied = some a → a.cn = m → downBytes a.frame ≠ downBytes f → (a.clm, a.unitB) = (clm, bitAt f 25) →
            ∃ u, exec i s = .next u ∧ counted u 12 ∧ (u.ctrl c).restrictive = true))))) ∧
  (∀ (s : State) (c : Nat) (a : Applied) (m : U32) (load : Option KeyLoad) (place : Option (Nat × Nat × Nat)),
    let x := s.ctrl c
    (x.applied = some a → x.m = some m → a.limit < a.effAge m →
      exec (.controllerAgeExpiry c) s = .next (s.putCtrl c { x with restrictive := true })) ∧
    (8 ≤ x.okRun → exec (.rstClear c) s = .next (s.putCtrl c { x with rst := false })) ∧
    (∃ u, exec (.controllerRestart c load place) s = .next u ∧ (u.ctrl c).rst = true ∧ (u.ctrl c).restrictive = true ∧
      (u.ctrl c).applied = none ∧ (u.ctrl c).okRun = 0 ∧ (u.ctrl c).planes = x.planes ∧
      (u.ctrl c).stored = place.or x.stored ∧
      (load = none → (u.ctrl c).chan1 = x.chan1 ∧ (u.ctrl c).chan2 = x.chan2) ∧
      (∀ k, load = some k → (u.ctrl c).chan1 = loadStore x.chan1 ⟨k.number, k.lanes, k.up1⟩ ∧
        (u.ctrl c).chan2 = loadStore x.chan2 ⟨k.number, k.lanes, k.up2⟩) ∧ u.lanes = s.lanes))

/-- R243, R244, R247, R248, R250: a controller with full cycles in main timing and Breakwater answers a DREQ on the port it
came by, and none while it has none or its Breakwater has failed; it adopts a delay within 24 ns of the one it holds or of
the one delivered before, and else keeps the one it holds; it keeps a DNOTE, and at a BAR discards both delays and its time.
R282 (Table 9.9): what a joined controller answers to IDENT, COUNTERS, CLRCNT, a designer's service and a code not used. -/
def Obligations.ControllerServices : Prop :=
  (∀ (s : State) (c : Nat) (pl : PlaneId) (port seq turn tb slot d old count : Nat) (far : Bool) (mean : Int)
    (frame : List Byte) (cfg : CtrlCfg),
    let x := s.ctrl c
    let fx := x.forward pl port frame
    let p := (x.plane pl).main
    let line := (pl.bit, cfg.segment)
    let cand := if far then p.candFar else p.candNear
    let now (u : State) : ATime := ((u.ctrl c).plane pl).main
    s.ctrlCfg c = some cfg → x.stored = some (cfg.segment, slot, c) →
    (timingOf frame = some (line, .dreq far false c seq) →
      (p.fullCycle = true → (x.plane pl).guard.fullCycle = true → x.guardFault = false → 1000 ≤ turn → turn ≤ 4000 →
        1000 ≤ tb → tb ≤ 4000 →
        exec (.controllerDreqRx c pl port frame turn tb) s = .next (s.putCtrl c (fx.updPlane pl (fun p =>
          { p with dresp := some (port, timingFrame (controllerMac c) pl cfg.segment (.dresp far false c seq turn)) })))) ∧
      (p.fullCycle = false ∨ (x.plane pl).guard.fullCycle = false ∨ x.guardFault = true ∨ turn < 1000 ∨ 4000 < turn →
        exec (.controllerDreqRx c pl port frame turn tb) s = .next (s.putCtrl c fx))) ∧
    (timingOf frame = some (line, .dset far c seq d) →
      (p.endDelay far = none ∨ p.endDelay far = some old ∧ old ≤ d + 24 ∧ d ≤ old + 24 ∨
        p.endDelay far = some old ∧ (∃ k, cand = some k ∧ k ≤ d + 24 ∧ d ≤ k + 24) →
        ∃ u, exec (.controllerDsetRx c pl port frame) s = .next u ∧ (now u).endDelay far = some d ∧
          (now u).endDelay (!far) = p.endDelay (!far) ∧
          (p.fullCycle = true → (now u).dNear.isSome = true → (now u).joined = true) ∧
          ((u.ctrl c).plane pl).guard = (x.plane pl).guard.adopt far d ∧ u.lanes = s.lanes) ∧
      (p.endDelay far = some old → ¬ (old ≤ d + 24 ∧ d ≤ old + 24) → cand = none →
        ∃ u, exec (.controllerDsetRx c pl port frame) s = .next u ∧ (now u).endDelay far = some old ∧
          (if far then (now u).candFar else (now u).candNear) = some d ∧ u.lanes = s.lanes)) ∧
    (timingOf frame = some (line, .dnote c mean count) →
      exec (.controllerDnoteRx c pl port frame) s =
        .next (s.putCtrl c (fx.updPlane pl (fun p => { p with driftNote := some (mean, count) })))) ∧
    (timingOf frame = some (line, .bar c) →
      ∃ u, exec (.controllerBarRx c pl port frame) s = .next u ∧ (now u).dNear = none ∧ (now u).dFar = none ∧
        (now u).tick = none ∧ (now u).joined = false ∧ (now u).silent = true ∧
        ((x.plane pl.other).main.m = none → (u.ctrl c).restrictive = true) ∧ u.lanes = s.lanes)) ∧
  (∀ (s : State) (c : Nat) (pl : PlaneId) (port t turn : Nat) (frame f data : List Byte) (cfg : CtrlCfg),
    let x := s.ctrl c
    let fx := x.forward pl port frame
    let which := planeNamed f
    let said (y : Ctrl) (r : List Byte) : Host.Outcome State Fault Refusal :=
      .next (s.putCtrl c { y with responses := x.responses ++ [(pl, port, s.responseFrame c pl f r)] })
    s.requestOf c pl frame = some f → x.lets pl f t turn = true →
    (s.ctrlCfg c = some cfg → serviceOf f = 1 →
      exec (.ident c pl port frame t turn) s = said fx ([1] ++ beBytes 4 x.designer.toNat ++ beBytes 4 x.ctype.toNat ++
        beBytes 4 x.fwRev.toNat ++ beBytes 2 cfg.map.toNat ++ beBytes 1 (x.keysets.getD 0 0).toNat ++
        beBytes 1 (x.keysets.getD 1 0).toNat)) ∧
    (serviceOf f = 2 → exec (.counters c pl port frame t turn) s =
      said fx ([2] ++ (List.range 13).flatMap (fun n => beBytes 4 (Tbl.get 0 (x.plane which).counts n).toNat))) ∧
    (serviceOf f = 3 → exec (.clrcnt c pl port frame t turn) s =
      said (fx.updPlane which (fun p => { p with counts := [] })) [3]) ∧
    (128 ≤ serviceOf f → exec (.ncDesigner c pl port frame data t turn) s =
      said fx (beBytes 1 (serviceOf f) ++ data.take 127)) ∧
    (serviceOf f = 0 ∨ 3 < serviceOf f ∧ serviceOf f < 128 →
      exec (.ncDesigner c pl port frame data t turn) s = said fx [0]))

/-! ## The route engine -/

/-- R185, R188 (Table 6.5): what SET and CANCEL decide in each state of a route. R176, R179, R180, R186, R419: the
engine evaluates the request at the head of its queue, commits the decision and is busy for 24 + 4N clk_t; CHECK
writes OUTCOME alone; an individual release frees a route in APPROACH-LOCKED or RELEASING, and pass 2 uses it up. R158,
R183: a level crossing that is not proven, or has no data, refuses a reservation. -/
def Obligations.RouteTransitionsAndEvaluation : Prop :=
  (∀ (v : RouteView) (cn : U32) (ov : Overlay),
    let at7 (d : Decision) (code : Nat) : Prop := d.out = (256 * 127 + code : Nat)
    let same (d : Decision) : Prop := d.progress = v.progress ∧ d.time = v.time ∧ d.ov = [] ∧ d.route = v.sig.at 2
    (v.state = 0 ∨ v.state = 1 ∨ v.state = 7 →
      (∀ c, (reservation v).1 = some c →
        ∃ d, decideSet v cn = .ok d ∧ d.state = 7 ∧ d.out = (c : Int) ∧ same d ∧ d.permit = isTrue (v.sig.at 1)) ∧
      (∀ c, (reservation v).1 = none → (reservation v).2 = some c →
        ∃ d, decideSet v cn = .ok d ∧ d.state = 1 ∧ d.out = (c : Int) ∧ same d ∧ d.permit = isTrue (v.sig.at 1)) ∧
      ((reservation v).1 = none → (reservation v).2 = none →
        overEntries v.entries (fun k c l ov => reserveLine v k c l ov) [] = .ok ov →
        ∃ d, decideSet v cn = .ok d ∧ d.state = 2 ∧ at7 d 0x01 ∧ d.route = v.r ∧ d.ov = ov ∧
          d.permit = isTrue (v.sig.at 1)) ∧
      (∃ d, decideCancel v cn = .ok d ∧ d.state = 0 ∧ at7 d 0x09 ∧ d.progress = 0 ∧ d.ov = [])) ∧
    (v.state = 2 → firstPointUnclear v = none →
      ∃ d, decideSet v cn = .ok d ∧ d.state = 3 ∧ at7 d 0x02 ∧ same d ∧ d.permit = isTrue (v.sig.at 1)) ∧
    (v.state = 3 → firstUnclear v = none →
      ∃ d, decideSet v cn = .ok d ∧ d.state = 4 ∧ at7 d 0x03 ∧ same d ∧ d.permit = true) ∧
    (v.state = 4 → trainEntered v = false →
      (firstUnclear v = none →
        ∃ d, decideSet v cn = .ok d ∧ d.state = 4 ∧ at7 d 0x04 ∧ same d ∧ d.permit = isTrue (v.sig.at 1)) ∧
      (∀ k code, firstUnclear v = some (k, code) →
        ∃ d, decideSet v cn = .ok d ∧ d.state = 3 ∧ d.out = (256 * k + 0x05 : Nat) ∧ same d ∧ d.permit = false)) ∧
    (v.state = 4 ∨ v.state = 5 → trainEntered v = true →
      decideSet v cn = .ok (enter v cn) ∧ decideCancel v cn = .ok (enter v cn) ∧
      (enter v cn).state = 6 ∧ at7 (enter v cn) 0x06 ∧ (enter v cn).permit = false ∧ (enter v cn).route = -1) ∧
    (v.state = 3 ∨ v.state = 4 ∧ trainEntered v = false →
      (∃ e ∈ v.entries, e.kind = 9 ∧ ∃ l ∈ e.lines, l.dataOk = false ∨ isTrue (l.at 0) = false) →
      ∃ d, decideCancel v cn = .ok d ∧ d.state = 5 ∧ at7 d 0x0A ∧ d.permit = false ∧ d.ov = [] ∧
        ∀ n, timeValue v 11 = some n → d.time = (cn + BitVec.ofNat 32 n).toInt) ∧
    (v.state = 5 → trainEntered v = false →
      (∃ d, decideSet v cn = .ok d ∧ d.state = 3 ∧ at7 d 0x02 ∧ same d) ∧
      ((timeValue v 11).isSome = false ∨ timeUp cn v.time = false →
        ∃ d, decideCancel v cn = .ok d ∧ d.state = 5 ∧ at7 d 0x0B ∧ same d))) ∧
  (∀ (s : State) (ln : LaneId) (p : Pass) (q : RouteReq) (rest : List RouteReq) (G M : Lane) (v : RouteView) (d : Decision),
    let L := s.lane ln
    let start := max q.ready (if L.route.busyUntil = 0 then 0 else L.route.busyUntil + 1)
    let L1 := feedRequest { G with route := { G.route with queue := rest } } q
    let L2 := L1.correctWords p v.keys
    let left (M : Lane) : Lane := { M with route := { M.route with
      busyUntil := start + 23 + 4 * v.entries.length, gated := rest.isEmpty } }
    let after (M : Lane) : State := (s.putLane ln (left M)).settle
    let used (M : Lane) : State := (s.putLane ln (irelDone p q G (left M))).settle
    L.pass = some p → L.route.queue = q :: rest → L.route.gated = false →
    L.genBefore p start q.route = .ok G → readRoute L1 p start q.route = .ok v →
    (q.kind = 0 → decideSet v L2.cn = .ok d → commit p start v d L2 = .ok M →
      exec (.routeSet ln) s = .next (after M)) ∧
    (q.kind = 1 → decideCancel v L2.cn = .ok d → commit p start v d L2 = .ok M →
      exec (.routeCancel ln) s = .next (after M)) ∧
    (q.kind = 2 → engWrite p start (13 + 4 * v.entries.length) (keyRoute q.route 5) (decideCheck v).out L2 = .ok M →
      exec (.routeCheck ln) s = .next (after M)) ∧
    (q.kind = 15 →
      (decideIrel v = .ok none → exec (.irel ln) s = .next (used L2)) ∧
      (decideIrel v = .ok (some d) → commit p start v d L2 = .ok M → exec (.irel ln) s = .next (used M)) ∧
      irelDone .p1 q G M = M ∧
      (irelDone .p2 q G M).sup.irels = M.sup.irels.filter (fun e => decide (e.1 ≠ q.route))) ∧
    (decideIrel v = .ok (some d) → (v.state = 5 ∨ v.state = 6) ∧ d.state = 0 ∧ d.progress = 0)) ∧
  (∀ (v : RouteView) (cn : U32) (es : List Entry) (e : Entry), v.entries = e :: es → e.kind = 8 → v.sig.dataOk = true →
    v.sig.nof = true → v.sig.proof = true → (∃ l, e.line = some l ∧ l.proof = false) → e.k = 0 → e.partner = none →
    v.state = 0 → ∃ d, decideSet v cn = .ok d ∧ d.state = 7 ∧ d.out = 0x20)

/-- R180, R182: a commit leaves the decided values in the route line and the entry signal of the pass's own copy, and
changes no word but these and the planned words of the route's elements; the other copy stays. -/
def Obligations.CommitWritesDecision : Prop :=
  ∀ (p : Pass) (start : Nat) (v : RouteView) (d : Decision) (L M : Lane),
    commit p start v d L = .ok M →
    inS32 d.state = true → inS32 d.out = true → inS32 d.progress = true → inS32 d.time = true →
    inS32 d.route = true → v.r < 8192 → v.sig.id < 16384 →
    M.plainIn p (keyRoute v.r 0) = d.state ∧ M.plainIn p (keyRoute v.r 5) = d.out ∧
    M.plainIn p (keyRoute v.r 6) = d.progress ∧ M.plainIn p (keyRoute v.r 7) = d.time ∧
    M.plainIn p (keyE v.sig.id 9) = ofBool d.permit ∧ M.plainIn p (keyE v.sig.id 10) = d.route ∧
    (∀ key, key ∉ [keyRoute v.r 0, keyRoute v.r 5, keyRoute v.r 6, keyRoute v.r 7, keyE v.sig.id 9, keyE v.sig.id 10] →
      (∀ x, (key, x) ∉ d.ov) → M.word p key = L.word p key) ∧
    (∀ q key, q ≠ p → M.word q key = L.word q key) ∧
    M.views = L.views ∧ M.switches = L.switches ∧ M.sigs = L.sigs ∧ M.cn = L.cn

/-! ## Telegrams, safe link and uplinks -/

/-- R277, R278 (Tables 9.7, 9.8), R284, R285, R31: a lane takes the record at the front of its forwarding ring from a plane
that runs; a valid uplink copy is held for its plane, any other is counted under its cause and held by no one, and one that
meets a full receive ring is discarded and counted; what a valid copy has been checked for; and what the comparison of the
two planes answers. -/
def Obligations.UplinkTelegramAcceptance : Prop :=
  ∀ (s : State) (ln : LaneId) (pl : PlaneId) (r : UpRec) (rest : List UpRec) (a b : List Byte) (m : Manifest) (k : Nat),
    let L := s.lane ln
    let P := s.planes.get pl
    let s1 : State := { s with planes := s.planes.set pl { P with rings := P.rings.set ln rest } }
    let t := r.frame
    let c := beAt t 4 2 % 4096
    let place (k : Nat) : Nat := (c * 2 + if pl.bit then 1 else 0) * 16 + k
    let counted (k : Nat) (u : State) : Prop := u.planes = s1.planes ∧ (u.lane ln).upA = L.upA ∧
      (u.lane ln).upB = L.upB ∧ Tbl.get 0 (u.lane ln).upCounts (place k) = Tbl.get 0 L.upCounts (place k) + 1 ∧
      (u.lane ln).views = L.views ∧ ∀ n, n ≠ ln → u.lane n = s.lane n
    (P.running = true → P.rings.get ln = r :: rest → L.image = some m →
      s.laneState ln = .inVote ∨ s.laneState ln = .rejoining →
      ((L.rx.get pl).length < 4096 → uplinkCause ln L m pl r.cn t = none →
        exec (.uplinkTelegramRx ln pl) s = .next (s1.putLane ln
          { L with rx := L.rx.set pl (r :: L.rx.get pl)
                   upA := if pl = .a then Tbl.set [] L.upA c t else L.upA
                   upB := if pl = .b then Tbl.set [] L.upB c t else L.upB })) ∧
      ((L.rx.get pl).length < 4096 → uplinkCause ln L m pl r.cn t = some k →
        ∃ u, exec (.uplinkTelegramRx ln pl) s = .next u ∧ counted k u ∧ (u.lane ln).rx = L.rx.set pl (r :: L.rx.get pl)) ∧
      (4096 ≤ (L.rx.get pl).length →
        ∃ u, exec (.uplinkTelegramRx ln pl) s = .next u ∧ counted 11 u ∧ (u.lane ln).rx = L.rx)) ∧
    (P.running = false → exec (.uplinkTelegramRx ln pl) s = .next s) ∧
    (uplinkCause ln L m pl r.cn t = none →
      r.cn = L.cn ∧ L.phase = .idle ∧ beAt t 0 1 = 1 ∧ beAt t 1 1 = 0x11 ∧ bitAt t 16 = pl.bit ∧
      beAt t 12 4 = L.cn.toNat ∧ beAt t 24 8 = m.hdr.site.toNat ∧ t.length = 176 ∧ tagAt t 160 = 1 ∧ tagAt t 168 = 2 ∧
      ∃ prev, upCodeOk m.body ln prev t c 160 1 = true ∧ upCodeOk m.body ln prev t c 168 2 = true) ∧
    (a ≠ [] → b ≠ [] →
      (a.drop 3 = b.drop 3 →
        planeCompare a b = (⟨true, true, true, crc64 (withPlane a false), withPlane a false⟩, none)) ∧
      (a.drop 3 ≠ b.drop 3 → planeCompare a b = (⟨false, true, true, 0, []⟩, some 9))) ∧
    (a ≠ [] →
      planeCompare a [] = (⟨true, true, false, crc64 (withPlane a false), withPlane a false⟩, some 10) ∧
      planeCompare [] a = (⟨true, false, true, crc64 (withPlane a false), withPlane a false⟩, some 10))

/-- R299 (Table 10.2), R297, R298: a lane checks the oldest copy that SVC has forwarded to it, and one of a later batch waits
for its cycle; a copy that passes every check is kept, any other counts its cause and is dropped; what a kept copy has been
checked for, its EPOCH, its SEQ, its echo and its age bound among it. -/
def Obligations.SafeLinkCopyAcceptance : Prop :=
  ∀ (s : State) (ln : LaneId) (bcn : U32) (x : SlCopy) (rest : List (U32 × SlCopy)) (k : Nat) (m : Manifest),
    let L := s.lane ln
    let p := x.pdu
    let r := slCause ln L m (decide (s.module = .test)) bcn x.srcIp x.port p
    let i := slConn p * 16 + k
    let dropped (u : State) : Prop := (u.lane ln).slIn = rest ∧ (u.lane ln).slValid = L.slValid ∧
      (u.lane ln).views = L.views ∧ (u.lane ln).sup = L.sup ∧ ∀ n, n ≠ ln → u.lane n = s.lane n
    (L.slIn = (bcn, x) :: rest → later bcn L.cn = false → L.image = some m →
      s.laneState ln = .inVote ∨ s.laneState ln = .rejoining →
      (r = none →
        exec (.safeLinkCopyCheck ln) s =
          .next (s.putLane ln { L with slIn := rest, slValid := L.slValid ++ [(x.lanB, p)] })) ∧
      (r = some k → k ≠ 0 →
        ∃ u, exec (.safeLinkCopyCheck ln) s = .next u ∧ dropped u ∧
          Tbl.get 0 (u.lane ln).slCounts i = Tbl.get 0 L.slCounts i + 1) ∧
      (r = some 0 → ∃ u, exec (.safeLinkCopyCheck ln) s = .next u ∧ dropped u)) ∧
    (L.slIn = (bcn, x) :: rest → later bcn L.cn = true → exec (.safeLinkCopyCheck ln) s = .next s) ∧
    (r = none →
      bcn = L.cn ∧ L.phase = .idle ∧ beAt p 0 1 = 1 ∧ beAt p 1 1 = 0x20 ∧ p.length = 196 ∧
      (slTest p = true → s.module = .test) ∧ tagAt p 176 ≠ 0 ∧ tagAt p 176 < tagAt p 186 ∧
      ∃ c g, ConnOf m (slConn p) = some c ∧ inMsg c (slMsg p) = some g ∧ c.peerIp = x.srcIp ∧ c.port = x.port ∧
        slLength p = g.len ∧ beAt p 40 8 = c.peerSite.toNat ∧
        (∀ e, (L.connC (slConn p)).peerEpoch = some e → 0 ≤ sdiff (slEpoch p) e) ∧
        (∀ q, (L.connC (slConn p)).peerEpoch = some (slEpoch p) →
          Tbl.get none (L.connC (slConn p)).seqs (slMsg p) = some q → later (slSeq p) q.1 = true) ∧
        (slHello p = false → slEchoEpoch p = L.epoch ∧ 0 ≤ (L.slNow - slEcho p).toInt ∧
          ageBound (L.slNow - slEcho p).toNat (slHold p).toNat ≤ (c.tmax * 10 : Nat)))

/-- R298, R377, R200: the first notice of a cycle is SVC's cycle start; a copy for the module goes to the lanes at once while
the batch has room for it and is held, the oldest dropped beyond 2 048; the cut-off gives the lanes the copies that came in
time and are within their TMAX, at most 512, each once in its batch, and at most 16 commands. R214, R305, R314: a message
leaves once, with the codes of two lanes whose bodies are the same, at once or held for its launch, the next instant of its
period and phase; what is due leaves; one that no pair of lanes completed is given up. -/
def Obligations.SafeLinkBatchAndSending : Prop :=
  (∀ (s : State) (ln : LaneId) (t port t0 : Nat) (f : List Byte) (c : SlCopy),
    let s0 := s.touch t
    let held (sent : Option U32) : HeldCopy := ⟨c, tmaxOf s.man c.port c.pdu, sent⟩
    let L := s.lane ln
    let takes : Prop := s.laneState ln = .inVote ∨ s.laneState ln = .rejoining
    let due := (s.batchOf t0).filter (fun c => decide (c.sentIn ≠ some s.uplink.cn))
    let given := if s.uplink.linkAccepted then due.map (fun c => (s.uplink.cn, c.toSlCopy)) else []
    (s.uplink.up = true → runsCycle s.module = true → L.active ln = true →
      (s.uplink.cycleStart = none ∨ s.uplink.cn ≠ L.cn →
        ∃ u, exec (.cycleStartNotice ln t) s = .next u ∧ u.uplink.cycleStart = some t ∧ u.uplink.cn = L.cn ∧
          u.uplink.cutoffPassed = false ∧ u.uplink.held = s.uplink.held ∧ u.lanes = s.lanes) ∧
      (s.uplink.cycleStart.isSome = true → s.uplink.cn = L.cn →
        exec (.cycleStartNotice ln t) s = .next s0)) ∧
    (s.netOn = true → s.portUp port = true → s0.copyIn port f = some c →
      c.lanB = lanOfPort port ∧ c.arrived = s0.now ∧ s.slPort c.port = true ∧
      ∃ u, exec (.safeLinkFrameRx port f t) s = .next u ∧
        (s.module = .standby → u.uplink.standbyRx = s.uplink.standbyRx + 1 ∧ u.uplink.held = s.uplink.held ∧
          u.lanes = s.lanes) ∧
        (s.module ≠ .standby → s.uplink.held.length < 512 →
          u.uplink.held = s.uplink.held ++ [held (some s0.batchNow)] ∧
          (s.uplink.linkAccepted = true → takes → u.lane ln = { L with slIn := L.slIn ++ [(s0.batchNow, c)] })) ∧
        (s.module ≠ .standby → 512 ≤ s.uplink.held.length → s.uplink.held.length < 2048 →
          u.uplink.held = s.uplink.held ++ [held none] ∧ u.lanes = s.lanes) ∧
        (s.module ≠ .standby → 2048 ≤ s.uplink.held.length →
          u.uplink.held = s.uplink.held.drop 1 ++ [held none] ∧ u.uplink.slDrop = s.uplink.slDrop + 1 ∧
          u.lanes = s.lanes)) ∧
    (s.netOn = true → s.uplink.cycleStart = some t0 → s.uplink.cutoffPassed = false →
      ∃ u, exec .batchClose s = .next u ∧ u.uplink.cutoffPassed = true ∧ u.uplink.batchCn = some s.uplink.cn ∧
        u.uplink.batch = s.batchOf t0 ∧
        (s.uplink.linkAccepted = false → u.lanes = s.lanes) ∧
        (s.uplink.linkAccepted = true → takes → L.cn = s.uplink.cn →
          (L.phase = .idle →
            u.lane ln = { L with slIn := L.slIn ++ given, batch := some (s.uplink.cmds.take 16) }) ∧
          (L.phase ≠ .idle → u.lane ln = { L with slIn := L.slIn ++ given, late := L.late + 1 }))) ∧
    ((s.batchOf t0).length ≤ 512 ∧ ∀ c ∈ s.batchOf t0, c ∈ s.uplink.held ∧ c.arrived ≤ t0 + 1400000 ∧
      s.now < c.arrived + c.tmaxNs) ∧
    (s.netOn = true →
      exec (.slCopyExpire t) s = .next (s0.updUplink (fun u =>
        { u with held := u.held.filter (fun c => decide (max s.now t < c.arrived + c.tmaxNs)) })))) ∧
  (∀ (s : State) (conn msg t : Nat) (o : OutMsg) (pdu : List Byte) (l : Nat × Nat) (own ip : U32) (port seq : Nat)
      (lanB : Bool) (dst src : U48) (full : Int),
    let key := conn * 512 + msg
    let marked := s.updUplink (fun u => { u with out := Tbl.set none u.out key (some { o with sent := true }) })
    s.netOn = true → commandsNet s.module = true →
    (Tbl.get none s.uplink.out key = some o → o.sent = false →
      (o.pdu = some pdu → s.launchOf conn = none ∨ s.ptp.locked = false →
        exec (.safeLinkSend conn msg) s = .next (marked.sendPdu key pdu) ∧
        (marked.sendPdu key pdu).uplink.sent = (key, pdu) :: s.uplink.sent.filter (fun e => decide (e.1 ≠ key)) ∧
        (marked.sendPdu key pdu).lanes = s.lanes) ∧
      (o.pdu = some pdu → s.launchOf conn = some l → s.ptp.locked = true →
        ∃ u, exec (.safeLinkSend conn msg) s = .next u ∧
          u.uplink.launchHeld = (s.uplink.launchHeld.filter (fun h => !s.launchDue h)).filter (fun h => decide (h.key ≠ key)) ++
            [⟨key, pdu, nextLaunch (s.ptp.advance s.now).full l⟩] ∧
          (∀ h ∈ s.uplink.launchHeld, s.launchDue h = true → ∃ q, (h.key, q) ∈ u.uplink.sent) ∧ u.lanes = s.lanes) ∧
      (o.pdu = none →
        ∃ u, exec (.slUnsigned conn msg) s = .next u ∧ Tbl.get none u.uplink.out key = none ∧
          u.uplink.slUnsigned = s.uplink.slUnsigned + 1 ∧ u.uplink.sent = s.uplink.sent ∧ u.lanes = s.lanes)) ∧
    (o.pdu = some pdu → ∃ x y body cx cy, x ≠ y ∧ o.part x = some (body, cx) ∧ o.part y = some (body, cy) ∧
      pdu = body ++ cx ++ cy) ∧
    (0 < l.1 → ∃ n : Nat, n < l.1 ∧ nextLaunch full l = BitVec.ofInt 48 (full + n) ∧
      (full + n) % (l.1 : Int) = (l.2 : Int) % (l.1 : Int)) ∧
    (∃ u, exec (.timedLaunch conn t) s = .next u ∧ u.lanes = s.lanes ∧
      u.uplink.launchHeld = s.uplink.launchHeld.filter
        (fun h => !(decide (h.key / 512 = conn) && (s.touch t).launchDue h)) ∧
      (∀ h ∈ s.uplink.launchHeld, h.key / 512 = conn → (s.touch t).launchDue h = true →
        ∃ q, (h.key, q) ∈ u.uplink.sent)) ∧
    (pdu.length = 196 →
      (netFrame dst src none etherIpv4 (withRct seq lanB (udpPacket own ip port pdu))).length = 248 ∧
      (netFrame dst src (some key) etherIpv4 (withRct seq lanB (udpPacket own ip port pdu))).length = 252))

/-- R287-R289: a frame for the module is taken or counted under its kind, and the second copy under PRP is discarded; any other
goes on by the other port of its LAN; where its station was seen is kept; a port sends its frames by class; an ARP request for
the module's address is answered, and at most 10 echo requests a second; the node announces itself every 2 s. R403, R431: a
restart of SVC ends its sessions and leaves the lanes' votes, switches and coded words as they are; its link is taken back
only with a firmware set the manifest names, and its recovery delivers what the lanes held. -/
def Obligations.UplinkPortsAndService : Prop :=
  (∀ (s : State) (port t : Nat) (f : List Byte) (e : NetFrame) (mac : U48) (ip own : U32),
    let s0 := s.touch t
    let k := s0.netKind e
    let U := s.uplink
    s.netOn = true → s.portUp port = true →
    (netOpen f = none →
      ∃ u, exec (.uplinkFrameRx port f t) s = .next u ∧ Tbl.get 0 u.uplink.discarded 11 = Tbl.get 0 U.discarded 11 + 1 ∧
        u.uplink.taken = U.taken ∧ u.lanes = s.lanes) ∧
    (netOpen f = some e →
      (s.toModule e = false →
        exec (.uplinkFrameRx port f t) s = .next (if netPasses e then
          (s0.learn port e).putPort (netClass e) f (otherPort port) else s0.learn port e)) ∧
      ∃ u, exec (.uplinkFrameRx port f t) s = .next u ∧
        Tbl.get none u.uplink.seen (seenKey port e.src) = some (port, max s.now t) ∧
        (e.etherType = etherPrp ∨ e.rct.isSome = true →
          Tbl.get none u.uplink.nodes e.src.toNat = some (max s.now t)) ∧
        (k ≠ .safeLink → u.lanes = s.lanes) ∧
        (s.toModule e = true → s0.twin (lanOfPort port) e = true → k ≠ .ptp → k ≠ .safeLink →
          u.uplink.twins = U.twins + 1 ∧ u.uplink.taken = U.taken ∧ u.uplink.answered = U.answered) ∧
        (s.toModule e = true → s0.twin (lanOfPort port) e = false →
          (k = .arp ∨ k = .icmpEcho ∨ k = .prpSupervision → u.uplink.taken = U.taken + 1) ∧
          (k ∈ [UplinkKind.tcp, .udpOther, .icmpOther, .ipOther, .vlanOther, .damaged, .other] →
            Tbl.get 0 u.uplink.discarded (kindIdx k) = Tbl.get 0 U.discarded (kindIdx k) + 1 ∧
            u.uplink.taken = U.taken ∧ u.uplink.answered = U.answered) ∧
          (k = .arp → arpOpen e.body = some (1, mac, ip, own) → s.ipv4 = some own →
            Tbl.get none u.uplink.macs (macKey (lanOfPort port) ip) = some mac ∧
            (s.netSends = true → u.uplink.answered = U.answered + 1)) ∧
          (k = .icmpEcho →
            10 ≤ (U.echoTimes.filter (fun e => decide (max s.now t < e + 1000000000))).length →
            u.uplink.answered = U.answered))) ∧
    (s.netSends = true → (∀ l, U.lastSupervision = some l → l + 2000000000 ≤ max s.now t) →
      exec (.prpSupervisionSend t) s = .next ((s0.sendPrp (fun _ => prpDestination) 2 etherPrp
        (prpSupervision U.mac (U.supervisionSent % 65536))).updUplink (fun u =>
          { u with supervisionSent := u.supervisionSent + 1, lastSupervision := some (max s.now t) })))) ∧
  (∀ (q r : List (Nat × List Byte)) (x : Nat × List Byte),
    (∀ y ∈ q, y.1 ≤ 2) → nextOut q = some (x, r) → x ∈ q ∧ ∀ y ∈ q, x.1 ≤ y.1) ∧
  (∀ (s : State) (rev : U32),
    let same (u : State) : Prop := u.module = s.module ∧ ∀ ln, (u.lane ln).views = (s.lane ln).views ∧
      (u.lane ln).switches = (s.lane ln).switches ∧ (u.lane ln).copy1 = (s.lane ln).copy1 ∧
      (u.lane ln).copy2 = (s.lane ln).copy2 ∧ (u.lane ln).sigs = (s.lane ln).sigs
    s.svcOn = true →
    (runsCycle s.module = true ∨ s.module = .halt →
      ∃ u, exec (.svcRestart rev) s = .next u ∧ u.uplink.up = false ∧ u.access.sessions = [] ∧ u.uplink.held = [] ∧
        u.change.running = s.comboWith rev ∧
        (∀ m, s.man = some m → u.uplink.linkAccepted = inCombo m.hdr (s.comboWith rev)) ∧ same u) ∧
    (s.uplink.up = false → s.uplink.linkAccepted = true →
      ∃ u, exec .svcRecovery s = .next u ∧ u.uplink.up = true ∧
        (∀ ln, (u.lane ln).heldEvents = [] ∧ (u.lane ln).lostEvents = 0 ∧ (u.lane ln).lateChanges = []) ∧ same u) ∧
    (s.uplink.up = false → s.uplink.linkAccepted = false → exec .svcRecovery s = .next s))

/-! ## Network time -/

/-- R307, R311-R313: an offset of the accepted master within the jump threshold slews INCR within its limit, or leaves
it in the GX2 mode; a larger one is refused; a new master's offsets are applied only after 16 consistent intervals, a
large one then as one step of the clock. R307-R309: an Announce is kept in its LAN, and the master is the best qualified one of
the LAN in use; a receipt timeout of the LAN in use unlocks the clock and takes the other LAN, and so does the loss of Sync
unlock it; a message with other options is ignored and counted; peer delay and the residence time of a forwarded Sync. -/
def Obligations.PtpOffsetsMasterAndDelay : Prop :=
  (∀ (s : State) (lanB : Bool) (hdr : PtpHdr) (mst : U64) (seq : Nat) (o : Int) (t : Nat),
    let s0 := s.touch t
    let p := (s.ptp.advance (max s.now t)).takeModes
    let judged (i : Instr) : Prop :=
      (p.isNew = false ∨ 16 ≤ p.intervals o → p.jump o = false →
        ∃ u, exec i s = .next u ∧ u.ptp.time = p.time ∧ u.ptp.isNew = false ∧ u.ptp.syncAt = s0.now ∧
          u.ptp.lastOffset = some o ∧
          (p.gx2Now = true → u.ptp.incr = p.incr) ∧
          (p.gx2Now = false → ∃ dev, u.ptp.incr = servoIncr p.slew500Now dev) ∧
          (o.natAbs ≤ 1000 → 7 ≤ p.goodSyncs → u.ptp.locked = true) ∧
          (10000 < o.natAbs → u.ptp.locked = false ∧ u.uplink.launchHeld = []) ∧ u.lanes = s.lanes) ∧
      (p.isNew = false → p.jump o = true →
        ∃ u, exec i s = .next u ∧ u.ptp.time = p.time ∧ u.ptp.incr = p.incr ∧ u.ptp.jumpRefused = true ∧
          u.ptp.isNew = true ∧ u.lanes = s.lanes) ∧
      (p.isNew = true → p.intervals o < 16 →
        ∃ u, exec i s = .next u ∧ u.ptp.time = p.time ∧ u.ptp.incr = p.incr ∧ u.ptp.isNew = true ∧
          u.ptp.consistent = p.intervals o ∧ u.ptp.lastOffset = some o ∧ u.lanes = s.lanes) ∧
      (p.isNew = true → 16 ≤ p.intervals o → p.jump o = true →
        ∃ u, exec i s = .next u ∧ u.ptp.incr = p.incr ∧ u.lanes = s.lanes ∧
          (p.gx2Now = false → u.ptp.time = p.time - BitVec.ofInt 48 o ∧ u.ptp.isNew = false ∧
            u.uplink.launchHeld = []))
    s.netOn = true →
    (s0.ptpSupports hdr (-4) 0 = false →
      exec (.ptpSyncRx lanB ⟨hdr, mst, seq, o, true⟩ t) s = .next s0.ptpIgnore ∧
      exec (.ptpFollowUpRx lanB ⟨hdr, mst, seq, o⟩ t) s = .next s0.ptpIgnore) ∧
    (s0.ptpSupports hdr (-4) 0 = true → s.ptp.fromMaster lanB mst s0.now = true → p.master = some mst →
      exec (.ptpSyncRx lanB ⟨hdr, mst, seq, o, true⟩ t) s = .next { s0 with
        ptp := { s.ptp with twoStep := s.ptp.twoStep.set (lanId lanB) (some (mst, seq)) } } ∧
      judged (.ptpSyncRx lanB ⟨hdr, mst, seq, o, false⟩ t) ∧
      (s.ptp.twoStep.get (lanId lanB) = some (mst, seq) → judged (.ptpFollowUpRx lanB ⟨hdr, mst, seq, o⟩ t)))) ∧
  (∀ (p : Ptp) (lanB : Bool) (now : Nat) (b : PtpAnnounce) (f : Foreign),
    p.best lanB now = some b → f ∈ p.heard.get (lanId lanB) → f.qualified now = true →
    keyLt (annKey f.ann) (annKey b) = false ∧ ∃ g ∈ p.heard.get (lanId lanB), g.qualified now = true ∧ g.ann = b) ∧
  (∀ (s : State) (lanB : Bool) (a : PtpAnnounce) (t port seq t1 rx tx turn t4 : Nat) (corr : Int),
    let s0 := s.touch t
    let l := lanId lanB
    let gone : Prop := s.ptp.quiet.get l + s.ptp.timeoutNs lanB ≤ s0.now
    let late : Prop := s.ptp.syncAt + s.ptp.timeoutNs lanB ≤ s0.now
    s.netOn = true →
    (s0.ptpSupports a.hdr 0 2 = false → exec (.ptpAnnounceRx lanB a t) s = .next s0.ptpIgnore) ∧
    (s0.ptpSupports a.hdr 0 2 = true →
      ∃ u, exec (.ptpAnnounceRx lanB a t) s = .next u ∧
        u.ptp.heard.get l = hearMaster a s0.now (s.ptp.heard.get l) ∧
        u.ptp.heard.get (lanId !lanB) = s.ptp.heard.get (lanId !lanB) ∧
        u.ptp.master = (u.ptp.best u.ptp.lanB s0.now).map (fun (b : PtpAnnounce) => b.identity) ∧
        (s.ptp.timedOut.get (lanId s.ptp.lanB) = false → u.ptp.lanB = s.ptp.lanB) ∧
        u.ptp.time = s.ptp.time ∧ u.lanes = s.lanes) ∧
    (gone → ∃ u, exec (.announceReceiptTimeout lanB t) s = .next u ∧ u.ptp.timedOut.get l = true ∧
      (s.ptp.lanB = lanB → u.ptp.lanB = (!lanB) ∧ u.ptp.locked = false ∧ u.uplink.launchHeld = []) ∧
      (s.ptp.lanB ≠ lanB → u.ptp.lanB = s.ptp.lanB ∧ u.ptp.locked = s.ptp.locked) ∧ u.lanes = s.lanes) ∧
    (¬gone → s.ptp.lanB = lanB → late →
      ∃ u, exec (.announceReceiptTimeout lanB t) s = .next u ∧ u.ptp.locked = false ∧ u.uplink.launchHeld = [] ∧
        u.ptp.lanB = lanB ∧ u.ptp.master = s.ptp.master ∧ u.lanes = s.lanes) ∧
    (¬gone → s.ptp.lanB ≠ lanB ∨ ¬late → exec (.announceReceiptTimeout lanB t) s = .next s0) ∧
    (s.netSends = true →
      exec (.pdelayReqSend port t1) s = .next { s with ptp := { s.ptp with
        pdelaySeq := Tbl.set 0 s.ptp.pdelaySeq port ((Tbl.get 0 s.ptp.pdelaySeq port + 1) % 65536)
        pdelayT1 := Tbl.set 0 s.ptp.pdelayT1 port t1 } } ∧
      ∃ u, exec (.pdelayReqRx port seq rx tx) s = .next u ∧
        Tbl.get 0 u.ptp.pdelayAnswered port = seq % 65536 * 2 ^ 64 + (tx - rx) + 1 ∧ u.uplink = s.uplink ∧
        u.lanes = s.lanes) ∧
    (seq = Tbl.get 0 s.ptp.pdelaySeq port →
      ∃ u, exec (.pdelayRespRx port seq turn t4) s = .next u ∧
        Tbl.get 0 u.ptp.linkDelay port = (t4 - Tbl.get 0 s.ptp.pdelayT1 port - turn) / 2 ∧ u.lanes = s.lanes) ∧
    (∃ u, exec (.transparentClockForward port rx tx corr) s = .next u ∧
      Tbl.get 0 u.ptp.correction (otherPort port) = corr + ((tx : Int) - rx) + (Tbl.get 0 s.ptp.linkDelay port : Nat) ∧
      u.uplink = s.uplink ∧ u.lanes = s.lanes))

/-! ## Wharf bus -/

/-- R347, R364: an error in reception counts and raises REC; a channel in bus-off receives nothing. R352, R354: the first matching
filter pair decides what becomes of a frame; a record stands whole in its queue or
the frame counts as overflowed; a remote frame and one without a pair are counted. R355-R359, R362: a complete request
enters the pending set in the order of arbitration, the frame latched for a retry or else the set's first frame starts
where the window allows, and the end of a frame reports its status, latches a privileged frame for a retry, or finds the
channel in bus-off. R350, R352, R362, R363 (what a word of the WB_ block configures is Config.wbField, log entry 128): the bit timing and
the mode stay while the channel is not OFF, with the locked write recorded; a filter pair is written at once, the buffers
keep their DLC, and a table written while TIDE runs leaves the one in effect. R349,
R360-R362, R364-R366: bus-off is left after the hold-off and the recovery sequence, the eighth within 60 s sets the
channel OFF; a tide row starts with its reference message, which is not retried, and an exclusive window; the mode due and
the configuration of an online change take effect at bus idle, after the frame on the bus. -/
def Obligations.WharfBus : Prop :=
  ((∀ (s : State) (ch : Nat) (f : CanFrame) (time : U48) (i a : Nat),
    let c := recDown (s.chan ch)
    let s0 := s.followErrors ch c
    let c0 := s0.chan ch
    (firstPair c0 f = some (i, a) → pairMatches (Tbl.get 0 c0.filters i) f = true ∧
      ∀ j, j < i → pairMatches (Tbl.get 0 c0.filters j) f = false) ∧
    (s.wbOn = true → c.mode ≠ .off → (s.chan ch).bus = .busOff →
      exec (.canFrameRx ch (.frame f) time) s = .next s ∧ exec (.canFrameRx ch (.error a i) time) s = .next s) ∧
    (s.wbOn = true → c.mode ≠ .off → (s.chan ch).bus ≠ .busOff →
      exec (.canFrameRx ch (.error a i) time) s =
        .next (s.followErrors ch (recUp { s.chan ch with errs := Tbl.upd 0 (s.chan ch).errs a (· + 1) } i)) ∧
      ((s.chan ch).mode ≠ .listen → (recUp (s.chan ch) i).rxErr = (s.chan ch).rxErr + 1 + 8 * i) ∧
      (f.remote = true →
        exec (.canFrameRx ch (.frame f) time) s = .next (s0.putChan ch { c0 with rxRemote := c0.rxRemote + 1 })) ∧
      (f.remote = false → firstPair c0 f = none →
        exec (.canFrameRx ch (.frame f) time) s = .next (s0.putChan ch { c0 with rxNoMatch := c0.rxNoMatch + 1 })) ∧
      (f.remote = false → firstPair c0 f = some (i, a) →
        (a = 2 → exec (.canFrameRx ch (.frame f) time) s = .next s0) ∧
        (a < 2 → ((s0.queue (rxQueue ch a)).pushItem (rxRecord ch i c0 f time)).2 = true →
          exec (.canFrameRx ch (.frame f) time) s = .next (s0.putQueue (rxQueue ch a)
            ((s0.queue (rxQueue ch a)).pushItem (rxRecord ch i c0 f time)).1)) ∧
        (a < 2 → ((s0.queue (rxQueue ch a)).pushItem (rxRecord ch i c0 f time)).2 = false →
          exec (.canFrameRx ch (.frame f) time) s = .next (s0.putChan ch { c0 with rxOverflow := c0.rxOverflow + 1 }))))) ∧
  (∀ (s : State) (ch t leftUs n : Nat) (q : TxReq) (rest : List TxReq) (r : CanEnd),
    let s0 := s.touch t
    let c := s0.chan ch
    let ws := fromStart (s0.queue (reqQueue ch)).words
    let s1 := s0.dropExpired ch
    let s2 := s0.followErrors ch (afterFrame c r)
    let c2 := s2.chan ch
    (c.pending.Pairwise (fun x y => arbKey x.frame ≤ arbKey y.frame) →
      (insertReq q c.pending).Pairwise (fun x y => arbKey x.frame ≤ arbKey y.frame) ∧
      (insertReq q c.pending).Perm (q :: c.pending)) ∧
    (s.wbOn = true →
      (c.mode ≠ .off → c.pending.length < 32 → parseReq ws s0.now = some (n, q) →
        exec (.txRequestAdmit ch t) s = .next ((s0.putQueue (reqQueue ch)
          (Queue.mark { s0.queue (reqQueue ch) with words := ws.drop n })).putChan ch
            { c with pending := insertReq q c.pending })) ∧
      (c.onBus = none → c.bus ≠ .busOff → c.mode = .normal ∨ c.mode = .tide ∧ c.arbitrating = true →
        (c.retry = some q ∨ c.retry = none ∧ (s1.chan ch).pending = q :: rest) →
        ((s1.chan ch).mayStart leftUs q.frame = true →
          exec (.frameStart ch leftUs t) s = .next (s1.putChan ch { s1.chan ch with
            pending := if c.retry = none then rest else (s1.chan ch).pending, retry := none
            onBus := some { q with attempts := q.attempts + 1 }, onBusExclusive := false, onBusRef := false })) ∧
        ((s1.chan ch).mayStart leftUs q.frame = false → exec (.frameStart ch leftUs t) s = .next s1)) ∧
      (c.onBus = some q → c.onBusRef = true → c2.bus ≠ .busOff →
        exec (.canFrameEnd ch r t) s = .next (s2.putChan ch { c2 with
          onBus := none, onBusRef := false, refFail := c2.refFail + (if r = .ok then 0 else 1) })) ∧
      (c.onBus = some q → c.onBusRef = false →
        (c2.bus = .busOff → exec (.canFrameEnd ch r t) s = .next ((s2.busOff ch).complete ch q 4)) ∧
        (c2.bus ≠ .busOff → r ≠ .ok → mayRetry c2 q = true →
          exec (.canFrameEnd ch r t) s = .next (s2.putChan ch { c2 with onBus := none, retry := some q })) ∧
        (c2.bus ≠ .busOff → r = .ok ∨ mayRetry c2 q = false →
          exec (.canFrameEnd ch r t) s = .next ((s2.putChan ch { c2 with onBus := none, onBusExclusive := false }).complete
            ch q (endStatus c2 q r))))))) ∧
  (∀ (s : State) (ch t a col : Nat) (tt : TideTable) (f : CanFrame),
    let c := s.chan ch
    let row := if c.tideRunning = true ∧ c.row + 1 < tt.rows then c.row + 1 else 0
    s.wbOn = true →
    (c.bus = .busOff → c.busOffAt = some a → a + c.holdOffMs * 1000000 ≤ max s.now t →
      exec (.busOffHoldoffEnd ch t) s = .next ((s.touch t).putChan ch { c with holdOffDone := true })) ∧
    (c.bus = .busOff → c.holdOffDone = true →
      ∃ u, exec (.busOffRecovery ch t) s = .next u ∧ (u.chan ch).bus = .active ∧ (u.chan ch).tec = 0 ∧
        (u.chan ch).rxErr = 0 ∧ (u.chan ch).mode = c.mode ∧ u.lanes = s.lanes) ∧
    (8 ≤ (c.busOffs.filter (fun b => decide (max s.now t < b + 60000000000))).length →
      ∃ u, exec (.busoffLimit ch t) s = .next u ∧ (u.chan ch).mode = .off ∧ (u.chan ch).status = 2 ∧
        (∀ k, k ≠ ch → u.chan k = s.chan k) ∧ u.lanes = s.lanes) ∧
    (c.mode = .tide → c.tide = some tt →
      (∃ u, exec (.tideRowStart ch t) s = .next u ∧ (u.chan ch).col = 0 ∧ (u.chan ch).tideRunning = true ∧
          (u.chan ch).row = row ∧ (∀ k, k ≠ ch → u.chan k = s.chan k) ∧ u.lanes = s.lanes ∧
          (c.bus = .busOff → (u.chan ch).onBus = c.onBus ∧ (u.chan ch).waitRow = c.waitRow) ∧
          (c.bus ≠ .busOff → c.onBus = none →
            (u.chan ch).onBus = some ⟨refFrame c.refId row, 0, 0, max s.now t, 1⟩ ∧ (u.chan ch).onBusRef = true ∧
            (u.chan ch).waitRow = false ∧ (u.chan ch).refFail = c.refFail) ∧
          (c.bus ≠ .busOff → c.onBus.isSome = true →
            (u.chan ch).onBus = c.onBus ∧ (u.chan ch).refFail = c.refFail + 1 ∧ (u.chan ch).waitRow = false)) ∧
      (c.tideRunning = true → col < tt.cols.length → cellKind (tideCell tt c.row col) = 1 →
        (c.bus = .busOff →
          exec (.exclusiveWindow ch col) s = .next (s.putChan ch { c with col := col, missed := c.missed + 1 })) ∧
        (c.bus ≠ .busOff → c.waitRow = false → c.onBus = none →
          Tbl.get none c.exclusive (cellBuf (tideCell tt c.row col)) = some f →
          exec (.exclusiveWindow ch col) s = .next (s.putChan ch
            { c with col := col, onBus := some ⟨f, 0, 0, s.now, 1⟩, onBusExclusive := true, onBusRef := false })))) ∧
    (c.onBus = none → c.next = none → wbDue s.module c ≠ c.mode →
      exec (.channelModeChange ch) s = .next (s.putChan ch (c.enter (wbDue s.module c))) ∧
      ((c.enter (wbDue s.module c)).mode = wbDue s.module c)) ∧
    (c.onBus = none → c.next.isSome = true →
      ∃ u, exec (.channelModeChange ch) s = .next u ∧ (u.chan ch).next = none ∧ (u.chan ch).pending = c.pending ∧
        (u.chan ch).mode = wbDue s.module (u.chan ch) ∧ (∀ k, k ≠ ch → u.chan k = s.chan k) ∧ u.lanes = s.lanes) ∧
    (c.onBus.isSome = true → exec (.channelModeChange ch) s = .next s)) ∧
  (∀ (s : State) (off t : Nat) (w : U64),
    let ch := off / 0x2000
    let addr := 0x40020000 + off
    let fld := Config.wbField s.regs.file addr (w.setWidth 32)
    let c := s.chan ch
    s.svcOn = true → s.flagOk → off < 0x8000 → off % 4 = 0 →
      ∃ u, exec (.registerWrite addr 32 w t) s = .next u ∧ vitalSame s u ∧ (∀ k, k ≠ 120 → u.queue k = s.queue k) ∧
        (∀ k, k ≠ ch → u.chan k = s.chan k) ∧ (u.chan ch).pending = c.pending ∧ (u.chan ch).onBus = c.onBus ∧
        (u.chan ch).filters = (match fld with
          | .pair n v => if n < 32 then Tbl.set 0 c.filters n v else c.filters
          | _ => c.filters) ∧
        (c.mode ≠ .off → (u.chan ch).timing = c.timing ∧ (u.chan ch).cfgMode = c.cfgMode ∧
          (offOnly fld = true → u.chan ch = c ∧ (u.lock .wb).lwCount = min ((s.lock .wb).lwCount + 1) 255 ∧
            (u.lock .wb).lastOffset = off)) ∧
        (c.tideRunning = true → (u.chan ch).tide = c.tide) ∧
        (∀ n f, Tbl.get none c.exclusive n = some f →
          ∃ g, Tbl.get none (u.chan ch).exclusive n = some g ∧ g.dlc = f.dlc ∧ g.id = f.id))

/-! ## Local I/O -/

/-- R323, R324, R337, R342, R343, R338: a filter follows a level after its number of equal samples; a channel keeps its sample
in the slot of its test; without the VLIOF stages nothing is read on the field side; a failed path reads FALSE; a
stuck or discrepant pair is latched as a fault; the 1 kHz task leaves no SDR switch closed that an emergency stop holds
and changes no other switch. -/
def Obligations.LocalInputPaths : Prop :=
  ∀ (s : State) (ln : LaneId) (sm : Sample) (ch k n t : Nat) (b on off : Bool),
    let L := s.lane ln
    let s0 := s.touch t
    let kept (u : State) : Prop := (u.lane ln).views = L.views ∧ (u.lane ln).switches = L.switches ∧
      (u.lane ln).copy1 = L.copy1 ∧ (u.lane ln).copy2 = L.copy2 ∧ ∀ m, m ≠ ln → u.lane m = s.lane m
    (1 ≤ n → ((Filt.step n b)^[k] ⟨!b, 0⟩).value = if k < n then !b else b) ∧
    (s.laneOn ln = true →
      (∃ u, exec (.comparatorSample ln sm t) s = .next u ∧
        (u.lane ln).inp = samplePaths ln L.localCfg s0.feedStep { sm with stagesOk := sm.stagesOk && s.fieldOn } L.inp ∧
        ((sm.stagesOk && s.fieldOn) = false → ∀ dead i, vectorBit L.localCfg (u.lane ln).inp dead i = false) ∧
        (modeOf L.localCfg ch = .input → ch < 48 → L.inp.slot = testSlot ln ch →
          Tbl.get false (u.lane ln).inp.level ch = Tbl.get false L.inp.level ch) ∧
        (modeOf L.localCfg ch = .input → ch < 48 → L.inp.slot ≠ testSlot ln ch → (sm.stagesOk && s.fieldOn) = true →
          (Tbl.get .off sm.vlio ch = .on → Tbl.get false (u.lane ln).inp.level ch = true) ∧
          (Tbl.get .off sm.vlio ch = .off → Tbl.get false (u.lane ln).inp.level ch = false)) ∧ kept u) ∧
      (∃ u, exec (.esTask ln) s = .next u ∧
        (∀ e, e ∈ (u.lane ln).switches ↔ e ∈ L.switches ∧ (e.1 < 48 ∨ (u.lane ln).esPermits (e.1 - 48) = true)) ∧
        (u.lane ln).inp.esSample = L.inp.esClosed ∧ (u.lane ln).views = L.views ∧ (u.lane ln).copy1 = L.copy1 ∧
        (u.lane ln).copy2 = L.copy2 ∧ ∀ m, m ≠ ln → u.lane m = s.lane m)) ∧
    (Tbl.get false L.inp.esClosed ch = true → 3 ≤ Tbl.get 0 L.inp.esNoDip ch →
      ∃ u, exec (.esStuck ln ch) s = .next u ∧ esFault (u.lane ln).inp (ch / 2) = true ∧ kept u) ∧
    (10 * (if k = 0 then L.localCfg.td1Ms else L.localCfg.td2Ms) < Tbl.get 0 L.inp.esDiff k →
      ∃ u, exec (.esDisc ln k) s = .next u ∧ esFault (u.lane ln).inp k = true ∧ kept u) ∧
    (modeOf L.localCfg ch = .input → L.inp.slot = testSlot ln ch →
      (on = true → off = false →
        ∃ u, exec (.inputTest ln ch on off) s = .next u ∧
          Tbl.get 0 (u.lane ln).inp.testFail ch = Tbl.get 0 L.inp.testFail ch - 1 ∧ kept u) ∧
      (on = false ∨ off = true →
        ∃ u, exec (.inputTest ln ch on off) s = .next u ∧ Tbl.get 0 (u.lane ln).inp.testFail ch = 3 ∧ kept u ∧
          (ch < 48 → ∀ dead, vectorBit L.localCfg (u.lane ln).inp dead ch = false)))

/-! ## The pair -/

/-- R368, R369, R386, R387, R376, R385: a frame of another head or a bad FCS is discarded; a STATUS is kept; a later claim takes the site from the module, an equal claim
of the same unit or another manifest closes it; a lane takes far time; the loss of both links leaves no STATUS.
R371-R375: the lanes of a partner hold the records and seals of a copy; two lanes that agree on it accept it, and it
is applied in every lane that runs; a copy not accepted changes no word; the copy is READY after all chunks and three
more copies. -/
def Obligations.HawserStatusAndCopy : Prop :=
  (∀ (s : State) (port : Nat) (hd : HawserHead) (st : HwStatus) (ln : LaneId) (phi : Int),
    let pl := portPlane port
    let stopped (u : State) : Prop := ∀ q, (u.plane q).sending = false
    (hawserTakes 0x32 hd = true ↔ hd.fcsOk = true ∧ hd.etherType = 0x88B5 ∧ hd.version = 1 ∧ hd.type = 0x32 ∧
      hd.length ≤ 1518) ∧
    (hawserTakes 0x32 hd = false → exec (.hawserStatusRx port hd st) s = .next s.settle) ∧
    (hawserTakes 0x32 hd = true → s.pair.variantP = true → s.planeOn pl = true →
      (commandsNet s.module = false → s.manDiffers st = false →
        ∃ u, exec (.hawserStatusRx port hd st) s = .next u ∧ u.pair.status.get pl = some st ∧
          u.pair.linkUp.get pl = true ∧ u.module = s.module ∧ u.pair.clm = s.pair.clm ∧ u.planes = s.planes ∧
          (st.holderDown = true → s.module = .standby → later st.clm s.pair.clm = true →
            u.pair.holderDownAt = some s.farPlane.farCn)) ∧
      (s.manDiffers st = true →
        ∃ u, exec (.hawserStatusRx port hd st) s = .next u ∧ u.module = .closed ∧ stopped u) ∧
      (commandsNet s.module = true → s.manDiffers st = false → st.clm = s.pair.clm → st.unitB = s.pair.unitB →
        ∃ u, exec (.hawserStatusRx port hd st) s = .next u ∧ u.module = .closed ∧ stopped u) ∧
      (commandsNet s.module = true → s.manDiffers st = false → later st.clm s.pair.clm = true →
        ∃ u, exec (.hawserStatusRx port hd st) s = .next u ∧ u.module = .standby ∧ u.pair.clm = st.clm - 1 ∧
          u.pair.holder = false ∧ stopped u)) ∧
    (s.module = .standby → s.farOn = true → s.laneState ln = .inVote ∨ s.laneState ln = .rejoining →
      exec (.farTickStrobeRx ln phi) s =
        .next (s.updLane ln (fun L => { L with phi := some (phi - 220), cn := s.farPlane.farCn }))) ∧
    (s.pair.variantP = true →
      ∃ u, exec .hawserLost s = .next u ∧ u.pair.status = ⟨none, none⟩ ∧ u.pair.linkUp = ⟨false, false⟩ ∧
        u.lanes = s.lanes ∧ u.module = s.module)) ∧
  (∀ (s : State) (ln : LaneId) (port idx count : Nat) (hd : HawserHead) (rec : CopyRec) (x : Seal) (crc : U64) (rs : List CopyRec)
    (h : CopyHdr) (k cn : U32) (n : Nat),
    let L := s.lane ln
    (s.module = .standby → s.planeOn (portPlane port) = true → L.active ln = true →
      (hawserTakes 0x30 hd = true → Tbl.get none L.copyRecs idx = none →
        exec (.copyRx ln port idx hd rec) s =
          .next (s.putLane ln { L with copyRecs := Tbl.set none L.copyRecs idx (some rec) })) ∧
      (hawserTakes 0x31 hd = true → s.pair.variantP = true → (∀ y ∈ L.copySeals, y.1.lane ≠ x.lane) →
        exec (.sealRx ln port hd x count) s =
          .next (s.putLane ln { L with copySeals := L.copySeals ++ [(x, count)] }).settle)) ∧
    (s.acceptedCopy = some (crc, rs) → ∃ a b, a ≠ b ∧ s.votes a = true ∧ s.votes b = true ∧
      ((s.lane a).copyView a).map (·.1) = some crc ∧ ((s.lane b).copyView b).map (·.1) = some crc) ∧
    (s.module = .standby → s.acceptedCopy = none → s.uplink.up = true →
      ∃ u, exec .copyDecision s = .next u ∧ u.pair.copy = (s.copyStart none).miss ∧ u.pair.lastAccepted = false ∧
        ∀ m, u.lane m = { s.lane m with copyRecs := [], copySeals := [] }) ∧
    (s.module = .standby → s.acceptedCopy = some (crc, rs) → copyHeader rs = some h → imageId s.man = some h.signature →
      (∀ m, s.votes m = true → s.copyDiffers m crc = false) → s.uplink.up = true →
      ∃ u, exec .copyDecision s = .next u ∧ u.pair.lastAccepted = true ∧ u.pair.copyHdr = some h ∧
        u.pair.copy = (s.copyStart (some rs)).accept rs (s.lane s.lead).cn ∧
        ∀ m, (s.lane m).active m = true →
          u.lane m = { rs.foldl (Lane.applyRec (s.copyStart (some rs)).chunks) (s.lane m) with
            copyRecs := [], copySeals := [] }) ∧
    ((CopyState.resync n).accept rs cn = .ready cn ↔ 66 ≤ n) ∧
    ((CopyState.ready k).accept rs cn = if cn = k + 1 then .ready cn else .resync 0))

/-- R378-R382, R384: a READY partner takes the claim at a trigger, with claim + 2, a new EPOCH from the far cycle on, and
holds routes back after a rollback; a handover is asked for in the next copy, by a Maintainer or on its own. -/
def Obligations.TakeoverAndHandover : Prop :=
  ∀ (s : State) (k : U32) (h : CopyHdr) (trig sess : Nat),
    let j := s.farPlane.farCn
    let roll := !s.acceptedFor j && (s.planes.a.sawDownlinkPrev || s.planes.b.sawDownlinkPrev)
    let epoch := nextEpoch (latestOf (h.epoch :: s.voters.map (fun ln => (s.lane ln).flash.epoch)))
    (s.pair.copy = .ready k → s.pair.copyHdr = some h → s.module = .standby → s.farOn = true → 2 ≤ s.voters.length →
      sdiff j k ≤ 2 → s.takeoverTrigger j = some trig →
      ∃ u, exec .takeover s = .next u ∧ u.pair.holder = true ∧ u.pair.clm = h.clm + 2 ∧ u.module = h.state ∧
        u.pair.rollbackHold = roll ∧ u.pair.takeoverCn = some j ∧
        u.pair.syncFrom = some (if trig = 0 then j else j + 1) ∧ (∀ q, (u.plane q).sending = true) ∧
        ∀ ln, (u.lane ln).epoch = epoch ∧ (u.lane ln).cnE = j ∧ (u.lane ln).everCompleted = false) ∧
    (s.acceptedFor j = true → s.pair.transferSeen = true → s.takeoverTrigger j = some 0) ∧
    (s.pair.rollbackHold = true → s.holdEnds = true →
      exec .rollbackHoldClear s = .next { s with pair := { s.pair with rollbackHold := false } }) ∧
    (s.maintainer sess = true →
      (s.mayHandOver = true →
        ∃ u, exec (.handover sess) s = .next u ∧ u.pair = { s.pair with transferNext := true } ∧ vitalSame s u) ∧
      (s.mayHandOver = false → ∃ u, exec (.handover sess) s = .next u ∧ u.pair = s.pair ∧ vitalSame s u)) ∧
    (s.mayHandOver = true → s.pair.transferNext = false →
      (s.uplink.up = false ∧ 2 ≤ s.pair.svcSilent ∧ (∃ x, s.partner = some x ∧ x.svcOk = true) ∨
        s.allLost = true ∧ 1 ≤ s.pair.losCycles) →
      ∃ u, exec .autoHandover s = .next u ∧ u.pair.transferNext = true ∧ u.module = s.module ∧
        ∀ ln, (u.lane ln).views = (s.lane ln).views ∧ (u.lane ln).switches = (s.lane ln).switches)

/-! ## Maintenance access and change -/

/-- R415, R416, R396, R425: a login opens a session and reports CFG_DEFAULTED and LOG_CHANGE_AT_RISK, the fifth failed one locks the account for 300 s, a session ends at logout and
after 30 min; accounts and passwords are set by a Commissioner; no switch, vote or coded word changes. -/
def Obligations.SessionsAndAccounts : Prop :=
  ∀ (s : State) (n sess t : Nat) (pw : List Byte) (a : Account) (e : Session) (role : Role),
    s.uplink.up = true →
    (s.account n = some a → a.lockedAt = none →
      (s.passwordOk a pw = true →
        ∃ u, exec (.login n pw t) s = .next u ∧
          u.session s.access.freeSession = some ⟨n, a.role, max s.now t⟩ ∧
          u.access.reply = [if s.change.cfgDefaulted then 1 else 0, if s.log.atRisk then 1 else 0] ∧ vitalSame s u) ∧
      (s.passwordOk a pw = false →
        ∃ u, exec (.login n pw t) s = .next u ∧ u.access.sessions = s.access.sessions ∧ vitalSame s u ∧
          u.account n = some (if a.fails + 1 < 5 then { a with fails := a.fails + 1 }
            else { a with fails := 0, lockedAt := some (max s.now t) }))) ∧
    (s.account n = some a → a.lockedAt.isSome = true →
      ∃ u, exec (.login n pw t) s = .next u ∧ u.access = s.access ∧ vitalSame s u) ∧
    (s.account n = some a → (∃ l, a.lockedAt = some l ∧ l + 300000000000 ≤ max s.now t) →
      ∃ u, exec (.accountUnlock n t) s = .next u ∧ u.account n = some { a with lockedAt := none } ∧ vitalSame s u) ∧
    (s.session sess = some e →
      (∃ u, exec (.logout sess) s = .next u ∧ u.session sess = none ∧ vitalSame s u) ∧
      (e.last + 1800000000000 ≤ max s.now t →
        ∃ u, exec (.sessionTimeout sess t) s = .next u ∧ u.session sess = none ∧ vitalSame s u)) ∧
    (s.commissioner sess = true → passwordFits pw = true →
      (s.account n = none → s.access.accounts.length < 32 →
        ∃ u salt, exec (.accountCreate sess n role pw) s = .next u ∧
          u.account n = some ⟨role, salt, some (pbkdf2 pw salt), 0, none⟩ ∧ vitalSame s u) ∧
      (s.account n = some a →
        (∃ u, exec (.accountRemove sess n) s = .next u ∧ u.account n = none ∧
          (∀ k x, u.session k = some x → x.account ≠ n) ∧ vitalSame s u) ∧
        ∃ u salt, exec (.passwordChange sess n pw) s = .next u ∧
          u.account n = some { a with salt := salt, hash := some (pbkdf2 pw salt) } ∧ vitalSame s u))

/-- R415, R424, R425, R430, R438: reading returns the bytes that stand there, or the slot of a torn record, and changes nothing else but the session's last
use; the export mark moves to a record that has been written and never back; an exported frame is no longer PROTECTED.
R200, R417: a maintenance command for the lanes waits at SVC under the next command number with its account and role;
it changes nothing of the lanes. -/
def Obligations.ReadingExportAndLaneCommands : Prop :=
  (∀ (s : State) (sess slot : Nat) (seq : U32) (r : LogRec) (f : BbFrame),
    s.reader sess = true →
    exec (.readState sess) s = .next (s.answer sess s.report) ∧
    (s.power.pg.getLsbD 1 = true →
      (Tbl.get none s.log.slots slot = some r →
        exec (.readLogbook sess slot true) s = .next (s.answer sess (byteValues r.bytes)) ∧
        (∃ u, exec (.readLogbook sess slot false) s = .next u ∧ u.access.reply = [((slot : Nat) : Int)] ∧
          u.log.slots = s.log.slots ∧ vitalSame s u)) ∧
      (s.snap.frameAt slot = some f →
        exec (.readBlackbox sess slot) s = .next (s.answer sess (byteValues f.header)) ∧
        ∃ u, exec (.blackboxExport sess slot) s = .next u ∧
          u.snap.frameAt slot = some { f with exported := true, prot := false } ∧
          (∀ k, k ≠ slot → u.snap.frameAt k = s.snap.frameAt k) ∧ vitalSame s u) ∧
      (∃ u, exec (.logExport sess seq) s = .next u ∧ u.log.slots = s.log.slots ∧ vitalSame s u ∧
        (s.log.exportMark.all (fun m => later seq m) = true → later s.log.seq seq = true →
          u.log.exportMark = some seq) ∧
        (s.log.exportMark.all (fun m => later seq m) = false ∨ later s.log.seq seq = false →
          u.log.exportMark = s.log.exportMark)))) ∧
  (∀ (s : State) (sess n : Nat) (e : Session) (tgt : ForceTarget) (x : Int) (i : Instr) (c : LaneCmd),
    s.session sess = some e →
    (s.maintainer sess = true ∧ (i = .restrictiveForce sess n ∧ c = .restrictiveForce n ∨
        i = .removeRestrictiveForce sess n ∧ c = .removeRestrictive n ∨
        i = .individualRelease sess n ∧ c = .individualRelease n) ∨
      s.commissioner sess = true ∧ (i = .forceValue sess tgt x ∧ c = .forceValue tgt x ∨
        i = .removeForcedValue sess tgt ∧ c = .removeForced tgt ∨ i = .onlineChange sess ∧ c = .onlineChange)) →
    ∃ u, exec i s = .next u ∧ u.uplink.cmdSeq = s.uplink.cmdSeq + 1 ∧
      u.uplink.cmds = s.uplink.cmds ++ [⟨s.uplink.cmdSeq + 1, e.account, e.role, c⟩] ∧ vitalSame s u)

/-- R394-R399, R409, R25: a lane holds no key of another; signing keys are changed in CLOSED only; a manifest that a lane IN-VOTE refuses changes no flash; a
load empties the slot that is not active, a body whose hash agrees is LOADED there, and the background checks make it
VERIFIED or BAD; a configuration record write keeps the record before it. -/
def Obligations.ManifestLoading : Prop :=
  ∀ (s : State) (sess slot : Nat) (hdr : ManHeader) (sig hash gcm : Tri Bool) (man m : Manifest) (signer : U64)
    (key : BitVec 776) (ln : LaneId) (crcs : Tri U64) (f : LaneFlash) (g : CfgRec → CfgRec),
    let L := s.lane ln
    let n := L.cfgRec.target
    ((f.putCfg g).cfg = some { g (f.cfg.getD {}) with seq := (f.cfg.getD {}).seq + 1 } ∧
      (∀ r, f.cfg = some r → (f.putCfg g).cfgA = some r ∨ (f.putCfg g).cfgB = some r)) ∧
    (s.commissioner sess = true →
      (s.module = .closed → s.lnIOn ln = true →
        (((s.lane s.lead).flash.signers.filter (fun e => decide (e.1 ≠ signer))).length < 2 →
          ∃ u, exec (.signingKeyEnrol sess signer key) s = .next u ∧ (signer, key) ∈ (u.lane ln).flash.signers) ∧
        ∃ u, exec (.signingKeyRemove sess signer) s = .next u ∧ ∀ k, (signer, k) ∉ (u.lane ln).flash.signers) ∧
      (s.module ≠ .closed →
        (∃ u, exec (.signingKeyEnrol sess signer key) s = .next u ∧ vitalSame s u) ∧
        ∃ u, exec (.signingKeyRemove sess signer) s = .next u ∧ vitalSame s u) ∧
      ((∃ v, s.votes v = true ∧ (s.laneHeaderBad hdr sig v).isSome = true) →
        ∃ u, exec (.manifestLoad sess hdr sig) s = .next u ∧ u.change = s.change ∧ vitalSame s u) ∧
      ((∀ v, s.votes v = true → s.laneHeaderBad hdr sig v = none) → s.voters ≠ [] →
        ∃ u, exec (.manifestLoad sess hdr sig) s = .next u ∧ u.change.loading = some hdr ∧
          (s.lnIOn ln = true → (u.lane ln).flash.man n = none ∧ (u.lane ln).cfgRec.slotState n = 3 ∧
            (u.lane ln).flash.man (1 - n) = L.flash.man (1 - n) ∧ (u.lane ln).image = L.image))) ∧
    (s.change.loading = some man.hdr → s.change.loadLanes.contains ln = true → s.lnIOn ln = true →
      ∃ u, exec (.manifestBodyWritten man hash) s = .next u ∧ u.change.loading = none ∧
        (u.lane ln).cfgRec.slotState n = (if hash.get ln then 1 else 3) ∧
        (u.lane ln).flash.man n = (if hash.get ln then some (Manifest.forLane man ln) else none) ∧
        (u.lane ln).flash.man (1 - n) = L.flash.man (1 - n)) ∧
    ((∀ v, v ≠ ln → (Manifest.forLane man ln).body.laneKeys.get v = []) ∧
      (Manifest.forLane man ln).body.laneKeys.get ln = man.body.laneKeys.get ln ∧ (Manifest.forLane man ln).hdr = man.hdr) ∧
    (s.lnIOn ln = true → L.cfgRec.slotState slot = 1 → L.flash.man slot = some m →
      ∃ u, exec (.manifestVerified slot gcm) s = .next u ∧
        (u.lane ln).cfgRec.slotState slot = if gcm.get ln && loadOk m then 2 else 3) ∧
    (s.voters ≠ [] →
      ((∀ v, s.votes v = true → crcs.get v = crcs.get s.lead ∧
          (s.lane v).cfgRec.slotState (s.lane v).cfgRec.target = 2) →
        exec (.manifestStaged crcs) s = .next { s with change := { s.change with staged := some s.deltaNow } }) ∧
      ((∃ v, s.votes v = true ∧ crcs.get v ≠ crcs.get s.lead) →
        exec (.manifestStaged crcs) s = .next { s with change := { s.change with staged := none } }))

/-- R396, R400, R401, R410: the slot that is not active is set to run after a restart, or selected in CLOSED; a firmware
set is loaded and activated; an agreed online change switches all lanes in its cycle, moves on with a skipped one, or is
refused. -/
def Obligations.ActivationAndSwitch : Prop :=
  ∀ (s : State) (sess slot p t : Nat) (set : Combo) (ln : LaneId) (at_ : U32) (new : Manifest) (r : Nat × Nat),
    (s.commissioner sess = true →
      (slot = (s.lane s.lead).cfgRec.target → p = 1 ∨ p = 2 →
        ∃ u, exec (.activatePending sess slot p) s = .next u ∧
          (s.lnIOn ln = true → (u.lane ln).cfgRec.pending = p ∧ (u.lane ln).image = (s.lane ln).image)) ∧
      (s.module = .closed → slot < 2 →
        ∃ u, exec (.slotSelect sess slot t) s = .next u ∧ u.module = .boot ∧
          (s.lnIOn ln = true → (u.lane ln).cfgRec.activeMan = some slot ∧ (u.lane ln).cfgRec.pending = 0)) ∧
      (∃ u, exec (.firmwareLoad sess set true) s = .next u ∧ u.change.loaded = some set ∧
        u.change.running = s.change.running) ∧
      (∃ u, exec (.firmwareLoad sess set false) s = .next u ∧ u.change = s.change ∧ vitalSame s u) ∧
      (s.change.loaded = some set →
        ((∀ m, s.man = some m → inCombo m.hdr set = true) →
          ∃ u, exec (.firmwareActivate sess) s = .next u ∧ u.change.loaded = none ∧
            u.change.previous = some s.change.running ∧
            (s.lnIOn ln = true → (u.lane ln).cfgRec.activeFw = (s.lane ln).cfgRec.otherFw ∧
              (u.lane ln).cfgRec.prevFw = some (s.lane ln).cfgRec.activeFw)) ∧
        ((∃ m, s.man = some m ∧ inCombo m.hdr set = false) →
          ∃ u, exec (.firmwareActivate sess) s = .next u ∧ u.change = s.change ∧ vitalSame s u))) ∧
    (s.change.switchCn = some at_ → s.newMan = some new → (s.lane s.lead).cn + 1 = at_ →
      ((s.lane s.lead).committed = false →
        exec .switchDecision s = .next { s with change := { s.change with switchCn := some (at_ + 1) } }) ∧
      ((s.lane s.lead).committed = true → s.onlineRefusal = some r →
        ∃ u, exec .switchDecision s = .next u ∧ u.change.switchCn = none ∧
          ∀ l, (u.lane l).image = (s.lane l).image ∧ (u.lane l).copy1 = (s.lane l).copy1 ∧
            (u.lane l).copy2 = (s.lane l).copy2) ∧
      ((s.lane s.lead).committed = true → s.onlineRefusal = none →
        ∃ u, exec .switchDecision s = .next u ∧ u.change.switchCn = none ∧ u.change.firstNewCn = some at_ ∧
          ∀ l, (s.lane l).image.isSome = true → (u.lane l).image = some new ∧
            (u.lane l).cfgRec.activeMan = some (s.lane l).cfgRec.target ∧ (u.lane l).switches = (s.lane l).switches))

/-! ## Power, boot, restart and self-test -/

/-- R465, R467, R468, R471, R405: a feed's PFn_OK has its hysteresis; the power-fail warning opens every switch and writes
the retention record of each lane IN-VOTE; power-down leaves flash, retention records and the logbook; power-good starts
BOOT with the age the cells show. -/
def Obligations.PowerFailAndReturn : Prop :=
  ∀ (s : State) (feed mv t off : Nat) (b : Bool),
    (16800 < mv → pfStep b mv = true) ∧ (mv < 16300 → pfStep b mv = false) ∧
    (16300 ≤ mv → mv ≤ 16800 → pfStep b mv = b) ∧
    (∃ u, exec (.feedLevelChange feed mv) s = .next u ∧ u.power = s.power.measure feed mv ∧ vitalSame s u) ∧
    (s.power.feedMv.1 < 15000 → s.power.feedMv.2 < 15000 → s.power.on ≠ 0 → s.power.pfw = false →
      ∃ u, exec .powerFailWarning s = .next u ∧ u.module = .powerOff ∧ u.power.pfw = true ∧ u.log.stopped = true ∧
        (∀ q, (u.plane q).sending = false) ∧
        ∀ ln, (u.lane ln).switches = [] ∧ (u.lane ln).pass = none ∧
          (s.laneState ln = .inVote → (u.lane ln).retention = (s.lane ln).retain.retention)) ∧
    (s.power.pfw = true →
      ∃ u, exec .domainPowerDown s = .next u ∧ u.module = .powerOff ∧ u.power.on = 0 ∧ u.power.pg = 0 ∧
        u.log.slots = s.log.slots ∧ u.ctrls = s.ctrls ∧ u.access.accounts = s.access.accounts ∧
        ∀ ln, u.lane ln = { flash := (s.lane ln).flash, retention := (s.lane ln).retention }) ∧
    (s.module = .powerOff → s.power.on = 0 → s.power.pfOk.1 = true ∨ s.power.pfOk.2 = true →
      ∃ u, exec (.powerGood t off) s = .next u ∧ u.module = .boot ∧ u.change.bootAt = max s.now t ∧
        u.log.pwrcyc = (s.log.pwrcyc + 1) % 2 ^ 24 ∧
        ∀ ln, (u.lane ln).retention = (s.lane ln).retention ∧ (u.lane ln).flash = (s.lane ln).flash ∧
          (off ≤ 1600000 → (u.lane ln).fresh = true) ∧ (2000000 ≤ off → (u.lane ln).fresh = false))

/-- R472, R473, R463, R465, R40, R484, R489: the sequencer takes the domains one by one; the loss of a lane's supply takes
it out of the vote with its switches open; a request of PWR_REQ is refused as a whole; converters, coding pins and
temperatures only report. -/
def Obligations.PowerDomains : Prop :=
  ∀ (s : State) (d : Domain) (trips : Trips) (r : List Domain) (ln : LaneId) (mask : BitVec 12) (t n : Nat) (a b : Bool)
      (c : Int),
    (s.power.seq = d :: r →
      (∃ u, exec (.domainPowerGood d trips) s = .next u ∧ u.power.pg.getLsbD (domBit d) = true) ∧
      (d ∉ r → ∃ u, exec (.domainPgTimeout d) s = .next u ∧ u.power.pg = s.power.pg ∧
        u.power.on.getLsbD (domBit d) = false)) ∧
    (runsCycle s.module = true → s.testing = false → s.laneState ln = .inVote →
      (∃ u, exec (.laneSupplyLoss ln false) s = .next u ∧ leftVote u ln .power) ∧
      (3 ≤ s.voters.length → s.uplink.up = true →
        ∃ u, exec (.laneSupplyLoss ln true) s = .next u ∧ u.laneState ln = .laneOff ∧ (u.lane ln).switches = [] ∧
          u.module = s.module)) ∧
    (s.power.pg.getLsbD (domBit d) = true →
      (d = .aon → ∃ u, exec (.domainPgLoss d) s = .next u ∧ u.module = .powerOff ∧ ∀ l, (u.lane l).switches = []) ∧
      (d = .nvm ∨ d = .vliof →
        ∃ u, exec (.domainPgLoss d) s = .next u ∧ u.power.pg.getLsbD (domBit d) = false ∧ u.module = s.module) ∧
      (d = .svc → ∃ u, exec (.domainPgLoss d) s = .next u ∧ u.uplink.up = false ∧ u.module = s.module ∧
        ∀ l, (u.lane l).views = (s.lane l).views ∧ (u.lane l).switches = (s.lane l).switches) ∧
      (d = .neta → ∃ u, exec (.domainPgLoss d) s = .next u ∧ u.planes.a = {} ∧ u.planes.b = s.planes.b) ∧
      (d = .netb → ∃ u, exec (.domainPgLoss d) s = .next u ∧ u.planes.b = {} ∧ u.planes.a = s.planes.a)) ∧
    (s.svcOn = true → ((s.lock .pwr).lapse (max s.now t)).unlocked = true →
      (s.reqRefusal mask false ≠ 0 →
        ∃ u, exec (.pwrReqOn mask t) s = .next u ∧ u.power.resultDone = true ∧
          u.power.resultCode = s.reqRefusal mask false ∧ u.power.on = s.power.on ∧ u.power.pg = s.power.pg) ∧
      (s.reqRefusal mask false = 0 →
        ∃ u, exec (.pwrReqOn mask t) s = .next u ∧ u.power.reqMask = mask ∧ u.power.pg = s.power.pg ∧
          u.power.offByReq = s.power.offByReq &&& ~~~mask) ∧
      (s.reqRefusal mask true ≠ 0 →
        ∃ u, exec (.pwrReqOff mask t) s = .next u ∧ u.power.resultDone = true ∧
          u.power.resultCode = s.reqRefusal mask true ∧ u.power.pg = s.power.pg) ∧
      (s.reqRefusal mask true = 0 →
        ∃ u, exec (.pwrReqOff mask t) s = .next u ∧ u.power.resultDone = true ∧ u.power.resultCode = 0 ∧
          u.power.pg &&& mask = 0 ∧ ∀ l ∈ maskLanes mask, u.laneState l = .laneOff ∧ (u.lane l).switches = [])) ∧
    (∃ u, exec (.ibcFail n) s = .next u ∧ (u.power.ibcOk.1 && u.power.ibcOk.2) = false ∧ vitalSame s u) ∧
    (∃ u, exec (.vliofStageFail n) s = .next u ∧ (u.power.stageOk.1 && u.power.stageOk.2) = false ∧
      u.module = s.module ∧ ∀ l, (u.lane l).switches = (s.lane l).switches) ∧
    (∃ u, exec (.unitselChange a b) s = .next u ∧ u.pair.unitPins = (a, b) ∧ u.pair.unitB = s.pair.unitB ∧
      u.module = s.module) ∧
    (∃ u, exec (.tempHigh n c) s = .next u ∧ Tbl.get 0 u.power.temps n = c ∧ u.module = s.module ∧
      ∀ l, (u.lane l).switches = (s.lane l).switches)

/-- R477, R478 (Table 17.4): BOOT ends in HALT with fewer than two good lanes or without a tick in 10 s; otherwise in
CLOSED where a cause holds, in STANDBY beside a partner that commands, else in RESTRICTED. -/
def Obligations.BootOutcome : Prop :=
  ∀ (s : State) (t : Nat) (o : BootObs) (p : HwStatus),
    let s0 := s.touch t
    let vs := s0.bootVoters o
    let causes := s0.closedCauses o vs (s0.bootImage o (vs.headD .l1))
    let other := s0.otherHolds (s0.bootImage o (vs.headD .l1))
    let halted (u : State) : Prop := u.module = .halt ∧ u.voters = [] ∧ ∀ ln, (u.lane ln).switches = []
    s.module = .boot →
    (s.change.bootAt + 10000000000 ≤ max s.now t → ∃ u, exec (.bootTimeout t) s = .next u ∧ halted u) ∧
    (vs.length < 2 → ∃ u, exec (.bootComplete t o) s = .next u ∧ halted u) ∧
    (2 ≤ vs.length →
      (causes ≠ [] → ∃ u, exec (.bootComplete t o) s = .next u ∧ u.module = .closed) ∧
      (causes = [] → other = some p → ∃ u, exec (.bootComplete t o) s = .next u ∧ u.module = .standby ∧
        u.pair.clm = p.clm - 1) ∧
      (causes = [] → other = none → ∃ u, exec (.bootComplete t o) s = .next u ∧ u.module = .restricted ∧
        u.pair.listenUntil.isSome = true ∧
        (s0.warmFrom o vs = none → (∀ l : ClxLink, tripsOk (o.trips.link l) = true) → ∀ ln ∈ vs, u.laneState ln = .inVote ∧ (u.lane ln).cn = 0 ∧
          (u.lane ln).epoch = s0.newEpoch)))

/-- R404-R406, R476, R161, R439, R481: restart commands take the module to BOOT, a warm one with the retention records
written; TEST is entered from CLOSED only, and left to RESTRICTED or CLOSED; a planned shutdown waits for the module
to stop commanding. R443-R446, R483: an item ends with the verdict of its step count, compactor and precondition, its
result is stored, a PASS clears its marks and a CUT or NOT_RUN changes none, and it leaves its unit's list; one beyond twice its duration is CUT; the BIST is complete when no unit has an item left. -/
def Obligations.ModuleCommandsAndSelfTest : Prop :=
  (∀ (s : State) (sess t : Nat),
    let boots (u : State) : Prop := u.module = .boot ∧ ∀ ln, u.laneState ln = .laneOff ∧ (u.lane ln).switches = []
    (s.maintainer sess = true → s.booted = true →
      (∃ u, exec (.restartWarm sess t) s = .next u ∧ boots u ∧ u.change.coldAsked = false ∧
        ∀ ln, s.laneState ln = .inVote → (u.lane ln).retention = (s.lane ln).retain.retention) ∧
      (∃ u, exec (.restartCold sess t) s = .next u ∧ boots u ∧ u.change.coldAsked = true) ∧
      (s.bist.running = true → ∃ u, exec (.bistAbort sess t) s = .next u ∧ boots u) ∧
      (s.testing = false →
        (s.mayHandOver = true →
          ∃ u, exec (.plannedShutdown sess t) s = .next u ∧ u.pair.transferNext = true ∧ u.bist.shutdownDue = true ∧
            u.module = s.module) ∧
        (s.mayHandOver = false → commandsNet s.module = true →
          ∃ u, exec (.plannedShutdown sess t) s = .next u ∧ u.bist.shutdownDue = true ∧ u.pair = s.pair ∧
            u.module = s.module) ∧
        (commandsNet s.module = false →
          ∃ u, exec (.plannedShutdown sess t) s = .next u ∧ u.bist.running = true ∧
            ∀ ln, s.laneState ln ≠ .laneOff → u.laneState ln = .outTest ∧ (u.lane ln).cause = .shutdown ∧
              (u.lane ln).switches = []))) ∧
    (s.commissioner sess = true →
      (s.mayTest = true →
        ∃ u, exec (.enterTest sess t) s = .next u ∧ u.module = .test ∧ u.pair.listenUntil.isSome = true) ∧
      (s.mayTest = false → ∃ u, exec (.enterTest sess t) s = .next u ∧ u.module = s.module ∧ u.pair = s.pair) ∧
      (s.module = .test →
        ((∀ m, s.man = some m → m.hdr.testOnly = false) →
          ∃ u, exec (.leaveTest sess t) s = .next u ∧ u.module = .restricted) ∧
        ((∃ m, s.man = some m ∧ m.hdr.testOnly = true) →
          ∃ u, exec (.leaveTest sess t) s = .next u ∧ u.module = .closed)) ∧
      (commandsNet s.module = true →
        ∃ u, exec (.moduleClose sess) s = .next u ∧ u.module = .closed ∧ ∀ q, (u.plane q).sending = false))) ∧
  (∀ (s : State) (unit item step ms : Nat) (cp : U64) (ready : Bool) (found : List Mark) (absent : List Nat) (f : U64),
    (ready = false → verdict item step f ready = .notRun) ∧
    (ready = true → step ≠ itemTerminal item → verdict item step f ready = .cut) ∧
    (ready = true → step = itemTerminal item → f = Config.bistExpected item → verdict item step f ready = .pass) ∧
    (ready = true → step = itemTerminal item → f ≠ Config.bistExpected item → verdict item step f ready = .fail) ∧
    (s.itemRunning unit = some item →
      (∃ u, exec (.bistItemEnd unit item step cp ready ms found absent) s = .next u ∧
        u.itemsLeft unit = (s.itemsLeft unit).filter (fun i => decide (i ≠ item)) ∧
        (∀ k, k ≠ unit → u.itemsLeft k = s.itemsLeft k) ∧ u.module = s.module ∧
        (∀ ln, (u.lane ln).views = (s.lane ln).views ∧ (u.lane ln).switches = (s.lane ln).switches) ∧
        (let v := verdict item step (sigf cp step) (ready && (!scanItem item || s.zeroisedUnit unit))
         let out := if item = 9 then absent else []
         (∀ ln, unitLane unit = some ln →
            ⟨item, v, step, itemTerminal item, sigf cp step, ms, out⟩ ∈ (u.lane ln).flash.bist) ∧
         (unitLane unit = none → Tbl.get none u.bist.results (unit * 32 + item) =
            some ⟨item, v, step, itemTerminal item, sigf cp step, ms, out⟩) ∧
         (v = .cut ∨ v = .notRun →
            (∀ ln, (u.lane ln).flash.marks = (s.lane ln).flash.marks) ∧ u.bist.stored = s.bist.stored) ∧
         (v = .pass → ∀ ln, unitLane unit = some ln → ∀ m, (item, m) ∈ (u.lane ln).flash.marks →
            notRunOn out m = true))) ∧
      (2 * itemMs item < ms →
        ∃ u, exec (.bistItemOvertime unit item step ms) s = .next u ∧ u.bist.full = false ∧
          u.itemsLeft unit = (s.itemsLeft unit).filter (fun i => decide (i ≠ item)) ∧ u.module = s.module)) ∧
    (s.bist.running = true → (∀ k ∈ bistUnits, s.itemsLeft k = []) →
      ∃ u, exec .shutdownReady s = .next u ∧ u.bist.running = false ∧ u.bist.ready = true ∧ u.module = s.module ∧
        (s.bist.full = true → u.bist.lastFull = s.now)))

/-! ## Logbook, snapshots and service registers -/

/-- R422, R426-R429: the next event becomes a record of 128 bytes with the next SEQ in the next slot, or is counted as a repeat of the
newest record; after drops a record of their number comes first. -/
def Obligations.LogbookRecords : Prop :=
  ∀ (s : State) (t : Nat) (e : Event) (r : List Event) (n : Nat) (x : LogRec),
    let g := s.log
    let s0 := s.touch t
    let opsec := e.deferred.getD s0.opsec
    s.logWrites = true →
    (g.dropped = 0 → g.q = e :: r →
      (g.newestRec = none ∨ g.newestRec = some x ∧ isRepeat x e opsec s0.subsec = false →
        ∃ u y, exec (.logEvent t) s = .next u ∧ u.log.q = r ∧ u.log.seq = g.seq + 1 ∧
          u.log.newest = some g.slot ∧ u.log.next = slotAfter g.slot ∧
          Tbl.get none u.log.slots g.slot = some y ∧ y.seq = g.seq ∧ y.event = e ∧ y.rep = 0 ∧ y.time.opsec = opsec ∧
          y.time.cn = e.cn ∧ y.time.deferred = e.deferred.isSome ∧ y.time.pwrcyc = g.pwrcyc ∧
          y.time.utcValid = s.ptp.locked ∧ y.state = s.module ∧ y.vote = s.voteBits ∧ y.unitB = s.pair.unitB ∧
          y.lastOpsec = opsec ∧ y.bytes.length = 128 ∧
          (∀ k, k ≠ g.slot → Tbl.get none u.log.slots k = Tbl.get none g.slots k) ∧ vitalSame s u) ∧
      (g.newest = some n → Tbl.get none g.slots n = some x → isRepeat x e opsec s0.subsec = true →
        ∃ u, exec (.logEvent t) s = .next u ∧ u.log.q = r ∧ u.log.seq = g.seq ∧ u.log.next = g.next ∧
          Tbl.get none u.log.slots n = some
            { x with rep := min (x.rep + 1) 65535, lastOpsec := opsec, lastSubsec := s0.subsec, lastCn := e.cn } ∧
          (∀ k, k ≠ n → Tbl.get none u.log.slots k = Tbl.get none g.slots k) ∧ vitalSame s u)) ∧
    (0 < g.dropped → g.q.length < 256 →
      ∃ u, exec (.logEvent t) s = .next u ∧ u.log.dropped = 0 ∧ u.log.q = g.q ∧ vitalSame s u ∧
        (g.newestRec = none → ∃ y, Tbl.get none u.log.slots g.slot = some y ∧ y.event.name = .logDrop ∧
          y.event.data = [(g.dropped : Int)])) ∧
    (n + 1 < 524288 → slotAfter n = n + 1) ∧ slotAfter 524287 = 262144

/-- R433-R438, R462: the first request of a window freezes every bank and puts a frame into assembly, a further one joins
it; a lane without the network latches its own bank; the frame is written over a slot that is not PROTECTED; the banks
released are free again. -/
def Obligations.SnapshotsAndFrames : Prop :=
  ∀ (s : State) (src : SnapSource) (t held : Nat) (ln : LaneId) (v : U32) (f : BbFrame) (n : Nat),
    let taken (u : State) (k : Nat) : Prop := u.snap.windowAt = some (max s.now t) ∧
      (∃ g, u.snap.staged = some g ∧ g.sources.getLsbD k = true) ∧
      (∀ m, s.laneState m ≠ .laneOff → (u.lane m).bank.isSome = true) ∧ u.snap.svcBank.isSome = true ∧
      u.module = s.module ∧ ∀ m, (u.lane m).views = (s.lane m).views ∧ (u.lane m).switches = (s.lane m).switches
    (s.uplink.up = true → s.snap.windowAt = none → s.frozen = false →
      (∃ u, exec (.snapRequest src t) s = .next u ∧ taken u (sourceBit src)) ∧
      (10000 ≤ held → ∃ u, exec (.snapinEdge held t) s = .next u ∧ taken u 7)) ∧
    (s.svcOn = true → s.snap.windowAt = none → s.frozen = false → v.getLsbD 31 = true →
      ∃ u, exec (.snpTrigGo v t) s = .next u ∧ taken u 6) ∧
    (s.uplink.up = true → (∃ w, s.snap.windowAt = some w ∧ max s.now t ≤ w + 10000) → s.snap.staged = some f →
      ∃ u, exec (.snapRequest src t) s = .next u ∧ u.snap.planeBanks = s.snap.planeBanks ∧
        u.snap.svcBank = s.snap.svcBank ∧ (∀ m, (u.lane m).bank = (s.lane m).bank) ∧
        ∃ g, u.snap.staged = some g ∧ g.sources = f.sources ||| sourceMask src ∧ g.followers = f.followers) ∧
    exec .snapWindowEnd s = .next { s with snap := { s.snap with windowAt := none } } ∧
    ((s.lane ln).snapUnacked = true → s.laneState ln ≠ .laneOff →
      ∃ u, exec (.snapLocalLatch ln) s = .next u ∧ (u.lane ln).bank.isSome = true ∧ (u.lane ln).snapUnacked = false ∧
        (u.lane ln).views = (s.lane ln).views ∧ ∀ m, m ≠ ln → u.lane m = s.lane m) ∧
    (s.snap.staged = some f → s.bbPower = true →
      let x := if f.prot then s.snap.makeRoom s.badFrames else s.snap
      oldestSlot x (x.slotsWith s.badFrames false) = some n →
      (∃ u, exec .blackboxFrameWritten s = .next u ∧ u.snap.frameAt n = some f ∧ u.snap.staged = none ∧
        (∀ k, k ≠ n → u.snap.frameAt k = x.frameAt k) ∧ vitalSame s u) ∧
      (∀ g, x.frameAt n = some g → g.prot = false)) ∧
    (s.svcOn = true →
      ∃ u, exec (.snpBankRelease v) s = .next u ∧
        (∀ m, (u.lane m).bank = (if v.getLsbD m.idx then none else (s.lane m).bank) ∧
          (u.lane m).xbank = (if v.getLsbD (6 + m.idx) then none else (s.lane m).xbank) ∧
          (u.lane m).views = (s.lane m).views) ∧
        u.snap.svcBank = (if v.getLsbD 5 then none else s.snap.svcBank) ∧ u.module = s.module)

/-- R450, R14, R448, R449: the key sequence unlocks a block for 10 ms and any other word breaks it off; LOCK returns and
clears the count of locked writes; an access of the wrong width and a write to a mirror are counted and change nothing
else; the mirror takes what the lane holds. -/
def Obligations.LockAndAddressMap : Prop :=
  ∀ (s : State) (b : Blk) (v : U32) (t addr bits : Nat) (w : U64) (ln : LaneId),
    let k := (s.lock b).lapse (max s.now t)
    s.svcOn = true →
    (∃ u, exec (.lockKeyWrite b v t) s = .next u ∧ vitalSame s u ∧
      (v = 0xA5C3 → (u.lock b).seq1 = true ∧ (u.lock b).unlocked = k.unlocked) ∧
      (v = 0x3C5A → k.seq1 = true → (u.lock b).unlocked = true ∧ (u.lock b).since = max s.now t ∧
        (u.lock b).seq1 = false) ∧
      (v = 0x3C5A → k.seq1 = false → (u.lock b).unlocked = k.unlocked ∧ (u.lock b).seq1 = false) ∧
      (v = 0 → (u.lock b).unlocked = false ∧ (u.lock b).seq1 = false) ∧
      (v ≠ 0 → v ≠ 0xA5C3 → v ≠ 0x3C5A → (u.lock b).unlocked = k.unlocked ∧ (u.lock b).seq1 = false) ∧
      (∀ c, c ≠ b → u.lock c = s.lock c)) ∧
    (∃ u, exec (.lockRead b) s = .next u ∧ u.regs.readOut = (s.lock b).word ∧ (u.lock b).lwCount = 0 ∧
      (u.lock b).unlocked = (s.lock b).unlocked ∧ vitalSame s u) ∧
    ((s.lock b).unlocked = true → (s.lock b).since + 10000000 ≤ max s.now t →
      ∃ u, exec (.lockTimeout b t) s = .next u ∧ (u.lock b).unlocked = false ∧ vitalSame s u) ∧
    (s.uplink.up = true → s.flagOk →
      ((bits ≠ 32 ∧ bits ≠ 64 ∨ addr % (bits / 8) ≠ 0) →
        ∃ u, exec (.registerWrite addr bits w t) s = .next u ∧ vitalSame s u ∧ u.queues = s.queues ∧ u.chk = s.chk ∧
          u.regs = { s.regs with accWidth := s.regs.accWidth + 1 }) ∧
      (bits = 32 → addr % 4 = 0 → inMirror addr = true →
        ∃ u, exec (.registerWrite addr bits w t) s = .next u ∧ vitalSame s u ∧ u.queues = s.queues ∧ u.chk = s.chk ∧
          u.regs = { s.regs with mirrorWr := s.regs.mirrorWr + 1 }) ∧
      (bits = 32 → addr % 4 = 0 → inMirror addr = false → blkAt addr = none →
        ∃ u, exec (.registerWrite addr bits w t) s = .next u ∧ vitalSame s u ∧ u.regs = s.regs)) ∧
    (addr % 4 = 0 → inMirror addr = false → blkAt addr = some (b, 0xFFF8) →
      ∃ u, exec (.lockKeyWrite b (w.setWidth 32) t) (s.touch t) = .next u ∧
        exec (.registerWrite addr 32 w t) s = .next u.settle) ∧
    (s.uplink.up = true → s.power.pg.getLsbD (6 + ln.idx) = true → s.laneState ln ≠ .laneOff →
      ∃ u, exec (.mirrorRefresh ln) s = .next u ∧ u.regs.mirrorCn.get ln = (s.lane ln).cn ∧
        (∃ bk, u.regs.mirrors.get ln = some bk ∧ bk.cn = (s.lane ln).cn ∧ bk.views = (s.lane ln).views ∧
          bk.switches = (s.lane ln).switches ∧ bk.cores = (s.lane ln).cores) ∧ vitalSame s u)

/-- R451-R455, R15, R453: a queue gives its words in the order of their push, counts a word pushed while it is full or
disabled, is flushed with its drop count, and takes watermarks and a depth within their bounds. -/
def Obligations.HardwareQueues : Prop :=
  ∀ (s : State) (q t : Nat) (w x : BitVec 63) (r : List (BitVec 63)) (v : U32) (en : Bool),
    let Q := s.queue q
    let hi := v.toNat / 65536 % 16384
    let lo := v.toNat % 16384
    s.queueOn q = true →
    (∃ u, exec (.quePush q w) s = .next u ∧ vitalSame s u ∧
      (Q.en = true → Q.words.length < Q.depth → (u.queue q).words = Q.words ++ [w]) ∧
      (Q.en = true → Q.depth ≤ Q.words.length → u.queue q = { Q with ovf := min (Q.ovf + 1) 65535 }) ∧
      (Q.en = false → u.queue q = { Q with drop := min (Q.drop + 1) 65535 })) ∧
    (∃ u, exec (.queDataRead q) s = .next u ∧ vitalSame s u ∧
      (Q.en = true → Q.words = x :: r → (u.queue q).words = r ∧
        u.regs.readOut = x.setWidth 64 ||| 0x8000000000000000) ∧
      (Q.en = false ∨ Q.words = [] → u.queue q = Q ∧ u.regs.readOut = 0)) ∧
    (∃ u, exec (.queEnable q en) s = .next u ∧ u.queue q = { Q with en := en } ∧ vitalSame s u) ∧
    (∃ u, exec (.queFlush q t) s = .next u ∧ (u.queue q).words = [] ∧ (u.queue q).above = false ∧
      min (Q.drop + Q.words.length) 65535 ≤ (u.queue q).drop ∧ vitalSame s u) ∧
    (∃ u, exec (.queErrRead q) s = .next u ∧ u.queue q = { Q with ovf := 0, drop := 0 } ∧
      u.regs.readOut = BitVec.ofNat 64 (Q.ovf * 65536 + Q.drop) ∧ vitalSame s u) ∧
    ((queueLane q).isSome = true ∨ ((s.lock .que).lapse (max s.now t)).unlocked = true →
      (∃ u, exec (.queWmWrite q v t) s = .next u ∧ vitalSame s u ∧
        (lo < hi → hi ≤ Q.depth → (u.queue q).high = hi ∧ (u.queue q).low = lo ∧ (u.queue q).words = Q.words) ∧
        (hi ≤ lo ∨ Q.depth < hi → u.queue q = Q ∧ u.regs.wmRefused = s.regs.wmRefused + 1)) ∧
      (∃ u, exec (.queCfgWrite q v t) s = .next u ∧ vitalSame s u ∧
        (Q.words ≠ [] ∨ Q.en = true → u.queue q = Q ∧ u.regs.cfgRefused = s.regs.cfgRefused + 1) ∧
        (Q.words = [] → Q.en = false → 1 ≤ v.toNat % 256 → v.toNat % 256 ≤ 128 → (queueLane q).isSome = true →
          u.queue q = { Q with depth64 := v.toNat % 256 }))) ∧
    (queueLane q = none → ((s.lock .que).lapse (max s.now t)).unlocked = false → q ≠ 120 →
      (∃ u, exec (.queWmWrite q v t) s = .next u ∧ u.queue q = Q ∧ vitalSame s u ∧
        (u.lock .que).lwCount = min ((s.lock .que).lwCount + 1) 255) ∧
      (∃ u, exec (.queCfgWrite q v t) s = .next u ∧ u.queue q = Q ∧ vitalSame s u ∧
        (u.lock .que).lwCount = min ((s.lock .que).lwCount + 1) 255))

/-- R457-R460, R464, R311: START judges the scan before it runs, a scan leaves the check value over the bytes it has
processed and REMAIN for the rest, and a busy engine keeps its VALUE; INCR follows a write only in the GX2 mode and
within the slew limit. -/
def Obligations.CheckEnginesAndPtpRegisters : Prop :=
  ∀ (s : State) (n o : Nat) (v : U64) (w : U32) (t : Nat) (init : Bool),
    let e := s.chkEngine n
    s.svcOn = true →
    (e.busy = false →
      (∃ u, exec (.chkStart n init) s = .next u ∧ vitalSame s u ∧ (∀ k, k ≠ n → u.chkEngine k = s.chkEngine k) ∧
        (e.len = 0 → (u.chkEngine n).done = true ∧ (u.chkEngine n).code = 0 ∧ (u.chkEngine n).busy = false) ∧
        (e.len ≠ 0 → 2 ^ e.w ≤ e.poly.toNat ∨ 2 ^ e.w ≤ e.init.toNat ∨ 2 ^ e.w ≤ e.xorout.toNat →
          (u.chkEngine n).code = 2 ∧ (u.chkEngine n).busy = false) ∧
        (e.len ≠ 0 → e.poly.toNat < 2 ^ e.w → e.init.toNat < 2 ^ e.w → e.xorout.toNat < 2 ^ e.w →
          (scanRegion e.addr e.len = false → (u.chkEngine n).code = 1 ∧ (u.chkEngine n).busy = false) ∧
          (scanRegion e.addr e.len = true → u.chkEngine n =
            { e with value := if init then e.init else e.value, busy := true, remain := e.len }))) ∧
      exec (.chkValueWrite n v) s = .next ((s.wrote .chk).putChk n { e with value := v })) ∧
    (e.busy = true →
      (∃ u, exec (.chkStart n init) s = .next u ∧ u.chkEngine n = { e with startIgn := true } ∧ vitalSame s u) ∧
      (∃ u, exec (.chkValueWrite n v) s = .next u ∧ u.chkEngine n = { e with startIgn := true } ∧ vitalSame s u) ∧
      (∃ u, exec (.chkScanEnd n none) s = .next u ∧ vitalSame s u ∧ u.chkEngine n = { e with
        value := e.run (Memory.readBytes s.mem e.addr e.len), busy := false, done := true, code := 0, remain := 0 }) ∧
      (o < e.len →
        let k := (e.addr + o) / 8 * 8 - e.addr
        ∃ u, exec (.chkScanEnd n (some o)) s = .next u ∧ vitalSame s u ∧ u.chkEngine n = { e with
          value := e.run (Memory.readBytes s.mem e.addr k), busy := false, done := true, code := 4, remain := e.len - k }) ∧
      (∃ u p, exec (.chkAbort n) s = .next u ∧ vitalSame s u ∧ (u.chkEngine n).busy = false ∧ p ≤ e.len ∧
        (u.chkEngine n).value = e.run (Memory.readBytes s.mem e.addr p) ∧ (u.chkEngine n).remain = e.len - p ∧
        ((u.chkEngine n).code = 3 ∧ (e.addr + p) % 8 = 0 ∨ (u.chkEngine n).code = 0 ∧ p = e.len))) ∧
    (((s.lock .ptp).lapse (max s.now t)).unlocked = true →
      ∃ u, exec (.ptpModeWrite w t) s = .next u ∧ vitalSame s u ∧
        u.ptp = { s.ptp with gx2 := w.getLsbD 0, slew500 := w.getLsbD 1 }) ∧
    (∃ u, exec (.ptpIncrWrite v) s = .next u ∧ vitalSame s u ∧
      (s.ptp.gx2Now = false → u.ptp.incr = s.ptp.incr) ∧
      (s.ptp.gx2Now = true →
        let x := v.toNat % 2 ^ 40
        (incrNominal ≤ x + slewLimit s.ptp.slew500Now → x ≤ incrNominal + slewLimit s.ptp.slew500Now →
          u.ptp.incr = BitVec.ofNat 40 x) ∧
        (x + slewLimit s.ptp.slew500Now < incrNominal ∨ incrNominal + slewLimit s.ptp.slew500Now < x →
          u.ptp.incr = s.ptp.incr ∧ u.ptp.incrRange = true)))

/-! ## The block as a whole -/

/-- The command at the front of the queue takes effect on everything but the queue, whose rest stays; on an empty queue
the block idles (log entry 6: the model's choice). -/
def Obligations.StepRunsFront : Prop :=
  (∀ (s : State) (c : Instr) (r : List Instr), step { s with pending := c :: r } = exec c { s with pending := r }) ∧
  (∀ s : State, step { s with pending := [] } = .next { s with pending := [] })

/-- Table 0.4, R18, R34, R450, Table 16.2 and the Reset entries of chapter 16: what the module and its registers hold
right after reset, where the manual gives it. -/
def Obligations.ResetValues : Prop :=
  State.reset.module = .powerOff ∧ State.reset.lanes2of2 = false ∧ State.reset.voters = [] ∧
  (∀ ln, (State.reset.lane ln).switches = []) ∧ (∀ ch, State.reset.energised ch = false) ∧
  (∀ b, (State.reset.lock b).word = 0) ∧
  (∀ q, 96 ≤ q → q < 128 → (State.reset.queue q).en = true ∧ (State.reset.queue q).words = [] ∧
    (State.reset.queue q).high = (State.reset.queue q).depth ∧
    2 * (State.reset.queue q).low = (State.reset.queue q).depth ∧ (State.reset.queue q).stat = 0x20000000) ∧
  ((List.range 32).map (fun i => (State.reset.queue (96 + i)).depth)).sum = 24320 ∧
  (State.reset.queue 120).depth = 3072 ∧ State.reset.depthSum 96 (State.reset.queue 96).depth = 24320 ∧
  (∀ n, State.reset.chkEngine n = {}) ∧ State.reset.regs.fcmap = 0 ∧ State.reset.regs.fcpol = 0 ∧
  State.reset.ptp.incr = 0x800000000 ∧ State.reset.ptp.time = 0 ∧ State.reset.ptp.thresholdUs = 1000 ∧
  State.reset.ptp.gx2 = false ∧ State.reset.ptp.slew500 = false ∧ State.reset.snpStat = 0 ∧
  State.reset.flagOk ∧ State.reset.switchesSafe ∧ State.reset.memOk

/-- Every command of the table has an effect: it answers a next state, leaves the waiting commands alone, and never
sets operating time back. -/
def Obligations.EveryCommandCompletes : Prop :=
  ∀ (s : State) (c : Instr), ∃ u, exec c s = .next u ∧ u.pending = s.pending ∧ s.now ≤ u.now

/-- R19: every step keeps LANES_2OF2 set exactly while two lanes are IN-VOTE. -/
def Obligations.FlagKept : Prop := ∀ s t : State, s.flagOk → step s = .next t → t.flagOk

/-- R210, R211: every step keeps the switches of a lane that is not IN-VOTE open. -/
def Obligations.SwitchesKept : Prop := ∀ s t : State, s.switchesSafe → step s = .next t → t.switchesSafe

/-- Every step keeps the service memory in canonical form. -/
def Obligations.MemoryKept : Prop := ∀ s t : State, s.memOk → step s = .next t → t.memOk

/-- R34: while no lane outside the vote closes a switch, an output with field power is energised only by two lanes
IN-VOTE that both close their switches of one pair. -/
def Obligations.EnergisedByTwoLanes : Prop :=
  ∀ (s : State) (ch : Nat), s.switchesSafe →
    (s.energised ch = true →
      2 ≤ s.voters.length ∧ s.fieldOn = true ∧ ∃ m n, m ≠ n ∧ s.votes m = true ∧ s.votes n = true ∧
        (Tbl.get 0 (s.lane m).switches ch).getLsbD (pairBit m n) = true ∧
        (Tbl.get 0 (s.lane n).switches ch).getLsbD (pairBit m n) = true) ∧
    (s.fieldOn = true → (∃ m n, (m, n) ∈ [(LaneId.l1, LaneId.l2), (.l2, .l3), (.l1, .l3)] ∧ s.pairClosed m n ch = true) →
      s.energised ch = true)

/-- R3, R346: no command of the Wharf bus, PTP time, the logbook, the snapshot network or the service registers outside
PWR_ changes a switch, a command vector, a lane state or the module's state; those of the Wharf bus leave the lanes and
the plane chips as they are altogether. -/
def Obligations.ServiceNeverPermits : Prop :=
  ∀ (s u : State) (c : Instr), exec c s = .next u →
    (wharfBusCommand c = true → u.lanes = s.lanes ∧ u.planes = s.planes ∧ u.module = s.module) ∧
    (serviceCommand c = true → u.module = s.module ∧ (∀ ch, u.energised ch = s.energised ch) ∧
      ∀ ln, (u.lane ln).views = (s.lane ln).views ∧ (u.lane ln).switches = (s.lane ln).switches ∧
        (u.lane ln).vec = (s.lane ln).vec ∧ (u.lane ln).newVec = (s.lane ln).newVec ∧
        (u.lane ln).signedDown = (s.lane ln).signedDown ∧ (u.lane ln).copy1 = (s.lane ln).copy1 ∧
        (u.lane ln).copy2 = (s.lane ln).copy2)
end

