-- ==== Sys2Proof/Laws/Frame.lean ====
section
/-! SUPPORT. What a Quayline frame and a telegram give back: the payload of a frame that was built, the timing frame that a
payload spells, and the codes over a telegram's first 160 bytes. -/

namespace Sys2Proof.Laws

open Sys2Proof Sys2Proof.Machine

/-! ## Bytes -/

@[simp] theorem beBytes_length (n v : Nat) : (beBytes n v).length = n := by
  induction n with
  | zero => rfl
  | succ n ih => simp [beBytes, ih]

@[simp] theorem leBytes_length (n v : Nat) : (leBytes n v).length = n := by
  induction n generalizing v with
  | zero => rfl
  | succ n ih => simp [leBytes, ih]

theorem take_front {n : Nat} {b c : List Byte} (hb : b.length = n) : (b ++ c).take n = b := by
  rw [← hb]; exact List.take_left

theorem slice_at {n k : Nat} {b c d : List Byte} (hb : b.length = n) (hc : c.length = k) :
    slice (b ++ (c ++ d)) n k = c := by
  unfold slice; rw [← hb, List.drop_left, ← hc]; exact List.take_left

/-! ## The Ethernet frame (R228) -/

theorem qlFrame_split (source : Nat) (p : List Byte) :
    ∃ h, h.length = 12 ∧ qlFrame source p =
      (h ++ (beBytes 2 qlEtherType ++ p)) ++ frameFcs (h ++ (beBytes 2 qlEtherType ++ p)) :=
  ⟨beBytes 6 qlDestination ++ beBytes 6 source, by simp, by simp [qlFrame, List.append_assoc]⟩

theorem qlFrame_length (source : Nat) (p : List Byte) : (qlFrame source p).length = p.length + 18 := by
  simp [qlFrame, frameFcs]; omega

/-- The payload of a frame that was built is what it was built around. -/
theorem qlOpen_qlFrame (source : Nat) (p : List Byte) : qlOpen (qlFrame source p) = some p := by
  have hl := qlFrame_length source p
  obtain ⟨h, hh, e⟩ := qlFrame_split source p
  have hb : (h ++ (beBytes 2 qlEtherType ++ p)).length = (qlFrame source p).length - 4 := by
    rw [hl]; simp [hh]; omega
  have ht : (qlFrame source p).take ((qlFrame source p).length - 4) = h ++ (beBytes 2 qlEtherType ++ p) := by
    rw [← hb, e]; exact List.take_left
  have hd : (qlFrame source p).drop ((qlFrame source p).length - 4) =
      frameFcs (h ++ (beBytes 2 qlEtherType ++ p)) := by
    rw [← hb, e]; exact List.drop_left
  have h12 : slice (qlFrame source p) 12 2 = beBytes 2 qlEtherType := by
    rw [e, List.append_assoc, List.append_assoc]; exact slice_at hh (by simp)
  have h14 : slice (qlFrame source p) 14 ((qlFrame source p).length - 18) = p := by
    rw [hl, e, List.append_assoc, List.append_assoc, ← List.append_assoc]
    exact slice_at (by simp [hh]) (by simp)
  unfold qlOpen
  rw [if_pos ⟨by omega, by unfold beAt; rw [h12]; decide, by rw [hd, ht]⟩, h14]

/-! ## Timing frames (R242) -/

theorem timing_version (planeB : Bool) (seg : Nat) (x : Timing) : beAt (x.payload planeB seg) 0 1 = 1 := rfl

/-- A timing frame that was built is read by its payload. -/
theorem timingOf_frame (source : Nat) (pl : PlaneId) (seg : Nat) (x : Timing) :
    timingOf (timingFrame source pl seg x) =
      (timingKind (x.payload pl.bit seg)).map (fun y => (lineOf (x.payload pl.bit seg), y)) := by
  unfold timingOf timingFrame
  rw [qlOpen_qlFrame]
  simp [timing_version]

/-! ## Codes of a telegram (R265, R266) -/

@[simp] theorem teleCodeField_length (k : Key) (t : List Byte) (tag : Nat) : (teleCodeField k t tag).length = 8 := by
  simp [teleCodeField, tagByte]

/-- A code runs over the first 160 bytes alone. -/
theorem teleCodeField_front {b c : List Byte} (h : b.length = 160) (k : Key) (tag : Nat) :
    teleCodeField k (b ++ c) tag = teleCodeField k b tag := by
  unfold teleCodeField teleCode
  rw [take_front h, List.take_of_length_le (Nat.le_of_eq h)]

/-- Both code fields of a signed telegram. -/
theorem signed_fields {b : List Byte} (h : b.length = 160) (k1 k2 : Key) (t1 t2 : Nat) :
    let t := b ++ (teleCodeField k1 b t1 ++ (teleCodeField k2 b t2 ++ []))
    slice t 160 8 = teleCodeField k1 t t1 ∧ slice t 168 8 = teleCodeField k2 t t2 := by
  refine ⟨?_, ?_⟩
  · rw [teleCodeField_front h]; exact slice_at h (by simp)
  · rw [teleCodeField_front h, ← List.append_assoc]; exact slice_at (by simp [h]) (by simp)

end Sys2Proof.Laws
end

