-- ==== Sys2Proof/Laws/State.lean ====
section
/-! SUPPORT. Each field of State under each shared update: what the update writes, and that it leaves every other
field alone. -/

namespace Sys2Proof.Laws

open Sys2Proof Sys2Proof.Machine

/-! ## Triples, pairs and quads -/

@[simp] theorem Tri_get_set_self {α : Type} (t : Tri α) (ln : LaneId) (v : α) : (t.set ln v).get ln = v := by
  cases ln <;> rfl

theorem Tri_get_set_ne {α : Type} (t : Tri α) {ln m : LaneId} (v : α) (h : m ≠ ln) : (t.set ln v).get m = t.get m := by
  cases ln <;> cases m <;> first | rfl | exact absurd rfl h

@[simp] theorem Tri_get_mapI {α β : Type} (t : Tri α) (f : LaneId → α → β) (ln : LaneId) :
    (t.mapI f).get ln = f ln (t.get ln) := by
  cases ln <;> rfl

@[simp] theorem Tri_get_map {α β : Type} (t : Tri α) (f : α → β) (ln : LaneId) : (t.map f).get ln = f (t.get ln) := by
  cases ln <;> rfl

@[simp] theorem Tri_get_ofFn {α : Type} (f : LaneId → α) (ln : LaneId) : (Tri.ofFn f).get ln = f ln := by
  cases ln <;> rfl

@[simp] theorem Duo_get_set_self {α : Type} (t : Duo α) (pl : PlaneId) (v : α) : (t.set pl v).get pl = v := by
  cases pl <;> rfl

theorem Duo_get_set_ne {α : Type} (t : Duo α) {pl q : PlaneId} (v : α) (h : q ≠ pl) : (t.set pl v).get q = t.get q := by
  cases pl <;> cases q <;> first | rfl | exact absurd rfl h

@[simp] theorem Quad_get_set_self {α : Type} (t : Quad α) (c : CoreId) (v : α) : (t.set c v).get c = v := by
  cases c <;> rfl

theorem Quad_get_set_ne {α : Type} (t : Quad α) {c d : CoreId} (v : α) (h : d ≠ c) : (t.set c v).get d = t.get d := by
  cases c <;> cases d <;> first | rfl | exact absurd rfl h

/-! ## Lanes -/

@[simp] theorem lane_putLane_self (s : State) (ln : LaneId) (L : Lane) : (s.putLane ln L).lane ln = L := by
  simp [State.lane, State.putLane]

theorem lane_putLane_ne (s : State) {ln m : LaneId} (L : Lane) (h : m ≠ ln) : (s.putLane ln L).lane m = s.lane m := by
  simp [State.lane, State.putLane, Tri_get_set_ne _ _ h]

@[simp] theorem lane_updLane_self (s : State) (ln : LaneId) (f : Lane → Lane) :
    (s.updLane ln f).lane ln = f (s.lane ln) := by
  simp [State.updLane]

theorem lane_updLane_ne (s : State) {ln m : LaneId} (f : Lane → Lane) (h : m ≠ ln) :
    (s.updLane ln f).lane m = s.lane m := by
  simp [State.updLane, lane_putLane_ne _ _ h]

@[simp] theorem lane_mapLanes (s : State) (f : LaneId → Lane → Lane) (ln : LaneId) :
    (s.mapLanes f).lane ln = f ln (s.lane ln) := by
  simp [State.lane, State.mapLanes]

/-! ## putLane -/

@[simp] theorem pending_putLane (s : State) (ln : LaneId) (L : Lane) : (s.putLane ln L).pending = s.pending := rfl
@[simp] theorem now_putLane (s : State) (ln : LaneId) (L : Lane) : (s.putLane ln L).now = s.now := rfl
@[simp] theorem module_putLane (s : State) (ln : LaneId) (L : Lane) : (s.putLane ln L).module = s.module := rfl
@[simp] theorem lanes2of2_putLane (s : State) (ln : LaneId) (L : Lane) : (s.putLane ln L).lanes2of2 = s.lanes2of2 := rfl
@[simp] theorem clxOk_putLane (s : State) (ln : LaneId) (L : Lane) : (s.putLane ln L).clxOk = s.clxOk := rfl
@[simp] theorem skippedCn_putLane (s : State) (ln : LaneId) (L : Lane) : (s.putLane ln L).skippedCn = s.skippedCn := rfl
@[simp] theorem atCons_putLane (s : State) (ln : LaneId) (L : Lane) : (s.putLane ln L).atCons = s.atCons := rfl
@[simp] theorem rot_putLane (s : State) (ln : LaneId) (L : Lane) : (s.putLane ln L).rot = s.rot := rfl
@[simp] theorem pilot_putLane (s : State) (ln : LaneId) (L : Lane) : (s.putLane ln L).pilot = s.pilot := rfl
@[simp] theorem pilotDue_putLane (s : State) (ln : LaneId) (L : Lane) : (s.putLane ln L).pilotDue = s.pilotDue := rfl
@[simp] theorem planes_putLane (s : State) (ln : LaneId) (L : Lane) : (s.putLane ln L).planes = s.planes := rfl
@[simp] theorem ctrls_putLane (s : State) (ln : LaneId) (L : Lane) : (s.putLane ln L).ctrls = s.ctrls := rfl
@[simp] theorem pair_putLane (s : State) (ln : LaneId) (L : Lane) : (s.putLane ln L).pair = s.pair := rfl
@[simp] theorem uplink_putLane (s : State) (ln : LaneId) (L : Lane) : (s.putLane ln L).uplink = s.uplink := rfl
@[simp] theorem ptp_putLane (s : State) (ln : LaneId) (L : Lane) : (s.putLane ln L).ptp = s.ptp := rfl
@[simp] theorem wb_putLane (s : State) (ln : LaneId) (L : Lane) : (s.putLane ln L).wb = s.wb := rfl
@[simp] theorem access_putLane (s : State) (ln : LaneId) (L : Lane) : (s.putLane ln L).access = s.access := rfl
@[simp] theorem change_putLane (s : State) (ln : LaneId) (L : Lane) : (s.putLane ln L).change = s.change := rfl
@[simp] theorem log_putLane (s : State) (ln : LaneId) (L : Lane) : (s.putLane ln L).log = s.log := rfl
@[simp] theorem snap_putLane (s : State) (ln : LaneId) (L : Lane) : (s.putLane ln L).snap = s.snap := rfl
@[simp] theorem bist_putLane (s : State) (ln : LaneId) (L : Lane) : (s.putLane ln L).bist = s.bist := rfl
@[simp] theorem power_putLane (s : State) (ln : LaneId) (L : Lane) : (s.putLane ln L).power = s.power := rfl
@[simp] theorem queues_putLane (s : State) (ln : LaneId) (L : Lane) : (s.putLane ln L).queues = s.queues := rfl
@[simp] theorem chk_putLane (s : State) (ln : LaneId) (L : Lane) : (s.putLane ln L).chk = s.chk := rfl
@[simp] theorem mem_putLane (s : State) (ln : LaneId) (L : Lane) : (s.putLane ln L).mem = s.mem := rfl
@[simp] theorem regs_putLane (s : State) (ln : LaneId) (L : Lane) : (s.putLane ln L).regs = s.regs := rfl
@[simp] theorem draw_putLane (s : State) (ln : LaneId) (L : Lane) : (s.putLane ln L).draw = s.draw := rfl

/-! ## updLane -/

@[simp] theorem pending_updLane (s : State) (ln : LaneId) (f : Lane → Lane) : (s.updLane ln f).pending = s.pending := rfl
@[simp] theorem now_updLane (s : State) (ln : LaneId) (f : Lane → Lane) : (s.updLane ln f).now = s.now := rfl
@[simp] theorem module_updLane (s : State) (ln : LaneId) (f : Lane → Lane) : (s.updLane ln f).module = s.module := rfl
@[simp] theorem lanes2of2_updLane (s : State) (ln : LaneId) (f : Lane → Lane) : (s.updLane ln f).lanes2of2 = s.lanes2of2 := rfl
@[simp] theorem clxOk_updLane (s : State) (ln : LaneId) (f : Lane → Lane) : (s.updLane ln f).clxOk = s.clxOk := rfl
@[simp] theorem skippedCn_updLane (s : State) (ln : LaneId) (f : Lane → Lane) : (s.updLane ln f).skippedCn = s.skippedCn := rfl
@[simp] theorem atCons_updLane (s : State) (ln : LaneId) (f : Lane → Lane) : (s.updLane ln f).atCons = s.atCons := rfl
@[simp] theorem rot_updLane (s : State) (ln : LaneId) (f : Lane → Lane) : (s.updLane ln f).rot = s.rot := rfl
@[simp] theorem pilot_updLane (s : State) (ln : LaneId) (f : Lane → Lane) : (s.updLane ln f).pilot = s.pilot := rfl
@[simp] theorem pilotDue_updLane (s : State) (ln : LaneId) (f : Lane → Lane) : (s.updLane ln f).pilotDue = s.pilotDue := rfl
@[simp] theorem planes_updLane (s : State) (ln : LaneId) (f : Lane → Lane) : (s.updLane ln f).planes = s.planes := rfl
@[simp] theorem ctrls_updLane (s : State) (ln : LaneId) (f : Lane → Lane) : (s.updLane ln f).ctrls = s.ctrls := rfl
@[simp] theorem pair_updLane (s : State) (ln : LaneId) (f : Lane → Lane) : (s.updLane ln f).pair = s.pair := rfl
@[simp] theorem uplink_updLane (s : State) (ln : LaneId) (f : Lane → Lane) : (s.updLane ln f).uplink = s.uplink := rfl
@[simp] theorem ptp_updLane (s : State) (ln : LaneId) (f : Lane → Lane) : (s.updLane ln f).ptp = s.ptp := rfl
@[simp] theorem wb_updLane (s : State) (ln : LaneId) (f : Lane → Lane) : (s.updLane ln f).wb = s.wb := rfl
@[simp] theorem access_updLane (s : State) (ln : LaneId) (f : Lane → Lane) : (s.updLane ln f).access = s.access := rfl
@[simp] theorem change_updLane (s : State) (ln : LaneId) (f : Lane → Lane) : (s.updLane ln f).change = s.change := rfl
@[simp] theorem log_updLane (s : State) (ln : LaneId) (f : Lane → Lane) : (s.updLane ln f).log = s.log := rfl
@[simp] theorem snap_updLane (s : State) (ln : LaneId) (f : Lane → Lane) : (s.updLane ln f).snap = s.snap := rfl
@[simp] theorem bist_updLane (s : State) (ln : LaneId) (f : Lane → Lane) : (s.updLane ln f).bist = s.bist := rfl
@[simp] theorem power_updLane (s : State) (ln : LaneId) (f : Lane → Lane) : (s.updLane ln f).power = s.power := rfl
@[simp] theorem queues_updLane (s : State) (ln : LaneId) (f : Lane → Lane) : (s.updLane ln f).queues = s.queues := rfl
@[simp] theorem chk_updLane (s : State) (ln : LaneId) (f : Lane → Lane) : (s.updLane ln f).chk = s.chk := rfl
@[simp] theorem mem_updLane (s : State) (ln : LaneId) (f : Lane → Lane) : (s.updLane ln f).mem = s.mem := rfl
@[simp] theorem regs_updLane (s : State) (ln : LaneId) (f : Lane → Lane) : (s.updLane ln f).regs = s.regs := rfl
@[simp] theorem draw_updLane (s : State) (ln : LaneId) (f : Lane → Lane) : (s.updLane ln f).draw = s.draw := rfl

/-! ## mapLanes -/

@[simp] theorem pending_mapLanes (s : State) (f : LaneId → Lane → Lane) : (s.mapLanes f).pending = s.pending := rfl
@[simp] theorem now_mapLanes (s : State) (f : LaneId → Lane → Lane) : (s.mapLanes f).now = s.now := rfl
@[simp] theorem module_mapLanes (s : State) (f : LaneId → Lane → Lane) : (s.mapLanes f).module = s.module := rfl
@[simp] theorem lanes2of2_mapLanes (s : State) (f : LaneId → Lane → Lane) : (s.mapLanes f).lanes2of2 = s.lanes2of2 := rfl
@[simp] theorem clxOk_mapLanes (s : State) (f : LaneId → Lane → Lane) : (s.mapLanes f).clxOk = s.clxOk := rfl
@[simp] theorem skippedCn_mapLanes (s : State) (f : LaneId → Lane → Lane) : (s.mapLanes f).skippedCn = s.skippedCn := rfl
@[simp] theorem atCons_mapLanes (s : State) (f : LaneId → Lane → Lane) : (s.mapLanes f).atCons = s.atCons := rfl
@[simp] theorem rot_mapLanes (s : State) (f : LaneId → Lane → Lane) : (s.mapLanes f).rot = s.rot := rfl
@[simp] theorem pilot_mapLanes (s : State) (f : LaneId → Lane → Lane) : (s.mapLanes f).pilot = s.pilot := rfl
@[simp] theorem pilotDue_mapLanes (s : State) (f : LaneId → Lane → Lane) : (s.mapLanes f).pilotDue = s.pilotDue := rfl
@[simp] theorem planes_mapLanes (s : State) (f : LaneId → Lane → Lane) : (s.mapLanes f).planes = s.planes := rfl
@[simp] theorem ctrls_mapLanes (s : State) (f : LaneId → Lane → Lane) : (s.mapLanes f).ctrls = s.ctrls := rfl
@[simp] theorem pair_mapLanes (s : State) (f : LaneId → Lane → Lane) : (s.mapLanes f).pair = s.pair := rfl
@[simp] theorem uplink_mapLanes (s : State) (f : LaneId → Lane → Lane) : (s.mapLanes f).uplink = s.uplink := rfl
@[simp] theorem ptp_mapLanes (s : State) (f : LaneId → Lane → Lane) : (s.mapLanes f).ptp = s.ptp := rfl
@[simp] theorem wb_mapLanes (s : State) (f : LaneId → Lane → Lane) : (s.mapLanes f).wb = s.wb := rfl
@[simp] theorem access_mapLanes (s : State) (f : LaneId → Lane → Lane) : (s.mapLanes f).access = s.access := rfl
@[simp] theorem change_mapLanes (s : State) (f : LaneId → Lane → Lane) : (s.mapLanes f).change = s.change := rfl
@[simp] theorem log_mapLanes (s : State) (f : LaneId → Lane → Lane) : (s.mapLanes f).log = s.log := rfl
@[simp] theorem snap_mapLanes (s : State) (f : LaneId → Lane → Lane) : (s.mapLanes f).snap = s.snap := rfl
@[simp] theorem bist_mapLanes (s : State) (f : LaneId → Lane → Lane) : (s.mapLanes f).bist = s.bist := rfl
@[simp] theorem power_mapLanes (s : State) (f : LaneId → Lane → Lane) : (s.mapLanes f).power = s.power := rfl
@[simp] theorem queues_mapLanes (s : State) (f : LaneId → Lane → Lane) : (s.mapLanes f).queues = s.queues := rfl
@[simp] theorem chk_mapLanes (s : State) (f : LaneId → Lane → Lane) : (s.mapLanes f).chk = s.chk := rfl
@[simp] theorem mem_mapLanes (s : State) (f : LaneId → Lane → Lane) : (s.mapLanes f).mem = s.mem := rfl
@[simp] theorem regs_mapLanes (s : State) (f : LaneId → Lane → Lane) : (s.mapLanes f).regs = s.regs := rfl
@[simp] theorem draw_mapLanes (s : State) (f : LaneId → Lane → Lane) : (s.mapLanes f).draw = s.draw := rfl

/-! ## touch -/

@[simp] theorem pending_touch (s : State) (t : Nat) : (s.touch t).pending = s.pending := rfl
@[simp] theorem module_touch (s : State) (t : Nat) : (s.touch t).module = s.module := rfl
@[simp] theorem lanes2of2_touch (s : State) (t : Nat) : (s.touch t).lanes2of2 = s.lanes2of2 := rfl
@[simp] theorem lanes_touch (s : State) (t : Nat) : (s.touch t).lanes = s.lanes := rfl
@[simp] theorem clxOk_touch (s : State) (t : Nat) : (s.touch t).clxOk = s.clxOk := rfl
@[simp] theorem skippedCn_touch (s : State) (t : Nat) : (s.touch t).skippedCn = s.skippedCn := rfl
@[simp] theorem atCons_touch (s : State) (t : Nat) : (s.touch t).atCons = s.atCons := rfl
@[simp] theorem rot_touch (s : State) (t : Nat) : (s.touch t).rot = s.rot := rfl
@[simp] theorem pilot_touch (s : State) (t : Nat) : (s.touch t).pilot = s.pilot := rfl
@[simp] theorem pilotDue_touch (s : State) (t : Nat) : (s.touch t).pilotDue = s.pilotDue := rfl
@[simp] theorem planes_touch (s : State) (t : Nat) : (s.touch t).planes = s.planes := rfl
@[simp] theorem ctrls_touch (s : State) (t : Nat) : (s.touch t).ctrls = s.ctrls := rfl
@[simp] theorem pair_touch (s : State) (t : Nat) : (s.touch t).pair = s.pair := rfl
@[simp] theorem uplink_touch (s : State) (t : Nat) : (s.touch t).uplink = s.uplink := rfl
@[simp] theorem ptp_touch (s : State) (t : Nat) : (s.touch t).ptp = s.ptp := rfl
@[simp] theorem wb_touch (s : State) (t : Nat) : (s.touch t).wb = s.wb := rfl
@[simp] theorem access_touch (s : State) (t : Nat) : (s.touch t).access = s.access := rfl
@[simp] theorem change_touch (s : State) (t : Nat) : (s.touch t).change = s.change := rfl
@[simp] theorem log_touch (s : State) (t : Nat) : (s.touch t).log = s.log := rfl
@[simp] theorem snap_touch (s : State) (t : Nat) : (s.touch t).snap = s.snap := rfl
@[simp] theorem bist_touch (s : State) (t : Nat) : (s.touch t).bist = s.bist := rfl
@[simp] theorem power_touch (s : State) (t : Nat) : (s.touch t).power = s.power := rfl
@[simp] theorem queues_touch (s : State) (t : Nat) : (s.touch t).queues = s.queues := rfl
@[simp] theorem chk_touch (s : State) (t : Nat) : (s.touch t).chk = s.chk := rfl
@[simp] theorem mem_touch (s : State) (t : Nat) : (s.touch t).mem = s.mem := rfl
@[simp] theorem regs_touch (s : State) (t : Nat) : (s.touch t).regs = s.regs := rfl
@[simp] theorem draw_touch (s : State) (t : Nat) : (s.touch t).draw = s.draw := rfl
@[simp] theorem now_touch (s : State) (t : Nat) : (s.touch t).now = max s.now t := rfl
@[simp] theorem lane_touch (s : State) (t : Nat) (m : LaneId) : (s.touch t).lane m = s.lane m := rfl

/-! ## putQueue -/

@[simp] theorem pending_putQueue (s : State) (n : Nat) (q : Queue) : (s.putQueue n q).pending = s.pending := rfl
@[simp] theorem now_putQueue (s : State) (n : Nat) (q : Queue) : (s.putQueue n q).now = s.now := rfl
@[simp] theorem module_putQueue (s : State) (n : Nat) (q : Queue) : (s.putQueue n q).module = s.module := rfl
@[simp] theorem lanes2of2_putQueue (s : State) (n : Nat) (q : Queue) : (s.putQueue n q).lanes2of2 = s.lanes2of2 := rfl
@[simp] theorem lanes_putQueue (s : State) (n : Nat) (q : Queue) : (s.putQueue n q).lanes = s.lanes := rfl
@[simp] theorem clxOk_putQueue (s : State) (n : Nat) (q : Queue) : (s.putQueue n q).clxOk = s.clxOk := rfl
@[simp] theorem skippedCn_putQueue (s : State) (n : Nat) (q : Queue) : (s.putQueue n q).skippedCn = s.skippedCn := rfl
@[simp] theorem atCons_putQueue (s : State) (n : Nat) (q : Queue) : (s.putQueue n q).atCons = s.atCons := rfl
@[simp] theorem rot_putQueue (s : State) (n : Nat) (q : Queue) : (s.putQueue n q).rot = s.rot := rfl
@[simp] theorem pilot_putQueue (s : State) (n : Nat) (q : Queue) : (s.putQueue n q).pilot = s.pilot := rfl
@[simp] theorem pilotDue_putQueue (s : State) (n : Nat) (q : Queue) : (s.putQueue n q).pilotDue = s.pilotDue := rfl
@[simp] theorem planes_putQueue (s : State) (n : Nat) (q : Queue) : (s.putQueue n q).planes = s.planes := rfl
@[simp] theorem ctrls_putQueue (s : State) (n : Nat) (q : Queue) : (s.putQueue n q).ctrls = s.ctrls := rfl
@[simp] theorem pair_putQueue (s : State) (n : Nat) (q : Queue) : (s.putQueue n q).pair = s.pair := rfl
@[simp] theorem uplink_putQueue (s : State) (n : Nat) (q : Queue) : (s.putQueue n q).uplink = s.uplink := rfl
@[simp] theorem ptp_putQueue (s : State) (n : Nat) (q : Queue) : (s.putQueue n q).ptp = s.ptp := rfl
@[simp] theorem wb_putQueue (s : State) (n : Nat) (q : Queue) : (s.putQueue n q).wb = s.wb := rfl
@[simp] theorem access_putQueue (s : State) (n : Nat) (q : Queue) : (s.putQueue n q).access = s.access := rfl
@[simp] theorem change_putQueue (s : State) (n : Nat) (q : Queue) : (s.putQueue n q).change = s.change := rfl
@[simp] theorem log_putQueue (s : State) (n : Nat) (q : Queue) : (s.putQueue n q).log = s.log := rfl
@[simp] theorem snap_putQueue (s : State) (n : Nat) (q : Queue) : (s.putQueue n q).snap = s.snap := rfl
@[simp] theorem bist_putQueue (s : State) (n : Nat) (q : Queue) : (s.putQueue n q).bist = s.bist := rfl
@[simp] theorem power_putQueue (s : State) (n : Nat) (q : Queue) : (s.putQueue n q).power = s.power := rfl
@[simp] theorem chk_putQueue (s : State) (n : Nat) (q : Queue) : (s.putQueue n q).chk = s.chk := rfl
@[simp] theorem mem_putQueue (s : State) (n : Nat) (q : Queue) : (s.putQueue n q).mem = s.mem := rfl
@[simp] theorem regs_putQueue (s : State) (n : Nat) (q : Queue) : (s.putQueue n q).regs = s.regs := rfl
@[simp] theorem draw_putQueue (s : State) (n : Nat) (q : Queue) : (s.putQueue n q).draw = s.draw := rfl
@[simp] theorem lane_putQueue (s : State) (n : Nat) (q : Queue) (m : LaneId) : (s.putQueue n q).lane m = s.lane m := rfl

/-! ## Raising an event: only the logbook's queue, the queue counters and the events a lane holds change -/

@[simp] theorem pending_raise (s : State) (c : LogClass) (n : EventName) (d : Die) (x : List Int) :
    (s.raise c n d x).pending = s.pending := by
  unfold State.raise; split <;> first | rfl | (split <;> rfl)
@[simp] theorem now_raise (s : State) (c : LogClass) (n : EventName) (d : Die) (x : List Int) :
    (s.raise c n d x).now = s.now := by
  unfold State.raise; split <;> first | rfl | (split <;> rfl)
@[simp] theorem module_raise (s : State) (c : LogClass) (n : EventName) (d : Die) (x : List Int) :
    (s.raise c n d x).module = s.module := by
  unfold State.raise; split <;> first | rfl | (split <;> rfl)
@[simp] theorem lanes2of2_raise (s : State) (c : LogClass) (n : EventName) (d : Die) (x : List Int) :
    (s.raise c n d x).lanes2of2 = s.lanes2of2 := by
  unfold State.raise; split <;> first | rfl | (split <;> rfl)
@[simp] theorem lanes_raise (s : State) (c : LogClass) (n : EventName) (d : Die) (x : List Int) :
    (s.raise c n d x).lanes = s.lanes := by
  unfold State.raise; split <;> first | rfl | (split <;> rfl)
@[simp] theorem clxOk_raise (s : State) (c : LogClass) (n : EventName) (d : Die) (x : List Int) :
    (s.raise c n d x).clxOk = s.clxOk := by
  unfold State.raise; split <;> first | rfl | (split <;> rfl)
@[simp] theorem skippedCn_raise (s : State) (c : LogClass) (n : EventName) (d : Die) (x : List Int) :
    (s.raise c n d x).skippedCn = s.skippedCn := by
  unfold State.raise; split <;> first | rfl | (split <;> rfl)
@[simp] theorem atCons_raise (s : State) (c : LogClass) (n : EventName) (d : Die) (x : List Int) :
    (s.raise c n d x).atCons = s.atCons := by
  unfold State.raise; split <;> first | rfl | (split <;> rfl)
@[simp] theorem rot_raise (s : State) (c : LogClass) (n : EventName) (d : Die) (x : List Int) :
    (s.raise c n d x).rot = s.rot := by
  unfold State.raise; split <;> first | rfl | (split <;> rfl)
@[simp] theorem pilot_raise (s : State) (c : LogClass) (n : EventName) (d : Die) (x : List Int) :
    (s.raise c n d x).pilot = s.pilot := by
  unfold State.raise; split <;> first | rfl | (split <;> rfl)
@[simp] theorem pilotDue_raise (s : State) (c : LogClass) (n : EventName) (d : Die) (x : List Int) :
    (s.raise c n d x).pilotDue = s.pilotDue := by
  unfold State.raise; split <;> first | rfl | (split <;> rfl)
@[simp] theorem planes_raise (s : State) (c : LogClass) (n : EventName) (d : Die) (x : List Int) :
    (s.raise c n d x).planes = s.planes := by
  unfold State.raise; split <;> first | rfl | (split <;> rfl)
@[simp] theorem ctrls_raise (s : State) (c : LogClass) (n : EventName) (d : Die) (x : List Int) :
    (s.raise c n d x).ctrls = s.ctrls := by
  unfold State.raise; split <;> first | rfl | (split <;> rfl)
@[simp] theorem pair_raise (s : State) (c : LogClass) (n : EventName) (d : Die) (x : List Int) :
    (s.raise c n d x).pair = s.pair := by
  unfold State.raise; split <;> first | rfl | (split <;> rfl)
@[simp] theorem uplink_raise (s : State) (c : LogClass) (n : EventName) (d : Die) (x : List Int) :
    (s.raise c n d x).uplink = s.uplink := by
  unfold State.raise; split <;> first | rfl | (split <;> rfl)
@[simp] theorem ptp_raise (s : State) (c : LogClass) (n : EventName) (d : Die) (x : List Int) :
    (s.raise c n d x).ptp = s.ptp := by
  unfold State.raise; split <;> first | rfl | (split <;> rfl)
@[simp] theorem wb_raise (s : State) (c : LogClass) (n : EventName) (d : Die) (x : List Int) :
    (s.raise c n d x).wb = s.wb := by
  unfold State.raise; split <;> first | rfl | (split <;> rfl)
@[simp] theorem access_raise (s : State) (c : LogClass) (n : EventName) (d : Die) (x : List Int) :
    (s.raise c n d x).access = s.access := by
  unfold State.raise; split <;> first | rfl | (split <;> rfl)
@[simp] theorem change_raise (s : State) (c : LogClass) (n : EventName) (d : Die) (x : List Int) :
    (s.raise c n d x).change = s.change := by
  unfold State.raise; split <;> first | rfl | (split <;> rfl)
@[simp] theorem snap_raise (s : State) (c : LogClass) (n : EventName) (d : Die) (x : List Int) :
    (s.raise c n d x).snap = s.snap := by
  unfold State.raise; split <;> first | rfl | (split <;> rfl)
@[simp] theorem bist_raise (s : State) (c : LogClass) (n : EventName) (d : Die) (x : List Int) :
    (s.raise c n d x).bist = s.bist := by
  unfold State.raise; split <;> first | rfl | (split <;> rfl)
@[simp] theorem power_raise (s : State) (c : LogClass) (n : EventName) (d : Die) (x : List Int) :
    (s.raise c n d x).power = s.power := by
  unfold State.raise; split <;> first | rfl | (split <;> rfl)
@[simp] theorem chk_raise (s : State) (c : LogClass) (n : EventName) (d : Die) (x : List Int) :
    (s.raise c n d x).chk = s.chk := by
  unfold State.raise; split <;> first | rfl | (split <;> rfl)
@[simp] theorem mem_raise (s : State) (c : LogClass) (n : EventName) (d : Die) (x : List Int) :
    (s.raise c n d x).mem = s.mem := by
  unfold State.raise; split <;> first | rfl | (split <;> rfl)
@[simp] theorem regs_raise (s : State) (c : LogClass) (n : EventName) (d : Die) (x : List Int) :
    (s.raise c n d x).regs = s.regs := by
  unfold State.raise; split <;> first | rfl | (split <;> rfl)
@[simp] theorem draw_raise (s : State) (c : LogClass) (n : EventName) (d : Die) (x : List Int) :
    (s.raise c n d x).draw = s.draw := by
  unfold State.raise; split <;> first | rfl | (split <;> rfl)
@[simp] theorem lane_raise (s : State) (c : LogClass) (n : EventName) (d : Die) (x : List Int) (m : LaneId) :
    (s.raise c n d x).lane m = s.lane m := by
  simp [State.lane]

@[simp] theorem pending_raiseLane (s : State) (ln : LaneId) (c : LogClass) (n : EventName) (x : List Int) :
    (s.raiseLane ln c n x).pending = s.pending := by
  unfold State.raiseLane; split <;> simp
@[simp] theorem pending_raiseModule (s : State) (c : LogClass) (n : EventName) (x : List Int) :
    (s.raiseModule c n x).pending = s.pending := by
  unfold State.raiseModule; split <;> simp
@[simp] theorem now_raiseLane (s : State) (ln : LaneId) (c : LogClass) (n : EventName) (x : List Int) :
    (s.raiseLane ln c n x).now = s.now := by
  unfold State.raiseLane; split <;> simp
@[simp] theorem now_raiseModule (s : State) (c : LogClass) (n : EventName) (x : List Int) :
    (s.raiseModule c n x).now = s.now := by
  unfold State.raiseModule; split <;> simp
@[simp] theorem module_raiseLane (s : State) (ln : LaneId) (c : LogClass) (n : EventName) (x : List Int) :
    (s.raiseLane ln c n x).module = s.module := by
  unfold State.raiseLane; split <;> simp
@[simp] theorem module_raiseModule (s : State) (c : LogClass) (n : EventName) (x : List Int) :
    (s.raiseModule c n x).module = s.module := by
  unfold State.raiseModule; split <;> simp
@[simp] theorem lanes2of2_raiseLane (s : State) (ln : LaneId) (c : LogClass) (n : EventName) (x : List Int) :
    (s.raiseLane ln c n x).lanes2of2 = s.lanes2of2 := by
  unfold State.raiseLane; split <;> simp
@[simp] theorem lanes2of2_raiseModule (s : State) (c : LogClass) (n : EventName) (x : List Int) :
    (s.raiseModule c n x).lanes2of2 = s.lanes2of2 := by
  unfold State.raiseModule; split <;> simp
@[simp] theorem clxOk_raiseLane (s : State) (ln : LaneId) (c : LogClass) (n : EventName) (x : List Int) :
    (s.raiseLane ln c n x).clxOk = s.clxOk := by
  unfold State.raiseLane; split <;> simp
@[simp] theorem clxOk_raiseModule (s : State) (c : LogClass) (n : EventName) (x : List Int) :
    (s.raiseModule c n x).clxOk = s.clxOk := by
  unfold State.raiseModule; split <;> simp
@[simp] theorem skippedCn_raiseLane (s : State) (ln : LaneId) (c : LogClass) (n : EventName) (x : List Int) :
    (s.raiseLane ln c n x).skippedCn = s.skippedCn := by
  unfold State.raiseLane; split <;> simp
@[simp] theorem skippedCn_raiseModule (s : State) (c : LogClass) (n : EventName) (x : List Int) :
    (s.raiseModule c n x).skippedCn = s.skippedCn := by
  unfold State.raiseModule; split <;> simp
@[simp] theorem atCons_raiseLane (s : State) (ln : LaneId) (c : LogClass) (n : EventName) (x : List Int) :
    (s.raiseLane ln c n x).atCons = s.atCons := by
  unfold State.raiseLane; split <;> simp
@[simp] theorem atCons_raiseModule (s : State) (c : LogClass) (n : EventName) (x : List Int) :
    (s.raiseModule c n x).atCons = s.atCons := by
  unfold State.raiseModule; split <;> simp
@[simp] theorem rot_raiseLane (s : State) (ln : LaneId) (c : LogClass) (n : EventName) (x : List Int) :
    (s.raiseLane ln c n x).rot = s.rot := by
  unfold State.raiseLane; split <;> simp
@[simp] theorem rot_raiseModule (s : State) (c : LogClass) (n : EventName) (x : List Int) :
    (s.raiseModule c n x).rot = s.rot := by
  unfold State.raiseModule; split <;> simp
@[simp] theorem pilot_raiseLane (s : State) (ln : LaneId) (c : LogClass) (n : EventName) (x : List Int) :
    (s.raiseLane ln c n x).pilot = s.pilot := by
  unfold State.raiseLane; split <;> simp
@[simp] theorem pilot_raiseModule (s : State) (c : LogClass) (n : EventName) (x : List Int) :
    (s.raiseModule c n x).pilot = s.pilot := by
  unfold State.raiseModule; split <;> simp
@[simp] theorem pilotDue_raiseLane (s : State) (ln : LaneId) (c : LogClass) (n : EventName) (x : List Int) :
    (s.raiseLane ln c n x).pilotDue = s.pilotDue := by
  unfold State.raiseLane; split <;> simp
@[simp] theorem pilotDue_raiseModule (s : State) (c : LogClass) (n : EventName) (x : List Int) :
    (s.raiseModule c n x).pilotDue = s.pilotDue := by
  unfold State.raiseModule; split <;> simp
@[simp] theorem planes_raiseLane (s : State) (ln : LaneId) (c : LogClass) (n : EventName) (x : List Int) :
    (s.raiseLane ln c n x).planes = s.planes := by
  unfold State.raiseLane; split <;> simp
@[simp] theorem planes_raiseModule (s : State) (c : LogClass) (n : EventName) (x : List Int) :
    (s.raiseModule c n x).planes = s.planes := by
  unfold State.raiseModule; split <;> simp
@[simp] theorem ctrls_raiseLane (s : State) (ln : LaneId) (c : LogClass) (n : EventName) (x : List Int) :
    (s.raiseLane ln c n x).ctrls = s.ctrls := by
  unfold State.raiseLane; split <;> simp
@[simp] theorem ctrls_raiseModule (s : State) (c : LogClass) (n : EventName) (x : List Int) :
    (s.raiseModule c n x).ctrls = s.ctrls := by
  unfold State.raiseModule; split <;> simp
@[simp] theorem pair_raiseLane (s : State) (ln : LaneId) (c : LogClass) (n : EventName) (x : List Int) :
    (s.raiseLane ln c n x).pair = s.pair := by
  unfold State.raiseLane; split <;> simp
@[simp] theorem pair_raiseModule (s : State) (c : LogClass) (n : EventName) (x : List Int) :
    (s.raiseModule c n x).pair = s.pair := by
  unfold State.raiseModule; split <;> simp
@[simp] theorem uplink_raiseLane (s : State) (ln : LaneId) (c : LogClass) (n : EventName) (x : List Int) :
    (s.raiseLane ln c n x).uplink = s.uplink := by
  unfold State.raiseLane; split <;> simp
@[simp] theorem uplink_raiseModule (s : State) (c : LogClass) (n : EventName) (x : List Int) :
    (s.raiseModule c n x).uplink = s.uplink := by
  unfold State.raiseModule; split <;> simp
@[simp] theorem ptp_raiseLane (s : State) (ln : LaneId) (c : LogClass) (n : EventName) (x : List Int) :
    (s.raiseLane ln c n x).ptp = s.ptp := by
  unfold State.raiseLane; split <;> simp
@[simp] theorem ptp_raiseModule (s : State) (c : LogClass) (n : EventName) (x : List Int) :
    (s.raiseModule c n x).ptp = s.ptp := by
  unfold State.raiseModule; split <;> simp
@[simp] theorem wb_raiseLane (s : State) (ln : LaneId) (c : LogClass) (n : EventName) (x : List Int) :
    (s.raiseLane ln c n x).wb = s.wb := by
  unfold State.raiseLane; split <;> simp
@[simp] theorem wb_raiseModule (s : State) (c : LogClass) (n : EventName) (x : List Int) :
    (s.raiseModule c n x).wb = s.wb := by
  unfold State.raiseModule; split <;> simp
@[simp] theorem access_raiseLane (s : State) (ln : LaneId) (c : LogClass) (n : EventName) (x : List Int) :
    (s.raiseLane ln c n x).access = s.access := by
  unfold State.raiseLane; split <;> simp
@[simp] theorem access_raiseModule (s : State) (c : LogClass) (n : EventName) (x : List Int) :
    (s.raiseModule c n x).access = s.access := by
  unfold State.raiseModule; split <;> simp
@[simp] theorem change_raiseLane (s : State) (ln : LaneId) (c : LogClass) (n : EventName) (x : List Int) :
    (s.raiseLane ln c n x).change = s.change := by
  unfold State.raiseLane; split <;> simp
@[simp] theorem change_raiseModule (s : State) (c : LogClass) (n : EventName) (x : List Int) :
    (s.raiseModule c n x).change = s.change := by
  unfold State.raiseModule; split <;> simp
@[simp] theorem snap_raiseLane (s : State) (ln : LaneId) (c : LogClass) (n : EventName) (x : List Int) :
    (s.raiseLane ln c n x).snap = s.snap := by
  unfold State.raiseLane; split <;> simp
@[simp] theorem snap_raiseModule (s : State) (c : LogClass) (n : EventName) (x : List Int) :
    (s.raiseModule c n x).snap = s.snap := by
  unfold State.raiseModule; split <;> simp
@[simp] theorem bist_raiseLane (s : State) (ln : LaneId) (c : LogClass) (n : EventName) (x : List Int) :
    (s.raiseLane ln c n x).bist = s.bist := by
  unfold State.raiseLane; split <;> simp
@[simp] theorem bist_raiseModule (s : State) (c : LogClass) (n : EventName) (x : List Int) :
    (s.raiseModule c n x).bist = s.bist := by
  unfold State.raiseModule; split <;> simp
@[simp] theorem power_raiseLane (s : State) (ln : LaneId) (c : LogClass) (n : EventName) (x : List Int) :
    (s.raiseLane ln c n x).power = s.power := by
  unfold State.raiseLane; split <;> simp
@[simp] theorem power_raiseModule (s : State) (c : LogClass) (n : EventName) (x : List Int) :
    (s.raiseModule c n x).power = s.power := by
  unfold State.raiseModule; split <;> simp
@[simp] theorem chk_raiseLane (s : State) (ln : LaneId) (c : LogClass) (n : EventName) (x : List Int) :
    (s.raiseLane ln c n x).chk = s.chk := by
  unfold State.raiseLane; split <;> simp
@[simp] theorem chk_raiseModule (s : State) (c : LogClass) (n : EventName) (x : List Int) :
    (s.raiseModule c n x).chk = s.chk := by
  unfold State.raiseModule; split <;> simp
@[simp] theorem mem_raiseLane (s : State) (ln : LaneId) (c : LogClass) (n : EventName) (x : List Int) :
    (s.raiseLane ln c n x).mem = s.mem := by
  unfold State.raiseLane; split <;> simp
@[simp] theorem mem_raiseModule (s : State) (c : LogClass) (n : EventName) (x : List Int) :
    (s.raiseModule c n x).mem = s.mem := by
  unfold State.raiseModule; split <;> simp
@[simp] theorem regs_raiseLane (s : State) (ln : LaneId) (c : LogClass) (n : EventName) (x : List Int) :
    (s.raiseLane ln c n x).regs = s.regs := by
  unfold State.raiseLane; split <;> simp
@[simp] theorem regs_raiseModule (s : State) (c : LogClass) (n : EventName) (x : List Int) :
    (s.raiseModule c n x).regs = s.regs := by
  unfold State.raiseModule; split <;> simp
@[simp] theorem draw_raiseLane (s : State) (ln : LaneId) (c : LogClass) (n : EventName) (x : List Int) :
    (s.raiseLane ln c n x).draw = s.draw := by
  unfold State.raiseLane; split <;> simp
@[simp] theorem draw_raiseModule (s : State) (c : LogClass) (n : EventName) (x : List Int) :
    (s.raiseModule c n x).draw = s.draw := by
  unfold State.raiseModule; split <;> simp

end Sys2Proof.Laws
end

