-- ==== Sys2Proof/Laws/Tables.lean ====
section
/-! SUPPORT. Sparse tables: what a read answers after a write, and that a write keeps the canonical form. The same
for the service memory. -/

namespace Sys2Proof.Laws

open Sys2Proof

variable {α : Type}

@[simp] theorem Tbl_get_nil (d : α) (k : Nat) : Tbl.get d ([] : Tbl α) k = d := rfl

/-! ## Reads after a write: for every table, canonical or not -/

theorem Tbl_get_insert_self (d : α) (t : Tbl α) (k : Nat) (v : α) : Tbl.get d (Tbl.insert t k v) k = v := by
  induction t with
  | nil => simp [Tbl.insert, Tbl.get]
  | cons e r ih =>
    obtain ⟨k', v'⟩ := e
    unfold Tbl.insert
    split
    · simp [Tbl.get]
    · split
      · simp [Tbl.get]
      · next hne => simp [Tbl.get, hne, ih]

theorem Tbl_get_insert_ne (d : α) (t : Tbl α) {k j : Nat} (v : α) (h : j ≠ k) :
    Tbl.get d (Tbl.insert t k v) j = Tbl.get d t j := by
  induction t with
  | nil => simp [Tbl.insert, Tbl.get, h]
  | cons e r ih =>
    obtain ⟨k', v'⟩ := e
    unfold Tbl.insert
    split
    · simp [Tbl.get, h]
    · split
      · next heq => subst heq; simp [Tbl.get, h]
      · by_cases hj : j = k' <;> simp [Tbl.get, hj, ih]

theorem Tbl_get_filter_self (d : α) (t : Tbl α) (k : Nat) :
    Tbl.get d (t.filter (fun e => decide (e.1 ≠ k))) k = d := by
  induction t with
  | nil => rfl
  | cons e r ih =>
    obtain ⟨k', v'⟩ := e
    rw [List.filter_cons]
    split
    · next h =>
      have hne : k ≠ k' := fun hk => by simp [hk] at h
      rw [Tbl.get, if_neg hne]; exact ih
    · exact ih

theorem Tbl_get_filter_ne (d : α) (t : Tbl α) {k j : Nat} (h : j ≠ k) :
    Tbl.get d (t.filter (fun e => decide (e.1 ≠ k))) j = Tbl.get d t j := by
  induction t with
  | nil => rfl
  | cons e r ih =>
    obtain ⟨k', v'⟩ := e
    rw [List.filter_cons]
    split
    · simp only [Tbl.get]; rw [ih]
    · next hk =>
      have hk' : k' = k := by simpa using hk
      have hne : j ≠ k' := by omega
      rw [ih, Tbl.get, if_neg hne]

/-- A read after a write of the same key gives the value written. -/
@[simp] theorem Tbl_get_set_self [DecidableEq α] (d : α) (t : Tbl α) (k : Nat) (v : α) :
    Tbl.get d (Tbl.set d t k v) k = v := by
  unfold Tbl.set
  split
  · next h => rw [Tbl_get_filter_self, h]
  · exact Tbl_get_insert_self d t k v

/-- A read of another key is not touched by a write. -/
theorem Tbl_get_set_ne [DecidableEq α] (d : α) (t : Tbl α) {k j : Nat} (v : α) (h : j ≠ k) :
    Tbl.get d (Tbl.set d t k v) j = Tbl.get d t j := by
  unfold Tbl.set
  split
  · exact Tbl_get_filter_ne d t h
  · exact Tbl_get_insert_ne d t v h

@[simp] theorem Tbl_get_upd_self [DecidableEq α] (d : α) (t : Tbl α) (k : Nat) (f : α → α) :
    Tbl.get d (Tbl.upd d t k f) k = f (Tbl.get d t k) := Tbl_get_set_self d t k _

theorem Tbl_get_upd_ne [DecidableEq α] (d : α) (t : Tbl α) {k j : Nat} (f : α → α) (h : j ≠ k) :
    Tbl.get d (Tbl.upd d t k f) j = Tbl.get d t j := Tbl_get_set_ne d t _ h

/-! ## The canonical form -/

/-- Canonical form does not depend on a lower bound made smaller. -/
theorem Tbl_wfFrom_mono [DecidableEq α] (d : α) (t : Tbl α) {lo lo' : Option Nat} (h : Tbl.wfFrom d lo t = true)
    (hl : ∀ l, lo' = some l → ∃ m, lo = some m ∧ l ≤ m) : Tbl.wfFrom d lo' t = true := by
  cases t with
  | nil => rfl
  | cons e r =>
    obtain ⟨k, v⟩ := e
    simp only [Tbl.wfFrom, Bool.and_eq_true] at h ⊢
    refine ⟨⟨?_, h.1.2⟩, h.2⟩
    cases lo' with
    | none => rfl
    | some l =>
      obtain ⟨m, rfl, hm⟩ := hl l rfl
      have := h.1.1
      simp only [decide_eq_true_eq] at this ⊢
      omega

theorem Tbl_insert_wfFrom [DecidableEq α] (d : α) (t : Tbl α) (lo : Option Nat) (k : Nat) (v : α) (hv : v ≠ d)
    (h : Tbl.wfFrom d lo t = true) (hk : ∀ l, lo = some l → l < k) : Tbl.wfFrom d lo (Tbl.insert t k v) = true := by
  induction t generalizing lo with
  | nil =>
    cases lo with
    | none => simp [Tbl.insert, Tbl.wfFrom, hv]
    | some l => simp [Tbl.insert, Tbl.wfFrom, hv, hk l rfl]
  | cons e r ih =>
    obtain ⟨k', v'⟩ := e
    simp only [Tbl.wfFrom, Bool.and_eq_true, decide_eq_true_eq] at h
    unfold Tbl.insert
    split
    · next hlt =>
      simp only [Tbl.wfFrom, Bool.and_eq_true, decide_eq_true_eq]
      refine ⟨⟨?_, hv⟩, ⟨hlt, h.1.2⟩, h.2⟩
      cases lo with
      | none => rfl
      | some l => simpa using hk l rfl
    · next hge =>
      split
      · next heq =>
        subst heq
        simp only [Tbl.wfFrom, Bool.and_eq_true, decide_eq_true_eq]
        exact ⟨⟨h.1.1, hv⟩, h.2⟩
      · next hne =>
        simp only [Tbl.wfFrom, Bool.and_eq_true, decide_eq_true_eq]
        refine ⟨h.1, ih (some k') h.2 ?_⟩
        intro l hl; cases hl; omega

theorem Tbl_filter_wfFrom [DecidableEq α] (d : α) (f : Nat × α → Bool) (t : Tbl α) (lo : Option Nat)
    (h : Tbl.wfFrom d lo t = true) : Tbl.wfFrom d lo (t.filter f) = true := by
  induction t generalizing lo with
  | nil => rfl
  | cons e r ih =>
    obtain ⟨k', v'⟩ := e
    simp only [Tbl.wfFrom, Bool.and_eq_true, decide_eq_true_eq] at h
    rw [List.filter_cons]
    split
    · simp only [Tbl.wfFrom, Bool.and_eq_true, decide_eq_true_eq]
      exact ⟨h.1, ih _ h.2⟩
    · refine ih lo (Tbl_wfFrom_mono d r h.2 ?_)
      intro l hl
      subst hl
      have := h.1.1
      simp only [decide_eq_true_eq] at this
      exact ⟨k', rfl, by omega⟩

/-- A write keeps the canonical form. -/
theorem Tbl_set_wf [DecidableEq α] (d : α) (t : Tbl α) (k : Nat) (v : α) (h : Tbl.wf d t = true) :
    Tbl.wf d (Tbl.set d t k v) = true := by
  unfold Tbl.set
  split
  · exact Tbl_filter_wfFrom d _ t none h
  · next hv => exact Tbl_insert_wfFrom d t none k v hv h (by intro l hl; cases hl)

@[simp] theorem Tbl_wf_nil [DecidableEq α] (d : α) : Tbl.wf d ([] : Tbl α) = true := rfl

/-! ## Service memory -/

@[simp] theorem Memory_wf_nil : Memory.wf [] = true := rfl

theorem Memory_write_wf (m : Memory) (a : Nat) (b : Byte) (h : m.wf = true) : (m.write a b).wf = true :=
  Tbl_set_wf 0 m a b h

theorem Memory_writeBytes_wf (bs : List Byte) : ∀ (m : Memory) (a : Nat), m.wf = true → (m.writeBytes a bs).wf = true := by
  induction bs with
  | nil => intro m a h; exact h
  | cons b r ih => intro m a h; exact ih _ _ (Memory_write_wf m a b h)

theorem Memory_read_write_self (m : Memory) (a : Nat) (b : Byte) : (m.write a b).read a = b :=
  Tbl_get_set_self 0 m a b

/-- Leaving entries out keeps the canonical form. -/
theorem Memory_filter_wf (m : Memory) (f : Nat × Byte → Bool) (h : m.wf = true) : Memory.wf (m.filter f) = true :=
  Tbl_filter_wfFrom 0 f m none h

theorem Memory_read_write_ne (m : Memory) {a c : Nat} (b : Byte) (h : c ≠ a) : (m.write a b).read c = m.read c :=
  Tbl_get_set_ne 0 m b h

/-- Bytes outside those written read as before. -/
theorem Memory_read_writeBytes_out (bs : List Byte) : ∀ (m : Memory) (a c : Nat), (c < a ∨ a + bs.length ≤ c) →
    (m.writeBytes a bs).read c = m.read c := by
  induction bs with
  | nil => intro m a c _; rfl
  | cons b r ih =>
    intro m a c h
    simp only [List.length_cons] at h
    rw [Memory.writeBytes, ih _ _ _ (by omega), Memory_read_write_ne _ _ (by omega)]

end Sys2Proof.Laws
end

