-- ==== Sys2Proof/Laws/Tally.lean ====
section
/-! SUPPORT. What the issue of a Tally instruction does, once for all instructions, and that coded words decode to
what they code. -/

namespace Sys2Proof.Laws

open Sys2Proof Sys2Proof.Machine

/-! ## The code -/

theorem multA_pos (p : Pass) : 0 < multA p := by cases p <;> decide

theorem multA_le (p : Pass) : multA p ≤ 32757175 := by cases p <;> decide

theorem stamp_nonneg (cn : U32) : 0 ≤ stamp cn := by unfold stamp; omega

theorem stamp_lt (cn : U32) : stamp cn < 16777216 := by unfold stamp; omega

theorem dOf_bounds (key : Nat) (cn : U32) : 0 ≤ dOf key cn ∧ dOf key cn < 16777216 := by
  unfold dOf
  split
  · split
    · exact ⟨stamp_nonneg cn, stamp_lt cn⟩
    · omega
  · omega

theorem inS32_iff (x : Int) : inS32 x = true ↔ -2147483648 ≤ x ∧ x ≤ 2147483647 := by
  simp [inS32]

/-- The coded word of a 33-bit value fits the 64-bit register. -/
theorem encodeWord_toInt (p : Pass) (x : Int) (b : U24) (d : Int) (hx : -4294967296 ≤ x ∧ x ≤ 4294967296)
    (hd : 0 ≤ d ∧ d < 16777216) : (encodeWord p x b d).toInt = multA p * x + b.toNat + d := by
  have hb : b.toNat < 16777216 := b.isLt
  unfold encodeWord codeInt
  rw [BitVec.toInt_ofInt]
  apply Int.bmod_eq_of_le_mul_two
  · cases p <;> simp only [multA] <;> omega
  · cases p <;> simp only [multA] <;> omega

/-- The check of an exact word of a plain value in range answers that value. -/
theorem checkAll_one (p : Pass) (x : Int) (b : U24) (d : Int) (off : Nat) (hx : inS32 x = true) :
    checkAll p [⟨multA p * x + b.toNat + d, b, d, off⟩] = .ok [x] := by
  have hA := multA_pos p
  have e : multA p * x + (b.toNat : Int) + d - b.toNat - d = multA p * x := by ring
  simp [checkAll, e, Int.mul_ediv_cancel_left _ (ne_of_gt hA), hx]

/-- The check of an exact word of a plain value out of range is a RANGE fault. -/
theorem checkAll_range (p : Pass) (x : Int) (b : U24) (d : Int) (off : Nat) (hx : inS32 x = false) :
    checkAll p [⟨multA p * x + b.toNat + d, b, d, off⟩] =
      .error ⟨.range, off, BitVec.ofInt 64 (multA p * x + b.toNat + d), b, d⟩ := by
  have hA := multA_pos p
  have e : multA p * x + (b.toNat : Int) + d - b.toNat - d = multA p * x := by ring
  simp [checkAll, e, Int.mul_ediv_cancel_left _ (ne_of_gt hA), hx, Chk.fault]

/-- The word of a register that holds a plain value. -/
theorem regHolds_toInt {t : TCtx} {isP : Bool} {r : BitVec 6} {x : Int} (h : regHolds t isP r x) :
    (t.c.reg isP r).c.toInt = multA t.p * x + (t.c.reg isP r).tag.toNat + t.d := by
  have hx := (inS32_iff x).1 h.1
  rw [h.2]
  exact encodeWord_toInt _ _ _ _ (by omega) ⟨stamp_nonneg _, stamp_lt _⟩

theorem checkAll_reg {t : TCtx} {isP : Bool} {r : BitVec 6} {x : Int} (h : regHolds t isP r x) :
    checkAll t.p [regChk (t.c.reg isP r) t.d] = .ok [x] := by
  unfold regChk
  rw [regHolds_toInt h]
  exact checkAll_one _ _ _ _ _ h.1

/-- Words that each pass the check pass it together. -/
theorem checkAll_cons {p : Pass} {k : Chk} {ks : List Chk} {x : Int} {xs : List Int}
    (h1 : checkAll p [k] = .ok [x]) (h2 : checkAll p ks = .ok xs) : checkAll p (k :: ks) = .ok (x :: xs) := by
  unfold checkAll at *
  rw [List.find?_cons, List.find?_nil] at h1
  by_cases ha : (k.c - k.b.toNat - k.d) % multA p = 0
  · have ha' : decide ((k.c - k.b.toNat - k.d) % multA p ≠ 0) = false := by simpa using ha
    rw [List.find?_cons, ha']
    simp only [ha'] at h1 ⊢
    rw [List.find?_cons, List.find?_nil] at h1
    by_cases hb : inS32 ((k.c - k.b.toNat - k.d) / multA p) = true
    · simp only [hb, Bool.not_true] at h1
      rw [List.find?_cons]
      simp only [hb, Bool.not_true]
      revert h2
      split
      · intro h2; cases h2
      · split
        · intro h2; cases h2
        · next heq =>
          intro h2
          cases h2
          rw [heq]
          simpa using h1
    · simp [hb] at h1
  · simp [ha] at h1

theorem wordHolds_chk {t : TCtx} {off key : Nat} {x : Int} (h : wordHolds t off key x) :
    checkAll t.p [memChk t key off] = .ok [x] := by
  have hx := (inS32_iff x).1 h.2.1
  have hr : t.L.wordAt t.p key t.core.idx (t.c.clk + off) = _ := h.2.2
  unfold memChk Lane.chkAt
  rw [hr, encodeWord_toInt _ _ _ _ (by omega) (dOf_bounds _ _)]
  exact checkAll_one _ _ _ _ _ h.2.1

/-! ## Issue -/

/-- Where what runs before the instruction meets no fault, the instruction sees `tctx`. -/
theorem context_tctx {s : State} {ln : LaneId} {core : CoreId} {p : Pass}
    (h : ((s.lane ln).context (s.pilotOf ln) core p).isOk = true) :
    (s.lane ln).context (s.pilotOf ln) core p = .ok (tctx s ln core p) := by
  unfold tctx
  cases hc : (s.lane ln).context (s.pilotOf ln) core p with
  | error e => rw [hc] at h; cases h
  | ok t => rfl

/-- What the issue of an instruction answers where its core issues: the retired state, or the lane's coded fault. -/
theorem issue_eq {s : State} {ln : LaneId} {core : CoreId} {p : Pass} (n : Nat) (body : TCtx → TRes)
    (h : issuing s ln core p) :
    fin (issue ln core n body s) =
      match body (tctx s ln core p) with
      | .ok r => .next (retired s ln core (tctx s ln core p).c.pc n r.1 r.2)
      | .error e => .next (s.codedFault ln core.idx p (tctx s ln core p).c.pc (tctx s ln core p).c.clk e).settle := by
  obtain ⟨h1, h2, h3⟩ := h
  unfold issue fin
  simp only [h1, h2, h3]
  cases body (tctx s ln core p) <;> rfl

/-- An instruction that meets no fault retires. -/
theorem issue_ok {s : State} {ln : LaneId} {core : CoreId} {p : Pass} {n : Nat} {body : TCtx → TRes} {L : Lane} {c : Core}
    (h : issuing s ln core p) (hb : body (tctx s ln core p) = .ok (L, c)) :
    fin (issue ln core n body s) = .next (retired s ln core (tctx s ln core p).c.pc n L c) := by
  rw [issue_eq n body h, hb]

/-- An instruction that meets a fault takes its lane out. -/
theorem issue_error {s : State} {ln : LaneId} {core : CoreId} {p : Pass} {n : Nat} {body : TCtx → TRes} {e : TFault}
    (h : issuing s ln core p) (hb : body (tctx s ln core p) = .error e) :
    fin (issue ln core n body s) =
      .next (s.codedFault ln core.idx p (tctx s ln core p).c.pc (tctx s ln core p).c.clk e).settle := by
  rw [issue_eq n body h, hb]

/-- A gated core issues nothing (R58). -/
theorem issue_gated {s : State} {ln : LaneId} {core : CoreId} (n : Nat) (body : TCtx → TRes)
    (h : (s.lane ln).issues core = none) : issue ln core n body s = s := by
  simp [issue, h]

/-- Format conditions that all hold raise nothing. -/
theorem need_ok {l : List Bool} (h : ∀ b ∈ l, b = true) : need l = .ok () := by
  unfold need
  rw [if_pos (by simpa using h)]

theorem needBools_ok {ks : List (Chk × Int)} (h : ∀ k ∈ ks, isBoolean k.2) : needBools ks = .ok () := by
  unfold needBools
  rw [List.find?_eq_none.2]
  intro k hk
  have := h k hk
  simpa [isBool, isBoolean, or_iff_not_imp_left] using this

end Sys2Proof.Laws
end

