-- ==== Sys2Proof/Tests/States.lean ====
section
/-! SUPPORT. A small site, and small states of a module that runs it, for the tests. -/

namespace Sys2Proof.Tests

set_option Elab.async false

open Sys2Proof Sys2Proof.Machine

/-! ## A site -/

/-- A header of T_c 10.0 ms. -/
def hdr : ManHeader where
  magic := 0x52475833
  format := 1
  hdrLen := 512
  reservedZero := true
  site := 7
  number := 3
  base := 0
  buildTime := 0
  tc := 20
  testOnly := false
  qlKeyset := 1
  slKeyset := 1
  qlPrev := 0
  slPrev := 0
  bodyLen := 0
  iv := 0
  gcmTag := 0
  bodyHash := 0
  signerId := 1
  ephemeral := 0
  wrap := [(1, 0), (2, 0), (3, 0)]
  comboCount := 1
  combo := [⟨1, 1, 1⟩]
  signature := 9

/-- A controller of segment 0, slot 0 that sends 1 byte and receives 1. -/
def ctrlCfg : CtrlCfg := ⟨0, 0, 600, 5, 1, 1, 2, [⟨1, .unsigned, 0, 8, 0⟩], [⟨1, .unsigned, 0, 8, 0⟩]⟩

/-- A connection with one message in and one out. -/
def connCfg : ConnCfg :=
  ⟨50000, 0x0A000001, 77, [1, 2], 100, 10, [⟨0, 4096, 1, [⟨1, .unsigned, 0, 8, 0⟩]⟩],
    [⟨1, 4097, 1, [⟨1, .unsigned, 0, 8, 0⟩]⟩], some (1000000, 0)⟩

/-- The same connection without timed launch. -/
def connCfg2 : ConnCfg := { connCfg with launch := none }

/-- Local I/O: channel 0 an input with 2 equal samples, channel 1 an output. -/
def ioCfg : LocalIoCfg :=
  ⟨[(0, .input), (1, .output)], [(0, 20)], [], ⟨.group, .group, .group⟩, [], [], [], 20, 20⟩

/-- Words of the image: L 0-3 of core 0, E 0-15 of core 0 (a signal), T 0-7 (route 0), I frame 5, O frame 5 of core 0, timer 0
and detector 0 of core 0. -/
def imgWords : Tbl WordCfg :=
  [(flatKey .l 0, ⟨3, 0, 40, .signed, some 1⟩), (flatKey .l 1, ⟨5, 0, 2614, .bool, none⟩),
   (flatKey .l 2, ⟨7, 1, 0, .signed, none⟩),
   (flatKey .e 0, ⟨11, 0, 0, .signed, none⟩), (flatKey .e 1, ⟨12, 0, 2614, .bool, none⟩),
   (keyRoute 0 0, ⟨21, 4, 0, .signed, none⟩),
   (keyI 5 0, ⟨31, 5, 0, .signed, none⟩), (keyI 5 1, ⟨32, 5, 0, .unsigned, none⟩),
   (keyO 5 0, ⟨42, 5, 0, .signed, none⟩), (keyO 5 1, ⟨41, 0, 0, .unsigned, none⟩), (flatKey .k 0, ⟨61, 4, 0, .signed, none⟩),
   (keyTimer 0, ⟨51, 0, 0, .signed, none⟩), (keyTimer 0 + 1, ⟨52, 0, 0, .signed, none⟩),
   (keyEdge 0, ⟨53, 0, 2614, .bool, none⟩)]

/-- Partition 0 with 64 words of code, 4 stores, 2 checkpoints and a region over L. -/
def part0 : PartHdr := ⟨0, 64, 100, 100, 4, 2, [⟨.l, 0, 1, 4⟩], true⟩

def body : ManBody where
  parts := [part0]
  routeHdr := ⟨0, true⟩
  code := []
  words := imgWords
  elems := []
  ctrls := [(5, ctrlCfg)]
  conns := [(0, connCfg), (1, connCfg2)]
  localIo := ioCfg
  wb := []
  timers := [(0, 100)]
  edges := [0]
  demand := []
  firstNew := []
  routePart := []
  slots := ⟨0, 0, 0, 0⟩
  laneKeys := ⟨[], [], []⟩
  testIntervalH := 24
  ipv4 := 0x0A000002
  gateways := ⟨0x0A0000FE, 0x0A0000FD⟩
  vlan := none
  ptpDomain := 0
  partner := false

def man : Manifest := ⟨hdr, body⟩

/-! ## A module that runs it -/

/-- A lane IN-VOTE in the cycle of CN 8. -/
def lane (n : U64) : Lane where
  views := ⟨.inVote, .inVote, .inVote⟩
  cn := 8
  cnC := 7
  everCompleted := true
  image := some man
  sigs := imageSigs imgWords
  copy1 := imageCopy .p1 8 imgWords
  copy2 := imageCopy .p2 8 imgWords
  flash := { man0 := some man, dieId := n, cfgA := some { activeMan := some 0, slot0State := 2 } }
  strobeCn := some 8

/-- OPERATIONAL, three lanes IN-VOTE, every domain on, SVC up. -/
def op : State := { State.reset with
  module := .operational
  lanes := ⟨lane 1, lane 2, lane 3⟩
  uplink := { up := true }
  power := { feedMv := (24000, 24000), pfOk := (true, true), holdUpOn := true, on := 0xFFF, pg := 0xFFF }
  log := { stopped := false } }

/-- The same with a change to one lane. -/
def withLane (ln : LaneId) (f : Lane → Lane) (s : State) : State := s.updLane ln f

/-- The same with a change to every lane. -/
def withLanes (f : Lane → Lane) (s : State) : State := s.mapLanes (fun _ L => f L)

/-- Lane 1 out of the vote, as every lane sees it. -/
def out1 (v : LaneState) (s : State) : State :=
  { withLanes (fun L => { L with views := L.views.set .l1 v }) s with lanes2of2 := true }

/-- A session of a Commissioner with the key closed, and of a Maintainer. -/
def withSession (s : State) : State :=
  { withLanes (fun L => { L with supC := { L.supC with keyClosed := true } }) s with
    access := { s.access with
      accounts := [(0, some ⟨.commissioner, 0, some 5, 0, none⟩), (1, some ⟨.maintainer, 0, some 6, 0, none⟩)]
      sessions := [(0, some ⟨0, .commissioner, 0⟩), (1, some ⟨1, .maintainer, 0⟩)] } }

/-! ## Instruction fields -/

/-- OPND from a number. -/
def fields (dst src1 src2 : BitVec 6) (opnd : Nat) : Fields := ⟨dst, src1, src2, BitVec.ofNat 38 opnd⟩

/-- Lane 1 in pass `p`: core 0 issues, V1 holds 40 and V2 holds 2 under tags 3 and 7, P1 TRUE, P2 FALSE. -/
def tallyCore (p : Pass) : Core where
  running := true
  pc := 4
  v := [(1, ⟨encodeWord p 40 3 (stamp 8), 3, true⟩), (2, ⟨encodeWord p 2 7 (stamp 8), 7, true⟩),
        (3, ⟨encodeWord p vTrue 5 (stamp 8), 5, true⟩), (4, ⟨encodeWord p 2147483647 5 (stamp 8), 5, true⟩)]
  p := [(1, ⟨encodeWord p vTrue 9 (stamp 8), 9, true⟩), (2, ⟨encodeWord p vFalse 11 (stamp 8), 11, true⟩)]
  x := [(1, ⟨2, true, true⟩)]

/-- The module with that core in lane 1. -/
def tally (p : Pass) : State :=
  withLane .l1 (fun L => { L with pass := some p, cores := { L.cores with c0 := tallyCore p } }) op

/-! ## How a witness is stated

A witness theorem takes a statement and draws its clauses at concrete states and operands that meet their
hypotheses: what it concludes is that the commands run there. -/

/-- The command answers a next state. -/
def runs (c : Instr) (s : State) : Prop := ∃ u, exec c s = .next u

theorem ran {c : Instr} {s u : State} (h : exec c s = .next u) : runs c s := ⟨u, h⟩

theorem ran' {c : Instr} {s : State} {P : State → Prop} (h : ∃ u, exec c s = .next u ∧ P u) : runs c s :=
  let ⟨u, hu⟩ := h; ⟨u, hu.1⟩

end Sys2Proof.Tests
end

