-- ==== Sys2Proof/WellFormed.lean ====
section
/-! DEFINITION. Which commands name things that exist: numbers of lanes, planes, segments, slots, controllers,
elements, routes, queues and engines inside their ranges. -/

namespace Sys2Proof

/-- Every number of the command lies inside the range the manual gives it (Table 1.8, Table 3.4, Table 8.1,
Table 16.2). -/
def Instr.wf (i : Instr) : Bool :=
  match i with
  | .feedLevelChange feed _ => decide (feed < 2)
  | .powerFailWarning => true
  | .domainPowerDown => true
  | .powerGood _ _ => true
  | .domainPowerGood _ _ => true
  | .domainPgTimeout _ => true
  | .bootComplete _ _ => true
  | .bootTimeout _ => true
  | .pllLockLoss _ => true
  | .laneSupplyLoss _ _ => true
  | .agreedTick _ _ _ => true
  | .tickMarkerRx _ _ _ => true
  | .wakeRequest _ => true
  | .wakeDeadline _ _ _ => true
  | .pAgreeStart _ => true
  | .agreementRecordRx _ _ _ _ => true
  | .agreementEchoRx _ _ _ => true
  | .inputAgreement _ => true
  | .repairPayloadRx _ _ _ _ => true
  | .agreeMinorityLimit _ => true
  | .uplinkAgeLimit _ frame => decide (frame < 4864)
  | .safeLinkAgeExpiry _ frame => decide (frame < 4864)
  | .pass1Start _ => true
  | .pass2Start _ => true
  | .passBudgetCheck _ => true
  | .pConsStart _ => true
  | .consensusRecordRx _ _ _ => true
  | .exchangeDeadline _ => true
  | .consensusDecision => true
  | .secondSkipHalt => true
  | .pConsEnd _ => true
  | .pSignStart _ => true
  | .mirrorRefresh _ => true
  | .exclusionNoticeRx _ _ => true
  | .clxLinkFailure _ _ => true
  | .laneRestart _ _ _ => true
  | .rejoinChunkRx _ _ => true
  | .rejoinFrameStateRx _ _ => true
  | .rejoinComplete _ => true
  | .rejoinFailure _ => true
  | .rotatingTestStart _ => true
  | .testStepEnd _ _ => true
  | .rotatingTestTimeout _ => true
  | .tickStrobeRx _ _ _ => true
  | .planeNoTick _ => true
  | .uplinkGuardian _ seg slot _ _ => decide (seg < 8) && decide (slot < 512)
  | .barred _ ctrl => decide (ctrl < 4096)
  | .delayUnknown _ ctrl => decide (ctrl < 4096)
  | .laneBodyRx _ _ seg slot _ _ => decide (seg < 8) && decide (slot < 512)
  | .downlinkSlotOpen _ seg slot => decide (seg < 8) && decide (slot < 512)
  | .qDynWindowStart _ win _ => decide (win < 4)
  | .dreqSend _ seg win _ => decide (seg < 8) && decide (win < 4)
  | .drespRx _ seg _ _ => decide (seg < 8)
  | .drespMissing _ seg => decide (seg < 8)
  | .lineDreqRx _ seg _ _ => decide (seg < 8)
  | .moduleSyncRx _ seg _ _ => decide (seg < 8)
  | .quaylineListenEnd _ => true
  | .ncRequestQueue _ ctrl _ => decide (ctrl < 4096)
  | .ncResponseRx _ seg _ _ => decide (seg < 8)
  | .uplinkTelegramRx _ _ => true
  | .controllerSyncRx ctrl _ port _ _ _ => decide (ctrl < 4096) && decide (port < 2)
  | .controllerCoast ctrl _ _ _ => decide (ctrl < 4096)
  | .controllerSyncLoss ctrl _ _ _ => decide (ctrl < 4096)
  | .controllerLaunch ctrl _ _ _ _ _ => decide (ctrl < 4096)
  | .controllerDownlinkRx ctrl _ port _ _ _ _ => decide (ctrl < 4096) && decide (port < 2)
  | .controllerAgeExpiry ctrl => decide (ctrl < 4096)
  | .rstClear ctrl => decide (ctrl < 4096)
  | .controllerDreqRx ctrl _ port _ _ _ => decide (ctrl < 4096) && decide (port < 2)
  | .controllerDsetRx ctrl _ port _ => decide (ctrl < 4096) && decide (port < 2)
  | .controllerDnoteRx ctrl _ port _ => decide (ctrl < 4096) && decide (port < 2)
  | .controllerBarRx ctrl _ port _ => decide (ctrl < 4096) && decide (port < 2)
  | .ident ctrl _ port _ _ _ => decide (ctrl < 4096) && decide (port < 2)
  | .counters ctrl _ port _ _ _ => decide (ctrl < 4096) && decide (port < 2)
  | .clrcnt ctrl _ port _ _ _ => decide (ctrl < 4096) && decide (port < 2)
  | .ncDesigner ctrl _ port _ _ _ _ => decide (ctrl < 4096) && decide (port < 2)
  | .farTick _ _ => true
  | .farTickStrobeRx _ _ => true
  | .farEndFeedStart _ seg => decide (seg < 8)
  | .farEndFeedStop _ seg => decide (seg < 8)
  | .relayRx _ _ seg slot _ _ _ => decide (seg < 8) && decide (slot < 512)
  | .relaySlotOpen _ seg slot _ => decide (seg < 8) && decide (slot < 512)
  | .copyRx _ port _ _ _ => decide (port < 2)
  | .sealRx _ port _ _ _ => decide (port < 2)
  | .hawserStatusRx port _ _ => decide (port < 2)
  | .copyDecision => true
  | .takeover => true
  | .rollbackHoldClear => true
  | .handover _ => true
  | .autoHandover => true
  | .cycleStartNotice _ _ => true
  | .safeLinkFrameRx port _ _ => decide (port < 4)
  | .batchClose => true
  | .safeLinkCopyCheck _ => true
  | .slCopyExpire _ => true
  | .safeLinkSend conn msg => decide (conn < 64) && decide (msg < 512)
  | .slUnsigned conn msg => decide (conn < 64) && decide (msg < 512)
  | .timedLaunch conn _ => decide (conn < 64)
  | .uplinkFrameRx port _ _ => decide (port < 4)
  | .prpSupervisionSend _ => true
  | .svcRestart _ => true
  | .svcRecovery => true
  | .ptpSyncRx _ _ _ => true
  | .ptpFollowUpRx _ _ _ => true
  | .ptpAnnounceRx _ _ _ => true
  | .announceReceiptTimeout _ _ => true
  | .pdelayReqSend port _ => decide (port < 4)
  | .pdelayReqRx port _ _ _ => decide (port < 4)
  | .pdelayRespRx port _ _ _ => decide (port < 4)
  | .transparentClockForward port _ _ _ => decide (port < 4)
  | .canFrameRx ch _ _ => decide (ch < 4)
  | .txRequestAdmit ch _ => decide (ch < 4)
  | .frameStart ch _ _ => decide (ch < 4)
  | .canFrameEnd ch _ _ => decide (ch < 4)
  | .busOffHoldoffEnd ch _ => decide (ch < 4)
  | .busOffRecovery ch _ => decide (ch < 4)
  | .busoffLimit ch _ => decide (ch < 4)
  | .tideRowStart ch _ => decide (ch < 4)
  | .exclusiveWindow ch _ => decide (ch < 4)
  | .channelModeChange ch => decide (ch < 4)
  | .comparatorSample _ _ _ => true
  | .esStuck _ ch => decide (ch < 4)
  | .esDisc _ pair => decide (pair < 2)
  | .inputTest _ ch _ _ => decide (ch < 52)
  | .esTask _ => true
  | .login account _ _ => decide (account < 32)
  | .accountUnlock account _ => decide (account < 32)
  | .logout _ => true
  | .sessionTimeout _ _ => true
  | .accountCreate _ account _ _ => decide (account < 32)
  | .accountRemove _ account => decide (account < 32)
  | .passwordChange _ account _ => decide (account < 32)
  | .readState _ => true
  | .readLogbook _ slot _ => decide (slot < 524288)
  | .readBlackbox _ slot => decide (slot < 64)
  | .logExport _ _ => true
  | .blackboxExport _ slot => decide (slot < 64)
  | .signingKeyEnrol _ _ _ => true
  | .signingKeyRemove _ _ => true
  | .manifestLoad _ _ _ => true
  | .manifestBodyWritten _ _ => true
  | .manifestVerified slot _ => decide (slot < 2)
  | .manifestStaged _ => true
  | .slotSelect _ slot _ => decide (slot < 2)
  | .activatePending _ slot pending => decide (slot < 2) && decide (pending < 3)
  | .restartWarm _ _ => true
  | .restartCold _ _ => true
  | .firmwareLoad _ _ _ => true
  | .firmwareActivate _ => true
  | .onlineChange _ => true
  | .switchDecision => true
  | .enterTest _ _ => true
  | .leaveTest _ _ => true
  | .moduleClose _ => true
  | .restrictiveForce _ elem => decide (elem < 16384)
  | .removeRestrictiveForce _ elem => decide (elem < 16384)
  | .forceValue _ _ _ => true
  | .removeForcedValue _ _ => true
  | .individualRelease _ route => decide (route < 8192)
  | .firstMessageLapse _ => true
  | .irelEntry _ => true
  | .rejoinCommand _ _ _ => true
  | .deferTest _ _ => true
  | .pilotOpen _ => true
  | .pilotBreakpointSet _ idx _ => decide (idx < 262144)
  | .pilotStep _ => true
  | .pilotRead _ _ => true
  | .pilotWrite _ _ _ => true
  | .pilotBreakpointHit _ => true
  | .pilotRerun => true
  | .pilotClose => true
  | .plannedShutdown _ _ => true
  | .bistAbort _ _ => true
  | .bistItemEnd unit item _ _ _ _ _ _ => decide (unit < 6) && decide (item < 20)
  | .bistItemOvertime unit item _ _ => decide (unit < 6) && decide (item < 20)
  | .shutdownReady => true
  | .logEvent _ => true
  | .snapRequest _ _ => true
  | .snapinEdge _ _ => true
  | .snapWindowEnd => true
  | .snapLocalLatch _ => true
  | .blackboxFrameWritten => true
  | .lockKeyWrite _ _ _ => true
  | .lockRead _ => true
  | .lockTimeout _ _ => true
  | .registerWrite _ bits _ _ => (decide (bits = 32) || decide (bits = 64))
  | .queDataRead q => decide (q < 128)
  | .quePush q _ => decide (q < 128)
  | .queFlush q _ => decide (q < 128)
  | .queEnable q _ => decide (q < 128)
  | .queWmWrite q _ _ => decide (q < 128)
  | .queCfgWrite q _ _ => decide (q < 128)
  | .queErrRead q => decide (q < 128)
  | .chkStart n _ => decide (n < 4)
  | .chkAbort n => decide (n < 4)
  | .chkValueWrite n _ => decide (n < 4)
  | .chkScanEnd n _ => decide (n < 4)
  | .snpTrigGo _ _ => true
  | .snpBankRelease _ => true
  | .pwrReqOn _ _ => true
  | .pwrReqOff _ _ => true
  | .ptpModeWrite _ _ => true
  | .ptpIncrWrite _ => true
  | .cadd _ _ _ => true
  | .csub _ _ _ => true
  | .cmulk _ _ _ => true
  | .ccmpEq _ _ _ => true
  | .ccmpNe _ _ _ => true
  | .ccmpLt _ _ _ => true
  | .ccmpLe _ _ _ => true
  | .band _ _ _ => true
  | .bor _ _ _ => true
  | .bnot _ _ _ => true
  | .bsel _ _ _ => true
  | .ldl _ _ _ => true
  | .stl _ _ _ => true
  | .lde _ _ _ => true
  | .ste _ _ _ => true
  | .ldi _ _ _ => true
  | .sto _ _ _ => true
  | .tmsStart _ _ _ => true
  | .tmsRestart _ _ _ => true
  | .tmsCancel _ _ _ => true
  | .tmx _ _ _ => true
  | .edg _ _ _ => true
  | .rrq _ _ _ => true
  | .brf _ _ _ => true
  | .loopnInit _ _ _ => true
  | .loopnClose _ _ _ => true
  | .ckpt _ _ _ => true
  | .snap _ _ _ => true
  | .endp _ _ _ => true
  | .routeSet _ => true
  | .routeCancel _ => true
  | .routeCheck _ => true
  | .irel _ => true
  | .domainPgLoss _ => true
  | .ibcFail n => (decide (n = 1) || decide (n = 2))
  | .vliofStageFail n => (decide (n = 1) || decide (n = 2))
  | .lossOfSignal _ seg _ => decide (seg < 8)
  | .hawserLost => true
  | .controllerRestart ctrl _ _ => decide (ctrl < 4096)
  | .unitselChange _ _ => true
  | .tempHigh die _ => decide (die < 6)

end Sys2Proof
end

