-- ==== Sys2Proof/Tests/Slice0.lean ====
section
/-! SUPPORT. The ill-formed commands WellFormed refuses, and the manual's worked examples at fixed values. -/

namespace Sys2Proof.Tests

set_option Elab.async false

open Sys2Proof Sys2Proof.Machine

/-! ## Ill-formed commands -/

/-- A partner's STATUS. -/
def status : HwStatus := ⟨true, .standby, 69, 8, false, true, 7, 3, false, true, false, 9, 0⟩
/-- Head of a good hawser frame of a TYPE. -/
def hd (type : Byte) : HawserHead := ⟨0x88B5, 1, type, 64, true⟩
/-- A channel without a fault, and a launch at 0. -/
def ch0 : ChanFault := ⟨false, false⟩
def launch0 : LaunchAt := ⟨0, 0, 0⟩

theorem test_wf_accepts : [Instr.feedLevelChange 1 0, .uplinkAgeLimit .l1 4863, .uplinkGuardian .a 7 511 0 [],
    .barred .b 4095, .dreqSend .a 7 3 0, .safeLinkSend 63 511, .uplinkFrameRx 3 [] 0, .exclusiveWindow 3 0,
    .esStuck .l1 3, .esDisc .l1 1, .inputTest .l3 51 true false, .login 31 [] 0, .readLogbook 0 524287 true,
    .readBlackbox 0 63, .slotSelect 0 1 0, .activatePending 0 1 2, .restrictiveForce 0 16383, .individualRelease 0 8191,
    .pilotBreakpointSet .c3 262143 1, .bistItemOvertime 5 19 0 0, .registerWrite 0 64 0 0, .queDataRead 127,
    .chkAbort 3, .vliofStageFail 2, .tempHigh 5 0, .hawserStatusRx 1 (hd 0x32) status].all Instr.wf = true := by decide

theorem test_wf_frames : [Instr.uplinkAgeLimit .l1 4864, .safeLinkAgeExpiry .l2 4864].any Instr.wf = false := by decide
theorem test_wf_slots : [Instr.uplinkGuardian .a 8 0 0 [], .uplinkGuardian .a 0 512 0 [], .laneBodyRx .a .l1 8 0 [] [],
    .laneBodyRx .a .l1 0 512 [] [], .downlinkSlotOpen .a 8 0, .downlinkSlotOpen .a 0 512, .relayRx .a true 8 0 (hd 0x33) [] 0,
    .relayRx .a true 0 512 (hd 0x33) [] 0, .relaySlotOpen .a 8 0 0, .relaySlotOpen .a 0 512 0].any Instr.wf = false := by decide
theorem test_wf_segments : [Instr.drespMissing .a 8, .dreqSend .a 8 0 0, .lineDreqRx .a 8 [] 0, .drespRx .a 8 [] 0,
    .moduleSyncRx .a 8 [] 0, .farEndFeedStart .a 8, .farEndFeedStop .a 8, .lossOfSignal .a 8 true,
    .ncResponseRx .a 8 [] 0].any Instr.wf = false := by decide
theorem test_wf_windows : [Instr.qDynWindowStart .a 4 0, .dreqSend .a 0 4 0].any Instr.wf = false := by decide
theorem test_wf_controllers : [Instr.barred .a 4096, .delayUnknown .a 4096, .ncRequestQueue .a 4096 [],
    .controllerSyncRx 4096 .a 0 [] 0 0, .controllerCoast 4096 .a 0 0, .controllerSyncLoss 4096 .a 0 0,
    .controllerLaunch 4096 .a launch0 launch0 [] false, .controllerDownlinkRx 4096 .a 0 [] 0 ch0 ch0,
    .controllerAgeExpiry 4096, .rstClear 4096, .controllerDreqRx 4096 .a 0 [] 0 0, .controllerDsetRx 4096 .a 0 [],
    .controllerDnoteRx 4096 .a 0 [], .controllerBarRx 4096 .a 0 [], .ident 4096 .a 0 [] 0 0, .counters 4096 .a 0 [] 0 0,
    .clrcnt 4096 .a 0 [] 0 0, .ncDesigner 4096 .a 0 [] [] 0 0, .controllerRestart 4096 none none].any Instr.wf = false := by
  decide
theorem test_wf_ports : [Instr.controllerSyncRx 0 .a 2 [] 0 0, .controllerDownlinkRx 0 .a 2 [] 0 ch0 ch0,
    .controllerDreqRx 0 .a 2 [] 0 0, .controllerDsetRx 0 .a 2 [], .controllerDnoteRx 0 .a 2 [], .controllerBarRx 0 .a 2 [],
    .ident 0 .a 2 [] 0 0, .counters 0 .a 2 [] 0 0, .clrcnt 0 .a 2 [] 0 0, .ncDesigner 0 .a 2 [] [] 0 0,
    .copyRx .l1 2 0 (hd 0x30) (.update 0 0), .sealRx .l1 2 (hd 0x31) ⟨.l2, 0, 0, 0, 0, 0, false, 0⟩ 0,
    .hawserStatusRx 2 (hd 0x32) status, .safeLinkFrameRx 4 [] 0, .uplinkFrameRx 4 [] 0, .pdelayReqSend 4 0, .pdelayReqRx 4 0 0 0,
    .pdelayRespRx 4 0 0 0, .transparentClockForward 4 0 0 0].any Instr.wf = false := by decide
theorem test_wf_messages : [Instr.safeLinkSend 64 0, .safeLinkSend 0 512, .slUnsigned 64 0, .slUnsigned 0 512,
    .timedLaunch 64 0].any Instr.wf = false := by decide
theorem test_wf_channels : [Instr.canFrameRx 4 (.error 0 0) 0, .txRequestAdmit 4 0, .frameStart 4 0 0, .canFrameEnd 4 .ok 0,
    .busOffHoldoffEnd 4 0, .busOffRecovery 4 0, .busoffLimit 4 0, .tideRowStart 4 0, .exclusiveWindow 4 0,
    .channelModeChange 4, .esStuck .l1 4, .esDisc .l1 2, .inputTest .l1 52 true false].any Instr.wf = false := by decide
theorem test_wf_accounts : [Instr.login 32 [] 0, .accountUnlock 32 0, .accountCreate 0 32 .maintainer [], .accountRemove 0 32,
    .passwordChange 0 32 []].any Instr.wf = false := by decide
theorem test_wf_stores : [Instr.readLogbook 0 524288 true, .readBlackbox 0 64, .blackboxExport 0 64].any Instr.wf = false := by
  decide
theorem test_wf_manifest : [Instr.manifestVerified 2 ⟨true, true, true⟩, .slotSelect 0 2 0, .activatePending 0 2 1,
    .activatePending 0 0 3].any Instr.wf = false := by decide
theorem test_wf_elements : [Instr.restrictiveForce 0 16384, .removeRestrictiveForce 0 16384,
    .individualRelease 0 8192, .pilotBreakpointSet .c0 262144 1].any Instr.wf = false := by decide
theorem test_wf_selftest : [Instr.bistItemEnd 6 0 0 0 true 0 [] [], .bistItemEnd 0 20 0 0 true 0 [] [], .bistItemOvertime 6 0 0 0,
    .bistItemOvertime 0 20 0 0].any Instr.wf = false := by decide
theorem test_wf_registers : [Instr.registerWrite 0 16 0 0, .queDataRead 128, .quePush 128 0, .queFlush 128 0,
    .queEnable 128 true, .queWmWrite 128 0 0, .queCfgWrite 128 0 0, .queErrRead 128, .chkStart 4 true, .chkAbort 4,
    .chkValueWrite 4 0, .chkScanEnd 4 none].any Instr.wf = false := by decide
theorem test_wf_power : [Instr.feedLevelChange 2 0, .ibcFail 0, .ibcFail 3, .vliofStageFail 0, .vliofStageFail 3,
    .tempHigh 6 0].any Instr.wf = false := by decide

/-! ## Chapter 0: the wraparound compare (the example of R11) -/

theorem test_compare_wrap : later (0x00000003 : U32) 0xFFFFFFFE = true ∧ sdiff (0x00000003 : U32) 0xFFFFFFFE = 5 := by
  decide
theorem test_compare_half : later (0x80000000 : U32) 0 = false ∧ sdiff (0x80000000 : U32) 0 = -2147483648 := by decide

/-! ## Chapter 3: coded values (the examples at CN 1 000) -/

theorem test_stamp : stamp 1000 = 12155256 ∧ stamp 999 = 4861789 ∧ stamp 0 = 0 := by decide
theorem test_encode : encodeWord .p1 1500 0x123456 (stamp 1000) = 49149110802 ∧
    encodeWord .p2 1500 0x123456 (stamp 1000) = 45027611802 := by decide
theorem test_cadd_word : encodeWord .p1 (1500 + -250) 0x3C5A01 (stamp 1000) = 40962579207 := by decide
/-- Table 3.3: a wrong sum, the other pass's word, and the word of the cycle before. -/
theorem test_check_fails : checkWord .p1 40963627783 0x3C5A01 (stamp 1000) = .error .code ∧
    checkWord .p1 45027611802 0x123456 (stamp 1000) = .error .code ∧
    checkWord .p1 49141817335 0x123456 (stamp 1000) = .error .code ∧
    checkWord .p1 49149110802 0x123456 (stamp 1000) = .ok 1500 := by decide
/-- A debugger's write of 2 into word 114, and its replay in pass 2. -/
theorem test_timer_state_word : encodeWord .p1 2 0x4E1D02 0 = 70633584 ∧ encodeWord .p2 2 0x4E1D02 0 = 65138252 := by decide
/-- Table 5.15 and the pool word of P21. -/
theorem test_pool_word : encodeWord .p1 17825992 0x601004 0 = 583929145788156 ∧
    encodeWord .p2 17825992 0x601004 0 = 534949273653484 := by decide
/-- The unwritten register fails its check (R77). -/
theorem test_unwritten_register : checkWord .p1 ({} : VReg).c 0 (stamp 8) = .error .range ∨
    checkWord .p1 ({} : VReg).c 0 (stamp 8) = .error .code := by decide

/-! ## Chapter 4: the worked sequences -/

/-- A core that can issue at an index, with registers, on words of its own. -/
def core0 (p : Pass) (pc : Nat) (cn : U32) (v : Tbl VReg) (ws : Tbl WordCfg) : State :=
  withLane .l1 (fun L => { L with
    cn := cn, pass := some p, sigs := imageSigs ws, copy1 := imageCopy .p1 cn ws, copy2 := imageCopy .p2 cn ws
    image := some { man with body := { body with parts := [{ part0 with codeLen := 262144 }], words := ws } }
    cores := { L.cores with c0 := { running := true, pc := pc, v := v } } }) op

/-- The state a command answers, or the state it started from. -/
def after (c : Instr) (s : State) : State :=
  match exec c s with
  | .next u => u
  | _ => s

/-- What a command leaves satisfies what is said of its next state. -/
theorem leaves {c : Instr} {s : State} {P : State → Prop} (h : ∃ u, exec c s = .next u ∧ P u) : P (after c s) :=
  let ⟨u, e, p⟩ := h; by unfold after; rw [e]; exact p

def l1c0 (s : State) : Core := s.lanes.l1.cores.c0

/-- CADD V6, V4, V5 with B_d 0x3C5A01 gives 40 962 579 207 under that tag, in 1 clk_t. -/
theorem test_cadd :
    let s := core0 .p1 4 1000 [(4, ⟨49149110802, 0x123456, true⟩), (5, ⟨BitVec.ofInt 64 (-8176480306), 0x0A0B0C, true⟩)] []
    let u := after (.cadd .l1 .c0 (fields 6 4 5 0x3C5A01)) s
    Tbl.get {} (l1c0 u).v 6 = ⟨40962579207, 0x3C5A01, true⟩ ∧ (l1c0 u).clk = 1 ∧ (l1c0 u).pc = 5 := by decide +kernel

/-- Table 3.3, first row: the same add on a damaged register takes Lane 1 out of the vote with cause CODE. -/
theorem test_cadd_code_fault :
    let s := core0 .p1 4 1000 [(4, ⟨40963627783, 0x3C5A01, true⟩), (5, ⟨BitVec.ofInt 64 (-8176480306), 0x0A0B0C, true⟩)] []
    let u := after (.cadd .l1 .c0 (fields 6 4 5 0x3C5A01)) s
    u.laneState .l1 = .outFault ∧ u.lanes.l1.cause = .coded .code ∧ u.lanes2of2 = true := by decide +kernel

/-- LDI of a TRUE field in the dated I space (Table 4.13). -/
theorem test_ldi : encodeWord .p1 vTrue 0x217F40 (stamp 1000) = 451047893095 ∧
    encodeWord .p1 vTrue 0x218001 (stamp 1000) = 451047893288 ∧ encodeWord .p1 vTrue 0x218001 0 = 451035738032 := by decide

/-- STO V7 to O word 39 493 with BF = 1 stores 451 035 738 032 and takes 3 clk_t. -/
theorem test_sto :
    let s := core0 .p1 1003 1000 [(7, ⟨451047893288, 0x218001, true⟩)] [(keyO 1234 5, ⟨0x218001, 0, 2614, .bool, none⟩)]
    let u := after (.sto .l1 .c0 (fields 0 7 0 (2 ^ 35 + 39493))) s
    u.lanes.l1.word .p1 (keyO 1234 5) = 451035738032 ∧ (l1c0 u).clk = 3 := by decide +kernel

/-- The words of timer 57. -/
def timer57 (st ex : Int) : Tbl WordCfg :=
  [(keyTimer 57, ⟨0x4E1D02, 0, st, .signed, none⟩), (keyTimer 57 + 1, ⟨0x4E1D03, 0, ex, .signed, none⟩)]

/-- TMS START at CN 0xFFFF_F000 with 12 000 cycles: expiry 7 904. -/
theorem test_tms_start :
    let cn : U32 := 0xFFFFF000
    let s := core0 .p1 3101 cn [(20, ⟨encodeWord .p1 12000 9 (stamp cn), 9, true⟩)] (timer57 0 0)
    let u := after (.tmsStart .l1 .c0 (fields 0 20 0 114)) s
    u.lanes.l1.word .p1 (keyTimer 57 + 1) = 258917830435 ∧ u.lanes.l1.plainIn .p1 (keyTimer 57) = 1 := by decide +kernel

/-- Table 4.15: the state a TMX leaves. -/
def tmxState (cn : U32) : Int :=
  (after (.tmx .l1 .c0 (fields 21 0 0 114)) (core0 .p1 3102 cn [] (timer57 1 7904))).lanes.l1.plainIn .p1 (keyTimer 57)
theorem test_tmx_wrap : tmxState 4294963200 = 1 ∧ tmxState 4294967295 = 1 ∧ tmxState 0 = 1 := by decide +kernel
theorem test_tmx_expiry : tmxState 7903 = 1 ∧ tmxState 7904 = 2 := by decide +kernel

/-- Table 4.16: what EDG with MODE RISE answers and stores. -/
def edge (cn : U32) (inp old : Int) : Int × Int :=
  let s := core0 .p1 9 cn [(3, ⟨encodeWord .p1 inp 9 (stamp cn), 9, true⟩)] [(keyEdge 310, ⟨5, 0, old, .bool, none⟩)]
  let L := (after (.edg .l1 .c0 (fields 5 3 0 (32768 + 310))) s).lanes.l1
  (match checkWord .p1 (Tbl.get {} L.cores.c0.v 5).c 5 (stamp cn) with
    | .ok x => x
    | .error _ => 0, L.plainIn .p1 (keyEdge 310))
theorem test_edg_rise : edge 500 vFalse vFalse = (vFalse, vFalse) ∧ edge 501 vTrue vFalse = (vTrue, vTrue) ∧
    edge 502 vTrue vTrue = (vFalse, vTrue) := by decide +kernel
theorem test_edg_lost_frame : edge 503 vFalse vTrue = (vFalse, vFalse) ∧ edge 504 vTrue vFalse = (vTrue, vTrue) := by
  decide +kernel

/-! ## Chapters 5 and 6: the layout of Tables 5.13-5.15 and route 12 -/

/-- Words 0-15 of an element: common words proven and in date, then its own. -/
def elemWords (type id : Nat) (own : List (Nat × Int)) : Tbl WordCfg :=
  let common : List (Nat × Int) := [(0, (type * 16384 + id : Nat)), (4, vTrue), (5, vTrue), (6, vTrue)]
  (common ++ own).map (fun e => (keyE id e.1, ⟨BitVec.ofNat 24 (keyE id e.1 % 16000000 + 1), 4, e.2, .signed, none⟩))

def secWords (id : Nat) (clear rl ovl rel : Int) : Tbl WordCfg := elemWords 1 id [(8, clear), (11, rl), (12, ovl), (13, rel)]
def ptWords (id : Nat) (dem det rl fc fp : Int) : Tbl WordCfg :=
  elemWords 2 id [(8, dem), (9, det), (11, rl), (12, fc), (13, fp), (15, -1)]
def sigWords (id : Nat) (permit route : Int) : Tbl WordCfg := elemWords 3 id [(9, permit), (10, route), (11, 0), (12, 0)]
def lxWords (id : Nat) (prot dem : Int) : Tbl WordCfg := elemWords 4 id [(8, prot), (9, dem)]
def tWords (es : List (Nat × Int)) : Tbl WordCfg :=
  es.map (fun e => (e.1, ⟨BitVec.ofNat 24 (e.1 % 16000000 + 1), 4, e.2, .signed, none⟩))

/-- What the elements hold, and the words of the two routes. -/
structure Site where
  t100 : Int := vTrue
  t101 : Int × Int × Int := (vTrue, -1, 0)
  t102 : Int × Int × Int := (vTrue, -1, 0)
  t104 : Int × Int := (vTrue, -1)
  p21 : Int × Int × Int := (0, 1, -1)
  p22 : Int × Int × Int := (1, 0, 0)
  s1 : Int × Int := (vFalse, -1)
  lx : Int × Int := (vFalse, 0)
  state : Int := 0
  out : Int := 0
  progress : Int := 0
  time : Int := 0

def Site.words (w : Site) : Tbl WordCfg :=
  secWords 100 w.t100 (-1) (-1) 0 ++ secWords 101 w.t101.1 w.t101.2.1 (-1) w.t101.2.2 ++
  secWords 102 w.t102.1 w.t102.2.1 (-1) w.t102.2.2 ++ secWords 104 w.t104.1 (-1) w.t104.2 0 ++
  ptWords 200 w.p21.1 w.p21.2.1 w.p21.2.2 0 0 ++ ptWords 201 0 w.p22.1 (-1) w.p22.2.1 w.p22.2.2 ++
  sigWords 300 w.s1.1 w.s1.2 ++ sigWords 303 vFalse (-1) ++ sigWords 305 vFalse (-1) ++ lxWords 400 w.lx.1 w.lx.2 ++
  tWords ([(keyRoute 12 0, w.state), (keyRoute 12 1, 300), (keyRoute 12 2, 303), (keyRoute 12 3, 4096),
    (keyRoute 12 4, 10), (keyRoute 12 5, w.out), (keyRoute 12 6, w.progress), (keyRoute 12 7, w.time)] ++
    (List.range 8).map (fun k => (keyRoute 40 k, (0 : Int))) ++
    [92286688, 100669296, 58720296, 17825992, 8388709, 8388710, 26214601, 41943144, 67109264, 75497572].zipIdx.map
      (fun (e : Int × Nat) => (keyPool (4096 + e.2), e.1)))

/-- Lane 1 in pass 1 of a cycle with one request for route 12 in the engine's queue. -/
def route12 (cn : U32) (w : Site) (kind : Nat) : State :=
  withLane .l1 (fun L => { L with
    cn := cn, pass := some .p1, sigs := imageSigs w.words, copy1 := imageCopy .p1 cn w.words
    copy2 := imageCopy .p2 cn w.words
    route := { L.route with queue := [⟨1, 100, 12, kind, 10002⟩], gated := false } }) op

/-- A word after a request for route 12. -/
def r12 (c : Instr) (kind : Nat) (cn : U32) (w : Site) : Lane := (after c (route12 cn w kind)).lanes.l1
def rdT (L : Lane) (w : Nat) : Int := L.plainIn .p1 (keyRoute 12 w)
def rdE (L : Lane) (id w : Nat) : Int := L.plainIn .p1 (keyE id w)

/-- The route after its reservation. -/
def checked : Site := { state := 2, out := 32513, p21 := (1, 1, 12), t101 := (vTrue, 12, 1), t102 := (vTrue, 12, 1), p22 := (1, 1, 1), t104 := (vTrue, 12), lx := (vFalse, 1), s1 := (vFalse, 12) }

/-- CN 1 200 (Table 6.10): the reservation. -/
theorem test_route_reserved :
    let L := r12 (.routeSet .l1) 0 1200 {}
    rdT L 0 = 2 ∧ rdT L 5 = 32513 ∧ rdE L 200 8 = 1 ∧ rdE L 200 11 = 12 ∧ rdE L 101 11 = 12 ∧ rdE L 101 13 = 1 ∧
    rdE L 102 13 = 1 ∧ rdE L 201 12 = 1 ∧ rdE L 201 13 = 1 ∧ rdE L 104 12 = 12 ∧ rdE L 400 9 = 1 ∧ rdE L 300 10 = 12 := by
  decide +kernel
/-- It takes 13 journal entries and 24 + 40 clk_t. -/
theorem test_route_reserved_cost :
    let L := r12 (.routeSet .l1) 0 1200 {}
    L.journal.length = 13 ∧ L.route.busyUntil = 10065 ∧ L.copy2 = (route12 1200 {} 0).lanes.l1.copy2 := by decide +kernel
theorem test_route_locked : let L := r12 (.routeSet .l1) 0 1201 checked; rdT L 0 = 3 ∧ rdT L 5 = 32514 := by decide +kernel
/-- CN 1 202: the crossing at offset 8 is not yet protected. -/
theorem test_route_waits_crossing :
    let L := r12 (.routeSet .l1) 0 1202 { checked with state := 3, out := 32514 }
    rdT L 0 = 3 ∧ rdT L 5 = 2070 ∧ rdE L 300 9 = vFalse := by decide +kernel
theorem test_route_clears :
    let L := r12 (.routeSet .l1) 0 1650 { checked with state := 3, out := 2070, lx := (vTrue, 1) }
    rdT L 0 = 4 ∧ rdT L 5 = 32515 ∧ rdE L 300 9 = vTrue := by decide +kernel
/-- CN 2 900: train entry. -/
theorem test_route_train_entry :
    let L := r12 (.routeSet .l1) 0 2900 { checked with state := 4, out := 32516, lx := (vTrue, 1), s1 := (vTrue, 12), t100 := vFalse, t101 := (vFalse, 12, 1) }
    rdT L 0 = 6 ∧ rdT L 5 = 32518 ∧ rdE L 300 9 = vFalse ∧ rdE L 300 10 = -1 ∧ rdE L 101 13 = 2 := by decide +kernel
/-- CN 3 400: the last section is entered and the overlap time starts. -/
theorem test_route_overlap_time :
    let L := r12 (.routeCancel .l1) 1 3400 { checked with state := 6, out := 32518, lx := (vTrue, 1), s1 := (vFalse, -1), t101 := (vFalse, 12, 2), t102 := (vFalse, 12, 1) }
    rdT L 0 = 6 ∧ rdT L 5 = 32519 ∧ rdT L 7 = 9400 ∧ rdE L 102 13 = 2 := by decide +kernel
/-- CN 3 700: T101 and P21 release. -/
theorem test_route_sectional_release :
    let L := r12 (.routeCancel .l1) 1 3700 { checked with state := 6, out := 32519, lx := (vTrue, 1), s1 := (vFalse, -1), t101 := (vTrue, 12, 2), t102 := (vFalse, 12, 2), time := 9400 }
    rdE L 101 13 = 3 ∧ rdE L 101 11 = -1 ∧ rdE L 200 8 = 0 ∧ rdE L 200 11 = -1 ∧ rdT L 6 = 1 ∧ rdE L 102 11 = 12 := by
  decide +kernel
/-- CN 9 400 and CN 12 300: the overlap, then the rest. -/
theorem test_route_overlap_release :
    let L := r12 (.routeCancel .l1) 1 9400 { checked with state := 6, out := 32519, lx := (vTrue, 1), s1 := (vFalse, -1), p21 := (0, 1, -1), t101 := (vTrue, -1, 3), t102 := (vFalse, 12, 2), time := 9400, progress := 1 }
    rdE L 104 12 = -1 ∧ rdT L 0 = 6 ∧ rdE L 102 11 = 12 := by decide +kernel
theorem test_route_idle :
    let L := r12 (.routeCancel .l1) 1 12300 { checked with state := 6, out := 32519, lx := (vTrue, 1), s1 := (vFalse, -1), p21 := (0, 1, -1), t101 := (vTrue, -1, 3), t102 := (vTrue, 12, 2), t104 := (vFalse, -1), time := 9400, progress := 1 }
    rdT L 0 = 0 ∧ rdT L 5 = 32520 ∧ rdT L 6 = 0 ∧ rdE L 102 13 = 3 ∧ rdE L 102 11 = -1 ∧ rdE L 201 12 = 0 ∧
    rdE L 400 9 = 0 := by decide +kernel
/-- A cancel at CN 2 500 with T100 occupied: APPROACH-LOCKED to 14 500. -/
theorem test_route_approach_locked :
    let L := r12 (.routeCancel .l1) 1 2500 { checked with state := 4, out := 32516, lx := (vTrue, 1), s1 := (vTrue, 12), t100 := vFalse }
    rdT L 0 = 5 ∧ rdT L 5 = 32522 ∧ rdT L 7 = 14500 ∧ rdE L 300 9 = vFalse := by decide +kernel

/-! ## Chapters 8 to 10 -/

/-- Listen offsets of units A and B (Table 8.8). -/
theorem test_listen_offsets : listenOffset 70 false = 1500000 ∧ listenOffset 68 true = 1125000 := by decide
/-- Controller 1 234 launches at 601 584 ns of plane time. -/
theorem test_launch : ({} : ATime).launchAt 0 210 23416 = 601584 := by decide
/-- The same controller: the sync that comes at 24 416 ns gives plane tick 0, and the downlink of its slot comes at
8 748 416 ns. -/
theorem test_sync_offset :
    let p := (ATime.takeSync { dNear := some 23416 } 0 ⟨70, 1, 20, false, false, false, false, false⟩ true 24416)
    p.tick = some 0 ∧ ({ p with fullCycle := true }).inWindow 0 210 8749416 = true ∧
    ({ p with fullCycle := true }).inWindow 0 210 8749417 = false := by decide
/-- Examples of NIST SP 800-38B for AES-128, of FIPS 180-4, and the check value of CRC-32. -/
def nistKey : Key := 0x2B7E151628AED2A6ABF7158809CF4F3C
theorem test_cmac_empty : cmac nistKey [] = 0xBB1D6929E95937287FA37D129B756746 := by decide +kernel
theorem test_cmac_block : cmac nistKey (beBytes 16 0x6BC1BEE22E409F96E93D7E117393172A) =
    0x070A16B46B4D4144F79BDD9DD04A287C := by decide +kernel
theorem test_sha256 : beNat (sha256 [0x61, 0x62, 0x63]) =
    0xBA7816BF8F01CFEA414140DE5DAE2223B00361A396177A9CB410FF61F20015AD := by decide +kernel
theorem test_fcs : frameFcs [0x31, 0x32, 0x33, 0x34, 0x35, 0x36, 0x37, 0x38, 0x39] = [0x26, 0x39, 0xF4, 0xCB] := by
  decide +kernel
/-- Table 9.12. -/
theorem test_header_bytes :
    (TeleHdr.bytes ⟨0x10, false, 2, 0, 1234, 210, 70, 1000, 0, 3, 24, 7, 3, 0x412C05⟩).map BitVec.toNat =
      [0x01, 0x10, 0x02, 0x00, 0x04, 0xD2, 0x00, 0xD2, 0x00, 0x00, 0x00, 0x46, 0x00, 0x00, 0x03, 0xE8,
       0x03, 0x18, 0x00, 0x07, 0x00, 0x03, 0x00, 0x00, 0x00, 0x00, 0x00, 0x00, 0x00, 0x41, 0x2C, 0x05] := by decide
/-- Table 10.3: admission in cycle 60 000, and the same message delayed to 60 030. -/
theorem test_age_bound : safeTime 60000 0 20 = 6000000 ∧ ageBound (6000015 - 5999000) 412 = 604 ∧
    ageBound (6003015 - 5999000) 412 = 3604 := by decide

/-! ## Chapters 12, 15 and 16 -/

/-- Table 12.4: what the example pairs do with three frames. -/
def pairs : List U64 := [0x880000FFE0000310, 0x800000F800000300, 0xE7E000001A000000]
def canFrame (ide fdf : Bool) (id : Nat) : CanFrame := ⟨ide, id, fdf, false, false, false, 8, []⟩
def firstOf (f : CanFrame) : Option (Nat × Nat) := firstPair { filters := pairs.zipIdx.map (fun e => (e.2, e.1)) } f
theorem test_filters : firstOf (canFrame false false 0x310) = some (0, 2) ∧ firstOf (canFrame false false 0x33F) = some (1, 0) ∧
    firstOf (canFrame true true 0x1A001234) = some (2, 1) ∧ firstOf (canFrame true false 0x1A001234) = none ∧
    firstOf (canFrame false false 0x340) = none := by decide +kernel

/-- Table 15.4: repeats of JUMP_REFUSED 0.8 s and 1.1 s after LAST. -/
def jump (sec sub : Nat) : LogRec :=
  ⟨1, ⟨10, 0, 0, false, false, false, none, 0⟩, 0, ⟨.fault, .jumpRefused, .svc, [], none, none⟩, false, .operational, 7,
   sec, sub, none⟩
theorem test_repeats : isRepeat (jump 10 0) (jump 0 0).event 10 26214 = true ∧
    isRepeat (jump 10 26214) (jump 0 0).event 11 29491 = false := by decide +kernel

/-- CRC-32C of "123456789", by the definition and by a check engine with a context save (Table 16.4). -/
def digits : List Byte := [0x31, 0x32, 0x33, 0x34, 0x35, 0x36, 0x37, 0x38, 0x39]
def engine : CheckEngine := { poly := 0x1EDC6F41, init := 0xFFFFFFFF, xorout := 0xFFFFFFFF, refout := true, refin := true, width := 2, value := 0xFFFFFFFF }
theorem test_crc32c : crc32c digits = 0xE3069283 := by decide +kernel
theorem test_engine_split : ({ engine with value := { engine with value := engine.run (digits.take 4) }.run (digits.drop 4) } :
    CheckEngine).result = 0xE3069283 := by decide +kernel

/-! ## The front of the queue -/

theorem test_idle : step State.reset = .next State.reset := rfl
theorem test_front : step { State.reset with pending := [.feedLevelChange 0 24000, .powerFailWarning] } =
    exec (.feedLevelChange 0 24000) { State.reset with pending := [.powerFailWarning] } := rfl

end Sys2Proof.Tests
end

