-- ==== Sys2Proof/Tests/WitnessLanes.lean ====
section
/-! SUPPORT. For each statement about the lane's cycle, agreement, consensus, rejoin and Pilot, states and operands that
meet its hypotheses. -/

namespace Sys2Proof.Tests

set_option Elab.async false

open Sys2Proof Sys2Proof.Machine

/-! ## The cycle -/

/-- Lane 1 has agreed its inputs; it runs PASS1; it overruns; it has ended its pass. -/
def agreed1 : State := withLane .l1 (fun L => { L with phase := .pAgree, decided := true }) op
def inPass1 : State := withLane .l1 (fun L => { L with phase := .pass1, pass := some .p1 }) op
def ended1 : State := withLane .l1 (fun L => { L with phase := .pass1, pass := some .p1, cores := { L.cores with
  c0 := { L.cores.c0 with endp := true } } }) op

/-- The ticks of the other two lanes lie 0.3 µs and 0.4 µs after lane 1's; with two lanes, 0.6 µs after it. -/
def farTicks : State := withLane .l1 (fun L => { L with theta := ⟨none, some 300, some 400⟩, corrections := [0] }) op
def apart2 : State := withLane .l2 (fun L => { L with theta := ⟨none, none, some 600⟩ }) (out1 .outFault op)
def repairsLeft : State := withLane .l1 (fun L => { L with phase := .pAgree, decided := true, repairs := [(5, some 0)] }) op

theorem witness_TickMarkersAndPasses (h : Obligations.TickMarkersAndPasses) :
    runs (.agreedTick .l1 5 []) op ∧ runs (.agreedTick .l1 5 []) (out1 .rejoining op) ∧
    runs (.agreedTick .l1 5 []) farTicks ∧ runs (.agreedTick .l2 5 []) apart2 ∧
    runs (.tickMarkerRx .l1 .l2 (-7)) op ∧ runs (.wakeRequest .l1) op ∧
    runs (.wakeDeadline .l1 true false) (withLane .l1 (fun L => { L with wakeRequested := true }) op) ∧
    runs (.pass1Start .l1) agreed1 ∧ runs (.pass2Start .l1) inPass1 ∧ runs (.passBudgetCheck .l1) inPass1 ∧
    runs (.passBudgetCheck .l1) ended1 ∧ runs (.pass1Start .l1) repairsLeft :=
  have m := fun s => h.2.2.1 s .l1 .l2 (-7) .l12 true false
  have p := h.2.2.2
  ⟨ran' (h.1 op .l1 5 [] rfl rfl (.inl ⟨rfl, by decide +kernel, by decide +kernel⟩)),
   ran' (h.1 (out1 .rejoining op) .l1 5 [] rfl rfl (.inr rfl)),
   ran' ((h.2.1 farTicks .l1 5 [] rfl rfl rfl rfl).1 (by decide +kernel)),
   ran' ((h.2.1 apart2 .l2 5 [] rfl rfl rfl rfl).2 (by decide +kernel) (by decide +kernel)),
   ran ((m op).1 rfl rfl rfl rfl), ran ((m op).2.1 rfl rfl),
   ran' ((m (withLane .l1 (fun L => { L with wakeRequested := true }) op)).2.2 rfl rfl (by decide +kernel) rfl),
   ran' ((p agreed1 .l1).1 rfl rfl rfl rfl (by decide +kernel)), ran' ((p inPass1 .l1).2.1 rfl rfl rfl rfl),
   ran ((p inPass1 .l1).2.2.1 rfl rfl (by decide +kernel)),
   ran' ((p ended1 .l1).2.2.2.1 rfl rfl (by decide +kernel) rfl),
   ran' ((p repairsLeft .l1).2.2.2.2 rfl rfl rfl rfl rfl (by decide +kernel) rfl)⟩

/-! ## Agreement -/

/-- Lane 1 in P-AGREE with the records of the other two lanes held: they hold input 5 present, lane 1 does not. -/
def rec5 : AgreeRec := ⟨5, true, true, true, 9⟩
def inAgree : State := withLane .l1 (fun L => { L with
  phase := .pAgree, recsFrom := [.l1, .l2, .l3], recs := ⟨[], [(5, some rec5)], [(5, some rec5)]⟩ }) op

/-- The same with 65 controllers. -/
def man65 : Manifest := { man with body := { body with ctrls := (List.range 65).map (fun n => (n, ctrlCfg)) } }
def recs65 : Tbl (Option AgreeRec) := (List.range 65).map (fun n => (n, some ⟨n, true, true, true, 9⟩))
def inAgree65 : State := withLane .l1 (fun L => { L with
  image := some man65, phase := .pAgree, recsFrom := [.l1, .l2, .l3], recs := ⟨[], recs65, recs65⟩ }) op

/-- An uplink frame and a safe-link frame past their ages. -/
def aged : State := withLane .l1 (fun L => { L with phase := .pAgree, decided := true, sup := { L.sup with
  frames := [(160, 1202)], conns := [(0, { bounds := [(0, some (1001, 0))] })] } }) op

theorem witness_AgreementExchangeAndAges (h : Obligations.AgreementExchangeAndAges) :
    runs (.pAgreeStart .l1) op ∧ runs (.agreementRecordRx .l1 .l2 (some rec5) 1) inAgree ∧
    runs (.agreementEchoRx .l1 .l2 1) inAgree ∧ runs (.uplinkAgeLimit .l1 5) aged ∧
    runs (.safeLinkAgeExpiry .l1 4096) aged ∧ runs (.firstMessageLapse .l1) op :=
  have a := fun s => h.1 s .l1 .l2 .l3 rec5 1 1
  have b := h.2.1 aged .l1
  ⟨ran' ((a op).1 rfl rfl rfl rfl), ran ((a inAgree).2.1 rfl rfl (by decide) rfl),
   ran' ((a inAgree).2.2 rfl rfl (by decide) rfl (by decide +kernel) (by decide +kernel) (by decide +kernel) rfl),
   ran ((b 5 man (5, ctrlCfg) 0 connCfg ⟨0, 0, 0, []⟩ 0 0 rfl rfl).1 (by decide +kernel) rfl (by decide +kernel)
     (by decide +kernel)),
   ran ((b 4096 man (0, ctrlCfg) 0 connCfg ⟨0, 4096, 1, [⟨1, .unsigned, 0, 8, 0⟩]⟩ 1001 0 rfl rfl).2 (by decide +kernel)
     (by decide +kernel) (by decide +kernel)),
   ran' (h.2.2 op .l1 rfl)⟩

/-- Two repairs wait in lane 1, the first for a payload of no bytes. -/
def repairing : State := withLane .l1 (fun L => { L with
  phase := .pAgree, decided := true, recsFrom := [.l1, .l2, .l3], repairs := [(5, some 0), (6, some 1)]
  recs := ⟨[], [(5, some { rec5 with digest := 0 })], [(5, some { rec5 with digest := 0 })]⟩ }) op

/-- Nothing needs repair. -/
def allAlike : State := withLane .l1 (fun L => { L with phase := .pAgree, recsFrom := [.l1, .l2, .l3] }) op

def minority8 : State := withLane .l1 (fun L => { L with decided := true, minorityRun := 8 }) op
def minority65 : State := withLane .l1 (fun L => { L with decided := true, minority := 65 }) op

theorem witness_AgreementDecision (h : Obligations.AgreementDecision) :
    runs (.inputAgreement .l1) inAgree ∧ runs (.inputAgreement .l1) inAgree65 ∧ runs (.inputAgreement .l1) allAlike ∧
    runs (.repairPayloadRx .l1 .l2 5 []) repairing ∧ runs (.repairPayloadRx .l1 .l2 5 [1]) repairing ∧
    runs (.agreeMinorityLimit .l1) minority8 ∧ runs (.agreeMinorityLimit .l1) minority65 :=
  have i := fun s => h s .l1 .l2 5 [] 0
  ⟨ran' (((i inAgree).1 rfl rfl (by decide +kernel) rfl rfl (by decide +kernel)).1 (by decide +kernel)),
   ran' (((i inAgree65).1 rfl rfl (by decide +kernel) rfl rfl (by decide +kernel)).2 (by decide +kernel) rfl),
   ran' ((i allAlike).2.1 rfl rfl (by decide +kernel) rfl rfl (by decide +kernel) (by decide +kernel)),
   ran (((i repairing).2.2.1 rfl rfl (by decide +kernel)).1 (by decide +kernel) (by decide +kernel)),
   ran' (((h repairing .l1 .l2 5 [1] 0).2.2.1 rfl rfl (by decide +kernel)).2 (by decide +kernel) rfl rfl),
   ran' ((i minority8).2.2.2 rfl (by decide +kernel) (.inr (by decide +kernel)) rfl),
   ran' ((i minority65).2.2.2 rfl (by decide +kernel) (.inl (by decide +kernel)) rfl)⟩

/-! ## Consensus -/

/-- Lane 1 at the end of its passes, with equal and with different signatures, and after an overrun. -/
def passesDone (sig1 : U64) : State := withLane .l1 (fun L => { L with phase := .pass2, sig1 := sig1 }) op
def overran : State := withLane .l1 (fun L => { L with phase := .waitCons, ovr := true }) op

/-- Every lane in P-CONS, holding these records. -/
def cons (a b c : Option ConsRec) : State := withLanes (fun L => { L with phase := .pCons, consRecs := ⟨a, b, c⟩ }) op
def cRec (sig : U64) (ovr : Bool) : ConsRec := ⟨8, sig, 4, ovr, ⟨.inVote, .inVote, .inVote⟩⟩

theorem witness_ConsensusRecordsAndFailures (h : Obligations.ConsensusRecordsAndFailures) :
    runs (.pConsStart .l1) (passesDone 0) ∧ runs (.pConsStart .l1) (passesDone 1) ∧ runs (.pConsStart .l1) overran ∧
    runs (.consensusRecordRx .l1 .l2 (some (cRec 1 false))) (cons none none none) ∧
    runs (.exchangeDeadline .l1) (cons none none (some (cRec 1 false))) ∧ runs (.clxLinkFailure .l13 false) op ∧
    runs (.clxLinkFailure .l23 true) op ∧
    runs (.exclusionNoticeRx .l1 .l2) (withLane .l2 (fun L => { L with views := L.views.set .l2 .outFault }) op) :=
  have a := fun s => h.1 s .l1 .l2 (cRec 1 false)
  ⟨ran (((a (passesDone 0)).1 rfl rfl rfl rfl rfl).1 (by decide +kernel) (by decide +kernel)),
   ran' (((a (passesDone 1)).1 rfl rfl rfl rfl rfl).2 (by decide +kernel) rfl),
   ran ((a overran).2.1 rfl rfl rfl rfl rfl), ran ((a (cons none none none)).2.2 rfl (by decide) rfl),
   ran' ((h.2 (cons none none (some (cRec 1 false))) .l1 .l2 .l3 .l13 rfl rfl).1 (by decide +kernel) rfl (by decide) rfl
     rfl rfl rfl),
   ran' ((h.2 op .l1 .l2 .l3 .l13 rfl rfl).2.1 (by decide +kernel)),
   ran' ((h.2 op .l1 .l2 .l3 .l23 rfl rfl).2.2.1 (by decide +kernel)),
   ran ((h.2 (withLane .l2 (fun L => { L with views := L.views.set .l2 .outFault }) op) .l1 .l2 .l3 .l13 rfl rfl).2.2.2
     (by decide) (by decide +kernel) (by decide +kernel) (by decide +kernel)).1⟩

theorem cons_quiet (a b c : Option ConsRec) : quiet (cons a b c) :=
  ⟨rfl, rfl, rfl, rfl, rfl, fun ln _ hc => by cases ln <;> exact (List.not_mem_nil hc).elim⟩

theorem cons_agree (a b c : ConsRec) : recordsAgree (cons (some a) (some b) (some c)) := by
  intro ln m _ _
  cases ln <;> cases m <;> exact ⟨rfl, rfl⟩

theorem witness_EqualRecordsCommit (h : Obligations.EqualRecordsCommit) :
    runs .consensusDecision (cons (some (cRec 1 false)) (some (cRec 1 false)) (some (cRec 1 false))) :=
  ran' (h (cons (some (cRec 1 false)) (some (cRec 1 false)) (some (cRec 1 false))) 1 4 rfl (by decide +kernel)
    (cons_quiet _ _ _) (by decide +kernel) (cons_agree _ _ _)
    (fun ln r _ e => by cases ln <;> cases e <;> exact ⟨rfl, rfl, rfl⟩))

theorem witness_MinorityExcludedAndSecondSkipHalts (h : Obligations.MinorityExcludedAndSecondSkipHalts) :
    runs .consensusDecision (cons (some (cRec 1 false)) (some (cRec 2 false)) (some (cRec 1 false))) ∧
    runs .secondSkipHalt { cons (some (cRec 1 true)) (some (cRec 1 true)) (some (cRec 1 true)) with skippedCn := some 7 } :=
  ⟨ran' (h.1 (cons (some (cRec 1 false)) (some (cRec 2 false)) (some (cRec 1 false))) .l2 1 4 (cRec 2 false) rfl
    (cons_quiet _ _ _) (by decide +kernel) (cons_agree _ _ _) (by decide +kernel) rfl rfl (.inl (by decide))
    (fun ln r n e => by cases ln <;> first | exact absurd rfl n | (cases e; exact ⟨rfl, rfl, rfl⟩))),
   ran' (h.2 { cons (some (cRec 1 true)) (some (cRec 1 true)) (some (cRec 1 true)) with skippedCn := some 7 } rfl
    (cons_quiet _ _ _) (by decide +kernel) (by decide +kernel) (cons_agree _ _ _)
    (fun ln r _ e => by cases ln <;> cases e <;> rfl) (by decide +kernel))⟩

/-- Lane 1 has committed its cycle, in a single module; a word that the sweep finds bad; and a lane that signs, in the
vote and beside it. -/
def judged (m : ModState) : State := { withLane .l1 (fun L => { L with phase := .judged, cnC := 8, newVec := 1 }) op with
  module := m, pair := { variantP := false } }
def swept : State := withLane .l1 (fun L => { L with copy1 := Tbl.set 0 L.copy1 (flatKey .e 0) 1 }) (judged .operational)
def signing : State := withLane .l1 (fun L => { L with phase := .pSign }) op
def releasing : State := withLane .l1 (fun L => { L with pass := some .p1, sup := { L.sup with irels := [(0, 8)] } }) op

theorem witness_SwitchCommandsSignAndRelease (h : Obligations.SwitchCommandsSignAndRelease) :
    runs (.pConsEnd .l1) (judged .operational) ∧ runs (.pConsEnd .l1) (judged .closed) ∧ runs (.pConsEnd .l1) swept ∧
    runs (.pSignStart .l1) signing ∧ runs (.pSignStart .l1) (out1 .rejoining signing) ∧ runs (.irelEntry .l1) releasing :=
  ⟨ran' ((h.1 (judged .operational) .l1 (.p1, { cause := .code }) rfl rfl (.inl rfl)).1 (by decide +kernel)),
   ran' ((h.1 (judged .closed) .l1 (.p1, { cause := .code }) rfl rfl (.inl rfl)).1 (by decide +kernel)),
   ran' ((h.1 swept .l1 ((((swept.lane .l1).issueVector .l1 .operational).sweepBad).getD (.p1, { cause := .code })) rfl rfl
     (.inl rfl)).2 (by decide +kernel) rfl rfl),
   ran' ((h.2 signing .l1 man).1 (by decide +kernel) rfl rfl),
   ran' ((h.2 (out1 .rejoining signing) .l1 man).2.1 rfl rfl rfl),
   ran ((h.2 releasing .l1 man).2.2 rfl rfl (by decide +kernel))⟩

/-! ## Restart, rejoin and tests -/

/-- Round trips of 128 ns on every link. -/
def trips : Trips := ⟨List.replicate 64 128, List.replicate 64 128, List.replicate 64 128⟩

/-- Lane 1 excluded at instant 0; rejoining, with its transfer under way and complete. -/
def excluded : State := withLane .l1 (fun L => { L with faultAt := some 0, cause := .sigcmp }) (out1 .outFault op)
def rejoining (r : Rejoin) : State := withLane .l1 (fun L => { L with rejoin := r }) (out1 .rejoining op)

theorem same_image (s : State) (h : ∀ v, (s.lane v).image = some man) (ln : LaneId) :
    ∀ v, s.votes v = true → imageId (s.lane v).image = imageId (s.lane ln).image := fun v _ => by rw [h v, h ln]

theorem links_good (s : State) (h : s.bist.marks = []) :
    ∀ m l, linkOf .l1 m = some l → tripsOk (trips.link l) = true ∧ s.marked (.link l) = false := fun m l _ => by
  constructor
  · cases l <;> decide +kernel
  · unfold State.marked; rw [h]; rfl

theorem donors_send (r : Rejoin) : ∀ v ∈ (rejoining r).voters, ((rejoining r).lane v).sendsState = true := fun v _ => by
  cases v <;> rfl

theorem witness_RejoinOfLane (h : Obligations.RejoinOfLane) :
    runs (.laneRestart .l1 1000000000 trips) excluded ∧ runs (.rejoinCommand 1 .l1 trips) (withSession excluded) ∧
    runs (.rejoinComplete .l1) (rejoining ⟨64, none, true, 3, 3⟩) ∧
    runs (.rejoinFailure .l1) (rejoining ⟨64, none, true, 0, 16⟩) ∧
    runs (.rejoinChunkRx .l1 ((lane 3).chunkWords 0)) (rejoining ⟨0, none, false, 0, 0⟩) ∧
    runs (.rejoinChunkRx .l1 [(flatKey .l 0, 5)]) (rejoining ⟨0, none, false, 0, 0⟩) ∧
    runs (.rejoinFrameStateRx .l1 (lane 3).frameState) (rejoining ⟨64, some 8, false, 0, 0⟩) ∧
    runs (.rejoinFrameStateRx .l1 [(5, 3)]) (rejoining ⟨64, some 8, false, 0, 0⟩) :=
  have im : ∀ v, (excluded.lane v).image = some man := fun v => by cases v <;> rfl
  have c := fun r ch f => h.2 (rejoining r) .l1 ch f rfl rfl (donors_send r)
  ⟨ran' ((h.1.1 excluded .l1 0 1000000000 1 trips rfl (by decide +kernel) rfl (same_image _ im _) (links_good _ rfl)).1 rfl
     (by decide) (by decide +kernel)),
   ran' ((h.1.1 (withSession excluded) .l1 0 0 1 trips rfl (by decide +kernel) rfl
     (same_image _ (fun v => by cases v <;> rfl) _) (links_good _ rfl)).2 (by decide +kernel)),
   ran' ((h.1.2 (rejoining ⟨64, none, true, 3, 3⟩) .l1 rfl rfl).1 (by decide +kernel) rfl),
   ran' ((h.1.2 (rejoining ⟨64, none, true, 0, 16⟩) .l1 rfl rfl).2 (.inr (by decide +kernel))),
   ran (((c ⟨0, none, false, 0, 0⟩ ((lane 3).chunkWords 0) []).1 (by decide +kernel) (by decide +kernel)).1
     (by decide +kernel) (by decide +kernel)),
   ran' (((c ⟨0, none, false, 0, 0⟩ [(flatKey .l 0, 5)] []).1 (by decide +kernel) (by decide +kernel)).2
     (.inl (by decide +kernel))),
   ran (((c ⟨64, some 8, false, 0, 0⟩ [] (lane 3).frameState).2 rfl rfl rfl).1 (by decide +kernel)),
   ran' (((c ⟨64, some 8, false, 0, 0⟩ [] [(5, 3)]).2 rfl rfl rfl).2 (by decide +kernel))⟩

/-- Three lanes IN-VOTE since instant 0, at the end of a P-CONS; with lane 1 out; and lane 1 under its rotating test. -/
def testDue : State := { withLanes (fun L => { L with phase := .pSign }) op with rot := { threeSince := some 0 } }
def passedOver : State := out1 .outFault testDue
def underTest (step : Nat) : State := { out1 .outTest op with rot := { active := some .l1, step := step } }

theorem witness_RotatingTestAndClockLoss (h : Obligations.RotatingTestAndClockLoss) :
    runs (.rotatingTestStart 86400000000000) testDue ∧ runs (.rotatingTestStart 86400000000000) passedOver ∧
    runs (.testStepEnd .l1 ⟨true, [], trips⟩) (underTest 3) ∧ runs (.testStepEnd .l1 ⟨true, [], trips⟩) (underTest 7) ∧
    runs (.testStepEnd .l1 ⟨false, [], trips⟩) (underTest 3) ∧
    runs (.testStepEnd .l1 ⟨true, [⟨0, 0, 0, 0, 0, 0⟩], trips⟩) (underTest 6) ∧
    runs (.rotatingTestTimeout 120000000000) (underTest 3) ∧
    runs (.deferTest 1 86400000000000) (withSession op) ∧ runs (.pllLockLoss .l1) op :=
  have t := fun n r => (h (underTest n) .l1 120000000000 0 0 r).2.2.1 rfl rfl rfl
  have good : TestReading := ⟨true, [], trips⟩
  ⟨ran' ((h testDue .l1 86400000000000 0 0 good).1 (by decide +kernel)),
   ran' ((h passedOver .l1 86400000000000 0 0 good).2.1 (by decide +kernel) rfl (by decide +kernel)),
   ran' ((t 3 ⟨true, [], trips⟩).1 (by decide +kernel) (by decide)),
   ran' ((t 7 ⟨true, [], trips⟩).2.1 (by decide +kernel) (by decide) (by decide +kernel) rfl
     (same_image _ (fun v => by cases v <;> rfl) _) (links_good _ rfl)),
   ran' ((t 3 ⟨false, [], trips⟩).2.2.1 (by decide +kernel)),
   ran' ((t 6 ⟨true, [⟨0, 0, 0, 0, 0, 0⟩], trips⟩).2.2.1 (by decide +kernel)),
   ran' ((t 3 good).2.2.2 (by decide)),
   ran' ((h (withSession op) .l1 0 1 86400000000000 good).2.2.2.1 (by decide +kernel) (by decide +kernel)),
   ran' ((h op .l1 0 0 0 good).2.2.2.2 (by decide +kernel) rfl rfl)⟩

/-! ## Pilot -/

/-- TEST with a Commissioner's session; a Pilot session with lane 1 in pass 1. -/
def inTest (decided : Bool) : State := { withSession (withLane .l1 (fun L => { L with phase := .pAgree, decided := decided }) op)
  with module := .test }
def pilot0 : Pilot :=
  { capturedCn := 8, breakpoints := [(0, 4, 0)], cores0 := ⟨{}, {}, {}, {}⟩, route0 := {}, sup0 := {} }
def replaying : State := { out1 .outTest (withLane .l1 (fun L => { L with code := [(4, 0x12 * 2 ^ 56 + 3 * 2 ^ 50 + 2 ^ 44 + 3 * 2 ^ 36 + 13)] })
  (tally .p1)) with module := .test, pilot := some pilot0 }
def withJournal (j : List JEntry) : State := replaying.updLane .l1 (fun L => { L with journal := j })

theorem replaying_issuing : issuing replaying .l1 .c0 .p1 :=
  ⟨by decide +kernel, Laws.context_tctx (by decide +kernel), by decide +kernel⟩

/-- What the instruction at index 4, BNOT P3 := P1, leaves. -/
def stepped : Lane × Core :=
  match (opOf (Tbl.get 0 replaying.lanes.l1.code 4)).2 (tctx replaying .l1 .c0 .p1) with
  | .ok r => r
  | .error _ => (replaying.lanes.l1, {})

/-- What the generated code leaves, and a write of 7 to V1. -/
def genned : Lane × Core := (replaying.lanes.l1, replaying.lanes.l1.cores.c0)
def poked : Lane × Core :=
  match pilotApply .p1 .c0 genned.1 genned.2 (.v 1) 7 with
  | .ok r => r
  | .error _ => genned

/-- The lane whose pre-image journal is full: a memory word takes no write. -/
def filled (j : List JEntry) : Lane × Core := ((withJournal j).lanes.l1, (withJournal j).lanes.l1.cores.c0)

theorem filled_pass1 (j : List JEntry) : (withJournal j).pilotPass1 = true := rfl

theorem filled_may (j : List JEntry) : (withJournal j).lanes.l1.mayPoke (.word (flatKey .l 0)) 7 = true := rfl

theorem filled_gen (j : List JEntry) : (withJournal j).lanes.l1.genTo .p1 .c0 none = .ok (filled j) := rfl

theorem many_len (n : Nat) :
    n ≤ ((List.replicate n (⟨.p1, flatKey .l 0, 0, 0, 0⟩ : JEntry)).filter (fun e => e.pass = .p1)).length := by
  simp

theorem filled_full (j : List JEntry) (h : 65536 ≤ (j.filter (fun e => e.pass = .p1)).length) :
    pilotApply .p1 .c0 (filled j).1 (filled j).2 (.word (flatKey .l 0)) 7 =
      .error ((filled j).1.wordFault .p1 0 (flatKey .l 0) .journal) :=
  if_pos (Nat.lt_succ_of_le h)

theorem witness_PilotSessionAndDebugger (h : Obligations.PilotSessionAndDebugger) :
    runs (.pilotOpen 0) (inTest true) ∧ runs (.pilotOpen 0) (inTest false) ∧ runs .pilotClose replaying ∧
    runs (.pilotBreakpointSet .c0 4 1) replaying ∧ runs .pilotRerun replaying ∧ runs (.pilotRead .c0 (.v 1)) replaying ∧
    runs (.pilotWrite .c0 (.v 1) 7) replaying ∧ runs (.pilotBreakpointHit .c0) replaying ∧
    runs (.pilotStep .c0) replaying ∧ runs (.pilotWrite .c0 (.word (flatKey .l 0)) 7)
      (withJournal (List.replicate 65536 ⟨.p1, flatKey .l 0, 0, 0, 0⟩)) :=
  have o := fun d => (h.1 (inTest d) 0 pilot0).1 (by cases d <;> decide +kernel) (by cases d <;> decide +kernel)
  have d := h.2 replaying .c0 pilot0 4 1 (.v 1) 7 stepped.1 stepped.2 genned poked { cause := .journal } rfl
  have w := (d.2.2 (by decide +kernel)).2.1 (by decide) (by decide +kernel) (by decide +kernel)
  ⟨ran' ((o true).1 (by decide +kernel)), ran' ((o false).2 (by decide +kernel)),
   ran' ((h.1 replaying 0 pilot0).2 rfl rfl rfl (by decide +kernel) rfl (by decide +kernel) rfl rfl),
   ran (d.1 (by decide)), ran d.2.1, ran (d.2.2 (by decide +kernel)).1,
   ran (w.1 (by decide +kernel)),
   ran ((d.2.2 (by decide +kernel)).2.2.1 (by decide +kernel)),
   ran' ((d.2.2 (by decide +kernel)).2.2.2 replaying_issuing (by decide +kernel) rfl),
   let j : List JEntry := List.replicate 65536 ⟨.p1, flatKey .l 0, 0, 0, 0⟩
   ran ((((h.2 (withJournal j) .c0 pilot0 4 1 (.word (flatKey .l 0)) 7 {} {} (filled j) (filled j)
     ((filled j).1.wordFault .p1 0 (flatKey .l 0) .journal) rfl).2.2 (filled_pass1 j)).2.1 (by decide) (filled_may j)
     (filled_gen j)).2 (filled_full j (many_len 65536)))⟩

end Sys2Proof.Tests
end

