-- ==== Sys2Proof/Tests/WitnessNet.lean ====
section
/-! SUPPORT. For each statement about the vote tables, Quayline and the object controllers, states and operands that meet
its hypotheses. -/

namespace Sys2Proof.Tests

set_option Elab.async false

open Sys2Proof Sys2Proof.Machine

/-! ## The vote tables -/

theorem witness_InputDecisionTable (h : Obligations.InputDecisionTable) :
    (decideInput [(.l1, some 1), (.l2, some 1), (.l3, none)]).minority = [.l3] ∧
    (decideInput [(.l1, some 1), (.l2, none), (.l3, some 1)]).minority = [.l2] ∧
    (decideInput [(.l1, some 2), (.l2, some 1), (.l3, some 1)]).minority = [.l1] :=
  have d := fun x y z => h .l1 .l2 .l3 x y z 0 0 0 0
  ⟨(d (some 1) (some 1) none).2.2.1 rfl (by decide), (d (some 1) none (some 1)).2.2.2.1 rfl (by decide),
   (d (some 2) (some 1) (some 1)).2.2.2.2.1 rfl (by decide)⟩

def rec (sig : U64) (ovr : Bool) : ConsRec := ⟨8, sig, 4, ovr, ⟨.inVote, .inVote, .inVote⟩⟩
def three (x y z : ConsRec) : List (LaneId × ConsRec) := [(.l1, x), (.l2, y), (.l3, z)]
def two (x y : ConsRec) : List (LaneId × ConsRec) := [(.l1, x), (.l2, y)]

theorem witness_ConsensusTable (h : Obligations.ConsensusTable) :
    decideCons (three (rec 1 false) (rec 1 false) (rec 1 false)) = .commit none ∧
    decideCons (three (rec 1 false) (rec 1 false) (rec 2 false)) = .commit (some .l3) ∧
    decideCons (three (rec 1 false) (rec 2 false) (rec 1 false)) = .commit (some .l2) ∧
    decideCons (three (rec 2 false) (rec 1 false) (rec 1 false)) = .commit (some .l1) ∧
    decideCons (three (rec 1 false) (rec 2 false) (rec 3 false)) = .lost ∧
    decideCons (three (rec 1 false) (rec 1 false) (rec 1 true)) = .commit (some .l3) ∧
    decideCons (three (rec 1 false) (rec 2 false) (rec 1 true)) = .lost ∧
    decideCons (three (rec 1 false) (rec 1 true) (rec 1 true)) = .skip (some .l1) false ∧
    decideCons (three (rec 1 true) (rec 1 true) (rec 1 true)) = .skip none false ∧
    decideCons (two (rec 1 false) (rec 1 false)) = .commit none ∧ decideCons (two (rec 1 false) (rec 2 false)) = .lost ∧
    decideCons (two (rec 1 true) (rec 1 false)) = .skip none true ∧
    decideCons (two (rec 1 true) (rec 1 true)) = .skip none false :=
  have d := fun x y z => h .l1 .l2 .l3 x y z
  have f := fun a b c => (d (rec a false) (rec b false) (rec c false)).1 rfl rfl rfl
  have o := fun b => (d (rec 1 false) (rec b false) (rec 1 true)).2.1 rfl rfl rfl
  have t := fun b => (d (rec 1 false) (rec b false) (rec 1 true)).2.2.2.2.1 rfl rfl
  have same : ∀ {a b : ConsRec}, a = b → a.sig = b.sig ∧ a.out = b.out := fun e => e ▸ ⟨rfl, rfl⟩
  have ne : ∀ {a b : U64}, a ≠ b → ¬ ((rec a false).sig = (rec b false).sig ∧ (rec a false).out = (rec b false).out) :=
    fun n e => n e.1
  ⟨(f 1 1 1).1 (same rfl) (same rfl), (f 1 1 2).2.1 (same rfl) (ne (by decide)),
   (f 1 2 1).2.2.1 (same rfl) (ne (by decide)), (f 2 1 1).2.2.2.1 (same rfl) (ne (by decide)),
   (f 1 2 3).2.2.2.2 (ne (by decide)) (ne (by decide)) (ne (by decide)), (o 1).1 (same rfl), (o 2).2 (ne (by decide)),
   (d (rec 1 false) (rec 1 true) (rec 1 true)).2.2.1 rfl rfl rfl,
   (d (rec 1 true) (rec 1 true) (rec 1 true)).2.2.2.1 rfl rfl rfl, (t 1).1 (same rfl), (t 2).2 (ne (by decide)),
   (d (rec 1 true) (rec 1 false) (rec 1 true)).2.2.2.2.2.1 rfl rfl,
   (d (rec 1 true) (rec 1 true) (rec 1 true)).2.2.2.2.2.2 rfl rfl⟩

/-! ## Quayline: the plane chips -/

/-- A single module with one plane chip as given; a plane that runs and sends. -/
def net (p : Plane) : State := { op with planes := ⟨p, {}⟩, pair := { variantP := false, clm := 70 } }
def plane1 : Plane := { running := true, sending := true, cn := 8 }

theorem net_on (p : Plane) : (net p).planeOn .a = true := show op.planeOn .a = true by decide +kernel

theorem witness_PlaneTickFromStrobes (h : Obligations.PlaneTickFromStrobes) :
    runs (.tickStrobeRx .a .l1 5) (net {}) ∧ runs (.tickStrobeRx .a .l1 5) (net { strobes := [.l2] }) ∧
    runs (.planeNoTick .a) (net { plane1 with strobes := [.l2] }) :=
  have k := fun p => h (net p) .a .l1 .l2 5 8 (net_on p)
  ⟨ran (((k {}).1 rfl (by decide +kernel) rfl (fun e => absurd e.1 (by decide)) (by decide +kernel)).1 rfl),
   ran' (((k { strobes := [.l2] }).1 rfl (by decide +kernel) rfl (fun e => absurd e.1 (by decide)) (by decide +kernel)).2
     rfl (by decide) (by decide +kernel) rfl (by decide +kernel)),
   ran' ((k { plane1 with strobes := [.l2] }).2 rfl (by decide))⟩

/-- A frame around a payload, as controller 5 or a module sends it. -/
def framed (bs : List Byte) : List Byte := qlFrame (moduleMac true) bs
/-- A timing frame of segment 0 on plane A. -/
def tim (x : Timing) : List Byte := timingFrame (moduleMac true) .a 0 x

theorem opened (bs : List Byte) : qlOpen (framed bs) = some bs := Laws.qlOpen_qlFrame _ _

theorem tim_reads {x y : Timing} {l : Bool × Nat}
    (h : (timingKind (x.payload false 0)).map (fun z => (lineOf (x.payload false 0), z)) = some (l, y)) :
    timingOf (tim x) = some (l, y) := (Laws.timingOf_frame _ .a 0 x).trans h

theorem tim_direct {f : SyncOut} (h : f.far = false)
    (k : (timingKind ((Timing.sync f).payload false 0)).map (fun z => (lineOf ((Timing.sync f).payload false 0), z)) =
      some ((false, 0), .sync f)) : directSync (tim (.sync f)) = some f := by
  unfold directSync
  rw [tim_reads k]
  simp [h]

/-- The head of an uplink of controller 5, and of another one. -/
def upFrame : List Byte := [1, 0x11, 0, 0, 0, 5, 0, 0]
def wrongFrame : List Byte := [1, 0x11, 0, 0, 0, 6, 0, 0]
/-- A plane whose time starts at 0; what the chip keeps of controller 5. -/
def plane2 : Plane := { plane1 with lastTick := some 0 }
def known5 (x : PCtrl) : State := net { plane2 with ctrls := [(5, x)] }
def seen0 : State := net { plane2 with slotSeen := [0] }

theorem right5 : 5 = beAt upFrame 4 2 % 4096 ∧ beAt upFrame 2 1 % 8 = 0 ∧ beAt upFrame 6 2 % 512 = 0 := by decide +kernel

theorem witness_ReceiveGuardian (h : Obligations.ReceiveGuardian) :
    runs (.uplinkGuardian .a 0 0 99800 upFrame) (net plane2) ∧
    runs (.uplinkGuardian .a 0 0 99800 (framed upFrame)) (net plane2) ∧
    runs (.uplinkGuardian .a 0 0 100600 (framed upFrame)) (net plane2) ∧
    runs (.uplinkGuardian .a 0 0 99799 (framed upFrame)) (net plane2) ∧
    runs (.uplinkGuardian .a 0 0 100601 (framed upFrame)) (net plane2) ∧
    runs (.uplinkGuardian .a 0 0 100600 (framed upFrame)) seen0 ∧
    runs (.uplinkGuardian .a 0 0 99800 (framed wrongFrame)) (net plane2) ∧
    runs (.barred .a 5) (known5 { drift := true, sinceDset := some 16 }) ∧
    runs (.delayUnknown .a 5) (known5 { missing := 16 }) :=
  have g := fun t fr f => h.1 (net plane2) .a 0 0 5 t fr f (by decide +kernel) rfl (by decide +kernel) (by decide +kernel)
  have o := fun t f => (g t (framed f) f).2
  ⟨ran ((g 99800 upFrame []).1 (by decide +kernel)),
   ran' ((o 99800 upFrame (opened _) (.inl (by decide))).1 (by decide +kernel) (by decide +kernel) (by decide)
     right5 rfl),
   ran' ((o 100600 upFrame (opened _) (.inl (by decide))).1 (by decide +kernel) (by decide +kernel) (by decide)
     right5 rfl),
   ran' ((o 99799 upFrame (opened _) (.inl (by decide))).2.1 (by decide +kernel)),
   ran' ((o 100601 upFrame (opened _) (.inl (by decide))).2.2.1 (by decide +kernel)),
   ran' (((h.1 seen0 .a 0 0 5 100600 (framed upFrame) upFrame (by decide +kernel) rfl (by decide +kernel)
     (by decide +kernel)).2 (opened _) (.inl (by decide))).2.2.2.1 (by decide +kernel) (by decide +kernel)
     (by decide +kernel)),
   ran' ((o 99800 wrongFrame (opened _) (.inl (by decide))).2.2.2.2 (by decide +kernel) (by decide +kernel)
     (by decide) (fun e => absurd e.1 (by decide +kernel))),
   ran' ((h.2 (known5 { drift := true, sinceDset := some 16 }) .a 5 16 ctrlCfg (by decide +kernel) rfl).1 rfl rfl
     (by decide) (by decide +kernel)),
   ran' ((h.2 (known5 { missing := 16 }) .a 5 16 ctrlCfg (by decide +kernel) rfl).2 (by decide +kernel))⟩

/-- Bodies of the lanes as a slot's store holds them. -/
def entry (a b c : Byte) : StoreEntry := ⟨[(.l1, [a], [11]), (.l2, [b], [12]), (.l3, [c], [13])]⟩
def stored : Plane := { plane1 with store := [(0, entry 1 1 2)] }

/-- A partner's STATUS; a claim holder whose partner stands by and feeds segment 0. -/
def partner (m : ModState) (fed : BitVec 8) : HwStatus :=
  ⟨true, m, 69, 8, false, true, 7, 3, false, true, false, 9, fed⟩
def feeding : State := { net { plane1 with store := [(0, ⟨[(.l2, [1], [12])]⟩)] } with
  pair := { clm := 70, holder := true, status := ⟨some (partner .standby 1), some (partner .standby 0)⟩ } }

theorem witness_DownlinkSlots (h : Obligations.DownlinkSlots) :
    runs (.laneBodyRx .a .l1 0 0 [1] [2]) (net plane1) ∧ runs (.laneBodyRx .a .l1 0 0 [1] [11]) feeding ∧
    runs (.downlinkSlotOpen .a 0 0) (net stored) ∧
    runs (.downlinkSlotOpen .a 0 0) (net plane1) ∧
    (entry 1 1 2).telegram .b = some (withPlane [1] true ++ [11] ++ [12]) ∧
    (entry 1 2 1).telegram .b = some (withPlane [1] true ++ [11] ++ [13]) ∧
    (entry 1 2 2).telegram .b = some (withPlane [2] true ++ [12] ++ [13]) ∧ (entry 1 2 3).telegram .b = none :=
  have d := fun p l tel => h.1 (net p) .a .l1 0 0 5 [1] [2] tel (net_on p) l rfl
  have e := fun a b c => h.2 (entry a b c) .b ([a], [11]) ([b], [12]) ([c], [13]) rfl rfl rfl
  ⟨ran (((d plane1 rfl []).1 (by decide +kernel)).1 (.inl (by decide +kernel))),
   ran (((h.1 feeding .a .l1 0 0 5 [1] [11] (withPlane [1] false ++ [11] ++ [12]) (by decide +kernel) rfl rfl).1 (by decide +kernel)).2
     (by decide +kernel) rfl (by decide +kernel) (by decide +kernel)),
   ran (((d stored rfl (withPlane [1] false ++ [11] ++ [12])).2 rfl (by decide +kernel)).1 (by decide +kernel)),
   ran' (((d plane1 rfl []).2 rfl (by decide +kernel)).2 (by decide +kernel)),
   (e 1 1 2).1 rfl, (e 1 2 1).2.1 (by decide) rfl, (e 1 2 2).2.2.1 (by decide) (by decide) rfl,
   (e 1 2 3).2.2.2 (by decide) (by decide) (by decide)⟩

/-- A direct sync of a unit; the module listens until 5; a paired module. -/
def syncOf (unitB : Bool) (clm : U32) : SyncOut := ⟨clm, 8, 20, false, false, false, false, unitB⟩
def listening : State := { net plane1 with pair := { variantP := false, clm := 70, listenUntil := some 5 } }
def paired : State := { net plane1 with pair := { clm := 70, holder := true } }

theorem witness_QuaylineStartAndCrossing (h : Obligations.QuaylineStartAndCrossing) :
    runs (.quaylineListenEnd 5) listening ∧ runs (.moduleSyncRx .a 0 [] 5) (net plane1) ∧
    runs (.moduleSyncRx .a 0 (tim (.sync (syncOf true 71))) 5) (net plane1) ∧
    runs (.moduleSyncRx .a 0 (tim (.sync (syncOf true 71))) 5) paired ∧
    runs (.moduleSyncRx .a 0 (tim (.sync (syncOf true 69))) 5) (net plane1) ∧
    runs (.moduleSyncRx .a 0 (tim (.sync (syncOf false 70))) 5) (net plane1) :=
  have k := fun f g => (h (net plane1) .a 0 5 5 f g rfl rfl).2 (net_on _)
  have q := fun b c e => (k (tim (.sync (syncOf b c))) (syncOf b c)).2 (tim_direct rfl e)
  ⟨ran' ((h listening .a 0 5 5 [] (syncOf true 70) rfl rfl).1 rfl (by decide)),
   ran ((k [] (syncOf true 70)).1 (by decide +kernel)), ran' ((q true 71 (by decide +kernel)).1 (by decide +kernel) rfl),
   ran' ((((h paired .a 0 5 5 (tim (.sync (syncOf true 71))) (syncOf true 71) rfl rfl).2 (by decide +kernel)).2
     (tim_direct rfl (by decide +kernel))).2.1 (by decide +kernel) rfl ⟨rfl, rfl, rfl⟩),
   ran' ((q true 69 (by decide +kernel)).2.2.1 (by decide +kernel)),
   ran' ((q false 70 (by decide +kernel)).2.2.2 (by decide +kernel) ⟨rfl, rfl, rfl⟩)⟩

/-- A segment of plane A. -/
def seg0 (g : Seg) : Plane := { plane1 with segs := [(0, g)] }
def open5 : Seg := { openReq := some ⟨5, false, false, 1, 0, 120000⟩ }
def pairHolder : State := { net { plane1 with cn := 64 } with
  pair := { clm := 70, holder := true, status := ⟨some (partner .standby 0), none⟩ } }
/-- Requests wait in SVC; a request is open until 9. -/
def queued (n : Nat) : State := (net plane1).updUplink (fun u => { u with ncQueue := ⟨List.replicate n (5, [1]), []⟩ })
def asked : State := net { plane1 with ncOpen := [(5, some (1, 9))] }
/-- A response of controller 5 to IDENT. -/
def reply5 : List Byte := [1, 0x13, 0, 0, 0, 5, 0, 0] ++ List.replicate 24 0 ++ [1]

theorem witness_DelayMeasurementAndLine (h : Obligations.DelayMeasurementAndLine) :
    runs (.qDynWindowStart .a 0 5) (net plane1) ∧
    ((((net (seg0 { dsetNear := some (5, 1, 40) })).openWindow .a 0 0 5).plane .a).seg 0).sent =
      [(net plane1).timing .a 0 (.dset false 5 1 40)] ∧
    ((((known5 { noteDue := true }).openWindow .a 0 3 5).plane .a).seg 0).sent =
      [(net plane1).timing .a 0 (.dnote 5 0 0)] ∧
    ((((queued 1).openWindow .a 0 3 5).plane .a).seg 0).sent = [(net plane1).requestFrame .a 8 5 ctrlCfg [1]] ∧
    runs (.dreqSend .a 0 0 7) (net plane1) ∧
    runs (.drespRx .a 0 (tim (.dresp false false 5 1 1000)) 1000) (net (seg0 open5)) ∧
    runs (.drespRx .a 0 (tim (.dresp false false 5 1 4000)) 120000) (net (seg0 open5)) ∧
    runs (.drespRx .a 0 (tim (.dresp false false 5 1 999)) 4000) (net (seg0 open5)) ∧
    runs (.drespRx .a 0 (tim (.dresp false false 5 1 4001)) 4001) (net (seg0 open5)) ∧
    runs (.drespRx .a 0 (tim (.dresp false false 5 1 4000)) 120001) (net (seg0 open5)) ∧
    runs (.drespMissing .a 0) (net (seg0 open5)) ∧
    runs (.lineDreqRx .a 0 (tim (.dreq false true 5 3)) 1000) pairHolder ∧
    runs (.ncRequestQueue .a 5 [1]) (queued 255) ∧
    runs (.ncResponseRx .a 0 (framed reply5) 9) asked := by
  have k := fun s (on : s.planeOn .a = true) (l : (s.plane .a).live = true) win c q d t1 t4 turn r f x s1 =>
    h.1 s .a 0 win c q d 5 t1 t4 turn false false r f ctrlCfg x s1 on l
  have o := fun turn t4 => (k (net (seg0 open5)) (net_on _) rfl 0 5 1 40 0 t4 turn ⟨5, false, false, 1, 0, 120000⟩
    (tim (.dresp false false 5 1 turn)) (5, []) op).2.2.2.2 rfl rfl
  have q := fun s turn p fr f => h.2 s .a 0 3 turn 5 9 9 false p fr f 1
  have r0 : OpenReq := ⟨5, false, false, 1, 0, 0⟩
  refine ⟨?_, ?_, ?_, ?_, ?_, ?_, ?_, ?_, ?_, ?_, ?_, ?_, ?_, ?_⟩
  · exact ran (k (net plane1) (net_on _) rfl 0 5 1 40 0 0 0 r0 [] (5, []) op).1
  · exact (k (net (seg0 { dsetNear := some (5, 1, 40) })) (net_on _) rfl 0 5 1 40 0 0 0 r0 [] (5, []) op).2.1
      (by decide +kernel) rfl
  · exact ((k (known5 { noteDue := true }) (by decide +kernel) rfl 3 5 1 40 0 0 0 r0 [] (5, []) op).2.2.1
      (by decide +kernel) (by decide +kernel)).1 (by decide +kernel)
  · exact (((k (queued 1) (by decide +kernel) rfl 3 5 1 40 0 0 0 r0 [] (5, [1])
      (queued 0)).2.2.1 (by decide +kernel) (by decide +kernel)).2 (by decide +kernel) (by decide +kernel)
      (by decide +kernel)).1
  · exact ran' ((k (net plane1) (net_on _) rfl 0 5 1 40 7 0 0 r0 [] (5, []) op).2.2.2.1 (by decide +kernel)
      (fun e => absurd e.1 (by decide)) (by decide +kernel) (by decide +kernel))
  · exact ran' (((o 1000 1000).1 (tim_reads (by decide +kernel))).1 (by decide) (by decide) (by decide) (by decide))
  · exact ran' (((o 4000 120000).1 (tim_reads (by decide +kernel))).1 (by decide) (by decide) (by decide) (by decide))
  · exact ran (((o 999 4000).1 (tim_reads (by decide +kernel))).2.1 (.inl (by decide)) (by decide))
  · exact ran (((o 4001 4001).1 (tim_reads (by decide +kernel))).2.1 (.inr (by decide)) (by decide))
  · exact ran (((o 4000 120001).1 (tim_reads (by decide +kernel))).2.2 (by decide))
  · exact ran (o 0 0).2
  · exact ran ((q pairHolder 1000 [] (tim (.dreq false true 5 3)) []).1 (by decide +kernel) rfl rfl rfl (by decide +kernel)
      (tim_reads (by decide +kernel)))
  · exact ran ((q (queued 255) 0 [1] [] []).2.1 (by decide +kernel) (by decide +kernel) (by decide +kernel))
  · exact ran' ((q asked 0 [] (framed reply5) reply5).2.2 (by decide +kernel) (by decide +kernel) rfl (opened _)
      (by decide +kernel) rfl (by decide +kernel) (by decide +kernel) (by decide +kernel) (by decide +kernel) (by decide) rfl
      (by decide))

/-- A partner in STANDBY with far time; segments fed besides segment 0. -/
def far (p : Plane) : State := { net p with module := .standby, pair := {} }
def farPlane : Plane := { farTick := some 0, farCn := 8, farClm := 70 }
def farSeg (g : Seg) (n : Nat) : Plane := { farPlane with segs := (0, g) :: (List.range n).map (fun k => (k + 1, { feed := true })) }
def heardFar : Plane := farSeg { heard := some (9000, syncOf true 70) } 0
def ring63 : Tbl (Option (List Byte × Nat)) := (List.range 63).map (fun n => (n + 1, some ([], 0)))
def held0 : Plane := { farSeg { feed := true } 0 with relayStore := [(0, some ([7], 100))] }

theorem far_on (p : Plane) : (far p).planeOn .a = true := show op.planeOn .a = true by decide +kernel

theorem witness_FarTickFeedAndRelay (h : Obligations.FarTickFeedAndRelay) :
    runs (.farTick .a 9100) (far heardFar) ∧ runs (.farTick .a 9100) (far farPlane) ∧
    runs (.farEndFeedStart .a 0) (far (farSeg {} 3)) ∧ runs (.farEndFeedStart .a 0) (far (farSeg {} 4)) ∧
    runs (.farEndFeedStop .a 0) (far (farSeg { feedNext := true, directRun := 15, directSeen := true } 0)) ∧
    runs (.relayRx .a true 0 0 (hd 0x33) [7] 5) (far { farSeg { feed := true } 0 with relayStore := ring63 }) ∧
    runs (.relaySlotOpen .a 0 0 2100) (far held0) ∧ runs (.relaySlotOpen .a 0 0 2099) (far held0) ∧
    runs (.relayRx .a false 0 0 (hd 0x33) [7] 5) pairHolder ∧ runs (.lossOfSignal .a 0 true) (far farPlane) :=
  have f := fun p => h.1 (far p) .a 0 9000 9100 0 (syncOf true 70) (far_on _) rfl
  have g := fun p t lost => h.2 (far p) .a 0 0 5 t 100 (hd 0x33) [7] lost (far_on p)
  have r := fun t => ((g held0 t true).1 rfl).2.2 (by decide +kernel) rfl
  ⟨ran' ((f heardFar).1 (by decide +kernel)), ran' ((f farPlane).2 (by decide +kernel) rfl),
   ran' ((((g (farSeg {} 3) 5 true).1 rfl).1 rfl (by decide +kernel) rfl rfl).1 (by decide +kernel)),
   ran' ((((g (farSeg {} 4) 5 true).1 rfl).1 rfl (by decide +kernel) rfl rfl).2 (by decide +kernel) rfl),
   ran' (((g (farSeg { feedNext := true, directRun := 15, directSeen := true } 0) 5 true).1 rfl).2.1 rfl (by decide +kernel)),
   ran (((g { farSeg { feed := true } 0 with relayStore := ring63 } 5 true).1 rfl).2.2 (by decide +kernel) rfl |>.1
     (by decide) (by decide +kernel) rfl (by decide +kernel)),
   ran ((r 2100).2.1 rfl (by decide)), ran' ((r 2099).2.2 rfl (by decide)),
   ran' ((h.2 pairHolder .a 0 0 5 5 0 (hd 0x33) [7] true (by decide +kernel)).2.1 (by decide) rfl rfl (by decide +kernel) rfl rfl (by decide)
     rfl rfl),
   ran' ((g farPlane 5 true).2.2 (by decide +kernel))⟩

/-! ## Object controllers -/

/-- Controller 5, and what it keeps of plane A. -/
def ctl (x : Ctrl) : State := { net plane1 with ctrls := [(5, x)] }

theorem ctl_cfg (x : Ctrl) : (ctl x).ctrlCfg 5 = some ctrlCfg := show op.ctrlCfg 5 = some ctrlCfg by decide +kernel

/-- Main timing and Breakwater, with the Breakwater's place stored. -/
def both (a g : ATime) : Ctrl := { planes := ⟨{ main := a, guard := g }, {}⟩, stored := some (0, 0, 5) }
def onA (a : ATime) : Ctrl := both a a
def heard1 : ATime := { source := some (1, false, 0), lastDirect := some 0 }
def joined (d : Option Nat) : ATime :=
  { tick := some 0, m := some 8, dNear := d, joined := true, silent := false, fullCycle := true, lastSync := some 0 }
/-- A sync frame of CN 8, with some flags. -/
def syncTo (cold far : Bool) : SyncOut := ⟨70, 8, 20, cold, far, false, false, false⟩
/-- A frame that starts at one instant of both clocks. -/
def at1 (t : Nat) : Bool → LaunchAt := fun _ => ⟨t, t, 202⟩

theorem witness_ControllerTimeAndLaunch (h : Obligations.ControllerTimeAndLaunch) :
    runs (.controllerSyncRx 5 .a 0 (tim (.sync (syncTo false false))) 5000 5000) (ctl {}) ∧
    runs (.controllerSyncRx 5 .a 1 (tim (.sync (syncTo false true))) 5000 5000) (ctl {}) ∧
    runs (.controllerSyncRx 5 .a 0 (tim (.sync (syncTo false false))) 9887999 9887999) (ctl (onA heard1)) ∧
    runs (.controllerSyncRx 5 .a 0 (tim (.sync (syncTo true false))) 5000 5000) (ctl {}) ∧
    runs (.controllerCoast 5 .a 10000000 10000000) (ctl (onA (joined none))) ∧
    runs (.controllerSyncLoss 5 .a 1000000000 1000000000) (ctl (onA { lastSync := some 0 })) ∧
    runs (.controllerDnoteRx 5 .a 0 [7]) op ∧
    runs (.controllerLaunch 5 .a (at1 99952 false) (at1 99952 true) [1] false) (ctl (onA (joined (some 40)))) ∧
    runs (.controllerLaunch 5 .a (at1 99968 false) (at1 99968 true) [1] false) (ctl (onA (joined (some 40)))) ∧
    runs (.controllerLaunch 5 .a (at1 99960 false) (at1 99960 true) [1] false)
      (ctl (onA { joined (some 40) with silent := true })) ∧
    (joined (some 40)).launchAt 0 0 40 = 99960 :=
  have k := fun x port f t => h.1 (ctl x) 5 .a port t t 0 8 (tim (.sync f)) f ctrlCfg
  have l := fun p t => h.2.2 (ctl (onA p)) 5 .a (at1 t) [1] man ctrlCfg 8 false false 0 0 40 40 (0, 0, 5) rfl (ctl_cfg _)
  ⟨ran' (((k {} 0 (syncTo false false) 5000).1 (ctl_cfg _) (tim_reads (by decide +kernel))).1 rfl rfl (by decide +kernel)
     (by decide +kernel)),
   ran' (((k {} 1 (syncTo false true) 5000).1 (ctl_cfg _) (tim_reads (by decide +kernel))).2.1 rfl (by decide +kernel)),
   ran' (((k (onA heard1) 0 (syncTo false false) 9887999).1 (ctl_cfg _) (tim_reads (by decide +kernel))).2.2.1 rfl
     (by decide +kernel)),
   ran' (((k {} 0 (syncTo true false) 5000).1 (ctl_cfg _) (tim_reads (by decide +kernel))).2.2.2 rfl rfl (by decide +kernel)),
   ran' ((k (onA (joined none)) 0 (syncTo true false) 10000000).2.1 rfl rfl (by decide +kernel)),
   ran' ((k (onA { lastSync := some 0 }) 0 (syncTo true false) 1000000000).2.2 rfl (by decide)),
   ran' (h.2.1 op 5 .a 0 0 0 0 [7] [] ⟨false, false⟩ ⟨false, false⟩ (.controllerDnoteRx 5 .a 0 [7]) (by simp)),
   ran' ((l (joined (some 40)) 99952 rfl).1 rfl rfl (by decide +kernel) (by decide +kernel) rfl rfl rfl rfl
     (by decide +kernel) (by decide +kernel)),
   ran' ((l (joined (some 40)) 99968 rfl).1 rfl rfl (by decide +kernel) (by decide +kernel) rfl rfl rfl rfl
     (by decide +kernel) (by decide +kernel)),
   ran' ((l { joined (some 40) with silent := true } 99960 rfl).2.1 (.inr (.inr (.inl rfl)))),
   (h.2.2 (ctl (onA (joined (some 40)))) 5 .a (at1 0) [1] man ctrlCfg 8 false false 0 0 40 40
     (0, 0, 5) rfl (ctl_cfg _) rfl).2.2 rfl (by decide)⟩

/-- A downlink for controller 5 in cycle 8 under keys of zeros, as lanes 1 and 2 sign it. -/
def downBody0 (age : Nat) (last : Byte) : List Byte :=
  (TeleHdr.bytes ⟨0x10, false, 0, 0, 5, 0, 70, 8, age, 3, 1, 2, 1, 7⟩) ++ [last] ++ List.replicate 127 0
def downTele (age : Nat) (last : Byte) : List Byte :=
  let b := downBody0 age last
  b ++ (teleCodeField 0 b 1 ++ (teleCodeField 0 b 2 ++ []))
def down0 : List Byte := downTele 0 9
def ready : Ctrl := { onA { m := some 8, fullCycle := true, tick := some 0, dNear := some 40 } with
  chan1 := [⟨1, ⟨0, 0, 0⟩, 0⟩], chan2 := [⟨1, ⟨0, 0, 0⟩, 0⟩] }

theorem down_codes {age : Nat} (h : age = 0 ∨ age = 4) :
    codeOk ready.chan1 (downTele age 9) 160 = true ∧ codeOk ready.chan1 (downTele age 9) 168 = true := by
  have ⟨a, b⟩ := Laws.signed_fields (b := downBody0 age 9) (by rcases h with rfl | rfl <;> decide +kernel) 0 0 1 2
  have k : keysOf ready.chan1 (BitVec.ofNat 16 (beAt (downTele age 9) 20 2)) = some ⟨1, ⟨0, 0, 0⟩, 0⟩ ∧
      tagAt (downTele age 9) 160 = 1 ∧ tagAt (downTele age 9) 168 = 2 := by
    rcases h with rfl | rfl <;> decide +kernel
  constructor <;> unfold codeOk
  · rw [k.1, k.2.1]; exact decide_eq_true a
  · rw [k.1, k.2.2]; exact decide_eq_true b

/-- What a channel without a fault, or with one, finds of the two codes. -/
theorem down_verdicts (e : ChanFault) {age : Nat} (h : age = 0 ∨ age = 4) :
    verdicts ready.chan1 e (downTele age 9) = (!e.code1, !e.code2) := by
  unfold verdicts
  rw [(down_codes h).1, (down_codes h).2]
  simp

def took (cn : U32) (f : List Byte) : Applied := ⟨f, cn, 0, 3, 70, false⟩
def fine : ChanFault := ⟨false, false⟩

/-- The instant at which downlink slot 0 opens at controller 5. -/
def slot0 : Nat := downSlotNs 20 0 + 40

theorem witness_ControllerDownlinks (h : Obligations.ControllerDownlinks) :
    runs (.controllerDownlinkRx 5 .a 0 down0 slot0 fine fine) (ctl ready) ∧
    runs (.controllerDownlinkRx 5 .a 0 (framed down0) (slot0 + 1001) fine fine) (ctl ready) ∧
    runs (.controllerDownlinkRx 5 .a 0 (framed down0) slot0 ⟨true, false⟩ fine) (ctl ready) ∧
    runs (.controllerDownlinkRx 5 .a 0 (framed down0) slot0 ⟨true, false⟩ ⟨true, false⟩) (ctl ready) ∧
    runs (.controllerDownlinkRx 5 .a 0 (framed (downTele 4 9)) slot0 fine fine) (ctl ready) ∧
    runs (.controllerDownlinkRx 5 .a 0 (framed down0) slot0 fine fine) (ctl { ready with claims := [(71, false, 8)] }) ∧
    runs (.controllerDownlinkRx 5 .a 0 (framed down0) (slot0 + 1000) fine fine) (ctl ready) ∧
    runs (.controllerDownlinkRx 5 .a 0 (framed down0) slot0 fine fine) (ctl { ready with applied := some (took 8 down0) }) ∧
    runs (.controllerDownlinkRx 5 .a 0 (framed down0) slot0 fine fine)
      (ctl { ready with applied := some (took 8 (downTele 0 8)) }) ∧
    runs (.controllerAgeExpiry 5) (ctl { ready with applied := some (took 4 []) }) ∧
    runs (.rstClear 5) (ctl { ready with okRun := 8 }) ∧ runs (.controllerRestart 5 none (some (0, 0, 5))) (ctl ready) ∧
    runs (.controllerRestart 5 (some ⟨2, ⟨0, 0, 0⟩, 0, 0⟩) none) (ctl ready) :=
  have d := fun x t n fr f e1 e2 => h.1 (ctl x) 5 .a 0 t n fr f man ctrlCfg e1 e2 rfl (ctl_cfg _)
  have g := fun x t f e1 e2 => (d x t 0 (framed f) f e1 e2).2.2 (opened f)
  have e := fun x a m => h.2 (ctl x) 5 a m
  have v := down_verdicts fine (.inl rfl)
  have bad := down_verdicts ⟨true, false⟩ (.inl rfl)
  ⟨ran' ((d ready slot0 0 down0 [] fine fine).1 (by decide +kernel)),
   ran' ((d ready (slot0 + 1001) 1 (framed down0) down0 fine fine).2.1 (opened _) (by decide +kernel)),
   ran' ((g ready slot0 down0 ⟨true, false⟩ fine (by decide +kernel)).1 (fun q => absurd (bad.symm.trans (q.trans v)) (by decide))),
   ran' ((g ready slot0 down0 ⟨true, false⟩ ⟨true, false⟩ (by decide +kernel)).2.1 rfl
     (fun q => absurd (bad.symm.trans q) (by decide))),
   ran' ((g ready slot0 (downTele 4 9) fine fine (by decide +kernel)).2.2.1 (down_verdicts fine (.inr rfl))
     (down_verdicts fine (.inr rfl))
     (by decide +kernel)),
   ran' (((g { ready with claims := [(71, false, 8)] } slot0 down0 fine fine (by decide +kernel)).2.2.2 v v
     (by decide +kernel)).1 (by decide +kernel)),
   ran' ((((g ready (slot0 + 1000) down0 fine fine (by decide +kernel)).2.2.2 v v (by decide +kernel)).2
     (by decide +kernel)).1 (fun _ n => nomatch n)),
   ran' ((((g { ready with applied := some (took 8 down0) } slot0 down0 fine fine (by decide +kernel)).2.2.2 v v
     (by decide +kernel)).2 (by decide +kernel)).2.1 (took 8 down0) rfl (by decide +kernel) rfl),
   ran' ((((g { ready with applied := some (took 8 (downTele 0 8)) } slot0 down0 fine fine (by decide +kernel)).2.2.2 v v
     (by decide +kernel)).2 (by decide +kernel)).2.2 (took 8 (downTele 0 8)) rfl (by decide +kernel) (by decide +kernel)
     (by decide +kernel)),
   ran ((e { ready with applied := some (took 4 []) } (took 4 []) 8 none none).1 rfl rfl (by decide +kernel)),
   ran ((e { ready with okRun := 8 } (took 8 []) 8 none none).2.1 (by decide +kernel)),
   ran' (e ready (took 8 []) 8 none (some (0, 0, 5))).2.2,
   ran' (e ready (took 8 []) 8 (some ⟨2, ⟨0, 0, 0⟩, 0, 0⟩) none).2.2⟩

def delays (near cand : Option Nat) : Ctrl := onA { dNear := near, candNear := cand, fullCycle := true }

/-- A request to controller 5 for a service, as it leaves a claim holder. -/
def asks (data : List Byte) : List Byte := ncPayload
  { type := 0x12, planeB := false, seg := 0, flags := 0, ctrl := 5, slot := 0, clm := 70, cn := 8, age := 0, limit := 0
    length := data.length, map := 1, keyset := 0, site := 7 } data
def request (data : List Byte) : List Byte := framed (asks data)

/-- A controller that has joined and knows its delays, one of them or none. -/
def asked5 : State := ctl (onA (joined none))

theorem asked_frame {data : List Byte}
    (ok : beAt (asks data) 0 1 = 1 ∧ beAt (asks data) 1 1 = 0x12 ∧ asked5.onLine 5 .a (lineOf (asks data)) = true ∧
      ctrlOf (asks data) = 5) : asked5.requestOf 5 .a (request data) = some (asks data) := by
  unfold State.requestOf request
  rw [opened]
  exact if_pos ok

theorem witness_ControllerServices (h : Obligations.ControllerServices) :
    runs (.controllerDreqRx 5 .a 0 (tim (.dreq false false 5 3)) 1000 4000) (ctl (delays none none)) ∧
    runs (.controllerDreqRx 5 .a 0 (tim (.dreq false false 5 3)) 4000 1000) (ctl (delays none none)) ∧
    runs (.controllerDreqRx 5 .a 0 (tim (.dreq false false 5 3)) 4001 1000) (ctl (delays none none)) ∧
    runs (.controllerDsetRx 5 .a 0 (tim (.dset false 5 3 124))) (ctl (delays none none)) ∧
    runs (.controllerDsetRx 5 .a 0 (tim (.dset false 5 3 124))) (ctl (delays (some 100) none)) ∧
    runs (.controllerDsetRx 5 .a 0 (tim (.dset false 5 3 124))) (ctl (delays (some 0) (some 148))) ∧
    runs (.controllerDsetRx 5 .a 0 (tim (.dset false 5 3 125))) (ctl (delays (some 100) none)) ∧
    runs (.controllerDnoteRx 5 .a 0 (tim (.dnote 5 (-3) 9))) (ctl (delays none none)) ∧
    runs (.controllerBarRx 5 .a 0 (tim (.bar 5))) (ctl (delays none none)) ∧
    runs (.ident 5 .a 0 (request [1]) 0 1000) asked5 ∧ runs (.counters 5 .a 0 (request [2, 1]) 0 1000) asked5 ∧
    runs (.clrcnt 5 .a 0 (request [3, 1]) 0 1000) asked5 ∧ runs (.ncDesigner 5 .a 0 (request [128]) [1] 0 1000) asked5 ∧
    runs (.ncDesigner 5 .a 0 (request [127]) [1] 0 1000) asked5 :=
  have k := fun x turn tb d old f => h.1 (ctl x) 5 .a 0 3 turn tb 0 d old 9 false (-3) (tim f) ctrlCfg (ctl_cfg x)
  have q := fun near cand turn tb => (k (delays near cand) turn tb 0 0 (.dreq false false 5 3) rfl).1
    (tim_reads (by decide +kernel))
  have s := fun near cand d old e => (k (delays near cand) 0 0 d old (.dset false 5 3 d) rfl).2.1 (tim_reads e)
  have n := fun data ok => h.2 asked5 5 .a 0 0 1000 (request data) (asks data) [1] ctrlCfg (asked_frame ok)
  ⟨ran ((q none none 1000 4000).1 rfl rfl rfl (by decide) (by decide) (by decide) (by decide)),
   ran ((q none none 4000 1000).1 rfl rfl rfl (by decide) (by decide) (by decide) (by decide)),
   ran ((q none none 4001 1000).2 (.inr (.inr (.inr (.inr (by decide)))))),
   ran' ((s none none 124 0 (by decide +kernel)).1 (.inl rfl)),
   ran' ((s (some 100) none 124 100 (by decide +kernel)).1 (.inr (.inl ⟨rfl, by decide, by decide⟩))),
   ran' ((s (some 0) (some 148) 124 0 (by decide +kernel)).1 (.inr (.inr ⟨rfl, 148, rfl, by decide, by decide⟩))),
   ran' ((s (some 100) none 125 100 (by decide +kernel)).2 rfl (by decide) rfl),
   ran ((k (delays none none) 0 0 0 0 (.dnote 5 (-3) 9) rfl).2.2.1 (tim_reads (by decide +kernel))),
   ran' ((k (delays none none) 0 0 0 0 (.bar 5) rfl).2.2.2 (tim_reads (by decide +kernel))),
   ran ((n [1] (by decide +kernel) (by decide +kernel)).1 (ctl_cfg _) (by decide +kernel)),
   ran ((n [2, 1] (by decide +kernel) (by decide +kernel)).2.1 (by decide +kernel)),
   ran ((n [3, 1] (by decide +kernel) (by decide +kernel)).2.2.1 (by decide +kernel)),
   ran ((n [128] (by decide +kernel) (by decide +kernel)).2.2.2.1 (by decide +kernel)),
   ran ((n [127] (by decide +kernel) (by decide +kernel)).2.2.2.2 (.inr (by decide +kernel)))⟩

end Sys2Proof.Tests
end

