-- ==== Sys2Proof/Tests/WitnessLink.lean ====
section
/-! SUPPORT. For each statement about the telegrams, the safe link, the uplinks and network time, states
and operands that meet its hypotheses. -/

namespace Sys2Proof.Tests

set_option Elab.async false

open Sys2Proof Sys2Proof.Machine

/-! ## Telegrams and safe-link messages: frames under the lanes' own codes -/

/-- An uplink of controller 5 in the cycle of CN 8. -/
def upBody : List Byte :=
  [1, 0x11, 0, 0, 0, 5, 0, 0, 0, 0, 0, 70, 0, 0, 0, 8, 0, 1, 0, 2, 0, 1, 0, 0, 0, 0, 0, 0, 0, 0, 0, 7] ++ List.replicate 128 0
def upKey (tag : Nat) : Key := body.key .l1 false tag 5
def upGood : List Byte := upBody ++ (teleCodeField (upKey 1) upBody 1 ++ (teleCodeField (upKey 2) upBody 2 ++ []))

theorem up_codes : (upCodeOk body .l1 false upGood 5 160 1 && upCodeOk body .l1 false upGood 5 168 2) = true := by
  have ⟨a, b⟩ := Laws.signed_fields (b := upBody) (by decide +kernel) (upKey 1) (upKey 2) 1 2
  have c : slice upGood 160 8 = teleCodeField (upKey 1) upGood 1 := a
  have d : slice upGood 168 8 = teleCodeField (upKey 2) upGood 2 := b
  simp only [upCodeOk, c, d, upKey, decide_true, Bool.and_self]

theorem up_fields : man.body.ctrls.find? (fun e => decide (e.1 = beAt upGood 4 2 % 4096)) = some (5, ctrlCfg) ∧
    whichSet man.hdr.qlKeyset man.hdr.qlPrev (BitVec.ofNat 16 (beAt upGood 20 2)) = some false ∧
    beAt upGood 4 2 % 4096 = 5 := by decide +kernel

theorem up_none (L : Lane) (c : L.cn = 8) (f : L.phase = .idle) : uplinkCause .l1 L man .a 8 upGood = none := by
  unfold uplinkCause
  rw [if_neg (by simp [c, f]), if_neg (by decide +kernel)]
  have ⟨a, b, d⟩ := up_fields
  simp only [a, b]
  simp only [d, show man.body = body from rfl]
  rw [if_neg (by decide +kernel), if_neg (by decide +kernel), if_neg (by decide +kernel),
    if_neg (by rw [c]; decide +kernel), if_neg (by decide +kernel), if_pos up_codes]

/-- Plane A runs and holds one record for lane 1, of the cycle of the CN given; lane 1 has a full receive ring or an empty
one. -/
def upRec (cn : U32) : UpRec := ⟨upGood, cn, 0, false, true⟩
def ringed (on : Bool) (cn : U32) (n : Nat) : State :=
  { withLane .l1 (fun L => { L with rx := ⟨List.replicate n (upRec 8), []⟩ }) op with
    planes := ⟨{ running := on, rings := ⟨[upRec cn], [], []⟩ }, {}⟩ }

theorem witness_UplinkTelegramAcceptance (h : Obligations.UplinkTelegramAcceptance) :
    runs (.uplinkTelegramRx .l1 .a) (ringed true 8 0) ∧ runs (.uplinkTelegramRx .l1 .a) (ringed true 7 0) ∧
    runs (.uplinkTelegramRx .l1 .a) (ringed true 8 4096) ∧ runs (.uplinkTelegramRx .l1 .a) (ringed false 8 0) ∧
    upGood.length = 176 ∧
    (planeCompare [1, 2, 0, 4] [1, 2, 128, 4]).2 = none ∧ (planeCompare [1, 2, 0, 4] [1, 2, 128, 5]).2 = some 9 ∧
    (planeCompare [1, 2, 0, 4] []).2 = some 10 :=
  have l : ∀ on cn n, (((ringed on cn n).lane .l1).rx.get .a).length = n := fun _ _ n => List.length_replicate
  have k := fun on cn n a b => h (ringed on cn n) .l1 .a (upRec cn) [] a b man 1
  have t := fun cn n => (k true cn n [] []).1 rfl rfl rfl (.inl rfl)
  have n : uplinkCause .l1 ((ringed true 8 0).lane .l1) man .a 8 upGood = none := up_none _ rfl rfl
  have late : uplinkCause .l1 ((ringed true 7 0).lane .l1) man .a 7 upGood = some 1 := by
    unfold uplinkCause; rw [if_pos (.inl (by decide +kernel))]
  ⟨ran ((t 8 0).1 (by rw [l]; decide) n), ran' ((t 7 0).2.1 (by rw [l]; decide) late),
   ran' ((t 8 4096).2.2 (by rw [l])), ran ((k false 8 0 [] []).2.1 rfl),
   ((k true 8 0 [] []).2.2.1 n).2.2.2.2.2.2.2.1,
   congrArg (·.2) ((k true 8 0 [1, 2, 0, 4] [1, 2, 128, 4]).2.2.2.1 (by decide) (by decide) |>.1 rfl),
   congrArg (·.2) ((k true 8 0 [1, 2, 0, 4] [1, 2, 128, 5]).2.2.2.1 (by decide) (by decide) |>.2 (by decide)),
   congrArg (·.2) ((k true 8 0 [1, 2, 0, 4] []).2.2.2.2 (by decide)).1⟩

/-- A message 0 of connection 0 with EPOCH 3, SEQ 5 and the echo of a message sent 100.0 ms before `now`. -/
def slBody0 : List Byte :=
  [1, 0x20, 0, 0, 0, 0, 0, 0, 0, 0, 0, 70, 0, 0, 0, 3, 0, 0, 0, 5, 0, 0, 0, 9, 0, 0, 0, 4, 0, 0, 0, 15, 0, 0, 0, 0, 0, 1, 1, 0,
   0, 0, 0, 0, 0, 0, 0, 77] ++ List.replicate 128 0
def slKey (tag : Nat) : Key := body.key .l1 false (3 + tag) 0
def slGood : List Byte := slBody0 ++ (slCodeField (slKey 1) slBody0 1 ++ (slCodeField (slKey 2) slBody0 2 ++ []))

theorem sl_code (tag : Nat) (k : Key) : slCodeField k slGood tag = slCodeField k slBody0 tag := by
  unfold slCodeField
  rw [show slGood.take 176 = slBody0.take 176 from
    (Laws.take_front (by decide +kernel)).trans (List.take_of_length_le (by decide +kernel)).symm]

theorem sl_fields : ConnOf man (slConn slGood) = some connCfg ∧
    inMsg connCfg (slMsg slGood) = some ⟨0, 4096, 1, [⟨1, .unsigned, 0, 8, 0⟩]⟩ ∧
    whichSet man.hdr.slKeyset man.hdr.slPrev (BitVec.ofNat 16 (beAt slGood 36 2)) = some false ∧
    tagAt slGood 176 = 1 ∧ tagAt slGood 186 = 2 ∧ slConn slGood = 0 := by decide +kernel

theorem sl_to_fresh (L : Lane) (c : L.cn = 10) (f : L.phase = .idle) :
    slCause .l1 L man false 10 0x0A000001 50000 slGood = slFresh L connCfg 0 slGood := by
  have a : slice slGood 176 10 = slCodeField (slKey 1) slBody0 1 := Laws.slice_at (by decide +kernel) (by rfl)
  have b : slice slGood 186 10 = slCodeField (slKey 2) slBody0 2 := by
    unfold slGood; rw [← List.append_assoc]; exact Laws.slice_at (by decide +kernel) (by rfl)
  have ⟨c1, c2, c3, c4, c5, c6⟩ := sl_fields
  unfold slCause
  rw [if_neg (by simp [c, f]), if_neg (by decide +kernel)]
  simp only [c1]
  simp only [c2, c3, c4, c5, c6, sl_code, a, b]
  rw [if_neg (by decide +kernel), if_neg (by decide +kernel), if_neg (by decide +kernel), if_neg (by decide +kernel),
    if_neg (by simp [slKey, man])]

/-- Lane 1 in the cycle of CN 10 of epoch 4, with a copy of the batch of the CN given; the same where message 0 has come with
that SEQ, and with a later one. -/
def slOp (bcn : U32) (r : Conn) : State :=
  withLane .l1 (fun L => { L with
    cn := 10, epoch := 4, supC := { L.supC with conns := [(0, r)] }
    slIn := [(bcn, ⟨false, 0x0A000001, 50000, slGood, 5⟩)] }) op
def slSeen (q : U32) : State := slOp 10 { peerEpoch := some 3, seqs := [(0, some (q, slDigest slBody0))] }

theorem witness_SafeLinkCopyAcceptance (h : Obligations.SafeLinkCopyAcceptance) :
    runs (.safeLinkCopyCheck .l1) (slOp 10 {}) ∧ runs (.safeLinkCopyCheck .l1) (slSeen 6) ∧
    runs (.safeLinkCopyCheck .l1) (slSeen 5) ∧ runs (.safeLinkCopyCheck .l1) (slOp 11 {}) ∧ slGood.length = 196 :=
  have n : slCause .l1 ((slOp 10 {}).lane .l1) man false 10 0x0A000001 50000 slGood = none :=
    (sl_to_fresh _ rfl rfl).trans (by decide +kernel)
  have s9 : slCause .l1 ((slSeen 6).lane .l1) man false 10 0x0A000001 50000 slGood = some 9 :=
    (sl_to_fresh _ rfl rfl).trans (by decide +kernel)
  have s0 : slCause .l1 ((slSeen 5).lane .l1) man false 10 0x0A000001 50000 slGood = some 0 :=
    (sl_to_fresh _ rfl rfl).trans (by decide +kernel)
  have k := fun s bcn => h s .l1 bcn ⟨false, 0x0A000001, 50000, slGood, 5⟩ [] 9 man
  have a := fun r => (k (slOp 10 r) 10).1 rfl (show later 10 10 = false by decide +kernel) rfl (.inl rfl)
  ⟨ran ((a {}).1 n), ran' ((a _).2.1 s9 (by decide)), ran' ((a _).2.2 s0), ran ((k (slOp 11 {}) 11).2.1 rfl (by decide +kernel)),
   ((k (slOp 10 {}) 10).2.2 n).2.2.2.2.1⟩

/-! ## The safe link on SVC -/

/-- SVC as given. -/
def svc (f : Uplink → Uplink) : State := op.updUplink f
/-- A cycle of CN 8 that started at 1 000 000 000. -/
def inCycle : State := svc (fun u => { u with cycleStart := some 1000000000, cn := 8 })
def refused : State := svc (fun u => { u with cycleStart := some 1000000000, cn := 8, linkAccepted := false })
def lateIn : State := withLanes (fun L => { L with phase := .pass1 }) inCycle

/-- A frame of the peer for connection 0's port, and the copy in it. -/
def slFrame : List Byte := netFrame 0x020000020000 0x02AABBCCDDEE none etherIpv4 (udpPacket 0x0A000001 0x0A000002 50000 [1, 2, 3])
def copy0 : SlCopy := ⟨false, 0x0A000001, 50000, [1, 2, 3], 5⟩
def fullHeld (n : Nat) : State := svc (fun u => { u with held := List.replicate n ⟨copy0, 100000000, none⟩ })
def standby0 : State := { op with module := .standby }

/-- Message 1 of a connection waits, complete or not; the PTP clock is locked or not. -/
def msg01 (n : Nat) : OutMsg := ⟨[(.l1, [1], [11]), (.l2, [1], [12])].take n, false⟩
def outAt (conn n : Nat) (lock : Bool) : State :=
  { svc (fun u => { u with out := [(conn * 512 + 1, some (msg01 n))], launchHeld := [⟨1, [9], 0⟩, ⟨513, [8], 0⟩] }) with
    ptp := { locked := lock } }

theorem witness_SafeLinkBatchAndSending (h : Obligations.SafeLinkBatchAndSending) :
    runs (.cycleStartNotice .l1 5) op ∧ runs (.cycleStartNotice .l1 5) inCycle ∧
    runs (.safeLinkFrameRx 0 slFrame 5) standby0 ∧ (after (.safeLinkFrameRx 0 slFrame 5) standby0).uplink.standbyRx = 1 ∧
    ((after (.safeLinkFrameRx 0 slFrame 5) (fullHeld 511)).lane .l1).slIn = [(0, copy0)] ∧
    (after (.safeLinkFrameRx 0 slFrame 5) (fullHeld 512)).lanes = (fullHeld 512).lanes ∧
    (after (.safeLinkFrameRx 0 slFrame 5) (fullHeld 2047)).lanes = (fullHeld 2047).lanes ∧
    (after (.safeLinkFrameRx 0 slFrame 5) (fullHeld 2048)).uplink.slDrop = 1 ∧
    runs .batchClose inCycle ∧ ((after .batchClose inCycle).lane .l1).batch = some [] ∧
    ((after .batchClose lateIn).lane .l1).late = 1 ∧ (after .batchClose refused).lanes = refused.lanes ∧
    runs (.slCopyExpire 5) op :=
  have k := fun s => h.1 s .l1 5 0 1000000000 slFrame copy0
  have full : ∀ n, (fullHeld n).uplink.held.length = n := fun n => List.length_replicate
  have rx := fun n i => leaves ((k (fullHeld n)).2.1 (by rfl) (by rfl) i).2.2.2
  have f511 := rx 511 (by decide +kernel)
  have f512 := rx 512 (by decide +kernel)
  have f2047 := rx 2047 (by decide +kernel)
  have f2048 := rx 2048 (by decide +kernel)
  have sb := ((k standby0).2.1 (by rfl) (by rfl) (by decide +kernel)).2.2.2
  have ne : ∀ n, (fullHeld n).module ≠ .standby := fun _ e => ModState.noConfusion e
  ⟨ran' (((k op).1 rfl rfl rfl).1 (.inl rfl)), ran (((k inCycle).1 rfl rfl rfl).2 rfl rfl),
   ran' sb, ((leaves sb).1 rfl).1,
   congrArg Lane.slIn ((f511.2.1 (ne _) (by rw [full]; decide)).2 rfl (.inl rfl)),
   (f512.2.2.1 (ne _) (by rw [full]) (by rw [full]; decide)).2,
   (f2047.2.2.1 (ne _) (by rw [full]; decide) (by rw [full]; decide)).2,
   (f2048.2.2.2 (ne _) (by rw [full])).2.1,
   ran' ((k inCycle).2.2.1 rfl rfl rfl),
   congrArg Lane.batch (((leaves ((k inCycle).2.2.1 rfl rfl rfl)).2.2.2.2 rfl (.inl rfl) rfl).1 rfl),
   congrArg Lane.late (((leaves ((k lateIn).2.2.1 rfl rfl rfl)).2.2.2.2 rfl (.inl rfl) rfl).2 (by decide +kernel)),
   (leaves ((k refused).2.2.1 rfl rfl rfl)).2.2.2.1 rfl, ran ((k op).2.2.2.2 rfl)⟩

/-- 196 bytes of a PDU. -/
def pdu196 : List Byte := List.replicate 196 0

theorem witness_SafeLinkSending (h : Obligations.SafeLinkBatchAndSending) :
    runs (.safeLinkSend 0 1) (outAt 0 2 false) ∧ runs (.safeLinkSend 1 1) (outAt 1 2 true) ∧
    runs (.safeLinkSend 0 1) (outAt 0 2 true) ∧ runs (.slUnsigned 0 1) (outAt 0 1 false) ∧
    runs (.timedLaunch 0 5) (outAt 0 2 true) ∧ (∃ q, (1, q) ∈ (after (.timedLaunch 0 5) (outAt 0 2 true)).uplink.sent) ∧
    (∃ n : Nat, n < 100 ∧ nextLaunch 7 (100, 3) = BitVec.ofInt 48 (7 + n) ∧ (7 + (n : Int)) % 100 = 3 % 100) ∧
    (netFrame 1 2 none etherIpv4 (withRct 3 true (udpPacket 4 5 50000 pdu196))).length = 248 :=
  have o := fun conn n lock pdu l => h.2 (outAt conn n lock) conn 1 5 (msg01 n) pdu l 4 5 50000 3 true 1 2 7 (by rfl) (by rfl)
  have t := (o 0 2 true pdu196 (100, 3)).2.2.2
  ⟨ran (((o 0 2 false [1, 11, 12] (0, 0)).1 rfl rfl).1 rfl (.inr rfl)).1,
   ran (((o 1 2 true [1, 11, 12] (0, 0)).1 rfl rfl).1 rfl (.inl rfl)).1,
   ran' (((o 0 2 true [1, 11, 12] (1000000, 0)).1 rfl rfl).2.1 rfl (by decide +kernel) rfl),
   ran' (((o 0 1 false [] (0, 0)).1 rfl rfl).2.2 rfl),
   ran' t.1, (leaves t.1).2.2 ⟨1, [9], 0⟩ (by decide +kernel) (by decide) (by decide +kernel),
   (o 0 2 true pdu196 (100, 3)).2.2.1 (by decide), (t.2 List.length_replicate).1⟩

/-! ## The uplink ports -/

/-- A station, the module's address, and frames from it: for another station, of an EtherType nobody takes (the same under
PRP), an ARP request for the module, and an echo request. -/
def station : U48 := 0x02AABBCCDDEE
def own : U48 := 0x020000020000
def elsewhere : List Byte := netFrame 0x021111111111 station none 0x1234 [1]
def stray : List Byte := netFrame own station none 0x1234 [1]
def strayPrp : List Byte := netFrame own station none 0x1234 (withRct 5 false [1])
def arpAsk : List Byte :=
  netFrame 0xFFFFFFFFFFFF station none etherArp
    (beBytes 6 0x000108000604 ++ beBytes 2 1 ++ beBytes 6 station.toNat ++ beBytes 4 0x0A000001 ++ beBytes 6 0 ++ beBytes 4 0x0A000002)
def echo : List Byte := netFrame own station none etherIpv4 (ipPacket 0x0A000001 0x0A000002 1 [8, 0, 0xF7, 0xFC, 0, 1, 0, 2])

/-- A frame as it is read. -/
def read (f : List Byte) : NetFrame := (netOpen f).getD ⟨0, 0, none, 0, [], none⟩

theorem frames_read : netOpen elsewhere = some (read elsewhere) ∧ netOpen stray = some (read stray) ∧
    netOpen strayPrp = some (read strayPrp) ∧ netOpen arpAsk = some (read arpAsk) ∧ netOpen echo = some (read echo) := by
  decide +kernel

/-- The other LAN has brought the frame; ten echoes answered within the second; an announcement 2 s ago; SVC down, with its
link accepted or not. -/
def copiedFrame : State := svc (fun u => { u with copies := [(station, 5, true, 0)] })
def echoed : State := svc (fun u => { u with echoTimes := List.replicate 10 5 })
def announced : State := svc (fun u => { u with lastSupervision := some 5 })
def svcOff (a : Bool) : State := svc (fun u => { u with up := false, linkAccepted := a })

theorem witness_UplinkPorts (h : Obligations.UplinkPortsAndService) :
    runs (.uplinkFrameRx 0 [] 5) op ∧ runs (.uplinkFrameRx 0 elsewhere 5) op ∧
    (after (.uplinkFrameRx 0 stray 5) op).uplink.taken = 0 ∧
    (after (.uplinkFrameRx 0 strayPrp 5) copiedFrame).uplink.twins = 1 ∧
    (after (.uplinkFrameRx 0 arpAsk 5) op).uplink.answered = 1 ∧
    (after (.uplinkFrameRx 0 echo 5) echoed).uplink.answered = 0 ∧
    runs (.prpSupervisionSend 2000000005) announced ∧
    (∀ y ∈ [(2, [(1 : Byte)]), (0, [2])], (0, [(2 : Byte)]).1 ≤ y.1) :=
  have k := fun s f e => h.1 s 0 5 f e station 0x0A000001 0x0A000002
  have ⟨r1, r2, r3, r4, r5⟩ := frames_read
  have two := ((k op elsewhere (read elsewhere) (by rfl) (by rfl)).2.1 r1).1 (by decide +kernel)
  have s2 := leaves ((k op stray (read stray) (by rfl) (by rfl)).2.1 r2).2
  have s3 := leaves ((k copiedFrame strayPrp (read strayPrp) (by rfl) (by rfl)).2.1 r3).2
  have s4 := leaves ((k op arpAsk (read arpAsk) (by rfl) (by rfl)).2.1 r4).2
  have s5 := leaves ((k echoed echo (read echo) (by rfl) (by rfl)).2.1 r5).2
  ⟨ran' ((k op [] (read []) (by rfl) (by rfl)).1 (by decide +kernel)), ran two,
   ((s2.2.2.2.2 (by decide +kernel) (by decide +kernel)).2.1 (by decide +kernel)).2.1,
   (s3.2.2.2.1 (by decide +kernel) (by decide +kernel) (by decide +kernel) (by decide +kernel)).1,
   ((s4.2.2.2.2 (by decide +kernel) (by decide +kernel)).2.2.1 (by decide +kernel) (by decide +kernel) (by rfl)).2 (by rfl),
   (s5.2.2.2.2 (by decide +kernel) (by decide +kernel)).2.2.2 (by decide +kernel) (by decide +kernel),
   ran ((h.1 announced 0 2000000005 [] (read []) 0 0 0 (by rfl) (by rfl)).2.2 (by rfl) (fun l e => by cases e; decide)),
   (h.2.1 [(2, [1]), (0, [2])] [(2, [1])] (0, [2]) (by decide) (by decide)).2⟩

theorem witness_ServiceLink (h : Obligations.UplinkPortsAndService) :
    runs (.svcRestart 9) op ∧ runs (.svcRestart 9) { op with module := .halt } ∧ runs .svcRecovery (svcOff true) ∧
    runs .svcRecovery (svcOff false) :=
  ⟨ran' ((h.2.2 op 9 (by decide +kernel)).1 (.inl rfl)),
   ran' ((h.2.2 { op with module := .halt } 9 (by decide +kernel)).1 (.inr rfl)),
   ran' ((h.2.2 (svcOff true) 9 (by decide +kernel)).2.1 rfl rfl), ran ((h.2.2 (svcOff false) 9 (by decide +kernel)).2.2 rfl rfl)⟩

/-! ## Network time -/

/-- Options as configured, and of another domain; an Announce of master 3. -/
def opts : PtpHdr := ⟨0, true, 0, false, false⟩
def alien : PtpHdr := ⟨1, true, 0, false, false⟩
def ann3 (h : PtpHdr) : PtpAnnounce := ⟨h, 1, 2, 3, 4, 5, 3, 0, 37, true⟩
/-- The clock follows master 3, qualified on LAN A; accepted, or new with some consistent intervals; the GX2 mode or not. -/
def ptpOf (isNew : Bool) (n : Nat) (gx2 : Bool) : State := { op with ptp :=
  { master := some 3, heard := ⟨[⟨ann3 opts, 5, some 0⟩], []⟩, isNew := isNew, consistent := n
    lastOffset := some 2000000, goodSyncs := 7, gx2 := gx2, twoStep := ⟨some (3, 1), none⟩ } }
theorem ptp_on (n : Bool) (c : Nat) (g : Bool) : (ptpOf n c g).netOn = true := by simp [State.netOn, ptpOf, op]

/-- Offsets at the lock limit, at the jump threshold, beyond it, and consistent with the last one. -/
def lock : Int := 1000
def slew : Int := 1000000
def far1 : Int := 1000001
def close : Int := 2010000
/-- A Sync of master 3 with its offset in the message or to follow, and its Follow_Up. -/
def sync3 (h : PtpHdr) (o : Int) (two : Bool) : Instr := .ptpSyncRx false ⟨h, 3, 1, o, two⟩ 5
def fup3 (o : Int) : Instr := .ptpFollowUpRx false ⟨opts, 3, 1, o⟩ 5

theorem witness_PtpOffsets (h : Obligations.PtpOffsetsMasterAndDelay) :
    runs (sync3 alien 7 true) (ptpOf false 0 false) ∧ runs (sync3 opts 7 true) (ptpOf false 0 false) ∧
    (after (sync3 opts lock false) (ptpOf false 0 false)).ptp.locked = true ∧
    runs (sync3 opts slew false) (ptpOf false 0 true) ∧ runs (sync3 opts far1 false) (ptpOf false 0 false) ∧
    runs (sync3 opts close false) (ptpOf true 14 false) ∧ runs (sync3 opts close false) (ptpOf true 15 false) ∧
    runs (sync3 opts close false) (ptpOf true 15 true) ∧ runs (fup3 lock) (ptpOf false 0 false) ∧
    (∃ g ∈ (ptpOf false 0 false).ptp.heard.get .a, g.ann = ann3 opts) :=
  have k := fun n c g hdr o => h.1 (ptpOf n c g) false hdr 3 1 o 5 (ptp_on n c g)
  have j := fun n c g o sup fm ms => ((k n c g opts o).2 sup fm ms).2.1
  have good := (j false 0 false lock (by decide +kernel) (by decide +kernel) (by decide +kernel)).1 (.inl rfl) (by decide +kernel)
  ⟨ran (((k false 0 false alien 7).1 (by decide +kernel)).1), ran ((k false 0 false opts 7).2 (by decide +kernel) (by decide +kernel) (by decide +kernel)).1,
   (leaves good).2.2.2.2.2.2.1 (by decide) (by decide),
   ran' ((j false 0 true slew (by decide +kernel) (by decide +kernel) (by decide +kernel)).1 (.inl rfl) (by decide +kernel)),
   ran' ((j false 0 false far1 (by decide +kernel) (by decide +kernel) (by decide +kernel)).2.1 rfl (by decide +kernel)),
   ran' ((j true 14 false close (by decide +kernel) (by decide +kernel) (by decide +kernel)).2.2.1 rfl (by decide +kernel)),
   ran' ((j true 15 false close (by decide +kernel) (by decide +kernel) (by decide +kernel)).2.2.2 rfl (by decide +kernel) (by decide +kernel)),
   ran' ((j true 15 true close (by decide +kernel) (by decide +kernel) (by decide +kernel)).2.2.2 rfl (by decide +kernel) (by decide +kernel)),
   ran' ((((k false 0 false opts lock).2 (by decide +kernel) (by decide +kernel) (by decide +kernel)).2.2 rfl).1 (.inl rfl) (by decide +kernel)),
   (h.2.1 (ptpOf false 0 false).ptp false 5 (ann3 opts) ⟨ann3 opts, 5, some 0⟩ (by decide +kernel) (.head _)
     (by decide +kernel)).2.imp (fun _ e => ⟨e.1, e.2.2⟩)⟩

/-- One receipt timeout after the start: LAN A has heard its master in between, or not. -/
def late3 : State := { op with ptp := { quiet := ⟨4000000000, 0⟩, lanB := false } }

theorem witness_PtpMaster (h : Obligations.PtpOffsetsMasterAndDelay) :
    runs (.ptpAnnounceRx true (ann3 alien) 5) op ∧ runs (.ptpAnnounceRx true (ann3 opts) 5) op ∧
    (after (.announceReceiptTimeout false 6000000000) op).ptp.lanB = true ∧
    (after (.announceReceiptTimeout true 6000000000) op).ptp.lanB = false ∧
    runs (.announceReceiptTimeout false 6000000000) late3 ∧ runs (.announceReceiptTimeout true 5) op ∧
    runs (.pdelayReqSend 3 5) op ∧ runs (.pdelayReqRx 3 1 2 3) op ∧ runs (.pdelayRespRx 3 0 1 9) op ∧
    runs (.transparentClockForward 3 2 3 4) op :=
  have f := fun s lb hdr t seq on => h.2.2 s lb (ann3 hdr) t 3 seq 5 2 3 1 9 4 on
  have a := leaves ((f op false opts 6000000000 0 (by decide +kernel)).2.2.1 (by decide +kernel))
  have b := leaves ((f op true opts 6000000000 0 (by decide +kernel)).2.2.1 (by decide +kernel))
  have o := (f op true opts 5 0 (by decide +kernel)).2.2.2.2.2
  have p := (f op true opts 5 1 (by decide +kernel)).2.2.2.2.2
  ⟨ran ((f op true alien 5 0 (by decide +kernel)).1 (by decide +kernel)), ran' ((f op true opts 5 0 (by decide +kernel)).2.1 (by decide +kernel)), (a.2.1 rfl).1,
   (b.2.2.1 (by decide)).1, ran' ((f late3 false opts 6000000000 0 (by decide +kernel)).2.2.2.1 (by decide +kernel) rfl (by decide +kernel)),
   ran ((f op true opts 5 0 (by decide +kernel)).2.2.2.2.1 (by decide +kernel) (.inl (by decide))), ran (o.1 (by decide +kernel)).1, ran' (p.1 (by decide +kernel)).2,
   ran' (o.2.1 rfl), ran' o.2.2⟩

end Sys2Proof.Tests
end

