-- ==== Sys2Proof/Tests/WitnessPair.lean ====
section
/-! SUPPORT. For each statement about the Wharf bus, the local inputs and the pair, states and operands that meet its
hypotheses. -/

namespace Sys2Proof.Tests

set_option Elab.async false

open Sys2Proof Sys2Proof.Machine

/-! ## Wharf bus -/

/-- Channel 0 as given. -/
def wbOf (c : WbChan) : State := { op with wb := [(0, c)] }
/-- An empty classical frame, a request for it, and what takes it in. -/
def frame0 : CanFrame := ⟨false, 0, false, false, false, false, 0, []⟩
def req0 (n : Nat) : TxReq := ⟨frame0, 0, 0, 0, n⟩
def timing0 : WbTiming := ⟨1, 80, 80, 8, 16, 1, 16, 75, 4, 4, 0⟩
def tide0 : TideTable := ⟨2, [100, 500, 500], [[0xC000, 0x4000, 0x8000], [0xC000, 0x4000, 0x8000]]⟩
def chan0 : WbChan :=
  { mode := .normal, cfgMode := .normal, timing := some timing0
    filters := [(0, 0x880000FFE0000310), (1, 0x800000F800000300)] }
def tideChan : WbChan := { chan0 with mode := .tide, cfgMode := .tide, tide := some tide0, tideRunning := true, row := 1, col := 2,
                                      exclusive := [(0, some frame0)] }
/-- The receive queue with room for a number of words. -/
def rxRoom (n : Nat) : State :=
  (wbOf chan0).putQueue 104 { depth64 := 1, words := List.replicate (64 - n) 0 }
/-- A complete request in the request queue, and the pending set at a length. -/
def reqIn (n : Nat) : State :=
  (wbOf { chan0 with pending := List.replicate n (req0 0) }).putQueue 112 { words := [BitVec.ofNat 63 (2 ^ 62), 0] }

/-- The channel after a recessive bus: in bus-off. -/
def dead : WbChan := { chan0 with bus := .busOff, busOffAt := some 5 }

theorem witness_WharfReception (h : Obligations.WharfBus) :
    runs (.canFrameRx 0 (.frame { canFrame false false 0x33F with remote := true }) 5) (wbOf chan0) ∧
    runs (.canFrameRx 0 (.frame (canFrame false false 0x340)) 5) (wbOf chan0) ∧
    runs (.canFrameRx 0 (.frame (canFrame false false 0x310)) 5) (wbOf chan0) ∧
    runs (.canFrameRx 0 (.frame (canFrame false false 0x33F)) 5) (rxRoom 4) ∧
    runs (.canFrameRx 0 (.frame (canFrame false false 0x33F)) 5) (rxRoom 3) ∧
    runs (.canFrameRx 0 (.error 2 1) 5) (wbOf chan0) ∧ (recUp chan0 1).rxErr = 9 ∧
    runs (.canFrameRx 0 (.frame frame0) 5) (wbOf dead) ∧ runs (.canFrameRx 0 (.error 2 1) 5) (wbOf dead) :=
  have k := fun s f i a on m b => (h.1.1 s 0 f 5 i a).2.2 on m b
  have c := fun f i a => (k (wbOf chan0) f i a rfl (by decide +kernel) (by decide)).2.2
  have off := (h.1.1 (wbOf dead) 0 frame0 5 1 2).2.1 rfl (by decide +kernel) rfl
  have err := k (wbOf chan0) frame0 1 2 rfl (by decide +kernel) (by decide)
  ⟨ran ((c { canFrame false false 0x33F with remote := true } 0 0).1 rfl),
   ran ((c (canFrame false false 0x340) 0 0).2.1 rfl (by decide +kernel)),
   ran (((c (canFrame false false 0x310) 0 2).2.2 rfl (by decide +kernel)).1 rfl),
   ran (((k (rxRoom 4) (canFrame false false 0x33F) 1 0 rfl (by decide +kernel) (by decide +kernel)).2.2.2.2 rfl
     (by decide +kernel)).2.1 (by decide) (by decide +kernel)),
   ran (((k (rxRoom 3) (canFrame false false 0x33F) 1 0 rfl (by decide +kernel) (by decide +kernel)).2.2.2.2 rfl
     (by decide +kernel)).2.2 (by decide) (by decide +kernel)),
   ran err.1, err.2.1 (by decide), ran off.1, ran off.2⟩

/-- A frame at the head, in the NORMAL mode or in an arbitrating window; one on the bus, a reference message or not. -/
def headIn (c : WbChan) : State := wbOf { c with pending := [req0 0] }
def onBus (n tec : Nat) : State := wbOf { chan0 with onBus := some (req0 n), tec := tec, privileged := true, retryLimit := 3 }
def refOn : State := wbOf { chan0 with onBus := some (req0 1), onBusRef := true }

theorem witness_WharfBus (h : Obligations.WharfBus) :
    (insertReq (req0 1) [req0 0]).Perm [req0 1, req0 0] ∧
    runs (.txRequestAdmit 0 0) (reqIn 31) ∧ runs (.frameStart 0 0 0) (headIn chan0) ∧
    runs (.frameStart 0 0 0) (headIn { chan0 with retry := some (req0 1) }) ∧
    runs (.frameStart 0 (worstNs timing0 frame0 / 1000 + 1) 0) (headIn tideChan) ∧
    runs (.frameStart 0 (worstNs timing0 frame0 / 1000 - 1) 0) (headIn tideChan) ∧
    runs (.canFrameEnd 0 .lost 0) refOn ∧
    runs (.canFrameEnd 0 (.error 0 0 false) 0) (onBus 1 248) ∧ runs (.canFrameEnd 0 .lost 0) (onBus 3 247) ∧
    runs (.canFrameEnd 0 .lost 0) (onBus 4 0) ∧ runs (.canFrameEnd 0 .ok 0) (onBus 1 0) :=
  have k := fun s left n rest r => h.1.2 s 0 0 left n (req0 n) rest r
  have g := fun c left n => ((k (headIn c) left n [] .ok).2 rfl).2.1
  have f := fun c left on off mode at_ => g c left 0 on off mode (.inr at_)
  have e := fun n tec r => ((k (onBus n tec) 0 n [] r).2 rfl).2.2.2 rfl rfl
  ⟨(((k (wbOf { chan0 with pending := [req0 0] }) 0 1 [] .ok).1 (List.pairwise_singleton _ _))).2,
   ran (((h.1.2 (reqIn 31) 0 0 0 2 (req0 0) [] .ok).2 rfl).1 (by decide) (by decide +kernel) (by decide +kernel)),
   ran ((f chan0 0 rfl (by decide) (.inl rfl) ⟨rfl, by decide +kernel⟩).1 (by decide +kernel)),
   ran ((g { chan0 with retry := some (req0 1) } 0 1 rfl (by decide) (.inl rfl) (.inl rfl)).1 (by decide +kernel)),
   ran ((f tideChan (worstNs timing0 frame0 / 1000 + 1) rfl (by decide) (.inr ⟨rfl, by decide +kernel⟩)
     ⟨rfl, by decide +kernel⟩).1 (by decide +kernel)),
   ran ((f tideChan (worstNs timing0 frame0 / 1000 - 1) rfl (by decide) (.inr ⟨rfl, by decide +kernel⟩)
     ⟨rfl, by decide +kernel⟩).2 (by decide +kernel)),
   ran (((k refOn 0 1 [] .lost).2 rfl).2.2.1 rfl rfl (by decide +kernel)),
   ran ((e 1 248 (.error 0 0 false)).1 (by decide +kernel)),
   ran ((e 3 247 .lost).2.1 (by decide +kernel) (by decide) (by decide +kernel)),
   ran ((e 4 0 .lost).2.2 (by decide +kernel) (.inr (by decide +kernel))),
   ran ((e 1 0 .ok).2.2 (by decide +kernel) (.inl rfl))⟩

/-- A channel in bus-off since an instant; one with eight of them within 60 s; one that an online change takes out. -/
def offSince (done : Bool) : WbChan := { tideChan with bus := .busOff, busOffAt := some 5, holdOffMs := 100, holdOffDone := done }
def eight : WbChan := { chan0 with busOffs := List.replicate 8 5 }
def leaving (on : Option TxReq) : WbChan := { chan0 with next := some none, onBus := on }
def modeDue : WbChan := { chan0 with cfgMode := .tide, tide := some tide0 }

theorem witness_WharfRecoveryAndTide (h : Obligations.WharfBus) :
    runs (.busOffHoldoffEnd 0 100000005) (wbOf (offSince false)) ∧ runs (.busOffRecovery 0 0) (wbOf (offSince true)) ∧
    runs (.busoffLimit 0 60000000004) (wbOf eight) ∧ runs (.tideRowStart 0 0) (wbOf tideChan) ∧
    ((after (.tideRowStart 0 0) (wbOf tideChan)).chan 0).onBusRef = true ∧
    ((after (.tideRowStart 0 0) (wbOf { tideChan with onBus := some (req0 1) })).chan 0).refFail = 1 ∧
    ((after (.tideRowStart 0 0) (wbOf (offSince true))).chan 0).onBus = none ∧
    runs (.exclusiveWindow 0 1) (wbOf (offSince true)) ∧ runs (.exclusiveWindow 0 1) (wbOf tideChan) ∧
    runs (.channelModeChange 0) (wbOf modeDue) ∧ runs (.channelModeChange 0) (wbOf (leaving none)) ∧
    runs (.channelModeChange 0) (wbOf (leaving (some (req0 1)))) :=
  have k := fun c t col => h.2.1 (wbOf c) 0 t 5 col tide0 frame0 rfl
  have row := fun c a b => ((k c 0 0).2.2.2.1 a b).1
  have t0 := leaves (row tideChan rfl rfl)
  have t1 := leaves (row { tideChan with onBus := some (req0 1) } rfl rfl)
  have t2 := leaves (row (offSince true) rfl rfl)
  ⟨ran ((k (offSince false) 100000005 0).1 rfl rfl (by decide +kernel)),
   ran' ((k (offSince true) 0 0).2.1 rfl rfl), ran' ((k eight 60000000004 0).2.2.1 (by decide +kernel)),
   ran' (row tideChan rfl rfl), (t0.2.2.2.2.2.2.1 (by decide +kernel) rfl).2.1,
   (t1.2.2.2.2.2.2.2 (by decide +kernel) rfl).2.1, (t2.2.2.2.2.2.1 rfl).1,
   ran ((((k (offSince true) 0 1).2.2.2.1 rfl rfl).2 rfl (by decide) (by decide +kernel)).1 rfl),
   ran ((((k tideChan 0 1).2.2.2.1 rfl rfl).2 rfl (by decide) (by decide +kernel)).2 (by decide) rfl rfl
     (by decide +kernel)),
   ran ((k modeDue 0 0).2.2.2.2.1 rfl rfl (by decide +kernel)).1,
   ran' ((k (leaving none) 0 0).2.2.2.2.2.1 rfl rfl), ran ((k (leaving (some (req0 1))) 0 0).2.2.2.2.2.2 rfl)⟩

/-- A write into the window of channel 1, which is OFF; of channel 0, which runs its table with a frame in buffer 0. -/
theorem witness_WharfWrite (h : Obligations.WharfBus) :
    runs (.registerWrite 0x40022000 32 0 5) op ∧ runs (.registerWrite 0x40020004 32 7 5) (wbOf tideChan) ∧
    ((after (.registerWrite 0x40020004 32 7 5) (wbOf tideChan)).chan 0).tide = some tide0 ∧
    ((after (.registerWrite 0x40020004 32 7 5) (wbOf tideChan)).chan 0).timing = some timing0 ∧
    Tbl.get none (wbOf tideChan |>.chan 0).exclusive 0 = some frame0 :=
  have k := fun s off w => h.2.2 s off 5 w
  have a := k op 0x2000 0 rfl (by unfold State.flagOk; decide +kernel) (by decide) (by decide)
  have b := k (wbOf tideChan) 4 7 rfl (by unfold State.flagOk; decide +kernel) (by decide) (by decide)
  have l := leaves b
  ⟨ran' a, ran' b, l.2.2.2.2.2.2.2.1 rfl, (l.2.2.2.2.2.2.1 (by decide)).1, by decide +kernel⟩

/-! ## Local inputs -/

/-- Lane 1 with its input paths as given. -/
def inPaths (i : InPaths) : State := withLane .l1 (fun L => { L with inp := i }) op
/-- Channel 0 at a level, with the VLIOF stages up or not. -/
def sample0 (v : RawLevel) (up : Bool) : Sample :=
  ⟨[(0, v)], [], [], [], [], [24000, 24000, 24000, 24000], [true, true, true, true], [true, true, true, true], false, up⟩
def stuck3 : State := inPaths { esClosed := [(3, true)], esNoDip := [(3, 3)] }
def differs : State := inPaths { esDiff := [(1, 201)] }
/-- In the slot of channel 0's test, with channel 0 on; out of it. -/
def inSlot : State := inPaths { slot := testSlot .l1 0, level := [(0, true)] }
def outSlot : State := inPaths { slot := testSlot .l1 0 + 1, level := [(0, true)] }

theorem witness_LocalInputPaths (h : Obligations.LocalInputPaths) :
    ((Filt.step 2 true)^[1] ⟨false, 0⟩).value = false ∧ ((Filt.step 2 true)^[2] ⟨false, 0⟩).value = true ∧
    runs (.comparatorSample .l1 (sample0 .on true) 5) op ∧
    Tbl.get false ((after (.comparatorSample .l1 (sample0 .off true) 5) inSlot).lane .l1).inp.level 0 = true ∧
    Tbl.get false ((after (.comparatorSample .l1 (sample0 .off true) 5) outSlot).lane .l1).inp.level 0 = false ∧
    Tbl.get false ((after (.comparatorSample .l1 (sample0 .on true) 5) outSlot).lane .l1).inp.level 0 = true ∧
    (∀ dead i, vectorBit (op.lane .l1).localCfg ((after (.comparatorSample .l1 (sample0 .on false) 5) op).lane .l1).inp dead i =
      false) ∧
    runs (.esTask .l1) op ∧ runs (.esStuck .l1 3) stuck3 ∧ runs (.esDisc .l1 1) differs ∧
    runs (.inputTest .l1 0 true false) inSlot ∧ runs (.inputTest .l1 0 true true) inSlot :=
  have k := fun s sm ch n i on off => h s .l1 sm ch n i 5 true on off
  have c := fun s v up on => ((k s (sample0 v up) 0 0 1 true false).2.1 on).1
  have l := fun s v up on => leaves (c s v up on)
  have t := fun on off => (k inSlot (sample0 .on true) 0 0 1 on off).2.2.2.2 (by decide +kernel) rfl
  ⟨(k op (sample0 .on true) 0 1 2 true false).1 (by decide), (k op (sample0 .on true) 0 2 2 true false).1 (by decide),
   ran' (c op .on true (by decide +kernel)),
   (l inSlot .off true (by decide +kernel)).2.2.1 (by decide +kernel) (by decide) rfl,
   ((l outSlot .off true (by decide +kernel)).2.2.2.1 (by decide +kernel) (by decide) (by decide +kernel) (by decide +kernel)).2
     rfl,
   ((l outSlot .on true (by decide +kernel)).2.2.2.1 (by decide +kernel) (by decide) (by decide +kernel) (by decide +kernel)).1
     rfl,
   (l op .on false (by decide +kernel)).2.1 rfl,
   ran' ((k op (sample0 .on true) 0 0 1 true false).2.1 (by decide +kernel)).2,
   ran' ((k stuck3 (sample0 .on true) 3 0 1 true false).2.2.1 (by decide +kernel) (by decide +kernel)),
   ran' ((k differs (sample0 .on true) 3 1 1 true false).2.2.2.1 (by decide +kernel)),
   ran' ((t true false).1 rfl rfl), ran' ((t true true).2 (.inr rfl))⟩

/-! ## STATUS and the copy -/

/-- STATUS of a module of unit B or not, at a claim, with a signature. -/
def statusOf (unitB : Bool) (m : ModState) (clm : U32) (sig : BitVec 768) : HwStatus :=
  ⟨unitB, m, clm, 8, false, true, 7, 3, false, true, true, sig, 0⟩
def standby : State := { op with module := .standby }
/-- A plane that takes the claim holder's tick. -/
def farTick : State := { standby with planes := ⟨{ farTick := some 5, farCn := 9 }, {}⟩ }

theorem op_plane : op.planeOn .a = true := by decide +kernel
theorem standby_plane : standby.planeOn .a = true := op_plane

theorem witness_HawserStatus (h : Obligations.HawserStatusAndCopy) :
    hawserTakes 0x32 (hd 0x32) = true ∧ runs (.hawserStatusRx 0 (hd 0x33) (statusOf true .standby 1 8)) op ∧
    runs (.hawserStatusRx 0 (hd 0x32) (statusOf true .operational 1 9)) standby ∧
    runs (.hawserStatusRx 0 (hd 0x32) (statusOf true .closed 1 8)) standby ∧
    runs (.hawserStatusRx 0 (hd 0x32) (statusOf true .standby 1 8)) op ∧
    runs (.hawserStatusRx 0 (hd 0x32) (statusOf false .standby 0 9)) op ∧
    runs (.hawserStatusRx 0 (hd 0x32) (statusOf true .standby 1 9)) op ∧
    runs (.farTickStrobeRx .l1 300) farTick ∧ runs .hawserLost op :=
  have k := fun st => (h.1 op 0 (hd 0x32) st .l1 300).2.2.1 (by decide) rfl op_plane
  have m := fun st => (h.1 standby 0 (hd 0x32) st .l1 300).2.2.1 (by decide) rfl standby_plane
  ⟨(h.1 op 0 (hd 0x32) (statusOf true .standby 1 8) .l1 300).1.2 (by decide),
   ran ((h.1 op 0 (hd 0x33) (statusOf true .standby 1 8) .l1 300).2.1 (by decide)),
   ran' ((m (statusOf true .operational 1 9)).1 rfl (by decide +kernel)),
   ran' ((m (statusOf true .closed 1 8)).2.1 (by decide +kernel)),
   ran' ((k (statusOf true .standby 1 8)).2.1 (by decide +kernel)),
   ran' ((k (statusOf false .standby 0 9)).2.2.1 rfl (by decide +kernel) rfl rfl),
   ran' ((k (statusOf true .standby 1 9)).2.2.2 rfl (by decide +kernel) (by decide)),
   ran ((h.1 farTick 0 (hd 0x32) (statusOf true .standby 1 9) .l1 300).2.2.2.1 rfl rfl (.inl rfl)),
   ran' ((h.1 op 0 (hd 0x32) (statusOf true .standby 1 9) .l1 300).2.2.2.2 rfl)⟩

/-- A copy of one record, its header, and the seals of the lanes over it. -/
def copyHdr : CopyHdr := ⟨8, 70, false, 3, 0, .operational, 20, 9, ⟨.inVote, .inVote, .inVote⟩, false, false, false⟩
def copyRecs : List CopyRec := [.header copyHdr]
def seal0 (ln : LaneId) : Seal := ⟨ln, 70, 8, copyCrc copyRecs, 0, 0, false, 0⟩
def sealed (ln : LaneId) : Seal := { seal0 ln with code := sealCode (body.key ln false 7 0) (seal0 ln) }
def copied : State := { standby with
  lanes := ⟨{ lane 1 with copyRecs := [(0, some (.header copyHdr))], copySeals := [(sealed .l1, 1)] },
            { lane 2 with copyRecs := [(0, some (.header copyHdr))], copySeals := [(sealed .l2, 1)] },
            { lane 3 with copyRecs := [(0, some (.header copyHdr))], copySeals := [(sealed .l3, 1)] }⟩
  pair := { copy := .ready 7, lastAccepted := true } }

theorem copy_view (ln : LaneId) : (copied.lane ln).copyView ln = some (copyCrc copyRecs, copyRecs) := by
  have o : (copied.lane ln).ownSeal ln = some (sealed ln, 1) := by
    cases ln <;> exact (List.find?_cons_of_pos (by decide +kernel))
  have i : (copied.lane ln).image = some man := by cases ln <;> rfl
  have l : (copied.lane ln).copyList 1 = some copyRecs := by cases ln <;> rfl
  have a : (copied.lane ln).copySeals = [(sealed ln, 1)] := by cases ln <;> rfl
  have c : (copied.lane ln).cn = 8 := by cases ln <;> rfl
  unfold Lane.copyView
  simp only [o, i, l, a]
  exact if_pos ⟨by simp [sealed, seal0], by rw [c]; rfl, by simp only [sealed, seal0, man]⟩

theorem copy_accepted : copied.acceptedCopy = some (copyCrc copyRecs, copyRecs) := by
  have v : copied.voters = [.l1, .l2, .l3] := by decide +kernel
  unfold State.acceptedCopy
  simp only [v, List.filterMap_cons, List.filterMap_nil, copy_view]
  simp

/-- The same with no seal: nothing is accepted. -/
def unsealed : State := copied.mapLanes (fun _ L => { L with copySeals := [] })

theorem witness_HawserStatusAndCopy (h : Obligations.HawserStatusAndCopy) :
    runs (.copyRx .l1 0 1 (hd 0x30) (.header copyHdr)) copied ∧ runs (.sealRx .l1 0 (hd 0x31) (seal0 .l2) 1) copied ∧
    (∃ a b, a ≠ b ∧ copied.votes a = true ∧ copied.votes b = true) ∧ runs .copyDecision unsealed ∧
    runs .copyDecision copied ∧ (CopyState.resync 66).accept copyRecs 8 = .ready 8 ∧
    (CopyState.ready 7).accept copyRecs 8 = .ready 8 ∧ (CopyState.ready 7).accept copyRecs 9 = .resync 0 :=
  have k := fun s hd x cn n => h.2 s .l1 0 1 1 hd (.header copyHdr) x (copyCrc copyRecs) copyRecs copyHdr 7 cn n
  have c := (k copied (hd 0x31) (seal0 .l2) 8 66).1 rfl standby_plane (by decide +kernel)
  have ⟨a, b, ne, va, vb, _⟩ := (k copied (hd 0x31) (seal0 .l2) 8 66).2.1 copy_accepted
  ⟨ran (((k copied (hd 0x30) (seal0 .l2) 8 66).1 rfl standby_plane (by decide +kernel)).1 (by decide) rfl),
   ran (c.2 (by decide) rfl (fun y m => by
      rw [show (copied.lane .l1).copySeals = [(sealed .l1, 1)] from rfl, List.mem_singleton] at m; rw [m]; exact nofun)),
   ⟨a, b, ne, va, vb⟩, ran' ((k unsealed (hd 0x31) (seal0 .l2) 8 66).2.2.1 rfl (by decide +kernel) rfl),
   ran' ((k copied (hd 0x31) (seal0 .l2) 8 66).2.2.2.1 rfl copy_accepted rfl (by decide +kernel)
     (fun m _ => by unfold State.copyDiffers; rw [copy_view]; exact decide_eq_false (by simp)) rfl),
   (k copied (hd 0x31) (seal0 .l2) 8 66).2.2.2.2.1.2 (by decide),
   (k copied (hd 0x31) (seal0 .l2) 8 66).2.2.2.2.2.trans (if_pos (by decide)),
   (k copied (hd 0x31) (seal0 .l2) 9 66).2.2.2.2.2.trans (if_neg (by decide))⟩

/-! ## Takeover and handover -/

/-- A READY partner at far cycle 9, with the last copy accepted and TRANSFER seen, or with neither. -/
def readyFor (acc : Bool) : State := { farTick with
  pair := { copy := .ready (if acc then 8 else 7), copyHdr := some copyHdr, lastAccepted := acc, transferSeen := acc } }
/-- A claim holder that may hand over. -/
def holderOf (u : Uplink) (silent los : Nat) : State :=
  { withSession op with
    uplink := u
    pair := { holder := true, status := ⟨some (statusOf true .standby 1 9), none⟩, svcSilent := silent, losCycles := los }
    planes := ⟨{ segs := [(0, { lost := true })] }, { segs := [(0, { lost := true })] }⟩ }
def upSvc : Uplink := { up := true }

theorem witness_TakeoverAndHandover (h : Obligations.TakeoverAndHandover) :
    runs .takeover (readyFor true) ∧ runs .takeover (readyFor false) ∧
    (readyFor true).takeoverTrigger 9 = some 0 ∧
    runs .rollbackHoldClear { op with pair := { rollbackHold := true, takeoverCn := some 4294967294 } } ∧
    runs (.handover 0) (holderOf upSvc 0 0) ∧ runs (.handover 0) (withSession op) ∧
    runs .autoHandover (holderOf {} 2 0) ∧ runs .autoHandover (holderOf upSvc 0 1) :=
  have k := fun s trig => h s (if s.pair.lastAccepted then 8 else 7) copyHdr trig 0
  ⟨ran' ((k (readyFor true) 0).1 rfl rfl rfl rfl (by decide +kernel) (by decide +kernel) (by decide +kernel)),
   ran' ((k (readyFor false) 2).1 rfl rfl rfl rfl (by decide +kernel) (by decide +kernel) (by decide +kernel)),
   (k (readyFor true) 0).2.1 rfl rfl,
   ran ((k { op with pair := { rollbackHold := true, takeoverCn := some 4294967294 } } 0).2.2.1 rfl (by decide +kernel)),
   ran' (((k (holderOf upSvc 0 0) 0).2.2.2.1 (by decide +kernel)).1 (by decide +kernel)),
   ran' (((k (withSession op) 0).2.2.2.1 (by decide +kernel)).2 (by decide +kernel)),
   ran' ((k (holderOf {} 2 0) 0).2.2.2.2 (by decide +kernel) rfl (.inl ⟨rfl, by decide +kernel, _, rfl, rfl⟩)),
   ran' ((k (holderOf upSvc 0 1) 0).2.2.2.2 (by decide +kernel) rfl (.inr ⟨by decide +kernel, by decide +kernel⟩))⟩

end Sys2Proof.Tests
end

