-- ==== Sys2Proof/Tests/WitnessRegs.lean ====
section
/-! SUPPORT. For each statement about the logbook, the snapshots, the service registers and the block as a whole, states
and operands that meet its hypotheses. -/

namespace Sys2Proof.Tests

set_option Elab.async false

open Sys2Proof Sys2Proof.Machine

/-! ## Logbook and snapshots -/

/-- An event waits: the logbook empty, or with its newest record of the same event; drops before 255 events. -/
def ev : Event := (jump 0 0).event
def logOf (g : Logbook) : State := { op with log := g }
def logEmpty : State := logOf { stopped := false, q := [ev] }
def logOne : State := logOf { stopped := false, q := [ev], slots := [(0, some (jump 0 0))], newest := some 0, next := 1 }
def logDrops : State := logOf { stopped := false, q := List.replicate 255 ev, dropped := 1 }

theorem witness_LogbookRecords (h : Obligations.LogbookRecords) :
    runs (.logEvent 10) logEmpty ∧ runs (.logEvent 1000030518) logOne ∧ runs (.logEvent 1000000000) logOne ∧
    runs (.logEvent 1) logDrops ∧
    slotAfter 0 = 1 ∧ slotAfter 524286 = 524287 ∧ slotAfter 524287 = 262144 :=
  have k := fun s t n => h s t ev [] n (jump 0 0)
  ⟨let ⟨u, _, e⟩ := ((k logEmpty 10 0 rfl).1 rfl rfl).1 (.inl rfl); ⟨u, e.1⟩,
   let ⟨u, _, e⟩ := ((k logOne 1000030518 0 rfl).1 rfl rfl).1 (.inr ⟨rfl, by decide +kernel⟩); ⟨u, e.1⟩,
   ran' (((k logOne 1000000000 0 rfl).1 rfl rfl).2 rfl rfl (by decide +kernel)),
   ran' ((k logDrops 1 0 rfl).2.1 (by decide) (by decide +kernel)), (k op 0 0 rfl).2.2.1 (by decide),
   (k op 0 524286 rfl).2.2.1 (by decide), (k op 0 0 rfl).2.2.2⟩

/-- A frame; a window open since 0 with a frame in assembly; a lane the network does not answer; the store with room,
and with 32 PROTECTED frames. -/
def bbFrame (prot : Bool) : BbFrame :=
  ⟨3, (jump 0 0).time, 1, ⟨none, none, none⟩, 0, 0, prot, false, false, false, ⟨none, none, none⟩, ⟨none, none, none⟩, ⟨none, none⟩,
   none, ⟨[], [], []⟩, []⟩
def window0 : State := { op with snap := { windowAt := some 0, staged := some (bbFrame false) } }
def unacked : State := withLane .l1 (fun L => { L with snapUnacked := true }) op
def store32 : State := { op with snap :=
  { staged := some (bbFrame true), ring := (List.range 32).map (fun n => (n, some (bbFrame true))) } }

theorem witness_SnapshotsAndFrames (h : Obligations.SnapshotsAndFrames) :
    runs (.snapRequest (.exclusion .l2) 5) op ∧ runs (.snapinEdge 10000 5) op ∧ runs (.snpTrigGo 0x80000000 5) op ∧
    runs (.snapRequest (.exclusion .l2) 10000) window0 ∧ runs .snapWindowEnd window0 ∧ runs (.snapLocalLatch .l1) unacked ∧
    runs .blackboxFrameWritten window0 ∧ runs .blackboxFrameWritten store32 ∧ runs (.snpBankRelease 0x1FF) op :=
  have k := fun s t f n => h s (.exclusion .l2) t 10000 .l1 0x80000000 f n
  have o := k op 5 (bbFrame true) 0
  ⟨ran' (o.1 rfl rfl (by decide +kernel)).1, ran' ((o.1 rfl rfl (by decide +kernel)).2 (by decide)),
   ran' (o.2.1 (by decide +kernel) rfl (by decide +kernel) (by decide)),
   ran' ((k window0 10000 (bbFrame false) 0).2.2.1 rfl ⟨0, rfl, by decide⟩ rfl), ran (k window0 0 (bbFrame true) 0).2.2.2.1,
   ran' ((k unacked 0 (bbFrame true) 0).2.2.2.2.1 rfl (by decide)),
   ran' ((k window0 0 (bbFrame false) 0).2.2.2.2.2.1 rfl (by decide +kernel) (by decide +kernel)).1,
   ran' ((k store32 0 (bbFrame true) 32).2.2.2.2.2.1 rfl (by decide +kernel) (by decide +kernel)).1,
   ran' ((h op .snapIn 0 0 .l1 0x1FF (bbFrame true) 0).2.2.2.2.2.2 (by decide +kernel))⟩

/-! ## Service registers -/

/-- Block UPL_ after the first key word, or unlocked since 0. -/
def lockOf (k : Lock) : State := { op with regs := { locks := [(0, k)] } }

theorem witness_LockAndAddressMap (h : Obligations.LockAndAddressMap) :
    runs (.lockKeyWrite .upl 0x3C5A 10000000) (lockOf { seq1 := true }) ∧
    ((after (.lockKeyWrite .upl 0x3C5A 5) (lockOf { seq1 := true })).lock .upl).unlocked = true ∧
    runs (.lockRead .upl) op ∧ runs (.lockTimeout .upl 10000000) (lockOf { unlocked := true }) ∧
    runs (.registerWrite 0x40000000 16 1 5) op ∧ runs (.registerWrite 0x40000002 32 1 5) op ∧
    runs (.registerWrite 0x41000000 32 1 5) op ∧ runs (.registerWrite 0x412FFFFC 32 1 5) op ∧
    runs (.registerWrite 0x41300000 32 1 5) op ∧ runs (.registerWrite 0x4000FFF8 32 1 5) op ∧ runs (.mirrorRefresh .l3) op :=
  have k := fun s v t addr bits => h s .upl v t addr bits 1 .l3
  have a := fun addr bits => ((k op 0 5 addr bits (by decide +kernel)).2.2.2.1 rfl (by unfold State.flagOk; decide +kernel))
  ⟨ran' (k (lockOf { seq1 := true }) 0x3C5A 10000000 0 0 (by decide +kernel)).1,
   ((leaves (k (lockOf { seq1 := true }) 0x3C5A 5 0 0 (by decide +kernel)).1).2.2.1 rfl (by decide +kernel)).1,
   ran' (k op 0 5 0 0 (by decide +kernel)).2.1,
   ran' ((k (lockOf { unlocked := true }) 0 10000000 0 0 (by decide +kernel)).2.2.1 rfl (by decide +kernel)),
   ran' ((a 0x40000000 16).1 (.inl (by decide))), ran' ((a 0x40000002 32).1 (.inr (by decide))),
   ran' ((a 0x41000000 32).2.1 rfl (by decide) (by decide)), ran' ((a 0x412FFFFC 32).2.1 rfl (by decide) (by decide)),
   ran' ((a 0x41300000 32).2.2 rfl (by decide) (by decide) (by decide)),
   let ⟨_, _, e⟩ := (k op 0 5 0x4000FFF8 32 (by decide +kernel)).2.2.2.2.1 (by decide) (by decide) (by decide); ran e,
   ran' ((k op 0 5 0 0 (by decide +kernel)).2.2.2.2.2 rfl (by decide +kernel) (by decide))⟩

/-- Queue 0 of lane 1 as given. -/
def q0 (q : Queue) : State := { op with queues := [(0, q)] }
def words (n : Nat) : List (BitVec 63) := List.replicate n 5

theorem witness_HardwareQueues (h : Obligations.HardwareQueues) :
    runs (.quePush 0 5) (q0 { words := words 63 }) ∧
    ((after (.quePush 0 5) (q0 { words := words 63 })).queue 0).words = words 63 ++ [5] ∧
    (after (.quePush 0 5) (q0 { words := words 64 })).queue 0 = { words := words 64, ovf := 1 } ∧
    (after (.quePush 0 5) (q0 { en := false })).queue 0 = { en := false, drop := 1 } ∧
    runs (.queDataRead 0) (q0 { words := [5, 6] }) ∧ runs (.queEnable 0 false) op ∧ runs (.queFlush 0 5) op ∧
    runs (.queErrRead 0) op ∧ runs (.queWmWrite 0 0x00400000 5) op ∧ runs (.queCfgWrite 0 128 5) (q0 { en := false }) ∧
    runs (.queWmWrite 100 0x00400000 5) op ∧ runs (.queCfgWrite 100 128 5) op :=
  have k := fun s q v => h s q 5 5 5 [6] v false
  have o := k op 0 0x00400000 (by decide +kernel)
  have l := (k op 100 0x00400000 (by decide +kernel)).2.2.2.2.2.2 rfl (by decide +kernel) (by decide)
  have p := fun q => (k (q0 q) 0 0 (show op.queueOn 0 = true by decide +kernel)).1
  have d := fun s (e : s.queueOn 0 = true) => (k s 0 128 e).2.2.2.2.2.1 (.inl rfl)
  ⟨ran' (p { words := words 63 }), (leaves (p { words := words 63 })).2.1 rfl (by decide +kernel),
   (leaves (p { words := words 64 })).2.2.1 rfl (by decide +kernel), (leaves (p { en := false })).2.2.2 rfl,
   ran' (k (q0 { words := [5, 6] }) 0 0 (by decide +kernel)).2.1, ran' o.2.2.1, ran' o.2.2.2.1, ran' o.2.2.2.2.1,
   ran' (o.2.2.2.2.2.1 (.inl rfl)).1, ran' (d (q0 { en := false }) (by decide +kernel)).2, ran' l.1,
   ran' (h op 100 5 5 5 [6] 128 false (by decide +kernel) |>.2.2.2.2.2.2 rfl (by decide +kernel) (by decide)).2⟩

/-- Check engine 0 as given; the PTP clock in the GX2 mode, and PTP_ unlocked. -/
def chk0 (e : CheckEngine) : State := { op with chk := [(0, e)] }
def crcEngine (len addr : Nat) (busy : Bool) : CheckEngine := { poly := 0x1D, len := len, addr := addr, busy := busy }
def gx2 : State := { op with ptp := { gx2Now := true }, regs := { locks := [(1, { unlocked := true })] } }

theorem chk0_on (e : CheckEngine) : (chk0 e).svcOn = true := show op.svcOn = true by decide +kernel

theorem witness_CheckEnginesAndPtpRegisters (h : Obligations.CheckEnginesAndPtpRegisters) :
    runs (.chkStart 0 true) (chk0 {}) ∧
    (after (.chkStart 0 true) (chk0 (crcEngine 32 0x1FFFFFE0 false))).chkEngine 0 =
      { crcEngine 32 0x1FFFFFE0 true with remain := 32 } ∧
    ((after (.chkStart 0 true) (chk0 (crcEngine 33 0x1FFFFFE0 false))).chkEngine 0).code = 1 ∧
    ((after (.chkStart 0 true) (chk0 { crcEngine 32 0 false with init := 0x100 })).chkEngine 0).code = 2 ∧
    runs (.chkValueWrite 0 7) (chk0 {}) ∧ runs (.chkStart 0 true) (chk0 (crcEngine 32 0 true)) ∧
    runs (.chkValueWrite 0 7) (chk0 (crcEngine 32 0 true)) ∧ runs (.chkScanEnd 0 none) (chk0 (crcEngine 32 0 true)) ∧
    runs (.chkScanEnd 0 (some 31)) (chk0 (crcEngine 32 0 true)) ∧ runs (.chkAbort 0) (chk0 (crcEngine 32 0 true)) ∧
    runs (.ptpModeWrite 3 10000000) gx2 ∧ runs (.ptpIncrWrite 0x800346DC6) gx2 ∧
    (after (.ptpIncrWrite 0x800346DC6) gx2).ptp.incr = 0x800346DC6 ∧
    (after (.ptpIncrWrite 0x800346DC7) gx2).ptp.incrRange = true ∧
    (after (.ptpIncrWrite 0x7FFCB923A) gx2).ptp.incr = 0x7FFCB923A ∧
    (after (.ptpIncrWrite 0x7FFCB9239) gx2).ptp.incrRange = true ∧ runs (.ptpIncrWrite 5) op :=
  have k := fun e => h (chk0 e) 0 31 7 3 10000000 true (chk0_on e)
  have g := fun v => (h gx2 0 31 v 3 10000000 true (by decide +kernel)).2.2
  have busy := (k (crcEngine 32 0 true)).2.1 rfl
  have w := fun v => (leaves (g v).2).2.2 rfl
  have j := fun e i => (leaves ((k e).1 i).1).2.2
  ⟨ran' ((k {}).1 rfl).1,
   ((j (crcEngine 32 0x1FFFFFE0 false) rfl).2.2 (by decide) (by decide +kernel) (by decide +kernel) (by decide +kernel)).2
     (by decide +kernel),
   (((j (crcEngine 33 0x1FFFFFE0 false) rfl).2.2 (by decide) (by decide +kernel) (by decide +kernel) (by decide +kernel)).1
     (by decide +kernel)).1,
   ((j { crcEngine 32 0 false with init := 0x100 } rfl).2.1 (by decide) (.inr (.inl (by decide +kernel)))).1,
   ran ((k {}).1 rfl).2, ran' busy.1, ran' busy.2.1, ran' busy.2.2.1, ran' (busy.2.2.2.1 (by decide)),
   let ⟨u, _, e⟩ := busy.2.2.2.2; ⟨u, e.1⟩, ran' ((g 0).1 (by decide +kernel)), ran' (g 0x800346DC6).2,
   (w 0x800346DC6).1 (by decide) (by decide), ((w 0x800346DC7).2 (.inr (by decide))).2,
   (w 0x7FFCB923A).1 (by decide) (by decide), ((w 0x7FFCB9239).2 (.inl (by decide))).2,
   ran' (h op 0 0 5 0 0 true (by decide +kernel)).2.2.2⟩

/-! ## The block as a whole -/

/-- Lanes 1 and 2 close their switches of channel 1. -/
def lit : State := withLanes (fun L => { L with switches := [(1, 7)] }) op

theorem op_flag : op.flagOk := by unfold State.flagOk; decide +kernel
theorem lit_safe : lit.switchesSafe := fun ln e => absurd (show lit.laneState ln = .inVote by cases ln <;> decide +kernel) e
theorem op_step : step { op with pending := [.readState 0] } = .next op := by rfl
theorem op_mem : ({ op with pending := [.readState 0] } : State).memOk := by unfold State.memOk; decide +kernel

theorem witness_FlagKept (h : Obligations.FlagKept) : op.flagOk := h { op with pending := [.readState 0] } op op_flag op_step
theorem witness_SwitchesKept (h : Obligations.SwitchesKept) : op.switchesSafe :=
  h { op with pending := [.readState 0] } op
    (fun ln e => absurd (show op.laneState ln = .inVote by cases ln <;> decide +kernel) e) op_step
theorem witness_MemoryKept (h : Obligations.MemoryKept) : op.memOk := h { op with pending := [.readState 0] } op op_mem op_step

theorem witness_EnergisedByTwoLanes (h : Obligations.EnergisedByTwoLanes) :
    lit.energised 1 = true ∧ 2 ≤ lit.voters.length :=
  have k := h lit 1 lit_safe
  have e := k.2 (by decide +kernel) ⟨.l1, .l2, by decide, by decide +kernel⟩
  ⟨e, (k.1 e).1⟩

theorem witness_ServiceNeverPermits (h : Obligations.ServiceNeverPermits) :
    wharfBusCommand (.channelModeChange 0) = true ∧ serviceCommand .snapWindowEnd = true ∧
    (after (.channelModeChange 0) op).module = op.module ∧ (after .snapWindowEnd op).module = op.module :=
  ⟨rfl, rfl, ((h op op (.channelModeChange 0) (by rfl)).1 rfl).2.2,
   ((h op _ .snapWindowEnd rfl).2 rfl).1⟩

end Sys2Proof.Tests
end

