-- ==== Sys2Proof/Tests/WitnessRoute.lean ====
section
/-! SUPPORT. For each statement about the route engine, states and operands that meet its hypotheses. -/

namespace Sys2Proof.Tests

set_option Elab.async false

open Sys2Proof Sys2Proof.Machine

/-! ## The route engine -/

/-- What a computation answers that goes well. -/
def got {ε α : Type} (d : α) (e : Except ε α) : α :=
  match e with
  | .ok x => x
  | .error _ => d

theorem got_eq {ε α : Type} {d : α} {e : Except ε α} (h : e.isOk = true) : e = .ok (got d e) :=
  match e, h with
  | .ok _, _ => rfl

/-- The computation goes well, with a property of its answer. -/
def gives {ε α : Type} (e : Except ε α) (P : α → Prop) : Prop := ∃ d, e = .ok d ∧ P d

/-- The entry signal, a section, a point and an approach section, as read. -/
def sigLine : Line := ⟨300, true, true, true, [0, vFalse, -1, 0, 0, 0, 0, 0]⟩
def secLine (clear : Int) (ok : Bool) : Entry := ⟨0, 1, 0, 101, 0, some ⟨101, ok, true, true, [clear, 0, 0, -1, -1, 0, 0, 0]⟩, none, 0⟩
def ptLine (det : Int) (proof : Bool) : Entry := ⟨1, 2, 1, 200, 0, some ⟨200, true, true, proof, [0, det, 0, -1, 0, 0, 0, -1]⟩, none, 0⟩
def near : Entry := ⟨2, 9, 0, 100, 0, some ⟨100, true, true, true, [vFalse, 0, 0, -1, -1, 0, 0, 0]⟩, none, 0⟩
def time11 : Entry := ⟨3, 11, 0, 0, 10, none, none, 0⟩
def view (st : Int) (es : List Entry) : RouteView := ⟨12, 4096, st, 0, 100, sigLine, es⟩

/-- A level crossing that is not proven. -/
def lxLine : Entry := ⟨0, 8, 0, 400, 0, some ⟨400, true, true, false, [vTrue, 0, 0, 0, 0, 0, 0, 0]⟩, none, 0⟩

/-- The parts of one evaluation of route 12 in lane 1. -/
def engQ (kind : Nat) : RouteReq := ⟨1, 100, 12, kind, 10002⟩
def engLane (kind : Nat) (cn : U32) (w : Site) : Lane := (route12 cn w kind).lane .l1
def engG (kind : Nat) (cn : U32) (w : Site) : Lane := got (lane 1) ((engLane kind cn w).genBefore .p1 10002 12)
def engL1 (kind : Nat) (cn : U32) (w : Site) : Lane :=
  feedRequest { engG kind cn w with route := { (engG kind cn w).route with queue := [] } } (engQ kind)
def engRoute (kind : Nat) (cn : U32) (w : Site) : Except TFault RouteView := readRoute (engL1 kind cn w) .p1 10002 12

theorem witness_RouteDecisions (h : Obligations.RouteTransitionsAndEvaluation) :
    gives (decideSet (view 0 [secLine vTrue true, ptLine 1 false]) 8) (fun d => d.state = 7) ∧
    gives (decideSet (view 7 [secLine vTrue true, { near with kind := 7, opp := 2 }]) 8) (fun d => d.state = 1) ∧
    gives (decideSet (view 1 [secLine vTrue true, ptLine 0 true]) 8) (fun d => d.state = 2) ∧
    gives (decideCancel (view 7 [secLine vTrue true]) 8) (fun d => d.state = 0) ∧
    gives (decideSet (view 2 [secLine vTrue true, ptLine 1 true]) 8) (fun d => d.state = 3) ∧
    gives (decideSet (view 3 [secLine vTrue true, ptLine 1 true]) 8) (fun d => d.state = 4) ∧
    gives (decideSet (view 4 [secLine vTrue true, ptLine 1 true]) 8) (fun d => d.state = 4) ∧
    gives (decideSet (view 4 [secLine vTrue true, ptLine 0 true]) 8) (fun d => d.state = 3) ∧
    (enter (view 5 [secLine vFalse true]) 8).state = 6 ∧
    gives (decideCancel (view 3 [secLine vTrue true, near, time11]) 8) (fun d => d.state = 5) ∧
    gives (decideSet (view 5 [secLine vTrue true, time11]) 8) (fun d => d.state = 3) ∧
    gives (decideCancel (view 5 [secLine vTrue true, time11]) 99) (fun d => d.state = 5) ∧
    gives (decideSet (view 0 [lxLine]) 8) (fun d => d.state = 7) :=
  have k := fun st es cn ov => h.1 (view st es) cn ov
  have g : ∀ {e : Except TFault Decision} {x : Int} {P : Decision → Prop}, (∃ d, e = .ok d ∧ d.state = x ∧ P d) →
      gives e (fun d => d.state = x) := fun ⟨d, a, b, _⟩ => ⟨d, a, b⟩
  ⟨g (((k 0 _ 8 []).1 (.inl rfl)).1 (256 * 1 + 0x20) (by decide +kernel)),
   g (((k 7 _ 8 []).1 (.inr (.inr rfl))).2.1 (256 * 2 + 0x11) (by decide +kernel) (by decide +kernel)),
   g (((k 1 _ 8 [(keyE 200 8, 1), (keyE 200 11, 12), (keyE 101 11, 12), (keyE 101 13, 1)]).1 (.inr (.inl rfl))).2.2.1
     (by decide +kernel) (by decide +kernel) (by rfl)),
   g (((k 7 [secLine vTrue true] 8 []).1 (.inr (.inr rfl))).2.2.2),
   g ((k 2 _ 8 []).2.1 rfl (by decide +kernel)), g ((k 3 _ 8 []).2.2.1 rfl (by decide +kernel)),
   g (((k 4 _ 8 []).2.2.2.1 rfl (by decide +kernel)).1 (by decide +kernel)),
   g (((k 4 _ 8 []).2.2.2.1 rfl (by decide +kernel)).2 1 0x14 (by decide +kernel)),
   ((k 5 _ 8 []).2.2.2.2.1 (.inr rfl) (by decide +kernel)).2.2.1,
   g ((k 3 _ 8 []).2.2.2.2.2.1 (.inl rfl) ⟨near, by decide +kernel, rfl, _, .head _, .inr (by decide +kernel)⟩),
   g (((k 5 _ 8 []).2.2.2.2.2.2 rfl (by decide +kernel)).1),
   g (((k 5 _ 99 []).2.2.2.2.2.2 rfl (by decide +kernel)).2 (.inr (by decide +kernel))),
   g (h.2.2 (view 0 [lxLine]) 8 [] lxLine rfl rfl rfl rfl rfl ⟨_, rfl, rfl⟩ rfl rfl rfl)⟩

/-- A route with approach locking; what an evaluation reads, decides and commits. -/
def approach : Site := { checked with state := 5, s1 := (vFalse, 12) }
def engView (kind : Nat) (cn : U32) (w : Site) : RouteView := got (view 0 []) (engRoute kind cn w)
def engDec (e : Except TFault Decision) : Decision := got (keep (view 0 []) 0 0) e
def setDec : Decision := engDec (decideSet (engView 0 1200 {}) 1200)
def cancelDec : Decision := engDec (decideCancel (engView 1 1201 checked) 1201)
def irelDec : Decision := engDec (freeAll (engView 15 1200 approach) true 0x08)
def engL2 (kind : Nat) (cn : U32) (w : Site) : Lane := (engL1 kind cn w).correctWords .p1 (engView kind cn w).keys
def engCommit (kind : Nat) (cn : U32) (w : Site) (d : Decision) : Except TFault Lane :=
  commit .p1 10002 (engView kind cn w) d (engL2 kind cn w)
def checkWrite : Except TFault Lane :=
  engWrite .p1 10002 (13 + 4 * (engView 2 1200 {}).entries.length) (keyRoute 12 5) (decideCheck (engView 2 1200 {})).out
    (engL2 2 1200 {})

def after0 : Lane := got (lane 1) (engCommit 0 1200 {} setDec)
def after1 : Lane := got (lane 1) (engCommit 1 1201 checked cancelDec)
def after2 : Lane := got (lane 1) checkWrite
def after15 : Lane := got (lane 1) (engCommit 15 1200 approach irelDec)

theorem set_ok : decideSet (engView 0 1200 {}) 1200 = .ok setDec := got_eq (d := keep (view 0 []) 0 0) (by decide +kernel)
theorem cancel_ok : decideCancel (engView 1 1201 checked) 1201 = .ok cancelDec := got_eq (d := keep (view 0 []) 0 0) (by decide +kernel)
theorem irel_ok : decideIrel (engView 15 1200 approach) = .ok (some irelDec) := by decide +kernel
theorem commit0_ok : engCommit 0 1200 {} setDec = .ok after0 := got_eq (by decide +kernel)
theorem commit1_ok : engCommit 1 1201 checked cancelDec = .ok after1 := got_eq (by decide +kernel)
theorem check_ok : checkWrite = .ok after2 := got_eq (by decide +kernel)
theorem commit15_ok : engCommit 15 1200 approach irelDec = .ok after15 := got_eq (by decide +kernel)

theorem witness_RouteTransitionsAndEvaluation (h : Obligations.RouteTransitionsAndEvaluation) :
    runs (.routeSet .l1) (route12 1200 {} 0) ∧ runs (.routeCancel .l1) (route12 1201 checked 1) ∧
    runs (.routeCheck .l1) (route12 1200 {} 2) ∧ runs (.irel .l1) (route12 1200 {} 15) ∧
    runs (.irel .l1) (route12 1200 approach 15) :=
  have r := fun (kind : Nat) (cn : U32) (w : Site) (g : ((engLane kind cn w).genBefore .p1 10002 12).isOk = true)
      (ok : (engRoute kind cn w).isOk = true) (d : Decision) (M : Lane) =>
    h.2.1 (route12 cn w kind) .l1 .p1 (engQ kind) [] (engG kind cn w) M (engView kind cn w) d rfl rfl rfl (got_eq g)
      (got_eq ok)
  ⟨ran ((r 0 1200 {} (by decide +kernel) (by decide +kernel) setDec after0).1 rfl set_ok commit0_ok),
   ran ((r 1 1201 checked (by decide +kernel) (by decide +kernel) cancelDec after1).2.1 rfl cancel_ok commit1_ok),
   ran ((r 2 1200 {} (by decide +kernel) (by decide +kernel) setDec after2).2.2.1 rfl check_ok),
   ran (((r 15 1200 {} (by decide +kernel) (by decide +kernel) setDec after0).2.2.2.1 rfl).1 (by decide +kernel)),
   ran (((r 15 1200 approach (by decide +kernel) (by decide +kernel) irelDec after15).2.2.2.1 rfl).2.1 irel_ok commit15_ok)⟩

theorem set_range : inS32 setDec.state = true ∧ inS32 setDec.out = true ∧ inS32 setDec.progress = true ∧
    inS32 setDec.time = true ∧ inS32 setDec.route = true ∧ (engView 0 1200 {}).r < 8192 ∧
    (engView 0 1200 {}).sig.id < 16384 := by decide +kernel

theorem witness_CommitWritesDecision (h : Obligations.CommitWritesDecision) :
    after0.plainIn .p1 (keyRoute (engView 0 1200 {}).r 0) = setDec.state :=
  have ⟨a, b, c, d, e, f, g⟩ := set_range
  (h .p1 10002 (engView 0 1200 {}) setDec (engL2 0 1200 {}) after0 commit0_ok a b c d e f g).1

end Sys2Proof.Tests
end

