-- ==== Sys2Proof/Tests/WitnessService.lean ====
section
/-! SUPPORT. For each statement about maintenance access, change, power, boot and the self-test, states and operands that
meet its hypotheses. -/

namespace Sys2Proof.Tests

set_option Elab.async false

open Sys2Proof Sys2Proof.Machine

/-! ## Maintenance access -/

/-- Twelve characters; an account with a password hash, and one without a password: the factory account, or another. -/
def pass12 : List Byte := List.replicate 12 65
def withPw (locked : Option Nat) : Account := ⟨.maintainer, 7, some 9, 0, locked⟩
def factory : Account := ⟨.commissioner, 7, none, 0, none⟩
def noPw (fails : Nat) : Account := ⟨.maintainer, 7, none, fails, none⟩
/-- A Commissioner's session 0, and account 1 as given. -/
def acct (a : Account) : State :=
  { withSession op with access :=
    { accounts := [(0, some ⟨.commissioner, 0, some 5, 0, none⟩), (1, some a)], sessions := [(0, some ⟨0, .commissioner, 0⟩)] } }
/-- 31 accounts. -/
def accts31 : State :=
  { withSession op with access :=
    { accounts := (List.range 31).map (fun n => (n, some ⟨.commissioner, 0, some 5, 0, none⟩))
      sessions := [(0, some ⟨0, .commissioner, 0⟩)] } }

theorem witness_SessionsAndAccounts (h : Obligations.SessionsAndAccounts) :
    runs (.login 1 pass12 5) { acct factory with module := .closed } ∧ runs (.login 1 pass12 5) (acct (noPw 3)) ∧
    runs (.login 1 pass12 5) (acct (noPw 4)) ∧ runs (.login 1 pass12 5) (acct (withPw (some 5))) ∧
    runs (.accountUnlock 1 300000000005) (acct (withPw (some 5))) ∧ runs (.logout 0) (acct (noPw 0)) ∧
    runs (.sessionTimeout 0 1800000000000) (acct (noPw 0)) ∧ runs (.accountCreate 0 31 .observer pass12) accts31 ∧
    runs (.accountRemove 0 1) (acct (noPw 0)) ∧ runs (.passwordChange 0 1 pass12) (acct (noPw 0)) :=
  have k := fun a t => h (acct a) 1 0 t pass12 a ⟨0, .commissioner, 0⟩ .observer rfl
  have c := (k (noPw 0) 5).2.2.2.2 (by decide +kernel) (by decide +kernel)
  have c31 := (h accts31 31 0 5 pass12 (noPw 0) ⟨0, .commissioner, 0⟩ .observer rfl).2.2.2.2 (by decide +kernel)
    (by decide +kernel)
  have f := (h { acct factory with module := .closed } 1 0 5 pass12 factory ⟨0, .commissioner, 0⟩ .observer rfl).1 rfl rfl
  ⟨ran' (f.1 (by decide +kernel)), ran' (((k (noPw 3) 5).1 rfl rfl).2 (by decide +kernel)),
   ran' (((k (noPw 4) 5).1 rfl rfl).2 (by decide +kernel)), ran' ((k (withPw (some 5)) 5).2.1 rfl rfl),
   ran' ((k (withPw (some 5)) 300000000005).2.2.1 rfl ⟨5, rfl, by decide⟩), ran' ((k (noPw 0) 5).2.2.2.1 rfl).1,
   ran' (((k (noPw 0) 1800000000000).2.2.2.1 rfl).2 (by decide)),
   let ⟨u, _, e⟩ := c31.1 rfl (by decide +kernel); ⟨u, e.1⟩, ran' (c.2 rfl).1, let ⟨u, _, e⟩ := (c.2 rfl).2; ⟨u, e.1⟩⟩

/-- Records whole and torn, a frame, and an export mark. -/
def frameOf (prot : Bool) : BbFrame :=
  ⟨3, (jump 0 0).time, 1, ⟨none, none, none⟩, 0, 0, prot, false, false, false, ⟨none, none, none⟩, ⟨none, none, none⟩, ⟨none, none⟩,
   none, ⟨[], [], []⟩, []⟩
def books : State := { withSession op with
  log := { stopped := false, slots := [(0, some (jump 0 0)), (1, some (jump 1 0))], seq := 5
           exportMark := some 3 }
  snap := { ring := [(2, some (frameOf true))] } }

theorem witness_ReadingExportAndLaneCommands (h : Obligations.ReadingExportAndLaneCommands) :
    runs (.readState 1) books ∧ runs (.readLogbook 1 0 true) books ∧ runs (.readLogbook 1 1 false) books ∧ runs (.readBlackbox 1 2) books ∧
    runs (.blackboxExport 1 2) books ∧ runs (.logExport 1 4) books ∧ runs (.logExport 1 5) books ∧
    runs (.restrictiveForce 1 300) (withSession op) ∧ runs (.removeRestrictiveForce 1 300) (withSession op) ∧
    runs (.individualRelease 1 12) (withSession op) ∧ runs (.forceValue 0 (.elem 300) 1) (withSession op) ∧
    runs (.removeForcedValue 0 (.sdr 0)) (withSession op) ∧ runs (.onlineChange 0) (withSession op) :=
  have k := fun slot seq r => h.1 books 1 slot seq r (frameOf true) (by decide +kernel)
  have a := fun slot seq r => (k slot seq r).2 (by decide +kernel)
  have m := fun n i c p => h.2 (withSession op) 1 n ⟨1, .maintainer, 0⟩ (.sdr 0) 0 i c rfl (.inl ⟨by decide +kernel, p⟩)
  have q := fun i c p => h.2 (withSession op) 0 0 ⟨0, .commissioner, 0⟩ (.elem 300) 1 i c rfl (.inr ⟨by decide +kernel, p⟩)
  have q2 := fun i c p => h.2 (withSession op) 0 0 ⟨0, .commissioner, 0⟩ (.sdr 0) 1 i c rfl (.inr ⟨by decide +kernel, p⟩)
  ⟨ran (k 0 4 (jump 0 0)).1, ran ((a 0 4 (jump 0 0)).1 rfl).1, ran' ((a 1 4 (jump 1 0)).1 rfl).2, ran ((a 2 4 (jump 0 0)).2.1 rfl).1,
   ran' ((a 2 4 (jump 0 0)).2.1 rfl).2, ran' (a 2 4 (jump 0 0)).2.2, ran' (a 2 5 (jump 0 0)).2.2,
   ran' (m 300 _ _ (.inl ⟨rfl, rfl⟩)), ran' (m 300 _ _ (.inr (.inl ⟨rfl, rfl⟩))), ran' (m 12 _ _ (.inr (.inr ⟨rfl, rfl⟩))),
   ran' (q _ _ (.inl ⟨rfl, rfl⟩)), ran' (q2 _ _ (.inr (.inl ⟨rfl, rfl⟩))), ran' (q2 _ _ (.inr (.inr ⟨rfl, rfl⟩)))⟩

/-! ## Change -/

/-- A header that passes, the manifest of it, and flash that takes it. -/
def goodHdr : ManHeader := { hdr with magic := 0x4758334D, hdrLen := 0x400, bodyLen := 1, number := 4, combo := [⟨0, 0, 0⟩] }
def goodMan : Manifest := ⟨goodHdr, { body with words := [] }⟩
def sig3 : Tri Bool := ⟨true, true, true⟩
def signed (s : State) : State := withLanes (fun L => { L with flash := { L.flash with signers := [(1, 0)] } }) s
def closed : State := signed { withSession op with module := .closed }
def loadIn : State := { closed with change := { loading := some goodHdr, loadLanes := [.l1, .l2, .l3] } }
/-- The slot that is not active, LOADED or VERIFIED. -/
def slot1 (st : Nat) (m : Manifest) (s : State) : State :=
  withLanes (fun L => { L with flash := { L.flash with
    man1 := some m, cfgA := some { activeMan := some 0, slot0State := 2, slot1State := st } } }) s

theorem witness_ManifestLoading (h : Obligations.ManifestLoading) :
    runs (.signingKeyEnrol 0 2 0) closed ∧ runs (.signingKeyRemove 0 1) closed ∧
    runs (.signingKeyEnrol 0 2 0) (withSession op) ∧ runs (.signingKeyRemove 0 2) (withSession op) ∧
    runs (.manifestLoad 0 hdr sig3) closed ∧ runs (.manifestLoad 0 goodHdr sig3) closed ∧
    runs (.manifestBodyWritten goodMan ⟨true, false, true⟩) loadIn ∧
    runs (.manifestVerified 1 ⟨true, false, true⟩) (slot1 1 goodMan op) ∧
    runs (.manifestStaged ⟨1, 1, 1⟩) (slot1 2 goodMan op) ∧ runs (.manifestStaged ⟨1, 2, 1⟩) (slot1 2 goodMan op) :=
  have k := fun s hd hash crcs key sg => h s 0 1 hd sig3 hash hash goodMan goodMan sg key .l1 crcs {} id
  have c := fun hd key sg => (k closed hd sig3 ⟨1, 1, 1⟩ key sg).2.1 (by decide +kernel)
  have o := ((k (withSession op) hdr sig3 ⟨1, 1, 1⟩ 0 2).2.1 (by decide +kernel)).2.1 (by decide)
  ⟨ran' (((c hdr 0 2).1 rfl (by decide +kernel)).1 (by decide +kernel)), ran' ((c hdr 0 1).1 rfl (by decide +kernel)).2,
   ran' o.1, ran' o.2, ran' ((c hdr 0 1).2.2.1 ⟨.l1, by decide +kernel, by decide +kernel⟩),
   ran' ((c goodHdr 0 1).2.2.2 (fun v _ => by cases v <;> decide +kernel) (by decide +kernel)),
   ran' ((k loadIn hdr ⟨true, false, true⟩ ⟨1, 1, 1⟩ 0 1).2.2.1 rfl (by decide +kernel) (by decide +kernel)),
   ran' ((k (slot1 1 goodMan op) hdr ⟨true, false, true⟩ ⟨1, 1, 1⟩ 0 1).2.2.2.2.1 (by decide +kernel) (by decide +kernel) rfl),
   ran (((k (slot1 2 goodMan op) hdr sig3 ⟨1, 1, 1⟩ 0 1).2.2.2.2.2 (by decide +kernel)).1
     (fun v _ => by cases v <;> decide +kernel)),
   ran (((k (slot1 2 goodMan op) hdr sig3 ⟨1, 2, 1⟩ 0 1).2.2.2.2.2 (by decide +kernel)).2
     ⟨.l2, by decide +kernel, by decide +kernel⟩)⟩

/-- A loaded firmware set that COMBO names, and one that it does not. -/
def loadedSet (c : Combo) : State := { withSession op with change := { loaded := some c } }
/-- A manifest based on the running one, staged, with the switch due in CN 9 of lanes that have committed or not. -/
def nextMan : Manifest := { man with hdr := { man.hdr with base := 3, number := 4, combo := [⟨0, 0, 0⟩] } }
def switchIn (com key : Bool) : State :=
  { withLanes (fun L => { L with committed := com, supC := { L.supC with keyClosed := key } }) (slot1 2 nextMan op) with
    change := { staged := some 1, switchCn := some 9 } }

theorem witness_ActivationAndSwitch (h : Obligations.ActivationAndSwitch) :
    runs (.activatePending 0 1 2) (withSession op) ∧ runs (.slotSelect 0 1 5) closed ∧
    runs (.firmwareLoad 0 ⟨2, 2, 2⟩ true) (withSession op) ∧ runs (.firmwareLoad 0 ⟨2, 2, 2⟩ false) (withSession op) ∧
    runs (.firmwareActivate 0) (loadedSet ⟨1, 1, 1⟩) ∧ runs (.firmwareActivate 0) (loadedSet ⟨2, 2, 2⟩) ∧
    runs .switchDecision (switchIn false true) ∧ runs .switchDecision (switchIn true false) ∧
    runs .switchDecision (switchIn true true) :=
  have k := fun s set => h s 0 1 2 5 set .l1 9 nextMan (1, 0)
  have a := fun s set c => (k s set).1 c
  have w := fun com key => (k (switchIn com key) ⟨2, 2, 2⟩).2 rfl rfl (by rfl)
  have o := a (withSession op) ⟨2, 2, 2⟩ (by decide +kernel)
  have l := fun set c => (a (loadedSet set) set c).2.2.2.2 rfl
  ⟨ran' (o.1 (by decide +kernel) (.inr rfl)), ran' ((a closed ⟨2, 2, 2⟩ (by decide +kernel)).2.1 rfl (by decide)),
   ran' o.2.2.1, ran' o.2.2.2.1,
   ran' ((l ⟨1, 1, 1⟩ (by decide +kernel)).1 (fun m e => by cases e; decide +kernel)),
   ran' ((l ⟨2, 2, 2⟩ (by decide +kernel)).2 ⟨man, rfl, by decide +kernel⟩), ran ((w false true).1 rfl),
   ran' ((w true false).2.1 rfl (by decide +kernel)), ran' ((w true true).2.2 rfl (by decide +kernel))⟩

/-! ## Power -/

/-- Both feeds below 15.0 V; the same after the warning; no power, with a feed back. -/
def fed (pfw : Bool) : State := { op with power := { op.power with feedMv := (14999, 14999), pfw := pfw } }
def dark : State := { State.reset with power := { pfOk := (false, true) } }

theorem witness_PowerFailAndReturn (h : Obligations.PowerFailAndReturn) :
    pfStep false 16801 = true ∧ pfStep true 16299 = false ∧ pfStep true 16300 = true ∧ pfStep false 16800 = false ∧
    runs (.feedLevelChange 1 16000) op ∧ runs .powerFailWarning (fed false) ∧ runs .domainPowerDown (fed true) ∧
    runs (.powerGood 5 1600000) dark ∧ runs (.powerGood 5 2000000) dark :=
  have k := fun s feed mv off b => h s feed mv 5 off b
  ⟨(k op 0 16801 0 false).1 (by decide), (k op 0 16299 0 true).2.1 (by decide),
   (k op 0 16300 0 true).2.2.1 (by decide) (by decide), (k op 0 16800 0 false).2.2.1 (by decide) (by decide),
   ran' (k op 1 16000 0 true).2.2.2.1,
   ran' ((k (fed false) 0 0 0 true).2.2.2.2.1 (by decide) (by decide) (by decide +kernel) rfl),
   ran' ((k (fed true) 0 0 0 true).2.2.2.2.2.1 rfl),
   ran' ((k dark 0 0 1600000 true).2.2.2.2.2.2 rfl rfl (.inr rfl)),
   ran' ((k dark 0 0 2000000 true).2.2.2.2.2.2 rfl rfl (.inr rfl))⟩

/-- The sequencer at a domain; PWR_ unlocked for 10 ms. -/
def seqAt (d : Domain) : State := { op with power := { op.power with seq := [d] } }
def pwrOpen : State := { op with regs := { locks := [(6, { unlocked := true })] } }

def noTrips : Trips := ⟨[], [], []⟩

theorem witness_PowerDomains (h : Obligations.PowerDomains) :
    runs (.domainPowerGood .svc noTrips) (seqAt .svc) ∧ runs (.domainPgTimeout .vliof) (seqAt .vliof) ∧
    runs (.laneSupplyLoss .l1 false) op ∧ runs (.laneSupplyLoss .l1 true) op ∧ runs (.domainPgLoss .aon) op ∧
    runs (.domainPgLoss .nvm) op ∧ runs (.domainPgLoss .vliof) op ∧ runs (.domainPgLoss .svc) op ∧
    runs (.domainPgLoss .neta) op ∧ runs (.domainPgLoss .netb) op ∧ runs (.pwrReqOn 1 10000000) pwrOpen ∧
    runs (.pwrReqOn 0x800 10000000) pwrOpen ∧ runs (.pwrReqOff 0x018 10000000) pwrOpen ∧
    runs (.pwrReqOff 0x008 10000000) pwrOpen ∧ runs (.ibcFail 2) op ∧ runs (.vliofStageFail 1) op ∧
    runs (.unitselChange true true) op ∧ runs (.tempHigh 5 106) op :=
  have k := fun s d mask => h s d noTrips [] .l1 mask 10000000 5 true true 106
  have g := fun d e => (k op d 0).2.2.1 e
  have r := fun mask => (k pwrOpen .svc mask).2.2.2.1 (by decide +kernel) (by decide +kernel)
  have o := (k op .svc 0).2.2.2.2
  ⟨ran' ((k (seqAt .svc) .svc 0).1 rfl).1, ran' (((k (seqAt .vliof) .vliof 0).1 rfl).2 (by decide)),
   ran' ((k op .svc 0).2.1 rfl rfl rfl).1, ran' (((k op .svc 0).2.1 rfl rfl rfl).2 (by decide +kernel) rfl),
   ran' ((g .aon (by decide +kernel)).1 rfl), ran' ((g .nvm (by decide +kernel)).2.1 (.inl rfl)),
   ran' ((g .vliof (by decide +kernel)).2.1 (.inr rfl)), ran' ((g .svc (by decide +kernel)).2.2.1 rfl),
   ran' ((g .neta (by decide +kernel)).2.2.2.1 rfl), ran' ((g .netb (by decide +kernel)).2.2.2.2 rfl),
   ran' ((r 1).1 (by decide +kernel)), ran' ((r 0x800).2.1 (by decide +kernel)), ran' ((r 0x018).2.2.1 (by decide +kernel)),
   ran' ((r 0x008).2.2.2 (by decide +kernel)), ran' (h op .svc noTrips [] .l1 0 0 2 true true 106).2.2.2.2.1,
   ran' (h op .svc noTrips [] .l1 0 0 1 true true 106).2.2.2.2.2.1, ran' o.2.2.1, ran' o.2.2.2⟩

/-! ## Boot -/

/-- BOOT over a manifest that passes, with a partner configured or not; what it observes. -/
def bootMan (partner : Bool) : Manifest := { goodMan with body := { goodMan.body with partner := partner } }
def booting (partner : Bool) : State :=
  { signed (withLanes (fun L => { L with flash := { L.flash with man0 := some (bootMan partner) } }) op) with
    module := .boot
    pair := { status := ⟨some ⟨true, .operational, 69, 8, false, true, 7, 3, false, true, false, 9, 0⟩, none⟩ } }
def laneBoot (tick coded : Bool) : LaneBoot := ⟨true, 0, true, true, true, tick, coded, false⟩
def trips0 : Trips := ⟨List.replicate 64 440, List.replicate 64 440, List.replicate 64 440⟩
/-- Two lanes with a tick, or one; the unit coding in order or not. -/
def obs (two coded : Bool) : BootObs :=
  ⟨⟨laneBoot true coded, laneBoot two coded, laneBoot false coded⟩, 0, 0, 0, true, ⟨0, 0, 0⟩, trips0⟩
def standing : HwStatus := ⟨true, .operational, 69, 8, false, true, 7, 3, false, true, false, 9, 0⟩

theorem witness_BootOutcome (h : Obligations.BootOutcome) :
    runs (.bootTimeout 10000000000) (booting false) ∧ runs (.bootComplete 5 (obs false true)) (booting false) ∧
    runs (.bootComplete 5 (obs true false)) (booting false) ∧ runs (.bootComplete 5 (obs true true)) (booting true) ∧
    runs (.bootComplete 5 (obs true true)) (booting false) ∧
    (after (.bootComplete 5 (obs true true)) (booting false)).laneState .l1 = .inVote :=
  have k := fun p t o => h (booting p) t o standing rfl
  have v := fun p o e => (k p 5 o).2.2 e
  have e := (v false (obs true true) (by decide +kernel)).2.2 (by decide +kernel) (by decide +kernel)
  ⟨ran' ((k false 10000000000 (obs true true)).1 (by decide)),
   ran' ((k false 5 (obs false true)).2.1 (by decide +kernel)),
   ran' ((v false (obs true false) (by decide +kernel)).1 (by decide +kernel)),
   ran' ((v true (obs true true) (by decide +kernel)).2.1 (by decide +kernel) (by decide +kernel)),
   ran' e, ((leaves e).2.2 (by decide +kernel) (fun l => by cases l <;> decide +kernel) .l1 (by decide +kernel)).1⟩

/-! ## Restarts and the self-test -/

/-- Sessions in a module state; a claim holder with a READY partner; TEST with a manifest for TEST only or not. -/
def inState (m : ModState) : State := { withSession op with module := m }
def handing : State := { withSession op with pair := { holder := true, status := ⟨some standing, none⟩ } }
def mayTest : State := { inState .closed with change := { fullChecksPassed := true } }
def testMan (only : Bool) : State :=
  withLanes (fun L => { L with image := some { man with hdr := { man.hdr with testOnly := only } } }) (inState .test)
/-- The self-test with items left, or with none. -/
def bistRuns (left : Tbl (List Nat)) : State := { inState .halt with bist := { running := true, left := left } }

theorem witness_ModuleCommands (h : Obligations.ModuleCommandsAndSelfTest) :
    runs (.restartWarm 1 5) (withSession op) ∧ runs (.restartCold 1 5) (withSession op) ∧
    runs (.bistAbort 1 5) (bistRuns [(0, [3])]) ∧ runs (.plannedShutdown 1 5) handing ∧
    runs (.plannedShutdown 1 5) (withSession op) ∧ runs (.plannedShutdown 1 5) (inState .closed) ∧
    runs (.enterTest 0 5) mayTest ∧ runs (.enterTest 0 5) (withSession op) ∧ runs (.leaveTest 0 5) (testMan false) ∧
    runs (.leaveTest 0 5) (testMan true) ∧ runs (.moduleClose 0) (withSession op) :=
  have m := fun s e b => (h.1 s 1 5).1 e b
  have c := fun s e => (h.1 s 0 5).2 e
  ⟨ran' (m (withSession op) (by decide +kernel) rfl).1, ran' (m (withSession op) (by decide +kernel) rfl).2.1,
   ran' ((m (bistRuns [(0, [3])]) (by decide +kernel) rfl).2.2.1 rfl),
   ran' (((m handing (by decide +kernel) rfl).2.2.2 rfl).1 (by decide +kernel)),
   ran' (((m (withSession op) (by decide +kernel) rfl).2.2.2 rfl).2.1 (by decide +kernel) rfl),
   ran' (((m (inState .closed) (by decide +kernel) rfl).2.2.2 rfl).2.2 rfl),
   ran' ((c mayTest (by decide +kernel)).1 (by decide +kernel)),
   ran' ((c (withSession op) (by decide +kernel)).2.1 (by decide +kernel)),
   ran' (((c (testMan false) (by decide +kernel)).2.2.1 rfl).1 (fun m e => by cases e; rfl)),
   ran' (((c (testMan true) (by decide +kernel)).2.2.1 rfl).2 ⟨_, rfl, rfl⟩),
   ran' ((c (withSession op) (by decide +kernel)).2.2.2 rfl)⟩

theorem witness_ModuleCommandsAndSelfTest (h : Obligations.ModuleCommandsAndSelfTest) :
    verdict 3 5 0 false = .notRun ∧ verdict 3 62914559 0 true = .cut ∧
    verdict 3 62914560 (Config.bistExpected 3) true = .pass ∧
    verdict 3 62914560 (Config.bistExpected 3 + 1) true = .fail ∧
    runs (.bistItemEnd 0 3 62914560 7 true 60000 [] []) (bistRuns [(0, [3, 4])]) ∧
    runs (.bistItemOvertime 0 3 5 120001) (bistRuns [(0, [3, 4])]) ∧ runs .shutdownReady (bistRuns []) :=
  have k := fun s step ms ready f => h.2 s 0 3 step ms 7 ready [] [] f
  have r := (k (bistRuns [(0, [3, 4])]) 62914560 60000 true 0).2.2.2.2.1 rfl
  have o := (k (bistRuns [(0, [3, 4])]) 5 120001 true 0).2.2.2.2.1 rfl
  ⟨(k op 5 0 false 0).1 rfl, (k op 62914559 0 true 0).2.1 rfl (by decide), (k op 62914560 0 true _).2.2.1 rfl rfl rfl,
   (k op 62914560 0 true (Config.bistExpected 3 + 1)).2.2.2.1 rfl rfl (by bv_omega), ran' r.1, ran' (o.2 (by decide)),
   ran' ((k (bistRuns []) 5 0 true 0).2.2.2.2.2 rfl (by decide +kernel))⟩

end Sys2Proof.Tests
end

