-- ==== Sys2Proof/Tests/WitnessTally.lean ====
section
/-! SUPPORT. For each statement about Tally instructions, states and operands that meet its hypotheses. -/

namespace Sys2Proof.Tests

set_option Elab.async false

open Sys2Proof Sys2Proof.Machine

/-- What core 0 of lane 1 sees. -/
abbrev tc (s : State) (p : Pass) : TCtx := tctx s .l1 .c0 p

theorem tally_issuing (p : Pass) : issuing (tally p) .l1 .c0 p := by
  cases p <;> exact ⟨by decide +kernel, Laws.context_tctx (by decide +kernel), by decide +kernel⟩

theorem v1 (p : Pass) : regHolds (tc (tally p) p) false 1 40 := by cases p <;> exact ⟨by decide, by decide +kernel⟩
theorem v2 (p : Pass) : regHolds (tc (tally p) p) false 2 2 := by cases p <;> exact ⟨by decide, by decide +kernel⟩
theorem v3 (p : Pass) : regHolds (tc (tally p) p) false 3 vTrue := by cases p <;> exact ⟨by decide, by decide +kernel⟩
theorem v4 (p : Pass) : regHolds (tc (tally p) p) false 4 2147483647 := by
  cases p <;> exact ⟨by decide, by decide +kernel⟩
theorem p1 (p : Pass) : regHolds (tc (tally p) p) true 1 vTrue := by cases p <;> exact ⟨by decide, by decide +kernel⟩
theorem p2 (p : Pass) : regHolds (tc (tally p) p) true 2 vFalse := by cases p <;> exact ⟨by decide, by decide +kernel⟩
theorem isTrue_bool : isBoolean vTrue := .inl rfl
theorem isFalse_bool : isBoolean vFalse := .inr rfl

/-- V5 := V1 + V2, V1 − V2 with B_d 13; 8 191 · V1 and −8 192 · V1; and out of range from V4. -/
theorem witness_CodedArithmeticResult (h : Obligations.CodedArithmeticResult) :
    runs (.cadd .l1 .c0 (fields 5 1 2 13)) (tally .p1) ∧ runs (.csub .l1 .c0 (fields 5 1 2 13)) (tally .p2) ∧
    runs (.cmulk .l1 .c0 (fields 5 1 0 (13 + 8191 * 2 ^ 24))) (tally .p1) ∧
    runs (.cmulk .l1 .c0 (fields 5 1 0 (13 + 8192 * 2 ^ 24))) (tally .p1) ∧
    runs (.cadd .l1 .c0 (fields 5 4 2 13)) (tally .p1) ∧ runs (.csub .l1 .c0 (fields 5 4 4 13)) (tally .p1) ∧
    runs (.cmulk .l1 .c0 (fields 5 4 0 (13 + 3 * 2 ^ 24))) (tally .p1) :=
  ⟨ran ((h.1 (tally .p1) .l1 .c0 .p1 (fields 5 1 2 13) 40 2 (tally_issuing _) (by decide +kernel) (v1 _)).1
      (by decide +kernel) (v2 _) (by decide)),
   ran ((h.1 (tally .p2) .l1 .c0 .p2 (fields 5 1 2 13) 40 2 (tally_issuing _) (by decide +kernel) (v1 _)).2.1
      (by decide +kernel) (v2 _) (by decide)),
   ran ((h.1 (tally .p1) .l1 .c0 .p1 (fields 5 1 0 (13 + 8191 * 2 ^ 24)) 40 0 (tally_issuing _) (by decide +kernel)
      (v1 _)).2.2 rfl (by decide +kernel) (by decide +kernel)),
   ran ((h.1 (tally .p1) .l1 .c0 .p1 (fields 5 1 0 (13 + 8192 * 2 ^ 24)) 40 0 (tally_issuing _) (by decide +kernel)
      (v1 _)).2.2 rfl (by decide +kernel) (by decide +kernel)),
   ran ((h.2 (tally .p1) .l1 .c0 .p1 (fields 5 4 2 13) 2147483647 2 (tally_issuing _) (by decide +kernel) (v4 _)).1
      (by decide +kernel) (v2 _) (by decide)),
   ran ((h.1 (tally .p1) .l1 .c0 .p1 (fields 5 4 4 13) 2147483647 2147483647 (tally_issuing _) (by decide +kernel)
      (v4 _)).2.1 (by decide +kernel) (v4 _) (by decide)),
   ran ((h.2 (tally .p1) .l1 .c0 .p1 (fields 5 4 0 (13 + 3 * 2 ^ 24)) 2147483647 0 (tally_issuing _) (by decide +kernel)
      (v4 _)).2.2 rfl (by decide +kernel) (by decide +kernel))⟩

/-- Compares into V5 and into P7; booleans of P1 and P2 into P3; BSEL by P1 between V1 and V2. -/
theorem witness_CompareAndBooleanResult (h : Obligations.CompareAndBooleanResult) :
    runs (.ccmpEq .l1 .c0 (fields 5 1 2 13)) (tally .p1) ∧ runs (.ccmpLe .l1 .c0 (fields 7 1 2 (13 + 2 ^ 37))) (tally .p2) ∧
    runs (.band .l1 .c0 (fields 3 1 2 (13 + 7 * 2 ^ 35))) (tally .p1) ∧
    runs (.bnot .l1 .c0 (fields 3 1 0 (13 + 3 * 2 ^ 36))) (tally .p1) ∧
    runs (.bsel .l1 .c0 (fields 5 1 2 (13 + 2 ^ 32))) (tally .p1) :=
  ⟨ran (h.1 (tally .p1) .l1 .c0 .p1 (fields 5 1 2 13) 40 2 (tally_issuing _) (by decide +kernel) (by decide +kernel)
      (by decide +kernel) (v1 _) (v2 _)).1,
   ran (h.1 (tally .p2) .l1 .c0 .p2 (fields 7 1 2 (13 + 2 ^ 37)) 40 2 (tally_issuing _) (by decide +kernel)
      (by decide +kernel) (by decide +kernel) (v1 _) (v2 _)).2.2.2,
   ran ((h.2 (tally .p1) .l1 .c0 .p1 (fields 3 1 2 (13 + 7 * 2 ^ 35)) vTrue vFalse 0 (tally_issuing _) (by decide +kernel)
      (by decide +kernel) (by decide +kernel) (by decide +kernel) (p1 _)).1 (by decide +kernel) (p2 _) isTrue_bool
      isFalse_bool).1,
   ran ((h.2 (tally .p1) .l1 .c0 .p1 (fields 3 1 0 (13 + 3 * 2 ^ 36)) vTrue 0 0 (tally_issuing _) (by decide +kernel)
      (by decide +kernel) (by decide +kernel) (by decide +kernel) (p1 _)).2.1 (by decide +kernel) rfl isTrue_bool),
   ran ((h.2 (tally .p1) .l1 .c0 .p1 (fields 5 1 2 (13 + 2 ^ 32)) 40 2 vTrue (tally_issuing _) (by decide +kernel)
      (by decide +kernel) (by decide +kernel) (by decide +kernel) (v1 _)).2.2 (by decide +kernel) (v2 _) (p1 _)
      isTrue_bool (fun e => absurd e (by decide +kernel)) (fun e => absurd e (by decide +kernel))
      (fun e => absurd e (by decide +kernel)))⟩

/-- LDL of L 0 to V5 and, through region 0 at X1, of L 2 to X2; LDE of E 0; LDI of frame 5. -/
theorem witness_LoadResult (h : Obligations.LoadResult) :
    runs (.ldl .l1 .c0 (fields 5 0 0 0)) (tally .p1) ∧ runs (.ldl .l1 .c0 (fields 2 0 1 (2 ^ 36 + 2 ^ 37))) (tally .p2) ∧
    runs (.lde .l1 .c0 (fields 5 0 0 0)) (tally .p1) ∧ runs (.ldi .l1 .c0 (fields 5 0 0 161)) (tally .p1) :=
  ⟨ran ((h (tally .p1) .l1 .c0 .p1 (fields 5 0 0 0) .l 0 40 (tally_issuing _) (by decide +kernel) rfl (by decide +kernel)
      (by decide +kernel) (by decide +kernel) ⟨by decide +kernel, by decide, by decide +kernel⟩).1 (by decide +kernel)),
   ran ((h (tally .p2) .l1 .c0 .p2 (fields 2 0 1 (2 ^ 36 + 2 ^ 37)) .l 2 0 (tally_issuing _) (by decide +kernel) rfl
      (by decide +kernel) (by decide +kernel) (by decide +kernel) ⟨by decide +kernel, by decide, by decide +kernel⟩).1
      (by decide +kernel)),
   ran ((h (tally .p1) .l1 .c0 .p1 (fields 5 0 0 0) .e 0 0 (tally_issuing _) (by decide +kernel) rfl (by decide +kernel)
      (by decide +kernel) (by decide +kernel) ⟨by decide +kernel, by decide, by decide +kernel⟩).2.1 (by decide +kernel)),
   ran ((h (tally .p1) .l1 .c0 .p1 (fields 5 0 0 161) .i 161 0 (tally_issuing _) (by decide +kernel) rfl (by decide +kernel)
      (by decide +kernel) (by decide +kernel) ⟨by decide +kernel, by decide, by decide +kernel⟩).2.2 rfl (by decide +kernel))⟩

/-- V1 carries the B of L 0, V5-V9 those of E 0, of words 1 and 0 of O frame 5, of K 0 and of T 0. -/
def storing : State := withLane .l1 (fun L => { L with cores := { L.cores with c0 := { L.cores.c0 with
  v := [(1, ⟨encodeWord .p1 40 3 (stamp 8), 3, true⟩), (5, ⟨encodeWord .p1 40 11 (stamp 8), 11, true⟩),
        (6, ⟨encodeWord .p1 40 41 (stamp 8), 41, true⟩), (7, ⟨encodeWord .p1 40 42 (stamp 8), 42, true⟩),
        (8, ⟨encodeWord .p1 40 61 (stamp 8), 61, true⟩), (9, ⟨encodeWord .p1 40 21 (stamp 8), 21, true⟩)] } } }) (tally .p1)

theorem storing_issuing : issuing storing .l1 .c0 .p1 :=
  ⟨by decide +kernel, Laws.context_tctx (by decide +kernel), by decide +kernel⟩

theorem witness_StoreResult (h : Obligations.StoreResult) :
    runs (.stl .l1 .c0 (fields 0 1 0 0)) storing ∧ runs (.ste .l1 .c0 (fields 0 5 0 0)) storing ∧
    runs (.sto .l1 .c0 (fields 0 6 0 161)) storing ∧ runs (.sto .l1 .c0 (fields 0 7 0 160)) storing ∧
    runs (.stl .l1 .c0 (fields 0 8 0 (2 ^ 35))) storing ∧ runs (.ste .l1 .c0 (fields 0 9 0 (2 ^ 35))) storing ∧
    runs (.stl .l1 .c0 (fields 0 5 0 0)) storing ∧ runs (.stl .l1 .c0 (fields 0 1 0 0)) storing := by
  have a := fun f sp ad off (e : addrFormat f = true) (i : resolve (tc storing .p1) sp f = .ok ad)
      (w : wordReady (tc storing .p1) off (flatKey sp ad) = .ok ()) (b37 : fbit f 37 = false) (b32 : ffld f 32 2 = 0)
      (b34 : fbit f 34 = true → isPX f.src1 = true) (d : f.dst = 0) =>
    h.1 storing .l1 .c0 .p1 f sp ad off 40 storing_issuing b37 b32 d e b34 i w (by decide)
  have no : ∀ {P : Prop}, false = true → P := fun e => absurd e (by decide)
  refine ⟨?_, ?_, ?_, ?_, ?_, ?_, ?_, ?_⟩
  · exact ran (((a (fields 0 1 0 0) .l 0 1 (by decide +kernel) (by decide +kernel) (by decide +kernel) (by decide +kernel)
      (by decide +kernel) (by decide +kernel) rfl).1 (by decide +kernel) (by decide +kernel)).1 (by decide +kernel)
      |>.1 rfl (by decide +kernel) rfl)
  · exact ran (((a (fields 0 5 0 0) .e 0 2 (by decide +kernel) (by decide +kernel) (by decide +kernel) (by decide +kernel)
      (by decide +kernel) (by decide +kernel) rfl).1 (by decide +kernel) (by decide +kernel)).1 (by decide +kernel)
      |>.2.1 rfl (by decide +kernel) rfl)
  · exact ran (((a (fields 0 6 0 161) .o 161 2 (by decide +kernel) (by decide +kernel) (by decide +kernel) (by decide +kernel)
      (by decide +kernel) (by decide +kernel) rfl).1 (by decide +kernel) (by decide +kernel)).1 (by decide +kernel)
      |>.2.2 rfl rfl (fun e => absurd e (by decide +kernel)) (by decide))
  · exact ran (((a (fields 0 7 0 160) .o 160 2 (by decide +kernel) (by decide +kernel) (by decide +kernel) (by decide +kernel)
      (by decide +kernel) (by decide +kernel) rfl).1 (by decide +kernel) (by decide +kernel)).2.2.2 rfl rfl
      (fun e => absurd e (by decide +kernel)) (by decide))
  · exact ran (((a (fields 0 8 0 (2 ^ 35)) .k 0 1 (by decide +kernel) (by decide +kernel) (by decide +kernel)
      (by decide +kernel) (by decide +kernel) (by decide +kernel) rfl).1 (by decide +kernel) (by decide +kernel)).2.1 rfl
      (by decide +kernel) rfl)
  · exact ran (((a (fields 0 9 0 (2 ^ 35)) .t 0 2 (by decide +kernel) (by decide +kernel) (by decide +kernel)
      (by decide +kernel) (by decide +kernel) (by decide +kernel) rfl).1 (by decide +kernel) (by decide +kernel)).2.2.1 rfl
      (by decide +kernel) rfl)
  · exact ran ((a (fields 0 5 0 0) .l 0 1 (by decide +kernel) (by decide +kernel) (by decide +kernel) (by decide +kernel)
      (by decide +kernel) (by decide +kernel) rfl).2 (by decide +kernel) |>.1 (by decide +kernel) rfl)
  · exact ran' (h.2 storing .l1 .c0 .p1 (fields 0 1 0 0) .l 0 1 40 (.stl .l1 .c0 (fields 0 1 0 0))
      (.inl ⟨rfl, rfl, by decide +kernel, rfl⟩) storing_issuing (by decide +kernel) (by decide +kernel) rfl
      (by decide +kernel) (fun e => absurd e (by decide +kernel)) (by decide +kernel) (by decide +kernel) (by decide)
      (by decide +kernel) (by decide +kernel) (by decide +kernel) rfl)

/-- A lane without a session whose cores are gated, one whose fetch meets an ECC error, and one whose core is past its code. -/
theorem witness_InstructionContext (h : Obligations.InstructionContext) :
    (∀ q k, (tctx (tally .p1) .l1 .c0 .p1).L.word q k = ((tally .p1).lane .l1).word q k) ∧
    runs (.cadd .l1 .c0 (fields 5 1 2 13)) op ∧
    runs (.endp .l1 .c0 (fields 0 0 0 0)) (withLane .l1 (fun L => { L with eccCode := [4] }) (tally .p1)) := by
  refine ⟨?_, ?_, ?_⟩
  · exact ((h (tally .p1) .l1 .c0 .p1 man (fields 0 0 0 0) (tctx op .l1 .c0 .p1) { cause := .ecc }).1 (by decide +kernel)
      (by decide +kernel) (by decide +kernel)).2
  · exact ran (((h op .l1 .c0 .p1 man (fields 5 1 2 13) (tctx op .l1 .c0 .p1) { cause := .ecc }).2 _
      (by simp [tallyForms] : Instr.cadd .l1 .c0 (fields 5 1 2 13) ∈ _)).2.2 (by decide +kernel))
  · have hs := Laws.context_tctx (s := withLane .l1 (fun L => { L with eccCode := [4] }) (tally .p1)) (ln := .l1)
      (core := .c0) (p := .p1) (by decide +kernel)
    exact ran (((h (withLane .l1 (fun L => { L with eccCode := [4] }) (tally .p1)) .l1 .c0 .p1 man (fields 0 0 0 0) _
      { cause := .ecc }).2 _ (by simp [tallyForms] : Instr.endp .l1 .c0 (fields 0 0 0 0) ∈ _)).2.1 (by decide +kernel) hs
      (by decide +kernel))

/-- Timer 0, stopped; detector 0, holding FALSE, with P1 TRUE; a route request from OPND and one from V2. -/
theorem witness_TimerEdgeAndRouteRequest (h : Obligations.TimerEdgeAndRouteRequest) :
    runs (.tmsStart .l1 .c0 (fields 0 2 0 0)) (tally .p1) ∧ runs (.tmsCancel .l1 .c0 (fields 0 0 0 0)) (tally .p1) ∧
    runs (.tmx .l1 .c0 (fields 5 0 0 0)) (tally .p1) ∧
    runs (.edg .l1 .c0 (fields 3 1 0 (32768 + 2 ^ 33 + 2 ^ 37))) (tally .p1) ∧
    runs (.rrq .l1 .c0 (fields 0 0 0 (2 ^ 37 + 2 ^ 28))) (tally .p1) := by
  have t := fun (f : Fields) (d : Int) (a : addrFormat f = true) (b : resolve (tc (tally .p1) .p1) .m f = .ok 0) =>
    h.1 (tally .p1) .l1 .c0 .p1 f 0 0 0 d (tally_issuing _) a b (by decide) (by decide)
      ⟨by decide +kernel, by decide, by decide +kernel⟩ ⟨by decide +kernel, by decide, by decide +kernel⟩
  have e := h.2 (tally .p1) .l1 .c0 .p1
  refine ⟨?_, ?_, ?_, ?_, ?_⟩
  · exact ran ((t (fields 0 2 0 0) 2 (by decide +kernel) (by decide +kernel)).1 (by decide +kernel) (by decide +kernel) rfl
      (by decide +kernel) (v2 _)).1
  · exact ran ((t (fields 0 0 0 0) 2 (by decide +kernel) (by decide +kernel)).2.1 (by decide +kernel) (by decide +kernel)
      rfl rfl (by decide +kernel))
  · exact ran ((t (fields 5 0 0 0) 2 (by decide +kernel) (by decide +kernel)).2.2 (by decide +kernel) rfl
      (fun e => absurd e (by decide +kernel)) (by decide +kernel))
  · obtain ⟨_, _, hv⟩ := (e (fields 3 1 0 (32768 + 2 ^ 33 + 2 ^ 37)) 32768 vFalse vTrue 0 (tally_issuing _)).1
      (by decide +kernel) (by decide +kernel) (by decide +kernel) (by decide +kernel) (by decide +kernel)
      (by decide +kernel) (by decide +kernel) ⟨by decide +kernel, by decide, by decide +kernel⟩ isFalse_bool
      (by rw [show fbit (fields 3 1 0 (32768 + 2 ^ 33 + 2 ^ 37)) 33 = true by decide +kernel]; exact p1 .p1) isTrue_bool
      (by decide +kernel)
    exact ran hv
  · exact ran ((e (fields 0 0 0 (2 ^ 37 + 2 ^ 28)) 0 0 0 0 (tally_issuing _)).2 (by decide +kernel) (by decide +kernel)
      (by decide +kernel) rfl rfl (by rw [if_pos (by decide +kernel)]; exact ⟨rfl, by decide +kernel⟩) (by decide)
      (by decide) (by decide +kernel) (by decide +kernel) (by decide +kernel) (by decide +kernel))

/-- Core 0 at the closing instruction of an open loop. -/
def atClose : State := withLane .l1 (fun L => { L with cores := { L.cores with
  c0 := { L.cores.c0 with pc := 10, loops := [⟨5, 10, 1, 5⟩] } } }) (tally .p1)

theorem atClose_issuing : issuing atClose .l1 .c0 .p1 :=
  ⟨by decide +kernel, Laws.context_tctx (by decide +kernel), by decide +kernel⟩

/-- Checkpoint 1 of core 0 holds SG in pass 2. -/
def atCkpt : State := withLane .l1 (fun L => { L with cores := { L.cores with
  c0 := { L.cores.c0 with ckptSlots := [(1, some 0)], ckptCount := 1, ckptPass1 := 1 } } }) (tally .p2)

theorem atCkpt_issuing : issuing atCkpt .l1 .c0 .p2 :=
  ⟨by decide +kernel, Laws.context_tctx (by decide +kernel), by decide +kernel⟩

/-- What the core's partition presents at ENDP. -/
def presented (t : TCtx) : Lane × Core :=
  match presentRun t with
  | .ok r => r
  | .error _ => (t.L, t.c)

theorem witness_FlowAndPassControlResult (h : Obligations.FlowAndPassControlResult) :
    runs (.brf .l1 .c0 (fields 0 3 0 10)) (tally .p1) ∧ runs (.brf .l1 .c0 (fields 0 0 0 (10 + 2 ^ 37))) (tally .p1) ∧
    runs (.loopnInit .l1 .c0 (fields 2 0 0 (10 + 5 * 2 ^ 18))) (tally .p1) ∧
    runs (.loopnClose .l1 .c0 (fields 1 0 0 (5 + 5 * 2 ^ 18))) atClose ∧
    runs (.ckpt .l1 .c0 (fields 0 0 0 1)) (tally .p1) ∧ runs (.ckpt .l1 .c0 (fields 0 0 0 1)) atCkpt ∧
    runs (.ckpt .l1 .c0 (fields 0 0 0 0)) atCkpt ∧ runs (.snap .l1 .c0 (fields 0 0 0 65535)) (tally .p1) ∧
    runs (.snap .l1 .c0 (fields 0 0 0 0)) (tally .p2) ∧ runs (.endp .l1 .c0 (fields 0 0 0 0)) atCkpt :=
  have a := fun f x => h.1 (tally .p1) .l1 .c0 .p1 f x ⟨0, 0, 0, 0⟩ [] (tally_issuing _)
  have c1 := fun f => h.2 (tally .p1) .l1 .c0 .p1 f part0 {} {} (tally_issuing _)
  have c2 := fun f => h.2 atCkpt .l1 .c0 .p2 f part0 (presented (tc atCkpt .p2)).1 (presented (tc atCkpt .p2)).2 atCkpt_issuing
  ⟨ran ((a (fields 0 3 0 10) vTrue).1 (by decide +kernel) rfl rfl (by decide +kernel) (by decide +kernel)
      (fun k e => absurd e (by decide +kernel +revert))
      (by rw [if_neg (by decide +kernel)]; exact ⟨fun e => absurd e (by decide +kernel), v3 .p1, isTrue_bool⟩)),
   ran ((a (fields 0 0 0 (10 + 2 ^ 37)) 0).1 (by decide +kernel) rfl rfl (by decide +kernel) (by decide +kernel)
      (fun k e => absurd e (by intro h; cases h))
      (by rw [if_pos (by decide +kernel)]; exact ⟨rfl, by decide +kernel⟩)),
   ran ((a (fields 2 0 0 (10 + 5 * 2 ^ 18)) 0).2.1 (by decide +kernel) (by decide +kernel) rfl rfl (by decide +kernel)
      (fun k e => absurd e (by intro h; cases h)) (by decide +kernel) (by decide +kernel)),
   ran ((h.1 atClose .l1 .c0 .p1 (fields 1 0 0 (5 + 5 * 2 ^ 18)) 0 ⟨5, 10, 1, 5⟩ [] atClose_issuing).2.2 (by decide +kernel)
      (by decide +kernel) rfl rfl (by decide +kernel) (by decide +kernel) (by decide +kernel) (by decide +kernel)
      (by decide +kernel) (by decide +kernel) (by decide +kernel)),
   ran (((c1 (fields 0 0 0 1) rfl rfl rfl).1 (by decide +kernel) (by decide +kernel) (by decide +kernel)
      (by decide +kernel)).1 rfl (by decide +kernel)),
   ran (((c2 (fields 0 0 0 1) rfl rfl rfl).1 (by decide +kernel) (by decide +kernel) (by decide +kernel)
      (by decide +kernel)).2.1 rfl (by decide +kernel)),
   ran (((c2 (fields 0 0 0 0) rfl rfl rfl).1 (by decide +kernel) (by decide +kernel) (by decide +kernel)
      (by decide +kernel)).2.2 rfl (by decide +kernel)),
   ran (((c1 (fields 0 0 0 65535) rfl rfl rfl).2.1 (by decide +kernel)).1 rfl (by decide +kernel)),
   ran (((h.2 (tally .p2) .l1 .c0 .p2 (fields 0 0 0 0) part0 {} {} (tally_issuing _) rfl rfl rfl).2.1
      (by decide +kernel)).2 rfl),
   ran ((c2 (fields 0 0 0 0) rfl rfl rfl).2.2 rfl (by decide +kernel) (by decide +kernel) (by decide +kernel))⟩

end Sys2Proof.Tests
end

section
/-! ## The vote's flag (R19): what keeps it

LANES_2OF2 follows the lanes at the end of every meaning that can move a lane between states: those end in `fin`, where
`State.settle` computes the flag again. Every other meaning ends in `ok`, and has to leave alone the flag and what each
lane says of itself. The lemmas below are that frame: one for each operation of a lane, one for each operation of the
state, and then the meanings that end in `ok`, by family. -/

namespace Sys2Proof.VoteFlag

open Sys2Proof Sys2Proof.Machine Sys2Proof.Laws

/-! ### The frame -/

/-- What each lane's own view says of itself: all that `State.voters` reads of the lanes. -/
def ownStates (Ls : Tri Lane) : Tri LaneState := Ls.mapI (fun ln L => L.views.get ln)

/-- The flag and the lane states of `t` are those of `s`. Reducible, so that a simp lemma that states it rewrites both. -/
@[reducible, simp] def Kept (s t : State) : Prop :=
  t.lanes2of2 = s.lanes2of2 ∧ ownStates t.lanes = ownStates s.lanes

/-- The outcome is a next state with the flag and the lane states of `s`. -/
def Keeps (s : State) (o : Host.Outcome State Fault Refusal) : Prop := ∃ t, o = .next t ∧ Kept s t

/-- A next state has the flag right where `s` has. -/
def KeepsFlag (s : State) (o : Host.Outcome State Fault Refusal) : Prop := ∀ t, o = .next t → s.flagOk → t.flagOk

theorem Kept.trans {s t u : State} (h : Kept s t) (k : Kept t u) : Kept s u := ⟨k.1.trans h.1, k.2.trans h.2⟩

@[simp] theorem keeps_ok (s t : State) : Keeps s (ok t) ↔ Kept s t := by simp [Keeps, ok]

/-- A meaning that starts on a state of the same frame. -/
theorem Keeps.of_kept {s t : State} {o : Host.Outcome State Fault Refusal} (k : Keeps t o) (h : Kept s t) :
    Keeps s o := by
  obtain ⟨u, ho, hu⟩ := k
  exact ⟨u, ho, h.trans hu⟩

theorem laneState_eq_ownStates (s : State) (ln : LaneId) : s.laneState ln = (ownStates s.lanes).get ln := by
  simp [ownStates, State.laneState, State.lane]

/-- The lanes IN-VOTE depend on what the lanes say of themselves alone. -/
theorem voters_congr {s t : State} (h : ownStates t.lanes = ownStates s.lanes) : t.voters = s.voters := by
  have hv : t.votes = s.votes := by
    funext ln
    simp only [State.votes, laneState_eq_ownStates, h]
  simp only [State.voters, hv]

theorem Kept.flagOk {s t : State} (h : Kept s t) (hs : s.flagOk) : t.flagOk := by
  unfold State.flagOk at *
  rw [h.1, voters_congr h.2, hs]

theorem Keeps.keepsFlag {s : State} {o : Host.Outcome State Fault Refusal} (h : Keeps s o) : KeepsFlag s o := by
  obtain ⟨u, rfl, hu⟩ := h
  rintro t ⟨⟩
  exact hu.flagOk

theorem keepsFlag_ok {s t : State} (h : Kept s t) : KeepsFlag s (ok t) := ((keeps_ok s t).2 h).keepsFlag

/-! ### Folds -/

/-- A fold whose step leaves a projection alone leaves it alone. -/
theorem foldl_preserves {α β γ : Type} (p : β → γ) (f : β → α → β) (h : ∀ b a, p (f b a) = p b) (xs : List α)
    (b : β) : p (xs.foldl f b) = p b := by
  induction xs generalizing b with
  | nil => rfl
  | cons a r ih => exact (ih _).trans (h b a)

@[simp] theorem views_foldl {α : Type} (f : Lane → α → Lane) (h : ∀ L a, (f L a).views = L.views) (xs : List α)
    (L : Lane) : (xs.foldl f L).views = L.views :=
  foldl_preserves Lane.views f h xs L

/-- A fold that carries a second value beside the lane. -/
theorem views_foldl_fst {α β : Type} (f : Lane × β → α → Lane × β) (h : ∀ a x, (f a x).1.views = a.1.views)
    (xs : List α) (a : Lane × β) : (xs.foldl f a).1.views = a.1.views :=
  foldl_preserves (fun a => a.1.views) f h xs a

@[simp] theorem kept_foldl {α : Type} (f : State → α → State) (h : ∀ s a, Kept s (f s a)) (xs : List α) (s : State) :
    Kept s (xs.foldl f s) :=
  ⟨foldl_preserves State.lanes2of2 f (fun s a => (h s a).1) xs s,
   foldl_preserves (fun s => ownStates s.lanes) f (fun s a => (h s a).2) xs s⟩

@[simp] theorem kept_foldr {α : Type} (f : α → State → State) (h : ∀ s a, Kept s (f a s)) (xs : List α) (s : State) :
    Kept s (xs.foldr f s) := by
  rw [← List.foldl_reverse]
  exact kept_foldl _ h _ s

/-! ### A lane's views under its operations -/

@[simp] theorem views_setWord (L : Lane) (p : Pass) (key : Nat) (c : Coded) : (L.setWord p key c).views = L.views := by
  cases p <;> rfl

@[simp] theorem views_put (L : Lane) (key : Nat) (x : Int) : (L.put key x).views = L.views := by
  unfold Lane.put
  split <;> rfl

@[simp] theorem views_codeFrames (L : Lane) : L.codeFrames.views = L.views := by
  unfold Lane.codeFrames
  refine views_foldl _ (fun M e => ?_) _ _
  split <;> simp

@[simp] theorem views_restore (L : Lane) : L.restore.views = L.views := by
  simp [Lane.restore]

@[simp] theorem views_hold (L : Lane) (e : Event) : (L.hold e).views = L.views := by
  unfold Lane.hold
  split <;> rfl

@[simp] theorem views_noteChange (L : Lane) (e : Event) : (L.noteChange e).views = L.views := by
  simp [Lane.noteChange]

@[simp] theorem views_gate (L : Lane) : L.gate.views = L.views := by
  simp [Lane.gate]

@[simp] theorem views_openAll (L : Lane) : L.openAll.views = L.views := by
  simp [Lane.openAll]

@[simp] theorem views_latchNet (qs : Tbl Queue) (L : Lane) : (L.latchNet qs).views = L.views := by
  unfold Lane.latchNet
  split <;> rfl

@[simp] theorem views_retain (L : Lane) : L.retain.views = L.views := by
  have h : L.toCommitted.views = L.views := by simp [Lane.toCommitted]
  unfold Lane.retain
  dsimp only
  split <;> exact h

@[simp] theorem views_esHold (L : Lane) : L.esHold.views = L.views := by
  simp [Lane.esHold]

@[simp] theorem views_countUp (L : Lane) (ctrl : Nat) (pl : PlaneId) (cause : Nat) :
    (L.countUp ctrl pl cause).views = L.views := by
  simp [Lane.countUp]

@[simp] theorem views_takeUp (ln : LaneId) (L : Lane) (m : Manifest) (pl : PlaneId) (r : UpRec) :
    (L.takeUp ln m pl r).1.views = L.views := by
  unfold Lane.takeUp
  dsimp only
  (repeat' split) <;> rfl

@[simp] theorem views_countSl (L : Lane) (conn cause : Nat) : (L.countSl conn cause).views = L.views := by
  simp [Lane.countSl]

@[simp] theorem views_compareCounts (L : Lane) : L.compareCounts.1.views = L.views := by
  unfold Lane.compareCounts
  split
  · rfl
  · dsimp only
    split
    · refine views_foldl_fst _ (fun a x => ?_) _ _
      split <;> simp
    · rw [views_foldl_fst, views_foldl_fst]
      · intro a x
        split <;> simp
      · intro a x
        (repeat' split) <;> rfl

@[simp] theorem views_openAgreement (ln : LaneId) (L : Lane) : (L.openAgreement ln).views = L.views := by
  simp [Lane.openAgreement]

@[simp] theorem views_takeCopy (ln : LaneId) (cn : U32) (c : SlCopy) (L : Lane) :
    (Lane.takeCopy ln cn c L).views = L.views := by
  unfold Lane.takeCopy
  split <;> rfl

@[simp] theorem views_takeBatch (ln : LaneId) (cn : U32) (cmds : List SentCmd) (L : Lane) :
    (Lane.takeBatch ln cn cmds L).views = L.views := by
  unfold Lane.takeBatch
  (repeat' split) <;> rfl

@[simp] theorem views_badTarget (L : Lane) : L.badTarget.views = L.views := by
  simp [Lane.badTarget]

@[simp] theorem views_takeBody (man : Manifest) (good : Bool) (L : Lane) : (L.takeBody man good).views = L.views := by
  unfold Lane.takeBody
  split <;> rfl

@[simp] theorem views_verifySlot (slot : Nat) (gcmOk : Bool) (L : Lane) : (L.verifySlot slot gcmOk).views = L.views := by
  unfold Lane.verifySlot
  (repeat' split) <;> rfl

@[simp] theorem views_rewind (p : Pilot) (L : Lane) : (L.rewind p).views = L.views := by
  simp [Lane.rewind]

@[simp] theorem views_powerFail (me : LaneId) (L : Lane) : (L.powerFail me).views = L.views := by
  unfold Lane.powerFail
  split <;> simp

/-! ### Writing lanes -/

theorem ownStates_set (Ls : Tri Lane) (ln : LaneId) (L : Lane) (h : L.views.get ln = (Ls.get ln).views.get ln) :
    ownStates (Ls.set ln L) = ownStates Ls := by
  cases ln <;> simp_all [ownStates, Tri.set, Tri.mapI, Tri.get]

theorem ownStates_mapI (Ls : Tri Lane) (f : LaneId → Lane → Lane)
    (h : ∀ ln L, (f ln L).views.get ln = L.views.get ln) : ownStates (Ls.mapI f) = ownStates Ls := by
  simp [ownStates, Tri.mapI, h]

@[simp] theorem kept_putLane (s : State) (ln : LaneId) (L : Lane) (h : L.views.get ln = (s.lanes.get ln).views.get ln) :
    Kept s (s.putLane ln L) := ⟨rfl, ownStates_set _ _ _ h⟩

@[simp] theorem kept_updLane (s : State) (ln : LaneId) (f : Lane → Lane)
    (h : (f (s.lanes.get ln)).views.get ln = (s.lanes.get ln).views.get ln) : Kept s (s.updLane ln f) :=
  ⟨rfl, ownStates_set _ _ _ h⟩

@[simp] theorem kept_mapLanes (s : State) (f : LaneId → Lane → Lane)
    (h : ∀ ln L, (f ln L).views.get ln = L.views.get ln) : Kept s (s.mapLanes f) :=
  ⟨rfl, ownStates_mapI _ _ h⟩

/-! ### Time and events -/

@[simp] theorem kept_touch (s : State) (t : Nat) : Kept s (s.touch t) := ⟨rfl, rfl⟩

@[simp] theorem kept_raise (s : State) (c : LogClass) (n : EventName) (d : Die) (data : List Int) :
    Kept s (s.raise c n d data) := by
  simp

@[simp] theorem kept_raiseLane (s : State) (ln : LaneId) (c : LogClass) (n : EventName) (data : List Int) :
    Kept s (s.raiseLane ln c n data) := by
  unfold State.raiseLane
  split <;> simp

@[simp] theorem kept_putQueue (s : State) (n : Nat) (q : Queue) : Kept s (s.putQueue n q) := ⟨rfl, rfl⟩

@[simp] theorem kept_raiseModule (s : State) (c : LogClass) (n : EventName) (data : List Int) :
    Kept s (s.raiseModule c n data) := by
  unfold State.raiseModule
  split <;> simp

@[simp] theorem kept_raiseChange (s : State) (d : Die) (n : EventName) (data : List Int) :
    Kept s (s.raiseChange d n data) := by
  unfold State.raiseChange
  split <;> simp [apply_ite Lane.views]

@[simp] theorem kept_raiseLaneAll (s : State) (ln : LaneId) (es : List (LogClass × EventName × List Int)) :
    Kept s (s.raiseLaneAll ln es) := by
  simp [State.raiseLaneAll]

@[simp] theorem kept_logChange (s : State) (n : Nat) (e : EventName) (vals : List Int) :
    Kept s (s.logChange n e vals) := by
  simp [State.logChange]

@[simp] theorem kept_keepAlive (s : State) (n : Nat) : Kept s (s.keepAlive n) := by
  unfold State.keepAlive
  split <;> simp

/-! ### Service registers, queues and check engines -/

@[simp] theorem kept_putLock (s : State) (b : Blk) (k : Lock) : Kept s (s.putLock b k) := ⟨rfl, rfl⟩

@[simp] theorem kept_wrote (s : State) (b : Blk) : Kept s (s.wrote b) := ⟨rfl, rfl⟩

@[simp] theorem kept_lockedWrite (s : State) (b : Blk) (off : Nat) : Kept s (s.lockedWrite b off) := by
  simp [State.lockedWrite]

@[simp] theorem kept_rwl (s : State) (b : Blk) (off t : Nat) (f : State → State) (h : ∀ s, Kept s (f s)) :
    Kept s (s.rwl b off t f) := by
  unfold State.rwl
  dsimp only
  split
  · simp [h]
  · simp

@[simp] theorem kept_queWrote (s : State) (q : Nat) : Kept s (s.queWrote q) := by
  unfold State.queWrote
  split <;> simp

@[simp] theorem kept_setWm (s : State) (q : Nat) (v : U32) : Kept s (s.setWm q v) := by
  unfold State.setWm
  dsimp only
  split <;> simp

@[simp] theorem kept_setDepth (s : State) (q : Nat) (v : U32) : Kept s (s.setDepth q v) := by
  unfold State.setDepth
  dsimp only
  split <;> simp

@[simp] theorem kept_putChk (s : State) (n : Nat) (e : CheckEngine) : Kept s (s.putChk n e) := ⟨rfl, rfl⟩

/-! ### Logbook and snapshots -/

@[simp] theorem kept_writeRecord (s : State) (e : Event) : Kept s (s.writeRecord e) := by
  unfold State.writeRecord
  dsimp only
  (repeat' split) <;> simp

@[simp] theorem kept_latchLane (s : State) (ln : LaneId) : Kept s (s.latchLane ln) := by
  unfold State.latchLane
  split <;> simp

@[simp] theorem kept_latchAll (s : State) : Kept s s.latchAll := by
  simp [State.latchAll]

@[simp] theorem kept_stage (s : State) (f : BbFrame) : Kept s (s.stage f) := ⟨rfl, rfl⟩

@[simp] theorem kept_snapTake (s : State) (x : SnapSource) (regReason : Nat) : Kept s (s.snapTake x regReason) := by
  unfold State.snapTake
  dsimp only
  (repeat' split) <;> simp

@[simp] theorem kept_stageDeferred (s : State) : Kept s s.stageDeferred := by
  unfold State.stageDeferred
  split <;> simp

@[simp] theorem kept_release (s : State) (v : U32) : Kept s (s.release v) := ⟨rfl, rfl⟩

/-! ### Local I/O -/

/-- The sample's lane is that of the state whose time the command has moved on. -/
theorem keeps_execComparatorSample (ln : LaneId) (sm : Sample) (t : Nat) (s : State) :
    Keeps s (execComparatorSample ln sm t s) := by
  refine Keeps.of_kept ?_ (kept_touch s t)
  unfold execComparatorSample
  generalize s.touch t = s0
  dsimp only
  split <;> simp [State.lane]

/-! ### Safe link, lane side -/

@[simp] theorem kept_checkCopy (s : State) (ln : LaneId) (m : Manifest) (batchCn : U32) (c : SlCopy) :
    Kept s (s.checkCopy ln m batchCn c) := by
  unfold State.checkCopy
  dsimp only
  (repeat' split) <;> simp [State.lane]

/-! ### Signing -/

@[simp] theorem kept_signLane (s : State) (ln : LaneId) (m : Manifest) : Kept s (s.signLane ln m) := by
  unfold State.signLane
  split <;> simp [State.lane]

@[simp] theorem kept_shadowSign (s : State) (ln : LaneId) : Kept s (s.shadowSign ln) := by
  unfold State.shadowSign
  dsimp only
  (repeat' split) <;> simp [State.lane]

/-! ### Wharf bus -/

@[simp] theorem kept_putChan (s : State) (ch : Nat) (c : WbChan) : Kept s (s.putChan ch c) := ⟨rfl, rfl⟩

@[simp] theorem kept_complete (s : State) (ch : Nat) (q : TxReq) (status : Nat) : Kept s (s.complete ch q status) :=
  ⟨rfl, rfl⟩

@[simp] theorem kept_dropExpired (s : State) (ch : Nat) : Kept s (s.dropExpired ch) := by
  simp [State.dropExpired]

@[simp] theorem kept_followErrors (s : State) (ch : Nat) (c : WbChan) : Kept s (s.followErrors ch c) := by
  unfold State.followErrors
  dsimp only
  (repeat' split) <;> simp

@[simp] theorem kept_takeCan (s : State) (ch : Nat) (f : CanFrame) (sofTime : U48) :
    Kept s (s.takeCan ch f sofTime) := by
  unfold State.takeCan
  dsimp only
  (repeat' split) <;> simp

@[simp] theorem kept_flushItems (s : State) (q : Nat) : Kept s (s.flushItems q).2 := by
  unfold State.flushItems
  dsimp only
  (repeat' split) <;> simp

@[simp] theorem kept_flush (s : State) (q : Nat) : Kept s (s.flush q) := by
  simp [State.flush]

@[simp] theorem kept_placeWb (s : State) (ch : Nat) (c : WbChan) : Kept s (s.placeWb ch c) := by
  unfold State.placeWb
  (repeat' split) <;> simp

@[simp] theorem kept_configureWb (s : State) (b : ManBody) : Kept s (s.configureWb b) := by
  simp [State.configureWb]

@[simp] theorem kept_busOff (s : State) (ch : Nat) : Kept s (s.busOff ch) := by
  unfold State.busOff
  dsimp only
  split <;> simp

@[simp] theorem kept_renewWb (s : State) (ch : Nat) : Kept s (s.renewWb ch) := by
  unfold State.renewWb
  dsimp only
  split <;> simp

/-! ### Ports of the uplinks -/

@[simp] theorem kept_updUplink (s : State) (f : Uplink → Uplink) : Kept s (s.updUplink f) := ⟨rfl, rfl⟩

@[simp] theorem kept_putPort (s : State) (k : Nat) (f : List Byte) (port : Nat) : Kept s (s.putPort k f port) := by
  unfold State.putPort
  split <;> simp

@[simp] theorem kept_sendOn (s : State) (lanB : Bool) (dst : U48) (k : Nat) (f : List Byte) :
    Kept s (s.sendOn lanB dst k f) := by
  simp [State.sendOn]

@[simp] theorem kept_sendPrp (s : State) (dst : Bool → U48) (k etherType : Nat) (p : List Byte) :
    Kept s (s.sendPrp dst k etherType p) := by
  simp [State.sendPrp]

@[simp] theorem kept_keepCopy (s : State) (lanB : Bool) (e : NetFrame) : Kept s (s.keepCopy lanB e) := by
  unfold State.keepCopy
  split <;> simp

@[simp] theorem kept_takeArp (s : State) (lanB : Bool) (e : NetFrame) : Kept s (s.takeArp lanB e) := by
  unfold State.takeArp
  (repeat' split) <;> simp

@[simp] theorem kept_takeEcho (s : State) (e : NetFrame) : Kept s (s.takeEcho e) := by
  unfold State.takeEcho
  dsimp only
  (repeat' split) <;> simp

@[simp] theorem kept_takeNet (s : State) (lanB : Bool) (e : NetFrame) : Kept s (s.takeNet lanB e) := by
  unfold State.takeNet
  dsimp only
  (repeat' split) <;> simp

@[simp] theorem kept_ownNet (s : State) (lanB : Bool) (e : NetFrame) : Kept s (s.ownNet lanB e) := by
  unfold State.ownNet
  dsimp only
  (repeat' split) <;> simp

@[simp] theorem kept_learn (s : State) (port : Nat) (e : NetFrame) : Kept s (s.learn port e) := ⟨rfl, rfl⟩

@[simp] theorem kept_bridge (s : State) (port : Nat) (f : List Byte) : Kept s (s.bridge port f) := by
  unfold State.bridge
  (repeat' split) <;> simp

/-! ### Uplinks -/

@[simp] theorem kept_forwardCopy (s : State) (cn : U32) (c : SlCopy) : Kept s (s.forwardCopy cn c) := by
  unfold State.forwardCopy
  split <;> simp

@[simp] theorem kept_takeSafeLink (s : State) (c : SlCopy) : Kept s (s.takeSafeLink c) := by
  unfold State.takeSafeLink
  dsimp only
  (repeat' split) <;> simp

@[simp] theorem kept_netRx (s : State) (port : Nat) (f : List Byte) : Kept s (s.netRx port f) := by
  unfold State.netRx
  split <;> simp

@[simp] theorem kept_sendPdu (s : State) (key : Nat) (pdu : List Byte) : Kept s (s.sendPdu key pdu) := by
  unfold State.sendPdu
  split <;> simp

@[simp] theorem kept_launch (s : State) (p : HeldLaunch → Bool) : Kept s (s.launch p) := by
  simp [State.launch]

@[simp] theorem kept_breakLoad (s : State) : Kept s s.breakLoad := by
  unfold State.breakLoad
  split
  · simp
  · refine ⟨rfl, ownStates_mapI _ _ ?_⟩
    intro ln L
    split <;> rfl

@[simp] theorem kept_deliver (s : State) (ln : LaneId) : Kept s (s.deliver ln) := by
  simp [State.deliver]

@[simp] theorem kept_deliverChanges (s : State) : Kept s s.deliverChanges := ⟨rfl, rfl⟩

@[simp] theorem kept_deliverAll (s : State) : Kept s s.deliverAll := by
  simp [State.deliverAll]

/-! ### PTP time -/

@[simp] theorem kept_freeLaunches (s : State) : Kept s s.freeLaunches := by
  unfold State.freeLaunches
  split <;> simp

@[simp] theorem kept_slew (s : State) (o : Int) : Kept s (s.slew o) := by
  unfold State.slew
  dsimp only
  split <;> simp

@[simp] theorem kept_stepClock (s : State) (o : Int) : Kept s (s.stepClock o) := by
  simp [State.stepClock]

@[simp] theorem kept_refuseOffset (s : State) (o : Int) (n : Nat) : Kept s (s.refuseOffset o n) := by
  unfold State.refuseOffset
  split <;> simp

@[simp] theorem kept_ptpOffset (s : State) (m : U64) (o : Int) : Kept s (s.ptpOffset m o) := by
  unfold State.ptpOffset
  dsimp only
  (repeat' split) <;> simp

@[simp] theorem kept_ptpIgnore (s : State) : Kept s s.ptpIgnore := ⟨rfl, rfl⟩

@[simp] theorem kept_unlock (s : State) : Kept s s.unlock := by
  simp [State.unlock]

/-! ### Quayline, plane side -/

@[simp] theorem kept_putPlane (s : State) (pl : PlaneId) (p : Plane) : Kept s (s.putPlane pl p) := ⟨rfl, rfl⟩

@[simp] theorem kept_updPlane (s : State) (pl : PlaneId) (f : Plane → Plane) : Kept s (s.updPlane pl f) := ⟨rfl, rfl⟩

@[simp] theorem kept_sendStatus (s : State) (pl : PlaneId) (down : Bool) : Kept s (s.sendStatus pl down) := by
  unfold State.sendStatus
  split <;> simp

@[simp] theorem kept_logDrift (s : State) (pl : PlaneId) (ctrl : Nat) (before : Bool) :
    Kept s (s.logDrift pl ctrl before) := by
  unfold State.logDrift
  dsimp only
  split <;> simp

@[simp] theorem kept_sendSync (s : State) (pl : PlaneId) : Kept s (s.sendSync pl) := by
  unfold State.sendSync
  dsimp only
  split <;> simp

@[simp] theorem kept_planeTick (s : State) (pl : PlaneId) (set : List LaneId) (cn : U32) (t : Nat) :
    Kept s (s.planeTick pl set cn t) := by
  unfold State.planeTick
  dsimp only
  (repeat' split) <;> simp

@[simp] theorem kept_lateStrobe (s : State) (pl : PlaneId) (ln : LaneId) : Kept s (s.lateStrobe pl ln) := ⟨rfl, rfl⟩

@[simp] theorem kept_forwardUp (s : State) (pl : PlaneId) (c : Nat) (r : UpRec) : Kept s (s.forwardUp pl c r) := by
  unfold State.forwardUp
  split
  · simp
  · refine kept_foldl _ (fun u ln => ?_) _ _
    dsimp only
    (repeat' split) <;> simp

@[simp] theorem kept_guard (s : State) (pl : PlaneId) (seg slot : Nat) (e : Int) (frame : List Byte) :
    Kept s (s.guard pl seg slot e frame) := by
  unfold State.guard
  dsimp only
  (repeat' split) <;> simp

/-! ### The dynamic windows -/

theorem kept_takeRequest {s s1 : State} {pl : PlaneId} {seg : Nat} {r : Nat × List Byte}
    (h : s.takeRequest pl seg = some (r, s1)) : Kept s s1 := by
  unfold State.takeRequest at h
  dsimp only at h
  split at h
  · cases h
  · cases h
    simp

@[simp] theorem kept_sendRequest (s : State) (pl : PlaneId) (seg t : Nat) : Kept s (s.sendRequest pl seg t) := by
  unfold State.sendRequest
  split
  · simp
  · next r s1 h =>
    have hk := kept_takeRequest h
    split <;> simpa using hk

@[simp] theorem kept_useFree (s : State) (pl : PlaneId) (seg t : Nat) : Kept s (s.useFree pl seg t) := by
  unfold State.useFree
  dsimp only
  split <;> simp

@[simp] theorem kept_openWindow (s : State) (pl : PlaneId) (seg win t : Nat) :
    Kept s (s.openWindow pl seg win t) := by
  unfold State.openWindow
  dsimp only
  (repeat' split) <;> simp

@[simp] theorem kept_takeResponse (s : State) (c : Nat) (f : List Byte) : Kept s (s.takeResponse c f) := by
  unfold State.takeResponse
  split <;> simp

/-! ### Far end of the line -/

@[simp] theorem kept_farSends (s : State) (pl : PlaneId) : Kept s (s.farSends pl) := by
  unfold State.farSends
  dsimp only
  (repeat' split) <;> simp

/-! ### Object controllers -/

@[simp] theorem kept_putCtrl (s : State) (c : Nat) (x : Ctrl) : Kept s (s.putCtrl c x) := ⟨rfl, rfl⟩

@[simp] theorem kept_updController (s : State) (c : Nat) (f : Ctrl → Ctrl) : Kept s (s.updController c f) :=
  ⟨rfl, rfl⟩

@[simp] theorem kept_ncAnswer (s : State) (ctrl : Nat) (pl : PlaneId) (port : Nat) (frame : List Byte)
    (t turn : Nat) (serve : Ctrl → List Byte → Option (List Byte × Ctrl)) :
    Kept s (s.ncAnswer ctrl pl port frame t turn serve) := by
  unfold State.ncAnswer
  dsimp only
  (repeat' split) <;> simp

/-! ### Accounts and reads -/

@[simp] theorem kept_updAccess (s : State) (f : Access → Access) : Kept s (s.updAccess f) := ⟨rfl, rfl⟩

@[simp] theorem kept_failLogin (s : State) (n : Nat) (a : Account) : Kept s (s.failLogin n a) := by
  unfold State.failLogin
  split <;> simp

@[simp] theorem kept_endSession (s : State) (sess : Nat) : Kept s (s.endSession sess) := by
  unfold State.endSession
  split <;> simp

@[simp] theorem kept_withPassword (s : State) (n : Nat) (a : Account) (password : List Byte) :
    Kept s (s.withPassword n a password) := ⟨rfl, rfl⟩

@[simp] theorem kept_refuse (s : State) (sess : Nat) (vals : List Int) : Kept s (s.refuse sess vals) := by
  simp [State.refuse]

@[simp] theorem kept_answer (s : State) (sess : Nat) (vals : List Int) : Kept s (s.answer sess vals) := by
  simp [State.answer]

/-! ### Manifests and firmware -/

@[simp] theorem kept_sendCmd (s : State) (sess : Nat) (c : LaneCmd) : Kept s (s.sendCmd sess c) := by
  unfold State.sendCmd
  split <;> simp

@[simp] theorem kept_mapFlash (s : State) (f : LaneFlash → LaneFlash) : Kept s (s.mapFlash f) := by
  simp [State.mapFlash, apply_ite Lane.views]

/-! ### The debugger -/

@[simp] theorem kept_updPilot (s : State) (f : Pilot → Pilot) : Kept s (s.updPilot f) := ⟨rfl, rfl⟩

@[simp] theorem kept_pilotRefuse (s : State) : Kept s s.pilotRefuse := by
  simp [State.pilotRefuse]

@[simp] theorem kept_stopAt (s : State) (core : CoreId) : Kept s (s.stopAt core) := ⟨rfl, rfl⟩

/-! ### Self-test -/

@[simp] theorem kept_putResult (s : State) (unit : Nat) (r : BistRec) (ms : List Mark) :
    Kept s (s.putResult unit r ms) := by
  unfold State.putResult
  split <;> simp

@[simp] theorem kept_bistDue (s : State) : Kept s s.bistDue := by
  unfold State.bistDue
  split <;> simp

@[simp] theorem kept_endItem (s : State) (unit : Nat) (r : BistRec) (ms : List Mark) :
    Kept s (s.endItem unit r ms) := by
  unfold State.endItem
  (repeat' split) <;> simp

@[simp] theorem kept_zeroise (s : State) (unit : Nat) : Kept s (s.zeroise unit) := by
  unfold State.zeroise
  split <;> simp

@[simp] theorem kept_cutUnit (s : State) (unit : Nat) : Kept s (s.cutUnit unit) := by
  unfold State.cutUnit
  split <;> simp

@[simp] theorem kept_cutBist (s : State) : Kept s s.cutBist := by
  unfold State.cutBist
  split <;> simp

/-! ### Power -/

@[simp] theorem kept_domainMissed (s : State) (d : Domain) : Kept s (s.domainMissed d) := by
  simp [State.domainMissed]

@[simp] theorem kept_seqEnd (s : State) : Kept s s.seqEnd := ⟨rfl, rfl⟩

@[simp] theorem kept_seqNext (ds : List Domain) (s : State) : Kept s (s.seqNext ds) := by
  induction ds generalizing s with
  | nil => simp [State.seqNext]
  | cons d r ih =>
    unfold State.seqNext
    split
    · exact ih s
    · split
      · simp
      · have h := ih (s.domainMissed d)
        simpa using h

/-! ### Power-good -/

@[simp] theorem kept_applyMarks (s : State) : Kept s s.applyMarks := ⟨rfl, rfl⟩

@[simp] theorem kept_powerOn (s : State) (mask : BitVec 12) : Kept s (s.powerOn mask) := by
  unfold State.powerOn
  exact kept_seqNext _ _

/-! ### Families of meanings that end in `ok` -/

/-- No event of the Wharf bus, PTP time, the logbook, the snapshot network or the service registers moves a lane (R3). -/
theorem keeps_of_serviceCommand {c : Instr} (h : serviceCommand c = true) (s : State) : Keeps s (exec c s) := by
  cases c with
  | canFrameRx | txRequestAdmit | frameStart | canFrameEnd | busOffHoldoffEnd | busOffRecovery | busoffLimit
  | tideRowStart | exclusiveWindow | channelModeChange | ptpSyncRx | ptpFollowUpRx | ptpAnnounceRx
  | announceReceiptTimeout | pdelayReqSend | pdelayReqRx | pdelayRespRx | transparentClockForward | logEvent
  | snapRequest | snapinEdge | snapWindowEnd | snapLocalLatch | blackboxFrameWritten | lockKeyWrite | lockRead
  | lockTimeout | queDataRead | quePush | queFlush | queEnable | queWmWrite | queCfgWrite | queErrRead | chkStart
  | chkAbort | chkValueWrite | chkScanEnd | snpTrigGo | snpBankRelease | ptpModeWrite | ptpIncrWrite =>
    dsimp only [exec, execCanFrameRx, execTxRequestAdmit, execFrameStart, execCanFrameEnd, execBusOffHoldoffEnd,
      execBusOffRecovery, execBusoffLimit, execTideRowStart, execExclusiveWindow, execChannelModeChange,
      execPtpSyncRx, execPtpFollowUpRx, execPtpAnnounceRx, execAnnounceReceiptTimeout, execPdelayReqSend,
      execPdelayReqRx, execPdelayRespRx, execTransparentClockForward, execLogEvent, execSnapRequest, execSnapinEdge,
      execSnapWindowEnd, execSnapLocalLatch, execBlackboxFrameWritten, execLockKeyWrite, execLockRead,
      execLockTimeout, execQueDataRead, execQuePush, execQueFlush, execQueEnable, execQueWmWrite, execQueCfgWrite,
      execQueErrRead, execChkStart, execChkAbort, execChkValueWrite, execChkScanEnd, execSnpTrigGo,
      execSnpBankRelease, execPtpModeWrite, execPtpIncrWrite]
    (repeat' split) <;> simp [State.lane]
  | _ => exact absurd h Bool.false_ne_true

/-- Events of the line that judge no lane: of the plane chips, the dynamic windows, the controllers, the far end and the
hawser (chapters 8, 9 and 13). -/
def lineCommand : Instr → Bool
  | .planeNoTick _ | .uplinkGuardian _ _ _ _ _ | .barred _ _ | .delayUnknown _ _ | .laneBodyRx _ _ _ _ _ _
  | .downlinkSlotOpen _ _ _ | .qDynWindowStart _ _ _ | .dreqSend _ _ _ _ | .drespRx _ _ _ _ | .drespMissing _ _
  | .lineDreqRx _ _ _ _ | .quaylineListenEnd _ | .ncRequestQueue _ _ _ | .ncResponseRx _ _ _ _
  | .lossOfSignal _ _ _ | .controllerSyncRx _ _ _ _ _ _ | .controllerCoast _ _ _ _
  | .controllerSyncLoss _ _ _ _ | .controllerLaunch _ _ _ _ _ _ | .controllerDownlinkRx _ _ _ _ _ _ _
  | .controllerAgeExpiry _ | .rstClear _ | .controllerRestart _ _ _ | .controllerDreqRx _ _ _ _ _ _
  | .controllerDsetRx _ _ _ _ | .controllerDnoteRx _ _ _ _ | .controllerBarRx _ _ _ _ | .ident _ _ _ _ _ _
  | .counters _ _ _ _ _ _ | .clrcnt _ _ _ _ _ _ | .ncDesigner _ _ _ _ _ _ _ | .farTick _ _
  | .farTickStrobeRx _ _ | .farEndFeedStart _ _ | .farEndFeedStop _ _ | .relayRx _ _ _ _ _ _ _
  | .relaySlotOpen _ _ _ _ | .copyRx _ _ _ _ _ | .rollbackHoldClear | .autoHandover | .hawserLost => true
  | _ => false

/-- No event of the line that judges no lane moves one. -/
theorem keeps_of_lineCommand {c : Instr} (h : lineCommand c = true) (s : State) : Keeps s (exec c s) := by
  cases c with
  | planeNoTick | uplinkGuardian | barred | delayUnknown | laneBodyRx | downlinkSlotOpen | qDynWindowStart
  | dreqSend | drespRx | drespMissing | lineDreqRx | quaylineListenEnd | ncRequestQueue | ncResponseRx
  | lossOfSignal | controllerSyncRx | controllerCoast | controllerSyncLoss | controllerLaunch
  | controllerDownlinkRx | controllerAgeExpiry | rstClear | controllerRestart | controllerDreqRx | controllerDsetRx
  | controllerDnoteRx | controllerBarRx | ident | counters | clrcnt | ncDesigner | farTick | farTickStrobeRx
  | farEndFeedStart | farEndFeedStop | relayRx | relaySlotOpen | copyRx | rollbackHoldClear | autoHandover
  | hawserLost =>
    dsimp only [exec, execPlaneNoTick, execUplinkGuardian, execBarred, execDelayUnknown, execLaneBodyRx,
      execDownlinkSlotOpen, execQDynWindowStart, execDreqSend, execDrespRx, execDrespMissing, execLineDreqRx,
      execQuaylineListenEnd, execNcRequestQueue, execNcResponseRx, execLossOfSignal, execControllerSyncRx,
      execControllerCoast, execControllerSyncLoss, execControllerLaunch, execControllerDownlinkRx,
      execControllerAgeExpiry, execRstClear, execControllerRestart, execControllerDreqRx, execControllerDsetRx,
      execControllerDnoteRx, execControllerBarRx, execIdent, execCounters, execClrcnt, execNcDesigner, execFarTick,
      execFarTickStrobeRx, execFarEndFeedStart, execFarEndFeedStop, execRelayRx, execRelaySlotOpen, execCopyRx,
      execRollbackHoldClear, execAutoHandover, execHawserLost]
    (repeat' split) <;> simp [State.lane]
  | _ => exact absurd h Bool.false_ne_true

/-- Commands of a session that SVC carries out or hands to the lanes, what the manifests and firmware they load bring, and
the debugger (chapters 3 and 14). -/
def sessionCommand : Instr → Bool
  | .login _ _ _ | .accountUnlock _ _ | .logout _ | .sessionTimeout _ _ | .accountCreate _ _ _ _
  | .accountRemove _ _ | .passwordChange _ _ _ | .readState _ | .readLogbook _ _ _ | .readBlackbox _ _
  | .logExport _ _ | .blackboxExport _ _ | .signingKeyEnrol _ _ _ | .signingKeyRemove _ _ | .manifestLoad _ _ _
  | .manifestBodyWritten _ _ | .manifestVerified _ _ | .manifestStaged _ | .activatePending _ _ _
  | .firmwareLoad _ _ _ | .firmwareActivate _ | .onlineChange _ | .restrictiveForce _ _
  | .removeRestrictiveForce _ _ | .forceValue _ _ _ | .removeForcedValue _ _ | .individualRelease _ _
  | .deferTest _ _ | .handover _ | .pilotBreakpointSet _ _ _ | .pilotRead _ _ | .pilotBreakpointHit _
  | .pilotRerun => true
  | _ => false

/-- No command of a session that the lanes have yet to agree, and none that SVC carries out, moves a lane. -/
theorem keeps_of_sessionCommand {c : Instr} (h : sessionCommand c = true) (s : State) : Keeps s (exec c s) := by
  cases c with
  | login | accountUnlock | logout | sessionTimeout | accountCreate | accountRemove | passwordChange | readState
  | readLogbook | readBlackbox | logExport | blackboxExport | signingKeyEnrol | signingKeyRemove | manifestLoad
  | manifestBodyWritten | manifestVerified | manifestStaged | activatePending | firmwareLoad | firmwareActivate
  | onlineChange | restrictiveForce | removeRestrictiveForce | forceValue | removeForcedValue | individualRelease
  | deferTest | handover | pilotBreakpointSet | pilotRead | pilotBreakpointHit | pilotRerun =>
    dsimp only [exec, execLogin, execAccountUnlock, execLogout, execSessionTimeout, execAccountCreate, execAccountRemove,
      execPasswordChange, execReadState, execReadLogbook, execReadBlackbox, execLogExport, execBlackboxExport,
      execSigningKeyEnrol, execSigningKeyRemove, execManifestLoad, execManifestBodyWritten, execManifestVerified,
      execManifestStaged, execActivatePending, execFirmwareLoad, execFirmwareActivate, execOnlineChange,
      execRestrictiveForce, execRemoveRestrictiveForce, execForceValue, execRemoveForcedValue, execIndividualRelease,
      execDeferTest, execHandover, execPilotBreakpointSet, execPilotRead, execPilotBreakpointHit, execPilotRerun]
    (repeat' split) <;> simp [State.lane, apply_ite Lane.views]
  | _ => exact absurd h Bool.false_ne_true

/-! ### Meanings that compute the flag again -/

theorem ownStates_settle (s : State) : ownStates s.settle.lanes = ownStates s.lanes := by
  unfold State.settle
  dsimp only
  split <;> simp

theorem lanes2of2_settle (s : State) : s.settle.lanes2of2 = decide (s.voters.length = 2) := by
  unfold State.settle
  dsimp only
  split
  · assumption
  · rfl

theorem settle_flagOk (s : State) : s.settle.flagOk := by
  unfold State.flagOk
  rw [lanes2of2_settle, voters_congr (ownStates_settle s)]

theorem keepsFlag_fin (s u : State) : KeepsFlag s (fin u) := by
  rintro t ⟨⟩ -
  exact settle_flagOk u

/-! ### The loss of all power -/

/-- Without power every lane is LANE-OFF and the flag at its reset value. -/
theorem unpowered_flagOk (s : State) : s.unpowered.flagOk := by
  have h : s.unpowered.voters = State.reset.voters := voters_congr rfl
  unfold State.flagOk
  rw [h]
  rfl

theorem keepsFlag_execDomainPowerDown (s : State) : KeepsFlag s (execDomainPowerDown s) := by
  unfold execDomainPowerDown
  split
  · rintro t ⟨⟩ -
    exact unpowered_flagOk s
  · exact keepsFlag_ok ⟨rfl, rfl⟩

/-! ### Every command -/

/-- The invariant's step, command by command: `fin` computes the flag again, and `ok` finds it kept. -/
theorem exec_keepsFlag (c : Instr) (s : State) : KeepsFlag s (exec c s) := by
  cases c with
  -- meanings that are `fin` as they stand, the Tally instructions among them
  | laneSupplyLoss | pilotClose | cadd | csub | cmulk | ccmpEq | ccmpNe | ccmpLt | ccmpLe | band | bor | bnot
  | bsel | ldl | stl | lde | ste | ldi | sto | tmsStart | tmsRestart | tmsCancel | tmx | edg | rrq | brf
  | loopnInit | loopnClose | ckpt | snap | endp | routeSet | routeCancel | routeCheck | irel =>
    exact keepsFlag_fin s _
  -- meanings that end in `fin` on each branch
  | domainPowerGood | domainPgTimeout | bootComplete | bootTimeout | pllLockLoss | agreedTick | wakeDeadline
  | agreementRecordRx | agreementEchoRx | inputAgreement | repairPayloadRx | agreeMinorityLimit | pass1Start
  | pass2Start | passBudgetCheck | pConsStart | consensusRecordRx | exchangeDeadline | consensusDecision
  | secondSkipHalt | pConsEnd | exclusionNoticeRx | clxLinkFailure | laneRestart | rejoinChunkRx
  | rejoinFrameStateRx | rejoinComplete | rejoinFailure | rotatingTestStart | testStepEnd | rotatingTestTimeout
  | moduleSyncRx | sealRx | hawserStatusRx | copyDecision | takeover | svcRestart | slotSelect | restartWarm
  | restartCold | enterTest | leaveTest | moduleClose | rejoinCommand | pilotOpen | pilotStep | plannedShutdown
  | bistAbort | shutdownReady | registerWrite | pwrReqOn | pwrReqOff | domainPgLoss =>
    dsimp only [exec, execDomainPowerGood, execDomainPgTimeout, execBootComplete, execBootTimeout, execPllLockLoss,
      execAgreedTick, execWakeDeadline, execAgreementRecordRx, execAgreementEchoRx, execInputAgreement,
      execRepairPayloadRx, execAgreeMinorityLimit, execPass1Start, execPass2Start, execPassBudgetCheck,
      execPConsStart, execConsensusRecordRx, execExchangeDeadline, execConsensusDecision, execSecondSkipHalt,
      execPConsEnd, execExclusionNoticeRx, execClxLinkFailure, execLaneRestart, execRejoinChunkRx,
      execRejoinFrameStateRx, execRejoinComplete, execRejoinFailure, execRotatingTestStart, execTestStepEnd,
      execRotatingTestTimeout, execModuleSyncRx, execSealRx, execHawserStatusRx, execCopyDecision, execTakeover,
      execSvcRestart, execSlotSelect, execRestartWarm, execRestartCold, execEnterTest, execLeaveTest,
      execModuleClose, execRejoinCommand, execPilotOpen, execPilotStep, execPlannedShutdown, execBistAbort,
      execShutdownReady, execRegisterWrite, execPwrReqOn, execPwrReqOff, execDomainPgLoss]
    (repeat' split) <;> exact keepsFlag_fin s _
  | canFrameRx | txRequestAdmit | frameStart | canFrameEnd | busOffHoldoffEnd | busOffRecovery | busoffLimit
  | tideRowStart | exclusiveWindow | channelModeChange | ptpSyncRx | ptpFollowUpRx | ptpAnnounceRx
  | announceReceiptTimeout | pdelayReqSend | pdelayReqRx | pdelayRespRx | transparentClockForward | logEvent
  | snapRequest | snapinEdge | snapWindowEnd | snapLocalLatch | blackboxFrameWritten | lockKeyWrite | lockRead
  | lockTimeout | queDataRead | quePush | queFlush | queEnable | queWmWrite | queCfgWrite | queErrRead | chkStart
  | chkAbort | chkValueWrite | chkScanEnd | snpTrigGo | snpBankRelease | ptpModeWrite | ptpIncrWrite =>
    exact (keeps_of_serviceCommand rfl s).keepsFlag
  | planeNoTick | uplinkGuardian | barred | delayUnknown | laneBodyRx | downlinkSlotOpen | qDynWindowStart
  | dreqSend | drespRx | drespMissing | lineDreqRx | quaylineListenEnd | ncRequestQueue | ncResponseRx
  | lossOfSignal | controllerSyncRx | controllerCoast | controllerSyncLoss | controllerLaunch
  | controllerDownlinkRx | controllerAgeExpiry | rstClear | controllerRestart | controllerDreqRx | controllerDsetRx
  | controllerDnoteRx | controllerBarRx | ident | counters | clrcnt | ncDesigner | farTick | farTickStrobeRx
  | farEndFeedStart | farEndFeedStop | relayRx | relaySlotOpen | copyRx | rollbackHoldClear | autoHandover
  | hawserLost =>
    exact (keeps_of_lineCommand rfl s).keepsFlag
  | login | accountUnlock | logout | sessionTimeout | accountCreate | accountRemove | passwordChange | readState
  | readLogbook | readBlackbox | logExport | blackboxExport | signingKeyEnrol | signingKeyRemove | manifestLoad
  | manifestBodyWritten | manifestVerified | manifestStaged | activatePending | firmwareLoad | firmwareActivate
  | onlineChange | restrictiveForce | removeRestrictiveForce | forceValue | removeForcedValue | individualRelease
  | deferTest | handover | pilotBreakpointSet | pilotRead | pilotBreakpointHit | pilotRerun =>
    exact (keeps_of_sessionCommand rfl s).keepsFlag
  -- the other meanings that end in `ok`: of a lane alone, of the uplinks, of self-test items and of power
  | feedLevelChange | powerFailWarning | powerGood | tickMarkerRx | wakeRequest | pAgreeStart | uplinkAgeLimit
  | safeLinkAgeExpiry | pSignStart | mirrorRefresh | uplinkTelegramRx | cycleStartNotice | safeLinkFrameRx
  | batchClose | safeLinkCopyCheck | slCopyExpire | safeLinkSend | slUnsigned | timedLaunch | uplinkFrameRx
  | prpSupervisionSend | svcRecovery | esStuck | esDisc | inputTest | esTask | firstMessageLapse | irelEntry
  | bistItemEnd | bistItemOvertime | ibcFail | vliofStageFail | unitselChange | tempHigh =>
    refine Keeps.keepsFlag ?_
    dsimp only [exec, execFeedLevelChange, execPowerFailWarning, execPowerGood, execTickMarkerRx, execWakeRequest,
      execPAgreeStart, execUplinkAgeLimit, execSafeLinkAgeExpiry, execPSignStart, execMirrorRefresh,
      execUplinkTelegramRx, execCycleStartNotice, execSafeLinkFrameRx, execBatchClose, execSafeLinkCopyCheck,
      execSlCopyExpire, execSafeLinkSend, execSlUnsigned, execTimedLaunch, execUplinkFrameRx, execPrpSupervisionSend,
      execSvcRecovery, execEsStuck, execEsDisc, execInputTest, execEsTask, execFirstMessageLapse, execIrelEntry,
      execBistItemEnd, execBistItemOvertime, execIbcFail, execVliofStageFail, execUnitselChange, execTempHigh]
    (repeat' split) <;> simp [State.lane]
  | comparatorSample => exact (keeps_execComparatorSample _ _ _ s).keepsFlag
  -- meanings with branches of both ends
  | tickStrobeRx | switchDecision | pilotWrite =>
    dsimp only [exec, execTickStrobeRx, execSwitchDecision, execPilotWrite]
    (repeat' split) <;> simp [keepsFlag_fin, keepsFlag_ok]
  | domainPowerDown => exact keepsFlag_execDomainPowerDown s

/-- Settles O56: a step runs the command at the front of the queue, which the flag does not depend on. -/
theorem flagKept : Obligations.FlagKept := by
  unfold Obligations.FlagKept
  intro s t hs hstep
  unfold step at hstep
  split at hstep
  · cases hstep
    exact hs
  · next c r _ => exact exec_keepsFlag c { s with pending := r } t hstep hs

end Sys2Proof.VoteFlag
end

section
/-! ## Switch pairs (R34): what an energised output says of the vote -/

namespace Sys2Proof.SwitchPairs

open Sys2Proof Sys2Proof.Machine Sys2Proof.Laws

/-- The output circuit of R34: three pairs in parallel, each two switches in series, fed by the field side. -/
theorem energised_iff (s : State) (ch : Nat) :
    s.energised ch = true ↔
      s.fieldOn = true ∧
        ∃ m n, (m, n) ∈ [(LaneId.l1, LaneId.l2), (.l2, .l3), (.l1, .l3)] ∧ s.pairClosed m n ch = true := by
  rw [State.energised, Bool.and_eq_true, Bool.or_eq_true, Bool.or_eq_true, and_comm]
  refine and_congr_right fun _ => ⟨?_, ?_⟩
  · rintro ((h | h) | h)
    · exact ⟨.l1, .l2, by simp, h⟩
    · exact ⟨.l2, .l3, by simp, h⟩
    · exact ⟨.l1, .l3, by simp, h⟩
  · rintro ⟨m, n, hp, h⟩
    simp only [List.mem_cons, Prod.mk.injEq, List.not_mem_nil, or_false] at hp
    rcases hp with ⟨rfl, rfl⟩ | ⟨rfl, rfl⟩ | ⟨rfl, rfl⟩
    · exact .inl (.inl h)
    · exact .inl (.inr h)
    · exact .inr h

/-- A pair joins two different lanes. -/
theorem ne_of_mem_pairs {m n : LaneId} (h : (m, n) ∈ [(LaneId.l1, LaneId.l2), (.l2, .l3), (.l1, .l3)]) : m ≠ n := by
  rintro rfl
  cases m <;> simp at h

/-- Only a lane IN-VOTE closes a switch: the others hold all of theirs open. -/
theorem votes_of_switch_closed {s : State} {ln : LaneId} {ch i : Nat} (hs : s.switchesSafe)
    (hc : (Tbl.get 0 (s.lane ln).switches ch).getLsbD i = true) : s.votes ln = true := by
  by_contra hv
  have hopen : (s.lane ln).switches = [] := hs ln (by simpa [State.votes] using hv)
  simp [hopen] at hc

theorem mem_voters {s : State} {ln : LaneId} : ln ∈ s.voters ↔ s.votes ln = true := by
  have hall : ln ∈ LaneId.all := by cases ln <;> decide
  simp [State.voters, hall]

/-- Two different lanes IN-VOTE are two of the voters. -/
theorem two_le_voters {s : State} {m n : LaneId} (hne : m ≠ n) (hm : s.votes m = true) (hn : s.votes n = true) :
    2 ≤ s.voters.length := by
  have hnodup : [m, n].Nodup := by simpa using hne
  have hsub : [m, n] ⊆ s.voters := by simp [mem_voters, hm, hn]
  exact (hnodup.subperm hsub).length_le

/-- Settles O59: an energised output has a complete pair, and each of its two closed switches belongs to a lane
IN-VOTE. -/
theorem energisedByTwoLanes : Obligations.EnergisedByTwoLanes := by
  unfold Obligations.EnergisedByTwoLanes
  refine fun s ch hs => ⟨fun he => ?_, fun hf hp => (energised_iff s ch).2 ⟨hf, hp⟩⟩
  obtain ⟨hf, m, n, hmem, hclosed⟩ := (energised_iff s ch).1 he
  obtain ⟨cm, cn⟩ := (Bool.and_eq_true _ _).mp hclosed
  have hne := ne_of_mem_pairs hmem
  have vm := votes_of_switch_closed hs cm
  have vn := votes_of_switch_closed hs cn
  exact ⟨two_le_voters hne vm vn, hf, m, n, hne, vm, vn, cm, cn⟩

end Sys2Proof.SwitchPairs
end

section
/-! ## The hardware queues (R451-R455): what a queue does with its words, and how a command reaches it

The rules of one queue come first. Then what the operations of the register block leave alone: a queue, the counts of
the refused writes, the lanes and the module's state. A write to the watermarks or to the depth starts on a state of
its own when the lock admits it, and stops at another when the lock refuses it; the commands are said in these words. -/

namespace Sys2Proof.QueueRules

open Sys2Proof Sys2Proof.Machine Sys2Proof.Laws

/-! ### One queue -/

@[simp] theorem words_mark (Q : Queue) : Q.mark.words = Q.words := rfl

@[simp] theorem high_mark (Q : Queue) : Q.mark.high = Q.high := rfl

@[simp] theorem low_mark (Q : Queue) : Q.mark.low = Q.low := rfl

theorem words_push_of_room {Q : Queue} {w : BitVec 63} (he : Q.en = true) (hr : Q.words.length < Q.depth) :
    (Q.push w).words = Q.words ++ [w] := by
  simp [Queue.push, he, Nat.not_le.2 hr]

theorem push_of_full {Q : Queue} {w : BitVec 63} (he : Q.en = true) (hf : Q.depth ≤ Q.words.length) :
    Q.push w = { Q with ovf := min (Q.ovf + 1) 65535 } := by
  simp [Queue.push, he, hf, sat16]

theorem push_of_disabled {Q : Queue} {w : BitVec 63} (he : Q.en = false) :
    Q.push w = { Q with drop := min (Q.drop + 1) 65535 } := by
  simp [Queue.push, he, sat16]

theorem pop_of_cons {Q : Queue} {x : BitVec 63} {r : List (BitVec 63)} (he : Q.en = true) (hw : Q.words = x :: r) :
    Q.pop = (x.setWidth 64 ||| 0x8000000000000000, Queue.mark { Q with words := r }) := by
  simp [Queue.pop, he, hw]

theorem pop_of_none {Q : Queue} (h : Q.en = false ∨ Q.words = []) : Q.pop = (0, Q) := by
  rcases h with h | h <;> simp [Queue.pop, h]

/-- However many further items go with them, the words that a flush discards are counted. -/
theorem le_drop_flush (Q : Queue) (items : Nat) : min (Q.drop + Q.words.length) 65535 ≤ (Q.flush items).drop :=
  min_le_min_right _ (Nat.le_add_right _ _)

/-! ### Reads after writes -/

@[simp] theorem queue_putQueue_self (s : State) (q : Nat) (Q : Queue) : (s.putQueue q Q).queue q = Q :=
  Tbl_get_set_self _ _ _ _

/-- The two queues need not have one reset value, which is what a table reads where it lists no entry. -/
theorem queue_putQueue_ne (s : State) {q k : Nat} (Q : Queue) (h : q ≠ k) : (s.putQueue k Q).queue q = s.queue q := by
  unfold State.queue State.putQueue Tbl.set
  dsimp only
  split
  · exact Tbl_get_filter_ne _ _ h
  · exact Tbl_get_insert_ne _ _ _ h

@[simp] theorem queue_touch (s : State) (t q : Nat) : (s.touch t).queue q = s.queue q := rfl

@[simp] theorem queue_putLock (s : State) (b : Blk) (k : Lock) (q : Nat) : (s.putLock b k).queue q = s.queue q := rfl

@[simp] theorem lock_putLock_self (s : State) (b : Blk) (k : Lock) : (s.putLock b k).lock b = k :=
  Tbl_get_set_self _ _ _ _

theorem lock_congr {s u : State} (h : u.regs = s.regs) (b : Blk) : u.lock b = s.lock b := by
  rw [State.lock, State.lock, h]

/-- An event goes to the logbook or is counted in Q120; the other queues do not see it. -/
theorem queue_raise (s : State) (c : LogClass) (n : EventName) (d : Die) (x : List Int) {q : Nat} (hq : q ≠ 120) :
    (s.raise c n d x).queue q = s.queue q := by
  unfold State.raise
  split
  · split
    · rfl
    · exact queue_putQueue_ne s _ hq
  · rfl

/-! ### What leaves the lanes and the module's state alone -/

theorem vitalSame_trans {s t u : State} (h : vitalSame s t) (k : vitalSame t u) : vitalSame s u :=
  ⟨k.1.trans h.1, k.2.trans h.2⟩

theorem vitalSame_foldl {α : Type} (f : State → α → State) (h : ∀ s a, vitalSame s (f s a)) (xs : List α) (s : State) :
    vitalSame s (xs.foldl f s) :=
  ⟨VoteFlag.foldl_preserves State.lanes f (fun s a => (h s a).1) xs s,
   VoteFlag.foldl_preserves State.module f (fun s a => (h s a).2) xs s⟩

theorem vitalSame_complete (s : State) (ch : Nat) (x : TxReq) (status : Nat) :
    vitalSame s (s.complete ch x status) := ⟨rfl, rfl⟩

theorem vitalSame_putChan (s : State) (ch : Nat) (c : WbChan) : vitalSame s (s.putChan ch c) := ⟨rfl, rfl⟩

theorem vitalSame_putQueue (s : State) (q : Nat) (Q : Queue) : vitalSame s (s.putQueue q Q) := ⟨rfl, rfl⟩

theorem vitalSame_queWrote (s : State) (q : Nat) : vitalSame s (s.queWrote q) := by
  unfold State.queWrote
  split <;> exact ⟨rfl, rfl⟩

theorem vitalSame_lockedWrite (s : State) (b : Blk) (off : Nat) : vitalSame s (s.lockedWrite b off) :=
  ⟨lanes_raise .., module_raise ..⟩

theorem vitalSame_setWm (s : State) (q : Nat) (v : U32) : vitalSame s (s.setWm q v) := by
  unfold State.setWm
  dsimp only
  split <;> exact ⟨rfl, rfl⟩

theorem vitalSame_setDepth (s : State) (q : Nat) (v : U32) : vitalSame s (s.setDepth q v) := by
  unfold State.setDepth
  dsimp only
  split <;> exact ⟨rfl, rfl⟩

/-- The items a flush discards are the logbook's, the uplink's or a channel's, each with its completion. -/
theorem vitalSame_flushItems (s : State) (q : Nat) : vitalSame s (s.flushItems q).2 := by
  unfold State.flushItems
  dsimp only
  split
  · exact ⟨rfl, rfl⟩
  split
  · exact ⟨rfl, rfl⟩
  split
  · exact ⟨rfl, rfl⟩
  split
  · exact vitalSame_trans (vitalSame_putChan ..) (vitalSame_foldl _ (fun _ _ => vitalSame_complete ..) ..)
  · exact ⟨rfl, rfl⟩

theorem vitalSame_flush (s : State) (q : Nat) : vitalSame s (s.flush q) :=
  vitalSame_trans (vitalSame_flushItems s q) (vitalSame_putQueue _ q _)

/-! ### A read of the block -/

/-- The state after a read that returns a word. -/
def returned (s : State) (x : U64) : State := { s with regs := { s.regs with readOut := x } }

@[simp] theorem readOut_returned (s : State) (x : U64) : (returned s x).regs.readOut = x := rfl

@[simp] theorem queue_returned (s : State) (x : U64) (q : Nat) : (returned s x).queue q = s.queue q := rfl

theorem vitalSame_returned (s : State) (x : U64) : vitalSame s (returned s x) := ⟨rfl, rfl⟩

/-! ### A write to the block -/

@[simp] theorem queue_queWrote (s : State) (q k : Nat) : (s.queWrote q).queue k = s.queue k := by
  unfold State.queWrote
  split <;> rfl

@[simp] theorem queue_flush (s : State) (q : Nat) :
    (s.flush q).queue q = (s.queue q).flush (s.flushItems q).1 :=
  queue_putQueue_self ..

/-- The state on which a write to an RWL field takes effect: the sequence has ended and the 10 ms start again (R450). -/
def lockRestarted (s : State) (b : Blk) (t : Nat) : State :=
  let s0 := s.touch t
  let k := (s0.lock b).lapse s0.now
  (s0.putLock b { k with seq1 := false }).putLock b { k with seq1 := false, since := s0.now }

/-- The state that a write to an RWL field of a locked block leaves (R16, R450). -/
def lockRefused (s : State) (b : Blk) (off t : Nat) : State :=
  let s0 := s.touch t
  (s0.putLock b { (s0.lock b).lapse s0.now with seq1 := false }).lockedWrite b off

theorem rwl_of_unlocked {s : State} {b : Blk} {t : Nat} (off : Nat) (f : State → State)
    (h : ((s.lock b).lapse (max s.now t)).unlocked = true) : s.rwl b off t f = f (lockRestarted s b t) :=
  if_pos h

theorem rwl_of_locked {s : State} {b : Blk} {t : Nat} (off : Nat) (f : State → State)
    (h : ((s.lock b).lapse (max s.now t)).unlocked = false) : s.rwl b off t f = lockRefused s b off t :=
  if_neg (Bool.eq_false_iff.1 h)

/-- A lock that lapses keeps its count of locked writes. -/
@[simp] theorem lwCount_lapse (k : Lock) (now : Nat) : (k.lapse now).lwCount = k.lwCount := by
  unfold Lock.lapse
  split <;> rfl

theorem lwCount_lockRefused (s : State) (b : Blk) (off t : Nat) :
    ((lockRefused s b off t).lock b).lwCount = min ((s.lock b).lwCount + 1) 255 := by
  have hk : (s.touch t).lock b = s.lock b := rfl
  simp [lockRefused, State.lockedWrite, lock_congr (regs_raise ..), hk]

theorem queue_lockRefused (s : State) (b : Blk) (off t : Nat) {q : Nat} (hq : q ≠ 120) :
    (lockRefused s b off t).queue q = s.queue q :=
  queue_raise _ _ _ _ _ hq

theorem vitalSame_lockRefused (s : State) (b : Blk) (off t : Nat) : vitalSame s (lockRefused s b off t) :=
  vitalSame_lockedWrite ..

/-- The state on which an admitted write to a queue's watermarks or depth takes effect: lane firmware needs no service
lock for its own queues. -/
def queAdmitted (s : State) (q t : Nat) : State := if (queueLane q).isSome then s.touch t else lockRestarted s .que t

/-- How a write `f` to a queue's watermarks or depth, at an offset of the block, is carried out. -/
def queWrite (s : State) (q off t : Nat) (f : State → State) : Host.Outcome State Fault Refusal :=
  match queueLane q with
  | some _ => ok (f (s.touch t))
  | none => ok (s.rwl .que off t f)

theorem queWrite_of_admitted {s : State} {q t : Nat} (off : Nat) (f : State → State)
    (h : (queueLane q).isSome = true ∨ ((s.lock .que).lapse (max s.now t)).unlocked = true) :
    queWrite s q off t f = .next (f (queAdmitted s q t)) := by
  unfold queWrite queAdmitted
  cases hq : queueLane q with
  | some ln => rfl
  | none =>
    have hu := h.resolve_left (by simp [hq])
    exact congrArg ok (rwl_of_unlocked off f hu)

theorem queWrite_of_locked {s : State} {q t : Nat} (off : Nat) (f : State → State) (hq : queueLane q = none)
    (hl : ((s.lock .que).lapse (max s.now t)).unlocked = false) :
    queWrite s q off t f = .next (lockRefused s .que off t) := by
  rw [queWrite, hq]
  exact congrArg ok (rwl_of_locked off f hl)

@[simp] theorem queue_queAdmitted (s : State) (q t k : Nat) : (queAdmitted s q t).queue k = s.queue k := by
  unfold queAdmitted
  split <;> rfl

@[simp] theorem wmRefused_queAdmitted (s : State) (q t : Nat) :
    (queAdmitted s q t).regs.wmRefused = s.regs.wmRefused := by
  unfold queAdmitted
  split <;> rfl

@[simp] theorem cfgRefused_queAdmitted (s : State) (q t : Nat) :
    (queAdmitted s q t).regs.cfgRefused = s.regs.cfgRefused := by
  unfold queAdmitted
  split <;> rfl

theorem vitalSame_queAdmitted (s : State) (q t : Nat) : vitalSame s (queAdmitted s q t) := by
  unfold queAdmitted
  split <;> exact ⟨rfl, rfl⟩

/-! ### Watermarks and depth (R455) -/

theorem setWm_of_refused {s : State} {q : Nat} {v : U32}
    (h : v.toNat / 65536 % 16384 ≤ v.toNat % 16384 ∨ (s.queue q).depth < v.toNat / 65536 % 16384) :
    s.setWm q v = { s with regs := { s.regs with wmRefused := s.regs.wmRefused + 1 } } :=
  if_pos h

theorem queue_setWm_of_bounds {s : State} {q : Nat} {v : U32} (hl : v.toNat % 16384 < v.toNat / 65536 % 16384)
    (hh : v.toNat / 65536 % 16384 ≤ (s.queue q).depth) :
    (s.setWm q v).queue q =
      Queue.mark { s.queue q with high := v.toNat / 65536 % 16384, low := v.toNat % 16384 } := by
  have hn : ¬ (v.toNat / 65536 % 16384 ≤ v.toNat % 16384 ∨ (s.queue q).depth < v.toNat / 65536 % 16384) := by omega
  simp only [State.setWm, if_neg hn, queue_putQueue_self]

theorem setDepth_of_inUse {s : State} {q : Nat} {v : U32} (h : (s.queue q).words ≠ [] ∨ (s.queue q).en = true) :
    s.setDepth q v = { s with regs := { s.regs with cfgRefused := s.regs.cfgRefused + 1 } } :=
  if_pos (or_assoc.1 (.inl h))

/-- A lane's queues have no sum of depths to keep to. -/
theorem queue_setDepth_of_lane {s : State} {q : Nat} {v : U32} (hw : (s.queue q).words = [])
    (he : (s.queue q).en = false) (h1 : 1 ≤ v.toNat % 256) (h2 : v.toNat % 256 ≤ 128)
    (hq : (queueLane q).isSome = true) :
    (s.setDepth q v).queue q = { s.queue q with depth64 := v.toNat % 256 } := by
  have h0 : v.toNat % 256 ≠ 0 := by omega
  have h128 : ¬ 128 < v.toNat % 256 := by omega
  have hsvc : queueLane q ≠ none := Option.isSome_iff_ne_none.1 hq
  simp [State.setDepth, hw, he, h0, h128, hsvc]

/-! ### The commands on a powered queue -/

section
variable {s : State} {q : Nat} (hon : s.queueOn q = true)
include hon

theorem exec_quePush (w : BitVec 63) :
    exec (.quePush q w) s = .next ((s.queWrote q).putQueue q ((s.queue q).push w)) :=
  if_pos hon

theorem exec_queDataRead :
    exec (.queDataRead q) s = .next (returned (s.putQueue q (s.queue q).pop.2) (s.queue q).pop.1) :=
  if_pos hon

theorem exec_queEnable (en : Bool) :
    exec (.queEnable q en) s = .next ((s.queWrote q).putQueue q { s.queue q with en := en }) :=
  if_pos hon

theorem exec_queFlush (t : Nat) : exec (.queFlush q t) s = .next (((s.touch t).queWrote q).flush q) :=
  if_pos hon

theorem exec_queErrRead :
    exec (.queErrRead q) s = .next (returned (s.putQueue q { s.queue q with ovf := 0, drop := 0 })
      (BitVec.ofNat 64 ((s.queue q).ovf * 65536 + (s.queue q).drop))) :=
  if_pos hon

theorem exec_queWmWrite (v : U32) (t : Nat) :
    exec (.queWmWrite q v t) s = queWrite s q (queueOff q 0x18) t (fun u => u.setWm q v) :=
  if_pos hon

theorem exec_queCfgWrite (v : U32) (t : Nat) :
    exec (.queCfgWrite q v t) s = queWrite s q (queueOff q 0x1C) t (fun u => u.setDepth q v) :=
  if_pos hon

end

/-- Settles O51: a command on a powered queue puts back the queue after the operation it names, and a write to the
watermarks or the depth is admitted, or refused with the queue as it was. -/
theorem hardwareQueues : Obligations.HardwareQueues := by
  unfold Obligations.HardwareQueues
  intro s q t w x r v en
  dsimp only
  intro hon
  refine ⟨?push, ?read, ?enable, ?flush, ?err, fun hadm => ⟨?wm, ?cfg⟩, fun hq hl h120 => ⟨?wmLocked, ?cfgLocked⟩⟩
  case push =>
    refine ⟨_, exec_quePush hon w, vitalSame_trans (vitalSame_queWrote s q) (vitalSame_putQueue ..), ?_⟩
    rw [queue_putQueue_self]
    exact ⟨words_push_of_room, push_of_full, push_of_disabled⟩
  case read =>
    refine ⟨_, exec_queDataRead hon, vitalSame_trans (vitalSame_putQueue s q _) (vitalSame_returned ..),
      fun he hw => ?_, fun hn => ?_⟩
    · simp [pop_of_cons he hw]
    · simp [pop_of_none hn]
  case enable =>
    exact ⟨_, exec_queEnable hon en, queue_putQueue_self ..,
      vitalSame_trans (vitalSame_queWrote s q) (vitalSame_putQueue ..)⟩
  case flush =>
    refine ⟨_, exec_queFlush hon t, ?_, ?_, ?_,
      vitalSame_trans (vitalSame_queWrote (s.touch t) q) (vitalSame_flush ..)⟩
    all_goals rw [queue_flush, queue_queWrote, queue_touch]
    · rfl
    · rfl
    · exact le_drop_flush ..
  case err =>
    exact ⟨_, exec_queErrRead hon, by simp, readOut_returned ..,
      vitalSame_trans (vitalSame_putQueue s q _) (vitalSame_returned ..)⟩
  case wm =>
    refine ⟨_, (exec_queWmWrite hon v t).trans (queWrite_of_admitted _ _ hadm),
      vitalSame_trans (vitalSame_queAdmitted s q t) (vitalSame_setWm ..), fun hlo hhi => ?_, fun hno => ?_⟩
    · rw [queue_setWm_of_bounds (s := queAdmitted s q t) hlo (by simpa using hhi)]
      simp
    · rw [setWm_of_refused (s := queAdmitted s q t) (by simpa using hno)]
      exact ⟨queue_queAdmitted .., congrArg (· + 1) (wmRefused_queAdmitted ..)⟩
  case cfg =>
    refine ⟨_, (exec_queCfgWrite hon v t).trans (queWrite_of_admitted _ _ hadm),
      vitalSame_trans (vitalSame_queAdmitted s q t) (vitalSame_setDepth ..), fun huse => ?_,
      fun hw he h1 h2 hlane => ?_⟩
    · rw [setDepth_of_inUse (s := queAdmitted s q t) (by simpa using huse)]
      exact ⟨queue_queAdmitted .., congrArg (· + 1) (cfgRefused_queAdmitted ..)⟩
    · rw [queue_setDepth_of_lane (s := queAdmitted s q t) (by simpa using hw) (by simpa using he) h1 h2 hlane,
        queue_queAdmitted]
  case wmLocked =>
    exact ⟨_, (exec_queWmWrite hon v t).trans (queWrite_of_locked _ _ hq hl), queue_lockRefused _ _ _ _ h120,
      vitalSame_lockRefused .., lwCount_lockRefused ..⟩
  case cfgLocked =>
    exact ⟨_, (exec_queCfgWrite hon v t).trans (queWrite_of_locked _ _ hq hl), queue_lockRefused _ _ _ _ h120,
      vitalSame_lockRefused .., lwCount_lockRefused ..⟩

end Sys2Proof.QueueRules
end

section
/-! ## What no operation touches: the waiting commands, operating time and the service memory -/

namespace Sys2Proof.SteadyFrame

open Sys2Proof Sys2Proof.Machine Sys2Proof.Laws

/-! ### The frame -/

/-- The waiting commands, operating time and the service memory of `t` are those of `s`. Reducible, so that a simp lemma
that states it rewrites all three. -/
@[reducible, simp] def Steady (s t : State) : Prop := t.pending = s.pending ∧ t.now = s.now ∧ t.mem = s.mem

theorem Steady.trans {s t u : State} (h : Steady s t) (k : Steady t u) : Steady s u :=
  ⟨k.1.trans h.1, k.2.1.trans h.2.1, k.2.2.trans h.2.2⟩

@[simp] theorem steady_foldl {α : Type} (f : State → α → State) (h : ∀ s a, Steady s (f s a)) (xs : List α) (s : State) :
    Steady s (xs.foldl f s) :=
  ⟨VoteFlag.foldl_preserves State.pending f (fun s a => (h s a).1) xs s,
   VoteFlag.foldl_preserves State.now f (fun s a => (h s a).2.1) xs s,
   VoteFlag.foldl_preserves State.mem f (fun s a => (h s a).2.2) xs s⟩

@[simp] theorem steady_foldr {α : Type} (f : α → State → State) (h : ∀ s a, Steady s (f a s)) (xs : List α) (s : State) :
    Steady s (xs.foldr f s) := by
  rw [← List.foldl_reverse]
  exact steady_foldl _ h _ s

@[simp] theorem steady_putQueue (s : State) (n : Nat) (q : Queue) : Steady s (s.putQueue n q) := ⟨rfl, rfl, rfl⟩

@[simp] theorem steady_raiseChange (s : State) (d : Die) (n : EventName) (data : List Int) :
    Steady s (s.raiseChange d n data) := by
  unfold State.raiseChange
  split <;> simp

@[simp] theorem steady_raiseCommitted (s : State) (ln : LaneId) (es : List (LogClass × EventName × List Int)) :
    Steady s (s.raiseCommitted ln es) := by
  unfold State.raiseCommitted
  refine steady_foldl _ (fun u e => ?_) _ _
  split <;> simp

@[simp] theorem steady_raiseLaneAll (s : State) (ln : LaneId) (es : List (LogClass × EventName × List Int)) :
    Steady s (s.raiseLaneAll ln es) := by
  simp [State.raiseLaneAll]

@[simp] theorem steady_settle (s : State) : Steady s s.settle := by
  unfold State.settle
  dsimp only
  split <;> simp

@[simp] theorem steady_setModule (s : State) (m : ModState) : Steady s (s.setModule m) := by
  unfold State.setModule
  split <;> simp

@[simp] theorem steady_endTest (s : State) (ln : LaneId) : Steady s (s.endTest ln) := by
  unfold State.endTest
  split <;> simp

@[simp] theorem steady_exclude (s : State) (ln : LaneId) (c : Cause) : Steady s (s.exclude ln c) := by
  unfold State.exclude
  (repeat' split) <;> simp

@[simp] theorem steady_seenByVoters (s : State) (src : LaneId) : Steady s (s.seenByVoters src) := by
  unfold State.seenByVoters
  refine steady_foldl _ (fun u e => ?_) _ _
  split <;> simp

@[simp] theorem steady_excludeAgreed (s : State) (ln : LaneId) (c : Cause) : Steady s (s.excludeAgreed ln c) := by
  simp [State.excludeAgreed]

@[simp] theorem steady_shareViews (s : State) : Steady s s.shareViews := ⟨rfl, rfl, rfl⟩

@[simp] theorem steady_dropTest (s : State) : Steady s s.dropTest := by
  unfold State.dropTest
  split <;> simp

@[simp] theorem steady_dropPilot (s : State) : Steady s s.dropPilot := by
  unfold State.dropPilot
  split <;> simp

@[simp] theorem steady_enterHalt (s : State) : Steady s s.enterHalt := by
  simp [State.enterHalt]

@[simp] theorem steady_loseVote (s : State) : Steady s s.loseVote := by
  unfold State.loseVote
  split <;> simp

@[simp] theorem steady_checkVote (s : State) : Steady s s.checkVote := by
  unfold State.checkVote
  split <;> simp

@[simp] theorem steady_startRejoin (s : State) (ln : LaneId) : Steady s (s.startRejoin ln) := by
  unfold State.startRejoin
  dsimp only
  split <;> simp

@[simp] theorem steady_laneOff (s : State) (ln : LaneId) : Steady s (s.laneOff ln) := by
  simp [State.laneOff]

@[simp] theorem steady_logChange (s : State) (n : Nat) (e : EventName) (vals : List Int) :
    Steady s (s.logChange n e vals) := by
  simp [State.logChange]

@[simp] theorem steady_keepAlive (s : State) (n : Nat) : Steady s (s.keepAlive n) := by
  unfold State.keepAlive
  split <;> simp

@[simp] theorem steady_putLock (s : State) (b : Blk) (k : Lock) : Steady s (s.putLock b k) := ⟨rfl, rfl, rfl⟩

@[simp] theorem steady_wrote (s : State) (b : Blk) : Steady s (s.wrote b) := ⟨rfl, rfl, rfl⟩

@[simp] theorem steady_lockedWrite (s : State) (b : Blk) (off : Nat) : Steady s (s.lockedWrite b off) := by
  simp [State.lockedWrite]

@[simp] theorem steady_queWrote (s : State) (q : Nat) : Steady s (s.queWrote q) := by
  unfold State.queWrote
  split <;> simp

@[simp] theorem steady_setWm (s : State) (q : Nat) (v : U32) : Steady s (s.setWm q v) := by
  unfold State.setWm
  dsimp only
  split <;> simp

@[simp] theorem steady_setDepth (s : State) (q : Nat) (v : U32) : Steady s (s.setDepth q v) := by
  unfold State.setDepth
  dsimp only
  split <;> simp

@[simp] theorem steady_putChk (s : State) (n : Nat) (e : CheckEngine) : Steady s (s.putChk n e) := ⟨rfl, rfl, rfl⟩

@[simp] theorem steady_writeRecord (s : State) (e : Event) : Steady s (s.writeRecord e) := by
  unfold State.writeRecord
  dsimp only
  (repeat' split) <;> simp

@[simp] theorem steady_latchLane (s : State) (ln : LaneId) : Steady s (s.latchLane ln) := by
  unfold State.latchLane
  split <;> simp

@[simp] theorem steady_latchAll (s : State) : Steady s s.latchAll := by
  simp [State.latchAll]

@[simp] theorem steady_stage (s : State) (f : BbFrame) : Steady s (s.stage f) := ⟨rfl, rfl, rfl⟩

@[simp] theorem steady_snapTake (s : State) (x : SnapSource) (regReason : Nat) : Steady s (s.snapTake x regReason) := by
  unfold State.snapTake
  dsimp only
  (repeat' split) <;> simp

@[simp] theorem steady_stageDeferred (s : State) : Steady s s.stageDeferred := by
  unfold State.stageDeferred
  split <;> simp

@[simp] theorem steady_release (s : State) (v : U32) : Steady s (s.release v) := ⟨rfl, rfl, rfl⟩

@[simp] theorem steady_checkCopy (s : State) (ln : LaneId) (m : Manifest) (batchCn : U32) (c : SlCopy) :
    Steady s (s.checkCopy ln m batchCn c) := by
  unfold State.checkCopy
  dsimp only
  (repeat' split) <;> simp

@[simp] theorem steady_codedFault (s : State) (ln : LaneId) (unit : Nat) (p : Pass) (idx clk : Nat) (e : TFault) :
    Steady s (s.codedFault ln unit p idx clk e) := by
  unfold State.codedFault
  split <;> simp

@[simp] theorem steady_tickLane (s : State) (ln : LaneId) (mids : List (Nat × Nat × Nat)) :
    Steady s (s.tickLane ln mids) := by
  unfold State.tickLane
  dsimp only
  (repeat' split) <;> simp

@[simp] theorem steady_capture (s : State) : Steady s s.capture := ⟨rfl, rfl, rfl⟩

@[simp] theorem steady_beginBist (s : State) : Steady s s.beginBist := by
  simp [State.beginBist]

@[simp] theorem steady_shutdownGoesOn (s : State) : Steady s s.shutdownGoesOn := by
  unfold State.shutdownGoesOn
  split <;> simp

@[simp] theorem steady_noteCons (s : State) : Steady s s.noteCons := by
  exact ⟨rfl, rfl, rfl⟩

@[simp] theorem steady_setClaim (s : State) (clm : U32) : Steady s (s.setClaim clm) := ⟨rfl, rfl, rfl⟩

@[simp] theorem steady_endPilot (s : State) : Steady s s.endPilot := by
  unfold State.endPilot
  dsimp only
  split <;> simp

@[simp] theorem steady_checkPilot (s : State) : Steady s s.checkPilot := by
  unfold State.checkPilot
  split <;> simp

@[simp] theorem steady_enterStandby (s : State) (clm : U32) (c : CopyState) : Steady s (s.enterStandby clm c) := by
  simp [State.enterStandby]

@[simp] theorem steady_loseClaim (s : State) (other : U32) : Steady s (s.loseClaim other) := by
  unfold State.loseClaim
  split <;> simp

@[simp] theorem steady_closeModule (s : State) : Steady s s.closeModule := by
  simp [State.closeModule]

@[simp] theorem steady_closePair (s : State) (e : EventName) : Steady s (s.closePair e) := by
  simp [State.closePair]

@[simp] theorem steady_leaveOut (s : State) (src : LaneId) : Steady s (s.leaveOut src) := ⟨rfl, rfl, rfl⟩

@[simp] theorem steady_damaged (s : State) (a b : LaneId) : Steady s (s.damaged a b) := by
  unfold State.damaged
  dsimp only
  (repeat' split) <;> simp

@[simp] theorem steady_finishAgreement (s : State) (ln : LaneId) : Steady s (s.finishAgreement ln) := by
  unfold State.finishAgreement
  dsimp only
  (repeat' split) <;> simp

@[simp] theorem steady_sendCopy (s : State) (ln : LaneId) : Steady s (s.sendCopy ln) := by
  unfold State.sendCopy
  dsimp only
  (repeat' split) <;> simp

@[simp] theorem steady_linkFail (s : State) (l : ClxLink) : Steady s (s.linkFail l) := by
  unfold State.linkFail
  dsimp only
  (repeat' split) <;> simp

@[simp] theorem steady_judgeLink (trips : Trips) (s : State) (l : ClxLink) : Steady s (s.judgeLink trips l) := by
  unfold State.judgeLink
  (repeat' split) <;> simp

@[simp] theorem steady_calibrate (s : State) (ln : LaneId) (trips : Trips) : Steady s (s.calibrate ln trips) := by
  simp [State.calibrate]

@[simp] theorem steady_echoRound (s : State) : Steady s s.echoRound := by
  unfold State.echoRound
  refine steady_foldl _ (fun u e => ?_) _ _
  split <;> simp

@[simp] theorem steady_dropSilent (s : State) : Steady s s.dropSilent := by
  unfold State.dropSilent
  refine steady_foldl _ (fun u e => ?_) _ _
  (repeat' split) <;> simp

@[simp] theorem steady_onlineAgreed (s : State) (L : Lane) : Steady s (s.onlineAgreed L) := by
  unfold State.onlineAgreed
  (repeat' split) <;> simp

@[simp] theorem steady_commitAll (s : State) : Steady s s.commitAll := by
  unfold State.commitAll
  dsimp only
  split <;> simp

@[simp] theorem steady_skipAll (s : State) (disagree : Bool) : Steady s (s.skipAll disagree) := by
  unfold State.skipAll
  dsimp only
  (repeat' split) <;> simp

@[simp] theorem steady_consensus (s : State) (only : Bool) : Steady s (s.consensus only) := by
  unfold State.consensus
  dsimp only
  (repeat' split) <;> simp

@[simp] theorem steady_shutdownAtCons (s : State) : Steady s s.shutdownAtCons := by
  unfold State.shutdownAtCons
  split <;> simp

@[simp] theorem steady_signLane (s : State) (ln : LaneId) (m : Manifest) : Steady s (s.signLane ln m) := by
  simp [State.signLane]

@[simp] theorem steady_shadowSign (s : State) (ln : LaneId) : Steady s (s.shadowSign ln) := by
  unfold State.shadowSign
  dsimp only
  (repeat' split) <;> simp

@[simp] theorem steady_putChan (s : State) (ch : Nat) (c : WbChan) : Steady s (s.putChan ch c) := ⟨rfl, rfl, rfl⟩

@[simp] theorem steady_complete (s : State) (ch : Nat) (q : TxReq) (status : Nat) : Steady s (s.complete ch q status) := ⟨rfl, rfl, rfl⟩

@[simp] theorem steady_dropExpired (s : State) (ch : Nat) : Steady s (s.dropExpired ch) := by
  simp [State.dropExpired]

@[simp] theorem steady_followErrors (s : State) (ch : Nat) (c : WbChan) : Steady s (s.followErrors ch c) := by
  unfold State.followErrors
  dsimp only
  (repeat' split) <;> simp

@[simp] theorem steady_takeCan (s : State) (ch : Nat) (f : CanFrame) (sofTime : U48) :
    Steady s (s.takeCan ch f sofTime) := by
  unfold State.takeCan
  dsimp only
  (repeat' split) <;> simp

@[simp] theorem steady_flushItems (s : State) (q : Nat) : Steady s (s.flushItems q).2 := by
  unfold State.flushItems
  dsimp only
  (repeat' split) <;> simp

@[simp] theorem steady_flush (s : State) (q : Nat) : Steady s (s.flush q) := by
  simp [State.flush]

@[simp] theorem steady_placeWb (s : State) (ch : Nat) (c : WbChan) : Steady s (s.placeWb ch c) := by
  unfold State.placeWb
  (repeat' split) <;> simp

@[simp] theorem steady_configureWb (s : State) (b : ManBody) : Steady s (s.configureWb b) := by
  simp [State.configureWb]

@[simp] theorem steady_changeWb (s : State) (old new : ManBody) : Steady s (s.changeWb old new) := by
  unfold State.changeWb
  refine steady_foldl _ (fun u e => ?_) _ _
  split <;> simp

@[simp] theorem steady_busOff (s : State) (ch : Nat) : Steady s (s.busOff ch) := by
  unfold State.busOff
  dsimp only
  split <;> simp

@[simp] theorem steady_renewWb (s : State) (ch : Nat) : Steady s (s.renewWb ch) := by
  unfold State.renewWb
  dsimp only
  split <;> simp

@[simp] theorem steady_updUplink (s : State) (f : Uplink → Uplink) : Steady s (s.updUplink f) := ⟨rfl, rfl, rfl⟩

@[simp] theorem steady_putPort (s : State) (k : Nat) (f : List Byte) (port : Nat) : Steady s (s.putPort k f port) := by
  unfold State.putPort
  split <;> simp

@[simp] theorem steady_sendOn (s : State) (lanB : Bool) (dst : U48) (k : Nat) (f : List Byte) :
    Steady s (s.sendOn lanB dst k f) := by
  simp [State.sendOn]

@[simp] theorem steady_sendPrp (s : State) (dst : Bool → U48) (k etherType : Nat) (p : List Byte) :
    Steady s (s.sendPrp dst k etherType p) := by
  simp [State.sendPrp]

@[simp] theorem steady_keepCopy (s : State) (lanB : Bool) (e : NetFrame) : Steady s (s.keepCopy lanB e) := by
  unfold State.keepCopy
  split <;> simp

@[simp] theorem steady_takeArp (s : State) (lanB : Bool) (e : NetFrame) : Steady s (s.takeArp lanB e) := by
  unfold State.takeArp
  (repeat' split) <;> simp

@[simp] theorem steady_takeEcho (s : State) (e : NetFrame) : Steady s (s.takeEcho e) := by
  unfold State.takeEcho
  dsimp only
  (repeat' split) <;> simp

@[simp] theorem steady_takeNet (s : State) (lanB : Bool) (e : NetFrame) : Steady s (s.takeNet lanB e) := by
  unfold State.takeNet
  dsimp only
  (repeat' split) <;> simp

@[simp] theorem steady_ownNet (s : State) (lanB : Bool) (e : NetFrame) : Steady s (s.ownNet lanB e) := by
  unfold State.ownNet
  dsimp only
  (repeat' split) <;> simp

@[simp] theorem steady_learn (s : State) (port : Nat) (e : NetFrame) : Steady s (s.learn port e) := ⟨rfl, rfl, rfl⟩

@[simp] theorem steady_bridge (s : State) (port : Nat) (f : List Byte) : Steady s (s.bridge port f) := by
  unfold State.bridge
  (repeat' split) <;> simp

@[simp] theorem steady_forwardCopy (s : State) (cn : U32) (c : SlCopy) : Steady s (s.forwardCopy cn c) := by
  unfold State.forwardCopy
  split <;> simp

@[simp] theorem steady_takeSafeLink (s : State) (c : SlCopy) : Steady s (s.takeSafeLink c) := by
  unfold State.takeSafeLink
  dsimp only
  (repeat' split) <;> simp

@[simp] theorem steady_netRx (s : State) (port : Nat) (f : List Byte) : Steady s (s.netRx port f) := by
  unfold State.netRx
  split <;> simp

@[simp] theorem steady_sendPdu (s : State) (key : Nat) (pdu : List Byte) : Steady s (s.sendPdu key pdu) := by
  unfold State.sendPdu
  split <;> simp

@[simp] theorem steady_launch (s : State) (p : HeldLaunch → Bool) : Steady s (s.launch p) := by
  simp [State.launch]

@[simp] theorem steady_breakLoad (s : State) : Steady s s.breakLoad := by
  unfold State.breakLoad
  split <;> simp

@[simp] theorem steady_svcDown (s : State) : Steady s s.svcDown := by
  simp [State.svcDown]

@[simp] theorem steady_deliver (s : State) (ln : LaneId) : Steady s (s.deliver ln) := ⟨rfl, rfl, rfl⟩

@[simp] theorem steady_deliverChanges (s : State) : Steady s s.deliverChanges := ⟨rfl, rfl, rfl⟩

@[simp] theorem steady_deliverAll (s : State) : Steady s s.deliverAll := by
  simp [State.deliverAll]

@[simp] theorem steady_freeLaunches (s : State) : Steady s s.freeLaunches := by
  unfold State.freeLaunches
  split <;> simp

@[simp] theorem steady_slew (s : State) (o : Int) : Steady s (s.slew o) := by
  unfold State.slew
  dsimp only
  split <;> simp

@[simp] theorem steady_stepClock (s : State) (o : Int) : Steady s (s.stepClock o) := by
  simp [State.stepClock]

@[simp] theorem steady_refuseOffset (s : State) (o : Int) (n : Nat) : Steady s (s.refuseOffset o n) := by
  unfold State.refuseOffset
  split <;> simp

@[simp] theorem steady_ptpOffset (s : State) (m : U64) (o : Int) : Steady s (s.ptpOffset m o) := by
  unfold State.ptpOffset
  dsimp only
  (repeat' split) <;> simp

@[simp] theorem steady_ptpIgnore (s : State) : Steady s s.ptpIgnore := ⟨rfl, rfl, rfl⟩

@[simp] theorem steady_unlock (s : State) : Steady s s.unlock := by
  simp [State.unlock]

@[simp] theorem steady_putPlane (s : State) (pl : PlaneId) (p : Plane) : Steady s (s.putPlane pl p) := ⟨rfl, rfl, rfl⟩

@[simp] theorem steady_updPlane (s : State) (pl : PlaneId) (f : Plane → Plane) : Steady s (s.updPlane pl f) := ⟨rfl, rfl, rfl⟩

@[simp] theorem steady_sendStatus (s : State) (pl : PlaneId) (down : Bool) : Steady s (s.sendStatus pl down) := by
  unfold State.sendStatus
  split <;> simp

@[simp] theorem steady_logDrift (s : State) (pl : PlaneId) (ctrl : Nat) (before : Bool) :
    Steady s (s.logDrift pl ctrl before) := by
  unfold State.logDrift
  dsimp only
  split <;> simp

@[simp] theorem steady_sendSync (s : State) (pl : PlaneId) : Steady s (s.sendSync pl) := by
  unfold State.sendSync
  dsimp only
  split <;> simp

@[simp] theorem steady_planeTick (s : State) (pl : PlaneId) (set : List LaneId) (cn : U32) (t : Nat) :
    Steady s (s.planeTick pl set cn t) := by
  unfold State.planeTick
  dsimp only
  (repeat' split) <;> simp

@[simp] theorem steady_lateStrobe (s : State) (pl : PlaneId) (ln : LaneId) : Steady s (s.lateStrobe pl ln) := ⟨rfl, rfl, rfl⟩

@[simp] theorem steady_forwardUp (s : State) (pl : PlaneId) (c : Nat) (r : UpRec) : Steady s (s.forwardUp pl c r) := by
  unfold State.forwardUp
  split
  · simp
  · refine steady_foldl _ (fun u ln => ?_) _ _
    dsimp only
    (repeat' split) <;> simp

@[simp] theorem steady_guard (s : State) (pl : PlaneId) (seg slot : Nat) (e : Int) (frame : List Byte) :
    Steady s (s.guard pl seg slot e frame) := by
  unfold State.guard
  dsimp only
  (repeat' split) <;> simp

@[simp] theorem steady_stopQuayline (s : State) : Steady s s.stopQuayline := ⟨rfl, rfl, rfl⟩

@[simp] theorem steady_startQuayline (s : State) : Steady s s.startQuayline := ⟨rfl, rfl, rfl⟩

theorem steady_takeRequest {s s1 : State} {pl : PlaneId} {seg : Nat} {r : Nat × List Byte}
    (h : s.takeRequest pl seg = some (r, s1)) : Steady s s1 := by
  unfold State.takeRequest at h
  dsimp only at h
  split at h
  · cases h
  · cases h
    simp

@[simp] theorem steady_sendRequest (s : State) (pl : PlaneId) (seg t : Nat) : Steady s (s.sendRequest pl seg t) := by
  unfold State.sendRequest
  split
  · simp
  · next r s1 h =>
    have hk := steady_takeRequest h
    split <;> simpa using hk

@[simp] theorem steady_useFree (s : State) (pl : PlaneId) (seg t : Nat) : Steady s (s.useFree pl seg t) := by
  unfold State.useFree
  dsimp only
  split <;> simp

@[simp] theorem steady_openWindow (s : State) (pl : PlaneId) (seg win t : Nat) : Steady s (s.openWindow pl seg win t) := by
  unfold State.openWindow
  dsimp only
  (repeat' split) <;> simp

@[simp] theorem steady_takeResponse (s : State) (c : Nat) (f : List Byte) : Steady s (s.takeResponse c f) := by
  unfold State.takeResponse
  split <;> simp

@[simp] theorem steady_farSends (s : State) (pl : PlaneId) : Steady s (s.farSends pl) := by
  unfold State.farSends
  dsimp only
  (repeat' split) <;> simp

@[simp] theorem steady_putCtrl (s : State) (c : Nat) (x : Ctrl) : Steady s (s.putCtrl c x) := ⟨rfl, rfl, rfl⟩

@[simp] theorem steady_updController (s : State) (c : Nat) (f : Ctrl → Ctrl) : Steady s (s.updController c f) := ⟨rfl, rfl, rfl⟩

@[simp] theorem steady_ncAnswer (s : State) (ctrl : Nat) (pl : PlaneId) (port : Nat) (frame : List Byte) (t turn : Nat) (serve : Ctrl → List Byte → Option (List Byte × Ctrl)) :
    Steady s (s.ncAnswer ctrl pl port frame t turn serve) := by
  unfold State.ncAnswer
  dsimp only
  (repeat' split) <;> simp

@[simp] theorem steady_intoVote (s : State) (ln : LaneId) : Steady s (s.intoVote ln) := ⟨rfl, rfl, rfl⟩

@[simp] theorem steady_takeOut (s : State) (ln : LaneId) (c : Cause) : Steady s (s.takeOut ln c) := ⟨rfl, rfl, rfl⟩

@[simp] theorem steady_logMids (s : State) (me : LaneId) (xs : List MidTest) : Steady s (s.logMids me xs) := by
  simp [State.logMids]

@[simp] theorem steady_supplyLoss (s : State) (ln : LaneId) (ofLnI : Bool) : Steady s (s.supplyLoss ln ofLnI) := by
  unfold State.supplyLoss
  dsimp only
  (repeat' split) <;> simp

@[simp] theorem steady_followSwitch (s : State) (rs : List CopyRec) : Steady s (s.followSwitch rs) := by
  unfold State.followSwitch
  (repeat' split) <;> simp

@[simp] theorem steady_takeClaim (s : State) (h : CopyHdr) (j : U32) (trig : Nat) : Steady s (s.takeClaim h j trig) := by
  unfold State.takeClaim
  dsimp only
  (repeat' split) <;> simp

@[simp] theorem steady_updAccess (s : State) (f : Access → Access) : Steady s (s.updAccess f) := ⟨rfl, rfl, rfl⟩

@[simp] theorem steady_failLogin (s : State) (n : Nat) (a : Account) : Steady s (s.failLogin n a) := by
  unfold State.failLogin
  split <;> simp

@[simp] theorem steady_endSession (s : State) (sess : Nat) : Steady s (s.endSession sess) := by
  unfold State.endSession
  split <;> simp

@[simp] theorem steady_withPassword (s : State) (n : Nat) (a : Account) (password : List Byte) :
    Steady s (s.withPassword n a password) := ⟨rfl, rfl, rfl⟩

@[simp] theorem steady_refuse (s : State) (sess : Nat) (vals : List Int) : Steady s (s.refuse sess vals) := by
  simp [State.refuse]

@[simp] theorem steady_answer (s : State) (sess : Nat) (vals : List Int) : Steady s (s.answer sess vals) := by
  simp [State.answer]

@[simp] theorem steady_sendCmd (s : State) (sess : Nat) (c : LaneCmd) : Steady s (s.sendCmd sess c) := by
  unfold State.sendCmd
  split <;> simp

@[simp] theorem steady_mapFlash (s : State) (f : LaneFlash → LaneFlash) : Steady s (s.mapFlash f) := ⟨rfl, rfl, rfl⟩

@[simp] theorem steady_switchNow (s : State) (new : Manifest) (at_ : U32) : Steady s (s.switchNow new at_) := by
  unfold State.switchNow
  split <;> simp

@[simp] theorem steady_updPilot (s : State) (f : Pilot → Pilot) : Steady s (s.updPilot f) := ⟨rfl, rfl, rfl⟩

@[simp] theorem steady_pilotRefuse (s : State) : Steady s s.pilotRefuse := by
  simp [State.pilotRefuse]

@[simp] theorem steady_stopAt (s : State) (core : CoreId) : Steady s (s.stopAt core) := ⟨rfl, rfl, rfl⟩

@[simp] theorem steady_putResult (s : State) (unit : Nat) (r : BistRec) (ms : List Mark) :
    Steady s (s.putResult unit r ms) := by
  unfold State.putResult
  split <;> simp

@[simp] theorem steady_bistDue (s : State) : Steady s s.bistDue := by
  unfold State.bistDue
  split <;> simp

@[simp] theorem steady_endItem (s : State) (unit : Nat) (r : BistRec) (ms : List Mark) :
    Steady s (s.endItem unit r ms) := by
  unfold State.endItem
  (repeat' split) <;> simp

@[simp] theorem steady_zeroise (s : State) (unit : Nat) : Steady s (s.zeroise unit) := by
  unfold State.zeroise
  split <;> simp

@[simp] theorem steady_cutUnit (s : State) (unit : Nat) : Steady s (s.cutUnit unit) := by
  unfold State.cutUnit
  split <;> simp

@[simp] theorem steady_cutBist (s : State) : Steady s s.cutBist := by
  unfold State.cutBist
  split <;> simp

@[simp] theorem steady_domainMissed (s : State) (d : Domain) : Steady s (s.domainMissed d) := by
  simp [State.domainMissed]

@[simp] theorem steady_seqEnd (s : State) : Steady s s.seqEnd := ⟨rfl, rfl, rfl⟩

@[simp] theorem steady_laneStart (s : State) (ln : LaneId) (trips : Trips) : Steady s (s.laneStart ln trips) := by
  unfold State.laneStart
  (repeat' split) <;> simp

@[simp] theorem steady_domainUp (s : State) (d : Domain) (trips : Trips) : Steady s (s.domainUp d trips) := by
  unfold State.domainUp
  dsimp only
  (repeat' split) <;> simp

@[simp] theorem steady_cutPower (s : State) (mask : BitVec 12) : Steady s (s.cutPower mask) := ⟨rfl, rfl, rfl⟩

@[simp] theorem steady_planeDown (s : State) (pl : PlaneId) : Steady s (s.planeDown pl) := ⟨rfl, rfl, rfl⟩

@[simp] theorem steady_domainOff (s : State) (d : Domain) : Steady s (s.domainOff d) := by
  unfold State.domainOff
  split <;> simp

@[simp] theorem steady_noteReq (s : State) (mask : BitVec 12) (off : Bool) (done : Bool) (code : Nat) :
    Steady s (s.noteReq mask off done code) := ⟨rfl, rfl, rfl⟩

@[simp] theorem steady_seqNext (ds : List Domain) (s : State) : Steady s (s.seqNext ds) := by
  induction ds generalizing s with
  | nil => simp [State.seqNext]
  | cons d r ih =>
    unfold State.seqNext
    split
    · exact ih s
    · split
      · simp
      · simpa using ih (s.domainMissed d)

@[simp] theorem steady_requestOn (s : State) (mask : BitVec 12) : Steady s (s.requestOn mask) := by
  unfold State.requestOn
  dsimp only
  split <;> simp

@[simp] theorem steady_requestOff (s : State) (mask : BitVec 12) : Steady s (s.requestOff mask) := by
  unfold State.requestOff
  dsimp only
  split <;> simp

@[simp] theorem steady_applyMarks (s : State) : Steady s s.applyMarks := ⟨rfl, rfl, rfl⟩

@[simp] theorem steady_powerOn (s : State) (mask : BitVec 12) : Steady s (s.powerOn mask) := by
  simp [State.powerOn]

@[simp] theorem steady_enterBoot (s : State) (cold : Bool) : Steady s (s.enterBoot cold) := by
  have hmarked : ∀ (ps : List PlaneId) (u : State),
      Steady u (ps.foldl (fun s pl => if s.marked (.plane pl) then s.planeDown pl else s) u) := fun ps u =>
    steady_foldl _ (fun u pl => by split <;> simp) ps u
  unfold State.enterBoot
  dsimp only
  simp [hmarked, -List.foldl_cons]

@[simp] theorem steady_bootHalt (s : State) : Steady s s.bootHalt := by
  simp [State.bootHalt]

@[simp] theorem steady_laneFailures (s : State) (o : BootObs) : Steady s (s.laneFailures o) := by
  unfold State.laneFailures
  refine steady_foldl _ (fun u ln => ?_) _ _
  (repeat' split) <;> simp

@[simp] theorem steady_bistAtBoot (s : State) : Steady s s.bistAtBoot := by
  unfold State.bistAtBoot
  dsimp only
  (repeat' split) <;> simp

@[simp] theorem steady_bootCalibrate (s : State) (o : BootObs) (vs : List LaneId) : Steady s (s.bootCalibrate o vs) := by
  unfold State.bootCalibrate
  dsimp only
  refine Steady.trans ?_ (steady_foldl _ (fun u l => ?_) _ _)
  · simp
  · split <;> simp

@[simp] theorem steady_startLanes (s : State) (o : BootObs) (vs ws : List LaneId) (w : Option (Retention × Manifest)) :
    Steady s (s.startLanes o vs ws w) := by
  simp [State.startLanes]

@[simp] theorem steady_startModule (s1 s : State) (o : BootObs) (vs : List LaneId) :
    Steady s1 (State.startModule s1 s o vs) := ⟨rfl, rfl, rfl⟩

@[simp] theorem steady_bootEnds (s : State) (causes : List (EventName × List Int)) (other : Option HwStatus) :
    Steady s (s.bootEnds causes other) := by
  unfold State.bootEnds
  split <;> simp

@[simp] theorem steady_startWb (s : State) : Steady s s.startWb := by
  unfold State.startWb
  (repeat' split) <;> simp

@[simp] theorem steady_bootDone (s : State) (o : BootObs) (vs : List LaneId) : Steady s (s.bootDone o vs) := by
  unfold State.bootDone
  (repeat' split) <;> simp

@[simp] theorem steady_retainVoters (s : State) : Steady s s.retainVoters := ⟨rfl, rfl, rfl⟩

@[simp] theorem steady_writeSelected (s : State) (slot : Nat) : Steady s (s.writeSelected slot) := ⟨rfl, rfl, rfl⟩

@[simp] theorem steady_issue (ln : LaneId) (core : CoreId) (n : Nat) (body : TCtx → TRes) (s : State) :
    Steady s (issue ln core n body s) := by
  unfold issue
  dsimp only
  (repeat' split) <;> simp

@[simp] theorem steady_runEngine (ln : LaneId) (kind : Nat) (s : State) : Steady s (runEngine ln kind s) := by
  unfold runEngine
  dsimp only
  (repeat' split) <;> simp

@[simp] theorem steady_issueFetched (ln : LaneId) (core : CoreId) (s : State) : Steady s (issueFetched ln core s) :=
  steady_issue ..

/-! ### What a command does to them -/

/-- A command leaves the waiting commands alone, never sets operating time back, and keeps the service memory in
canonical form. -/
@[reducible, simp] def Runs (s t : State) : Prop :=
  t.pending = s.pending ∧ s.now ≤ t.now ∧ (s.mem.wf = true → t.mem.wf = true)

/-- The outcome is a next state that the command has so run to. -/
def Completes (s : State) (o : Host.Outcome State Fault Refusal) : Prop := ∃ t, o = .next t ∧ Runs s t

theorem Runs.trans {s t u : State} (h : Runs s t) (k : Runs t u) : Runs s u :=
  ⟨k.1.trans h.1, h.2.1.trans k.2.1, k.2.2 ∘ h.2.2⟩

theorem Steady.runs {s t : State} (h : Steady s t) : Runs s t := by
  simp [h.1, h.2.1, h.2.2]

@[simp] theorem pending_touch (s : State) (t : Nat) : (s.touch t).pending = s.pending := rfl
@[simp] theorem now_touch (s : State) (t : Nat) : (s.touch t).now = max s.now t := rfl
@[simp] theorem mem_touch (s : State) (t : Nat) : (s.touch t).mem = s.mem := rfl

@[simp] theorem completes_ok (s t : State) : Completes s (ok t) ↔ Runs s t := by simp [Completes, ok]

@[simp] theorem completes_fin (s t : State) : Completes s (fin t) ↔ Runs s t := by simp [Completes, fin]

@[simp] theorem runs_rwl (s : State) (b : Blk) (off t : Nat) (f : State → State) (h : ∀ s, Steady s (f s)) :
    (s.rwl b off t f).pending = s.pending ∧ s.now ≤ (s.rwl b off t f).now ∧ (s.rwl b off t f).mem = s.mem := by
  unfold State.rwl
  dsimp only
  split <;> simp [h]

theorem runs_unpowered (s : State) : Runs s s.unpowered :=
  ⟨rfl, le_rfl, Memory_filter_wf s.mem _⟩

theorem completes_of_serviceCommand {c : Instr} (h : serviceCommand c = true) (s : State) : Completes s (exec c s) := by
  cases c with
  | canFrameRx | txRequestAdmit | frameStart | canFrameEnd | busOffHoldoffEnd | busOffRecovery | busoffLimit
  | tideRowStart | exclusiveWindow | channelModeChange | ptpSyncRx | ptpFollowUpRx | ptpAnnounceRx
  | announceReceiptTimeout | pdelayReqSend | pdelayReqRx | pdelayRespRx | transparentClockForward | logEvent
  | snapRequest | snapinEdge | snapWindowEnd | snapLocalLatch | blackboxFrameWritten | lockKeyWrite | lockRead
  | lockTimeout | queDataRead | quePush | queFlush | queEnable | queWmWrite | queCfgWrite | queErrRead | chkStart
  | chkAbort | chkValueWrite | chkScanEnd | snpTrigGo | snpBankRelease | ptpModeWrite | ptpIncrWrite =>
    dsimp only [exec, execCanFrameRx, execTxRequestAdmit, execFrameStart, execCanFrameEnd, execBusOffHoldoffEnd,
      execBusOffRecovery, execBusoffLimit, execTideRowStart, execExclusiveWindow, execChannelModeChange,
      execPtpSyncRx, execPtpFollowUpRx, execPtpAnnounceRx, execAnnounceReceiptTimeout, execPdelayReqSend,
      execPdelayReqRx, execPdelayRespRx, execTransparentClockForward, execLogEvent, execSnapRequest, execSnapinEdge,
      execSnapWindowEnd, execSnapLocalLatch, execBlackboxFrameWritten, execLockKeyWrite, execLockRead,
      execLockTimeout, execQueDataRead, execQuePush, execQueFlush, execQueEnable, execQueWmWrite, execQueCfgWrite,
      execQueErrRead, execChkStart, execChkAbort, execChkValueWrite, execChkScanEnd, execSnpTrigGo,
      execSnpBankRelease, execPtpModeWrite, execPtpIncrWrite]
    (repeat' split) <;> simp [State.lane]
  | _ => exact absurd h Bool.false_ne_true

theorem completes_of_lineCommand {c : Instr} (h : VoteFlag.lineCommand c = true) (s : State) :
    Completes s (exec c s) := by
  cases c with
  | planeNoTick | uplinkGuardian | barred | delayUnknown | laneBodyRx | downlinkSlotOpen | qDynWindowStart
  | dreqSend | drespRx | drespMissing | lineDreqRx | quaylineListenEnd | ncRequestQueue | ncResponseRx
  | lossOfSignal | controllerSyncRx | controllerCoast | controllerSyncLoss | controllerLaunch
  | controllerDownlinkRx | controllerAgeExpiry | rstClear | controllerRestart | controllerDreqRx | controllerDsetRx
  | controllerDnoteRx | controllerBarRx | ident | counters | clrcnt | ncDesigner | farTick | farTickStrobeRx
  | farEndFeedStart | farEndFeedStop | relayRx | relaySlotOpen | copyRx | rollbackHoldClear | autoHandover
  | hawserLost =>
    dsimp only [exec, execPlaneNoTick, execUplinkGuardian, execBarred, execDelayUnknown, execLaneBodyRx,
      execDownlinkSlotOpen, execQDynWindowStart, execDreqSend, execDrespRx, execDrespMissing, execLineDreqRx,
      execQuaylineListenEnd, execNcRequestQueue, execNcResponseRx, execLossOfSignal, execControllerSyncRx,
      execControllerCoast, execControllerSyncLoss, execControllerLaunch, execControllerDownlinkRx,
      execControllerAgeExpiry, execRstClear, execControllerRestart, execControllerDreqRx, execControllerDsetRx,
      execControllerDnoteRx, execControllerBarRx, execIdent, execCounters, execClrcnt, execNcDesigner, execFarTick,
      execFarTickStrobeRx, execFarEndFeedStart, execFarEndFeedStop, execRelayRx, execRelaySlotOpen, execCopyRx,
      execRollbackHoldClear, execAutoHandover, execHawserLost]
    (repeat' split) <;> simp [State.lane]
  | _ => exact absurd h Bool.false_ne_true

theorem completes_of_sessionCommand {c : Instr} (h : VoteFlag.sessionCommand c = true) (s : State) :
    Completes s (exec c s) := by
  cases c with
  | login | accountUnlock | logout | sessionTimeout | accountCreate | accountRemove | passwordChange | readState
  | readLogbook | readBlackbox | logExport | blackboxExport | signingKeyEnrol | signingKeyRemove | manifestLoad
  | manifestBodyWritten | manifestVerified | manifestStaged | activatePending | firmwareLoad | firmwareActivate
  | onlineChange | restrictiveForce | removeRestrictiveForce | forceValue | removeForcedValue | individualRelease
  | deferTest | handover | pilotBreakpointSet | pilotRead | pilotBreakpointHit | pilotRerun =>
    dsimp only [exec, execLogin, execAccountUnlock, execLogout, execSessionTimeout, execAccountCreate, execAccountRemove,
      execPasswordChange, execReadState, execReadLogbook, execReadBlackbox, execLogExport, execBlackboxExport,
      execSigningKeyEnrol, execSigningKeyRemove, execManifestLoad, execManifestBodyWritten, execManifestVerified,
      execManifestStaged, execActivatePending, execFirmwareLoad, execFirmwareActivate, execOnlineChange,
      execRestrictiveForce, execRemoveRestrictiveForce, execForceValue, execRemoveForcedValue, execIndividualRelease,
      execDeferTest, execHandover, execPilotBreakpointSet, execPilotRead, execPilotBreakpointHit, execPilotRerun]
    (repeat' split) <;> simp [State.lane]
  | _ => exact absurd h Bool.false_ne_true

/-! ### A write of a register -/

theorem runs_after {s : State} {o : Host.Outcome State Fault Refusal} (h : Completes s o) : Runs s (after o s) := by
  obtain ⟨t, rfl, ht⟩ := h
  exact ht

/-- A register whose write is a command of the service side. -/
theorem runs_after_serviceCommand {c : Instr} (h : serviceCommand c = true) (s : State) : Runs s (after (exec c s) s) :=
  runs_after (completes_of_serviceCommand h s)

theorem runs_of_rwl (s : State) (b : Blk) (off t : Nat) (f : State → State) (h : ∀ s, Steady s (f s)) :
    Runs s (s.rwl b off t f) := by
  simp [runs_rwl s b off t f h]

theorem runs_writePtp32 (s : State) (off : Nat) (v : U32) (t : Nat) : Runs s (s.writePtp32 off v t) := by
  unfold State.writePtp32
  split
  · exact runs_after_serviceCommand (c := .ptpModeWrite v t) rfl s
  · split
    · exact runs_of_rwl _ _ _ _ _ fun u => by dsimp only; split <;> simp
    · split <;> simp

@[simp] theorem steady_cfgChk (s : State) (n : Nat) (f : CheckEngine → CheckEngine) : Steady s (s.cfgChk n f) := by
  unfold State.cfgChk
  split <;> simp

theorem runs_ctrlChk (s : State) (n : Nat) (v : U32) : Runs s (s.ctrlChk n v) := by
  have hstart : Runs s (if v.getLsbD 31 then after (execChkStart n (v.getLsbD 30) s) s else s.wrote .chk) := by
    split
    · exact runs_after_serviceCommand (c := .chkStart n (v.getLsbD 30)) rfl s
    · simp
  unfold State.ctrlChk
  dsimp only
  split
  · exact hstart.trans (runs_after_serviceCommand (c := .chkAbort n) rfl _)
  · exact hstart

theorem runs_writeChk32 (s : State) (n r : Nat) (v : U32) (t : Nat) : Runs s (s.writeChk32 n r v t) := by
  unfold State.writeChk32
  split
  · simp
  · split
    · simp
    · split
      · exact runs_ctrlChk s n v
      · split <;> simp

theorem runs_writeChk64 (s : State) (n r : Nat) (v : U64) (t : Nat) : Runs s (s.writeChk64 n r v t) := by
  unfold State.writeChk64
  iterate 3 (split; · simp)
  split
  · exact runs_after_serviceCommand (c := .chkValueWrite n v) rfl s
  · split <;> simp

theorem runs_writeQue32 (s : State) (off : Nat) (v : U32) (t : Nat) : Runs s (s.writeQue32 off v t) := by
  unfold State.writeQue32
  dsimp only
  iterate 3 (split; · simp)
  split
  · have hen := runs_after_serviceCommand (c := .queEnable (96 + off / 0x40) (v.getLsbD 0)) rfl s
    split
    · exact hen.trans (runs_after_serviceCommand (c := .queFlush (96 + off / 0x40) t) rfl _)
    · exact hen
  · split
    · exact runs_after_serviceCommand (c := .queWmWrite (96 + off / 0x40) v t) rfl s
    · split
      · exact runs_after_serviceCommand (c := .queCfgWrite (96 + off / 0x40) v t) rfl s
      · simp

theorem runs_writeSnp (s : State) (off : Nat) (v : U32) (t : Nat) : Runs s (s.writeSnp off v t) := by
  unfold State.writeSnp
  split
  · exact runs_after_serviceCommand (c := .snpTrigGo v t) rfl s
  · split
    · exact runs_after_serviceCommand (c := .snpBankRelease v) rfl s
    · split <;> simp

theorem completes_execPwrReqOn (mask : BitVec 12) (t : Nat) (s : State) : Completes s (execPwrReqOn mask t s) := by
  unfold execPwrReqOn
  split <;> simp

theorem completes_execPwrReqOff (mask : BitVec 12) (t : Nat) (s : State) : Completes s (execPwrReqOff mask t s) := by
  unfold execPwrReqOff
  split <;> simp

theorem runs_writePwr (s : State) (off : Nat) (v : U32) (t : Nat) : Runs s (s.writePwr off v t) := by
  unfold State.writePwr
  split
  · split
    · exact runs_after (completes_execPwrReqOff ..)
    · exact runs_after (completes_execPwrReqOn ..)
  · split <;> simp

@[simp] theorem steady_storeWord (s : State) (b : Blk) (addr : Nat) (v : U32) : Steady s (s.storeWord b addr v) :=
  ⟨rfl, rfl, rfl⟩

@[simp] theorem steady_writeField (s : State) (ch : Nat) (f : WbField) : Steady s (s.writeField ch f) := by
  unfold State.writeField
  dsimp only
  split <;> simp

@[simp] theorem steady_writeWb (s : State) (addr off : Nat) (v : U32) : Steady s (s.writeWb addr off v) := by
  unfold State.writeWb
  dsimp only
  (repeat' split) <;> simp

theorem runs_write32 (s : State) (b : Blk) (addr off : Nat) (v : U32) (t : Nat) :
    Runs s (s.write32 b addr off v t) := by
  unfold State.write32
  split
  · exact runs_after_serviceCommand (c := .lockKeyWrite b v t) rfl s
  · split
    · simp
    · cases b with
      | ptp => exact runs_writePtp32 ..
      | chk =>
        dsimp only
        split
        · exact runs_writeChk32 ..
        · simp
      | que => exact runs_writeQue32 ..
      | snp => exact runs_writeSnp ..
      | pwr => exact runs_writePwr ..
      | wb | upl | bist | log => simp
      | qla | qlb =>
        dsimp only
        split <;> simp

theorem runs_write64 (s : State) (b : Blk) (off : Nat) (v : U64) (t : Nat) : Runs s (s.write64 b off v t) := by
  cases b with
  | ptp =>
    simp only [State.write64]
    split
    · exact runs_after_serviceCommand (c := .ptpIncrWrite v) rfl s
    · simp
  | chk => exact runs_writeChk64 ..
  | que =>
    simp only [State.write64]
    split
    · exact runs_after_serviceCommand (c := .quePush (96 + off / 0x40) (v.setWidth 63)) rfl s
    · simp
  | upl | wb | snp | pwr | bist | log | qla | qlb => simp [State.write64]

theorem runs_writeBlk (s : State) (b : Blk) (addr off bits : Nat) (v : U64) (t : Nat) :
    Runs s (s.writeBlk b addr off bits v t) := by
  unfold State.writeBlk
  split
  · split
    · exact ⟨rfl, le_rfl, id⟩
    · exact runs_write32 ..
  · split
    · exact runs_write64 ..
    · exact (runs_write32 ..).trans (runs_write32 ..)

theorem completes_execRegisterWrite (addr bits : Nat) (v : U64) (t : Nat) (s : State) :
    Completes s (execRegisterWrite addr bits v t s) := by
  have ht : Runs s (s.touch t) := by simp
  unfold execRegisterWrite
  dsimp only
  split
  · simp
  · split
    · exact (completes_fin _ _).2 ht
    · split
      · exact (completes_fin _ _).2 ht
      · split
        · exact (completes_fin _ _).2 (ht.trans (runs_writeBlk ..))
        · exact (completes_fin _ _).2 ht

/-! ### Commands of power and of the exchange -/

theorem completes_execDomainPgLoss (d : Domain) (s : State) : Completes s (execDomainPgLoss d s) := by
  unfold execDomainPgLoss
  split
  · split
    · simp
    · simp
    · split
      · exact (completes_fin _ _).2 (runs_unpowered s)
      · (repeat' split) <;> simp
  · simp

theorem completes_execDomainPowerDown (s : State) : Completes s (execDomainPowerDown s) := by
  unfold execDomainPowerDown
  split
  · exact (completes_ok _ _).2 (runs_unpowered s)
  · simp

theorem completes_execExchangeDeadline (ln : LaneId) (s : State) : Completes s (execExchangeDeadline ln s) := by
  unfold execExchangeDeadline
  dsimp only
  split
  · refine (completes_fin _ _).2 (Steady.runs (steady_foldl _ (fun u src => ?_) _ _))
    (repeat' split) <;> simp
  · simp

theorem completes_execComparatorSample (ln : LaneId) (sm : Sample) (t : Nat) (s : State) :
    Completes s (execComparatorSample ln sm t s) := by
  unfold execComparatorSample
  dsimp only
  split <;> simp

theorem exec_completes (c : Instr) (s : State) : Completes s (exec c s) := by
  cases c with
  -- meanings that are `fin` as they stand, the Tally instructions among them
  | cadd | csub | cmulk | ccmpEq | ccmpNe | ccmpLt | ccmpLe | band | bor | bnot
  | bsel | ldl | stl | lde | ste | ldi | sto | tmsStart | tmsRestart | tmsCancel | tmx | edg | rrq | brf
  | loopnInit | loopnClose | ckpt | snap | endp =>
    exact (completes_fin s _).2 (steady_issue ..).runs
  | routeSet | routeCancel | routeCheck | irel => exact (completes_fin s _).2 (steady_runEngine ..).runs
  | laneSupplyLoss => exact (completes_fin s _).2 (Steady.runs (by simp))
  | pilotClose => exact (completes_fin s _).2 (Steady.runs (by simp))
  -- meanings that end in `fin` on each branch
  | domainPowerGood | domainPgTimeout | bootComplete | bootTimeout | pllLockLoss | agreedTick | wakeDeadline
  | agreementRecordRx | agreementEchoRx | inputAgreement | repairPayloadRx | agreeMinorityLimit | pass1Start
  | pass2Start | passBudgetCheck | pConsStart | consensusRecordRx | consensusDecision
  | secondSkipHalt | pConsEnd | exclusionNoticeRx | clxLinkFailure | laneRestart | rejoinChunkRx
  | rejoinFrameStateRx | rejoinComplete | rejoinFailure | rotatingTestStart | testStepEnd | rotatingTestTimeout
  | moduleSyncRx | sealRx | hawserStatusRx | copyDecision | takeover | svcRestart | slotSelect | restartWarm
  | restartCold | enterTest | leaveTest | moduleClose | rejoinCommand | pilotOpen | pilotStep | plannedShutdown
  | bistAbort | shutdownReady =>
    dsimp only [exec, execDomainPowerGood, execDomainPgTimeout, execBootComplete, execBootTimeout, execPllLockLoss,
      execAgreedTick, execWakeDeadline, execAgreementRecordRx, execAgreementEchoRx, execInputAgreement,
      execRepairPayloadRx, execAgreeMinorityLimit, execPass1Start, execPass2Start, execPassBudgetCheck,
      execPConsStart, execConsensusRecordRx, execConsensusDecision, execSecondSkipHalt,
      execPConsEnd, execExclusionNoticeRx, execClxLinkFailure, execLaneRestart, execRejoinChunkRx,
      execRejoinFrameStateRx, execRejoinComplete, execRejoinFailure, execRotatingTestStart, execTestStepEnd,
      execRotatingTestTimeout, execModuleSyncRx, execSealRx, execHawserStatusRx, execCopyDecision, execTakeover,
      execSvcRestart, execSlotSelect, execRestartWarm, execRestartCold, execEnterTest, execLeaveTest,
      execModuleClose, execRejoinCommand, execPilotOpen, execPilotStep, execPlannedShutdown, execBistAbort,
      execShutdownReady]
    (repeat' split) <;> simp
  | canFrameRx | txRequestAdmit | frameStart | canFrameEnd | busOffHoldoffEnd | busOffRecovery | busoffLimit
  | tideRowStart | exclusiveWindow | channelModeChange | ptpSyncRx | ptpFollowUpRx | ptpAnnounceRx
  | announceReceiptTimeout | pdelayReqSend | pdelayReqRx | pdelayRespRx | transparentClockForward | logEvent
  | snapRequest | snapinEdge | snapWindowEnd | snapLocalLatch | blackboxFrameWritten | lockKeyWrite | lockRead
  | lockTimeout | queDataRead | quePush | queFlush | queEnable | queWmWrite | queCfgWrite | queErrRead | chkStart
  | chkAbort | chkValueWrite | chkScanEnd | snpTrigGo | snpBankRelease | ptpModeWrite | ptpIncrWrite =>
    exact completes_of_serviceCommand rfl s
  | planeNoTick | uplinkGuardian | barred | delayUnknown | laneBodyRx | downlinkSlotOpen | qDynWindowStart
  | dreqSend | drespRx | drespMissing | lineDreqRx | quaylineListenEnd | ncRequestQueue | ncResponseRx
  | lossOfSignal | controllerSyncRx | controllerCoast | controllerSyncLoss | controllerLaunch
  | controllerDownlinkRx | controllerAgeExpiry | rstClear | controllerRestart | controllerDreqRx | controllerDsetRx
  | controllerDnoteRx | controllerBarRx | ident | counters | clrcnt | ncDesigner | farTick | farTickStrobeRx
  | farEndFeedStart | farEndFeedStop | relayRx | relaySlotOpen | copyRx | rollbackHoldClear | autoHandover
  | hawserLost =>
    exact completes_of_lineCommand rfl s
  | login | accountUnlock | logout | sessionTimeout | accountCreate | accountRemove | passwordChange | readState
  | readLogbook | readBlackbox | logExport | blackboxExport | signingKeyEnrol | signingKeyRemove | manifestLoad
  | manifestBodyWritten | manifestVerified | manifestStaged | activatePending | firmwareLoad | firmwareActivate
  | onlineChange | restrictiveForce | removeRestrictiveForce | forceValue | removeForcedValue | individualRelease
  | deferTest | handover | pilotBreakpointSet | pilotRead | pilotBreakpointHit | pilotRerun =>
    exact completes_of_sessionCommand rfl s
  -- the other meanings that end in `ok`: of a lane alone, of the uplinks, of self-test items and of power
  | feedLevelChange | powerFailWarning | powerGood | tickMarkerRx | wakeRequest | pAgreeStart | uplinkAgeLimit
  | safeLinkAgeExpiry | pSignStart | mirrorRefresh | uplinkTelegramRx | cycleStartNotice | safeLinkFrameRx
  | batchClose | safeLinkCopyCheck | slCopyExpire | safeLinkSend | slUnsigned | timedLaunch | uplinkFrameRx
  | prpSupervisionSend | svcRecovery | esStuck | esDisc | inputTest | esTask | firstMessageLapse | irelEntry
  | bistItemEnd | bistItemOvertime | ibcFail | vliofStageFail | unitselChange | tempHigh =>
    dsimp only [exec, execFeedLevelChange, execPowerFailWarning, execPowerGood, execTickMarkerRx, execWakeRequest,
      execPAgreeStart, execUplinkAgeLimit, execSafeLinkAgeExpiry, execPSignStart, execMirrorRefresh,
      execUplinkTelegramRx, execCycleStartNotice, execSafeLinkFrameRx, execBatchClose, execSafeLinkCopyCheck,
      execSlCopyExpire, execSafeLinkSend, execSlUnsigned, execTimedLaunch, execUplinkFrameRx, execPrpSupervisionSend,
      execSvcRecovery, execEsStuck, execEsDisc, execInputTest, execEsTask, execFirstMessageLapse, execIrelEntry,
      execBistItemEnd, execBistItemOvertime, execIbcFail, execVliofStageFail, execUnitselChange, execTempHigh]
    (repeat' split) <;> simp [State.lane]
  | exchangeDeadline => exact completes_execExchangeDeadline ..
  | registerWrite => exact completes_execRegisterWrite ..
  | pwrReqOn => exact completes_execPwrReqOn ..
  | pwrReqOff => exact completes_execPwrReqOff ..
  | domainPgLoss => exact completes_execDomainPgLoss ..
  | domainPowerDown => exact completes_execDomainPowerDown s
  | comparatorSample => exact completes_execComparatorSample ..
  -- meanings with branches of both ends
  | tickStrobeRx | switchDecision | pilotWrite =>
    dsimp only [exec, execTickStrobeRx, execSwitchDecision, execPilotWrite]
    (repeat' split) <;> simp

/-- Settles O55: no meaning refuses its command, none touches the waiting commands, and time moves by `touch` alone. -/
theorem everyCommandCompletes : Obligations.EveryCommandCompletes := by
  unfold Obligations.EveryCommandCompletes
  intro s c
  obtain ⟨u, hu, hpending, hnow, -⟩ := exec_completes c s
  exact ⟨u, hu, hpending, hnow⟩

/-- Settles O58: a step runs the command at the front of the queue, and no command but the loss of all power writes the
service memory, of which that keeps a part. -/
theorem memoryKept : Obligations.MemoryKept := by
  unfold Obligations.MemoryKept State.memOk
  intro s t hs hstep
  unfold step at hstep
  split at hstep
  · cases hstep
    exact hs
  · next c r _ =>
    obtain ⟨u, hu, -, -, hmem⟩ := exec_completes c { s with pending := r }
    cases hstep.symm.trans hu
    exact hmem hs

end Sys2Proof.SteadyFrame
end

section
/-! ## What the service side leaves alone (R3, R346)

An operation of SVC alone keeps the lanes, the plane chips, the module's state, its power and its self-test. One that
takes a snapshot may write a bank of a lane, and keeps what a lane has of the vote, its outputs and its coded words. -/

namespace Sys2Proof.ServiceFrame

open Sys2Proof Sys2Proof.Machine Sys2Proof.Laws

/-! ### Operations of SVC alone -/

/-- The lanes, the planes, the module's state, its power and its self-test of `t` are those of `s`. Reducible, so that a
simp lemma that states it rewrites all five. -/
@[reducible, simp] def Apart (s t : State) : Prop :=
  t.lanes = s.lanes ∧ t.planes = s.planes ∧ t.module = s.module ∧ t.power = s.power ∧ t.bist = s.bist

theorem Apart.trans {s t u : State} (h : Apart s t) (k : Apart t u) : Apart s u := by
  obtain ⟨h1, h2, h3, h4, h5⟩ := h
  obtain ⟨k1, k2, k3, k4, k5⟩ := k
  exact ⟨k1.trans h1, k2.trans h2, k3.trans h3, k4.trans h4, k5.trans h5⟩

@[simp] theorem apart_foldl {α : Type} (f : State → α → State) (h : ∀ s a, Apart s (f s a)) (xs : List α) (s : State) :
    Apart s (xs.foldl f s) := by
  induction xs generalizing s with
  | nil => simp
  | cons a r ih => exact (h s a).trans (ih _)

@[simp] theorem apart_touch (s : State) (t : Nat) : Apart s (s.touch t) := by
  exact ⟨rfl, rfl, rfl, rfl, rfl⟩

@[simp] theorem apart_putQueue (s : State) (n : Nat) (q : Queue) : Apart s (s.putQueue n q) := ⟨rfl, rfl, rfl, rfl, rfl⟩

@[simp] theorem apart_putLock (s : State) (b : Blk) (k : Lock) : Apart s (s.putLock b k) := ⟨rfl, rfl, rfl, rfl, rfl⟩

@[simp] theorem apart_wrote (s : State) (b : Blk) : Apart s (s.wrote b) := ⟨rfl, rfl, rfl, rfl, rfl⟩

@[simp] theorem apart_lockedWrite (s : State) (b : Blk) (off : Nat) : Apart s (s.lockedWrite b off) := by
  simp [State.lockedWrite]

@[simp] theorem apart_rwl (s : State) (b : Blk) (off t : Nat) (f : State → State) (h : ∀ s, Apart s (f s)) :
    Apart s (s.rwl b off t f) := by
  unfold State.rwl
  dsimp only
  split
  · exact Apart.trans ⟨rfl, rfl, rfl, rfl, rfl⟩ (h _)
  · simp

@[simp] theorem apart_queWrote (s : State) (q : Nat) : Apart s (s.queWrote q) := by
  unfold State.queWrote
  split <;> simp

@[simp] theorem apart_setWm (s : State) (q : Nat) (v : U32) : Apart s (s.setWm q v) := by
  unfold State.setWm
  dsimp only
  split <;> simp

@[simp] theorem apart_setDepth (s : State) (q : Nat) (v : U32) : Apart s (s.setDepth q v) := by
  unfold State.setDepth
  dsimp only
  split <;> simp

@[simp] theorem apart_putChk (s : State) (n : Nat) (e : CheckEngine) : Apart s (s.putChk n e) := ⟨rfl, rfl, rfl, rfl, rfl⟩

@[simp] theorem apart_writeRecord (s : State) (e : Event) : Apart s (s.writeRecord e) := by
  unfold State.writeRecord
  dsimp only
  (repeat' split) <;> simp

@[simp] theorem apart_stage (s : State) (f : BbFrame) : Apart s (s.stage f) := ⟨rfl, rfl, rfl, rfl, rfl⟩

@[simp] theorem apart_putChan (s : State) (ch : Nat) (c : WbChan) : Apart s (s.putChan ch c) := ⟨rfl, rfl, rfl, rfl, rfl⟩

@[simp] theorem apart_complete (s : State) (ch : Nat) (q : TxReq) (status : Nat) : Apart s (s.complete ch q status) := ⟨rfl, rfl, rfl, rfl, rfl⟩

@[simp] theorem apart_dropExpired (s : State) (ch : Nat) : Apart s (s.dropExpired ch) := by
  simp [State.dropExpired]

@[simp] theorem apart_followErrors (s : State) (ch : Nat) (c : WbChan) : Apart s (s.followErrors ch c) := by
  unfold State.followErrors
  dsimp only
  (repeat' split) <;> simp

@[simp] theorem apart_takeCan (s : State) (ch : Nat) (f : CanFrame) (sofTime : U48) : Apart s (s.takeCan ch f sofTime) := by
  unfold State.takeCan
  dsimp only
  (repeat' split) <;> simp

@[simp] theorem apart_flushItems (s : State) (q : Nat) : Apart s (s.flushItems q).2 := by
  unfold State.flushItems
  (repeat' split) <;> simp

@[simp] theorem apart_flush (s : State) (q : Nat) : Apart s (s.flush q) := by
  simp [State.flush]

@[simp] theorem apart_placeWb (s : State) (ch : Nat) (c : WbChan) : Apart s (s.placeWb ch c) := by
  unfold State.placeWb
  (repeat' split) <;> simp

@[simp] theorem apart_busOff (s : State) (ch : Nat) : Apart s (s.busOff ch) := by
  unfold State.busOff
  dsimp only
  split <;> simp

@[simp] theorem apart_renewWb (s : State) (ch : Nat) : Apart s (s.renewWb ch) := by
  unfold State.renewWb
  dsimp only
  split <;> simp

@[simp] theorem apart_updUplink (s : State) (f : Uplink → Uplink) : Apart s (s.updUplink f) := ⟨rfl, rfl, rfl, rfl, rfl⟩

@[simp] theorem apart_putPort (s : State) (k : Nat) (f : List Byte) (port : Nat) : Apart s (s.putPort k f port) := by
  unfold State.putPort
  split <;> simp

@[simp] theorem apart_sendOn (s : State) (lanB : Bool) (dst : U48) (k : Nat) (f : List Byte) :
    Apart s (s.sendOn lanB dst k f) := by
  simp [State.sendOn]

@[simp] theorem apart_sendPrp (s : State) (dst : Bool → U48) (k etherType : Nat) (p : List Byte) :
    Apart s (s.sendPrp dst k etherType p) := by
  simp [State.sendPrp]

@[simp] theorem apart_sendPdu (s : State) (key : Nat) (pdu : List Byte) : Apart s (s.sendPdu key pdu) := by
  unfold State.sendPdu
  split <;> simp

@[simp] theorem apart_launch (s : State) (p : HeldLaunch → Bool) : Apart s (s.launch p) := by
  simp [State.launch]

@[simp] theorem apart_freeLaunches (s : State) : Apart s s.freeLaunches := by
  unfold State.freeLaunches
  split <;> simp

@[simp] theorem apart_slew (s : State) (o : Int) : Apart s (s.slew o) := by
  unfold State.slew
  dsimp only
  split <;> simp

@[simp] theorem apart_stepClock (s : State) (o : Int) : Apart s (s.stepClock o) := by
  simp [State.stepClock]

@[simp] theorem apart_refuseOffset (s : State) (o : Int) (n : Nat) : Apart s (s.refuseOffset o n) := by
  unfold State.refuseOffset
  split <;> simp

@[simp] theorem apart_ptpOffset (s : State) (m : U64) (o : Int) : Apart s (s.ptpOffset m o) := by
  unfold State.ptpOffset
  dsimp only
  (repeat' split) <;> simp

@[simp] theorem apart_ptpIgnore (s : State) : Apart s s.ptpIgnore := ⟨rfl, rfl, rfl, rfl, rfl⟩

@[simp] theorem apart_unlock (s : State) : Apart s s.unlock := by
  simp [State.unlock]

/-! ### Operations that may write a bank of a lane -/

/-- What a lane has of the vote, its outputs and its coded words. -/
def vitals (L : Lane) :
    Tri LaneState × Tbl (BitVec 3) × BitVec 56 × BitVec 56 × Tbl (List Byte) × Tbl Coded × Tbl Coded :=
  (L.views, L.switches, L.vec, L.newVec, L.signedDown, L.copy1, L.copy2)

/-- The vitals of the lanes, and the module's state, power and self-test, of `t` are those of `s`. -/
@[reducible, simp] def Vital (s t : State) : Prop :=
  t.lanes.map vitals = s.lanes.map vitals ∧ t.module = s.module ∧ t.power = s.power ∧ t.bist = s.bist

theorem Vital.trans {s t u : State} (h : Vital s t) (k : Vital t u) : Vital s u := by
  obtain ⟨h1, h2, h3, h4⟩ := h
  obtain ⟨k1, k2, k3, k4⟩ := k
  exact ⟨k1.trans h1, k2.trans h2, k3.trans h3, k4.trans h4⟩

theorem Apart.vital {s t : State} (h : Apart s t) : Vital s t := by
  obtain ⟨hlanes, -, hmodule, hpower, hbist⟩ := h
  exact ⟨by rw [hlanes], hmodule, hpower, hbist⟩

theorem Vital.lane {s t : State} (h : Vital s t) (ln : LaneId) : vitals (t.lane ln) = vitals (s.lane ln) := by
  have := congrArg (fun x => x.get ln) h.1
  simpa [State.lane] using this

@[simp] theorem vital_updLane (s : State) (ln : LaneId) (f : Lane → Lane) (h : vitals (f (s.lane ln)) = vitals (s.lane ln)) :
    Vital s (s.updLane ln f) := by
  refine ⟨?_, rfl, rfl, rfl⟩
  cases ln <;> simpa [State.updLane, State.putLane, State.lane, Tri.set, Tri.map, Tri.get] using h

@[simp] theorem vital_latchLane (s : State) (ln : LaneId) : Vital s (s.latchLane ln) := by
  unfold State.latchLane
  split
  · simp
  · refine vital_updLane _ _ _ ?_
    unfold Lane.latchNet
    split <;> rfl

theorem vital_latchAll (s : State) : Vital s s.latchAll := by
  have h : ∀ (xs : List LaneId) (u : State), Vital u (xs.foldl State.latchLane u) := fun xs => by
    induction xs with
    | nil => simp
    | cons a r ih => exact fun u => (vital_latchLane u a).trans (ih _)
  exact h LaneId.all s

theorem vital_ite {s a b : State} {c : Prop} [Decidable c] (ha : Vital s a) (hb : Vital s b) :
    Vital s (if c then a else b) := by
  split
  · exact ha
  · exact hb

theorem vital_snapTake (s : State) (x : SnapSource) (regReason : Nat) : Vital s (s.snapTake x regReason) := by
  unfold State.snapTake
  cases sourceLane x with
  | none =>
    have hlatch := vital_latchAll s
    dsimp only
    generalize s.latchAll = u at hlatch ⊢
    exact vital_ite ⟨rfl, rfl, rfl, rfl⟩ (vital_ite ⟨rfl, rfl, rfl, rfl⟩ hlatch)
  | some ln =>
    have hack : Vital s (s.updLane ln (fun L => { L with snapUnacked := false })) := vital_updLane _ _ _ rfl
    have hlatch := hack.trans (vital_latchAll _)
    dsimp only
    generalize s.updLane ln (fun L => { L with snapUnacked := false }) = s0 at hack hlatch ⊢
    generalize s0.latchAll = u at hlatch ⊢
    exact vital_ite hack (vital_ite hack hlatch)

theorem vital_release (s : State) (v : U32) : Vital s (s.release v) := ⟨rfl, rfl, rfl, rfl⟩

theorem vital_execSnapLocalLatch (ln : LaneId) (s u : State) (h : execSnapLocalLatch ln s = .next u) : Vital s u := by
  have hlatch : Vital s ((s.latchLane ln).updLane ln (fun L => { L with snapUnacked := false })) :=
    (vital_latchLane s ln).trans (vital_updLane _ _ _ rfl)
  unfold execSnapLocalLatch at h
  dsimp only at h
  split at h
  · split at h
    · cases h
      exact hlatch
    · split at h <;> cases h <;> exact hlatch
  · cases h
    simp

/-! ### Families of commands -/

/-- No event of the Wharf bus goes beyond its channels, its queues and the logbook. -/
theorem apart_of_wharfBusCommand {s u : State} {c : Instr} (h : wharfBusCommand c = true) (hu : exec c s = .next u) :
    Apart s u := by
  revert u
  suffices ∃ t, exec c s = .next t ∧ Apart s t by
    obtain ⟨t, ht, hk⟩ := this
    intro u hu
    cases ht.symm.trans hu
    exact hk
  cases c with
  | canFrameRx | txRequestAdmit | frameStart | canFrameEnd | busOffHoldoffEnd | busOffRecovery | busoffLimit
  | tideRowStart | exclusiveWindow | channelModeChange =>
    dsimp only [exec, execCanFrameRx, execTxRequestAdmit, execFrameStart, execCanFrameEnd, execBusOffHoldoffEnd,
      execBusOffRecovery, execBusoffLimit, execTideRowStart, execExclusiveWindow, execChannelModeChange]
    (repeat' split) <;> simp [ok]
  | _ => exact absurd h Bool.false_ne_true

/-- No command of the service side touches a vital of a lane, the module's state, its power or its self-test. -/
theorem vital_of_serviceCommand {s u : State} {c : Instr} (h : serviceCommand c = true) (hu : exec c s = .next u) :
    Vital s u := by
  cases c with
  | canFrameRx | txRequestAdmit | frameStart | canFrameEnd | busOffHoldoffEnd | busOffRecovery | busoffLimit
  | tideRowStart | exclusiveWindow | channelModeChange => exact (apart_of_wharfBusCommand rfl hu).vital
  | snapLocalLatch ln => exact vital_execSnapLocalLatch ln s u hu
  | snapRequest src t =>
    dsimp only [exec, execSnapRequest] at hu
    split at hu <;> cases hu
    · exact (apart_touch s t).vital.trans (vital_snapTake ..)
    · simp
  | snapinEdge held t =>
    dsimp only [exec, execSnapinEdge] at hu
    split at hu <;> cases hu
    · exact (apart_touch s t).vital.trans (vital_snapTake ..)
    · simp
  | snapWindowEnd => cases hu; simp
  | snpTrigGo v t =>
    have hw : Vital s ((s.touch t).wrote .snp) := by simp
    dsimp only [exec, execSnpTrigGo] at hu
    split at hu
    · split at hu <;> cases hu
      · exact hw.trans (vital_snapTake ..)
      · exact hw
    · cases hu; simp
  | snpBankRelease v =>
    dsimp only [exec, execSnpBankRelease] at hu
    split at hu <;> cases hu
    · exact vital_release (s.wrote .snp) v
    · simp
  | ptpSyncRx | ptpFollowUpRx | ptpAnnounceRx
  | announceReceiptTimeout | pdelayReqSend | pdelayReqRx | pdelayRespRx | transparentClockForward | logEvent
  | blackboxFrameWritten | lockKeyWrite | lockRead
  | lockTimeout | queDataRead | quePush | queFlush | queEnable | queWmWrite | queCfgWrite | queErrRead | chkStart
  | chkAbort | chkValueWrite | chkScanEnd | ptpModeWrite | ptpIncrWrite =>
    revert u
    suffices ∃ t, exec _ s = .next t ∧ Apart s t by
      obtain ⟨t, ht, hk⟩ := this
      intro u hu
      cases ht.symm.trans hu
      exact hk.vital
    dsimp only [exec, 
      execPtpSyncRx, execPtpFollowUpRx, execPtpAnnounceRx, execAnnounceReceiptTimeout, execPdelayReqSend,
      execPdelayReqRx, execPdelayRespRx, execTransparentClockForward, execLogEvent, execBlackboxFrameWritten, execLockKeyWrite, execLockRead,
      execLockTimeout, execQueDataRead, execQuePush, execQueFlush, execQueEnable, execQueWmWrite, execQueCfgWrite,
      execQueErrRead, execChkStart, execChkAbort, execChkValueWrite, execChkScanEnd, execPtpModeWrite, execPtpIncrWrite]
    (repeat' split) <;> simp [ok]
  | _ => exact absurd h Bool.false_ne_true

/-- What energises an output: the switches of the lanes and the power of the field side. -/
theorem Vital.energised {s u : State} (h : Vital s u) (ch : Nat) : u.energised ch = s.energised ch := by
  have hsw (ln : LaneId) : (u.lane ln).switches = (s.lane ln).switches := congrArg (·.2.1) (h.lane ln)
  obtain ⟨-, -, hpower, hbist⟩ := h
  simp only [State.energised, State.pairClosed, State.fieldOn, State.marked, hsw, hpower, hbist]

/-- Settles O60: the commands of the Wharf bus stay within the service side, and the other service commands write at
most a bank of a lane. -/
theorem serviceNeverPermits : Obligations.ServiceNeverPermits := by
  unfold Obligations.ServiceNeverPermits
  refine fun s u c hu => ⟨fun hc => ?_, fun hc => ?_⟩
  · obtain ⟨hlanes, hplanes, hmodule, -, -⟩ := apart_of_wharfBusCommand hc hu
    exact ⟨hlanes, hplanes, hmodule⟩
  · have hv := vital_of_serviceCommand hc hu
    refine ⟨hv.2.1, hv.energised, fun ln => ?_⟩
    simpa [vitals] using hv.lane ln

end Sys2Proof.ServiceFrame
end

section
/-! ## What the passes of a cycle leave alone in their lane

An instruction, the generated code before it and an evaluation of the route engine write words, registers, queues and
the supervisor's notes of their lane. They leave its views, its switches, its signature entries, its CN and its image. -/

namespace Sys2Proof.PassFrame

open Sys2Proof Sys2Proof.Machine Sys2Proof.Laws

/-! ### Answers that hold a property -/

/-- The value answered, where there is one, has a property. -/
def Gives {ε α : Type} (P : α → Prop) (x : Except ε α) : Prop := ∀ a, x = .ok a → P a

section
variable {ε α β : Type} {P : α → Prop} {Q : β → Prop}

@[simp] theorem gives_ok (a : α) : Gives P (.ok a : Except ε α) ↔ P a :=
  ⟨fun h => h a rfl, fun h _ hb => by rw [← Except.ok.inj hb]; exact h⟩

@[simp] theorem gives_pure (a : α) : Gives P (pure a : Except ε α) ↔ P a := gives_ok a

@[simp] theorem gives_error (e : ε) : Gives P (.error e : Except ε α) := nofun

@[simp] theorem gives_throw (e : ε) : Gives P (throw e : Except ε α) := nofun

@[simp] theorem gives_bind (x : Except ε β) (f : β → Except ε α) :
    Gives P (x >>= f) ↔ ∀ b, x = .ok b → Gives P (f b) := by
  cases x with
  | error e => exact ⟨fun _ => nofun, fun _ => nofun⟩
  | ok b => exact ⟨fun h c hc => Except.ok.inj hc ▸ h, fun h => h b rfl⟩

@[simp] theorem gives_true (x : Except ε α) : Gives (fun _ => True) x := fun _ _ => trivial

@[simp] theorem gives_fmap (x : Except ε β) (f : β → α) : Gives P (f <$> x) ↔ Gives (fun b => P (f b)) x := by
  cases x with
  | error e => exact ⟨fun _ => nofun, fun _ => nofun⟩
  | ok b => exact (gives_ok (f b)).trans (gives_ok (P := fun b => P (f b)) b).symm

@[simp] theorem gives_map (x : Except ε β) (f : β → α) : Gives P (x.map f) ↔ Gives (fun b => P (f b)) x := by
  cases x with
  | error e => exact ⟨fun _ => nofun, fun _ => nofun⟩
  | ok b => exact (gives_ok (f b)).trans (gives_ok (P := fun b => P (f b)) b).symm

@[simp] theorem gives_ite (c : Prop) [Decidable c] (x y : Except ε α) :
    Gives P (if c then x else y) ↔ (c → Gives P x) ∧ (¬ c → Gives P y) := by
  by_cases h : c <;> simp [h]

theorem Gives.mono {R : α → Prop} {x : Except ε α} (h : Gives P x) (hr : ∀ a, P a → R a) : Gives R x :=
  fun a ha => hr a (h a ha)

/-- A fold in which every step keeps a relation to its start. -/
theorem gives_foldlM (R : α → α → Prop) (hrefl : ∀ a, R a a) (htrans : ∀ {a b c}, R a b → R b c → R a c)
    (f : α → β → Except ε α) (h : ∀ a b, Gives (R a) (f a b)) (xs : List β) (a : α) :
    Gives (R a) (xs.foldlM f a) := by
  induction xs generalizing a with
  | nil => simpa using hrefl a
  | cons b r ih =>
    simp only [List.foldlM_cons, gives_bind]
    exact fun c hc => (ih c).mono fun d hd => htrans (h a b c hc) hd

end

/-! ### The frame -/

/-- Views, switches, signature entries, CN and image of `M` are those of `L`. Reducible, so that a simp lemma that
states it rewrites all five. -/
@[reducible, simp] def InPass (L M : Lane) : Prop :=
  M.views = L.views ∧ M.switches = L.switches ∧ M.sigs = L.sigs ∧ M.cn = L.cn ∧ M.image = L.image

theorem InPass.refl (L : Lane) : InPass L L := ⟨rfl, rfl, rfl, rfl, rfl⟩

theorem InPass.trans {L M N : Lane} (h : InPass L M) (k : InPass M N) : InPass L N := by
  obtain ⟨h1, h2, h3, h4, h5⟩ := h
  obtain ⟨k1, k2, k3, k4, k5⟩ := k
  exact ⟨k1.trans h1, k2.trans h2, k3.trans h3, k4.trans h4, k5.trans h5⟩

@[simp] theorem inPass_setWord (L : Lane) (p : Pass) (key : Nat) (c : Coded) : InPass L (L.setWord p key c) := by
  cases p <;> exact InPass.refl _

@[simp] theorem inPass_store (L : Lane) (p : Pass) (key : Nat) (c : Coded) (req clk : Nat) :
    InPass L (L.store p key c req clk) := by
  simp [Lane.store]

@[simp] theorem inPass_correct (L : Lane) (places : List Nat) : InPass L (L.correct places) := InPass.refl _

@[simp] theorem inPass_correctWords (L : Lane) (p : Pass) (keys : List Nat) : InPass L (L.correctWords p keys) :=
  InPass.refl _

@[simp] theorem inPass_keepHidden (L : Lane) (p : Pass) (id : Nat) (o : GenOut) : InPass L (L.keepHidden p id o) := by
  cases p <;> exact InPass.refl _

theorem inPass_storeBy (L : Lane) (p : Pass) (owner req clk off key : Nat) (x : Int) :
    Gives (InPass L) (L.storeBy p owner req clk off key x) := by
  simp [Lane.storeBy]

/-! ### Generated code -/

theorem inPass_genStep (m : Manifest) (p : Pass) (core : CoreId) (L : Lane) (c : Core) (id : Nat) (e : ElemCfg) :
    Gives (fun a => InPass L a.1) (genStep m p core L c id e) := by
  unfold genStep
  simp only [gives_bind, gives_pure]
  intro xs hxs L1 hL1
  have h := gives_foldlM InPass InPass.refl InPass.trans _ (fun M w => inPass_storeBy M _ _ _ _ _ _ _) _ _ L1 hL1
  exact ((inPass_correctWords ..).trans h).trans (inPass_keepHidden ..)

theorem inPass_genFold (m : Manifest) (p : Pass) (core : CoreId) (base : Nat) (upto : Option Nat)
    (es : List (Nat × ElemCfg)) (a : Lane × Core) :
    Gives (fun b => InPass a.1 b.1) (genFold m p core base upto es a) := by
  induction es generalizing a with
  | nil => simp [genFold]
  | cons e rest ih =>
    unfold genFold
    split
    · simp
    · split
      · simp
      · next b hb => exact (ih b).mono fun c hc => (inPass_genStep _ _ _ _ _ _ _ b hb).trans hc

theorem inPass_genTo (L : Lane) (p : Pass) (core : CoreId) (upto : Option Nat) :
    Gives (fun a => InPass L a.1) (L.genTo p core upto) := by
  unfold Lane.genTo
  dsimp only
  split
  · simp
  · split
    · exact inPass_genFold _ _ _ _ _ _ (L, _)
    · simp

theorem inPass_genBefore (L : Lane) (p : Pass) (start r : Nat) : Gives (InPass L) (L.genBefore p start r) := by
  unfold Lane.genBefore
  refine gives_foldlM InPass InPass.refl InPass.trans _ (fun M c => ?_) _ _
  dsimp only
  split
  · simp
  · next a ha => exact (gives_ok _).2 (inPass_genTo _ _ _ _ a ha)

/-! ### What an instruction sees -/

theorem inPass_pilotApply (p : Pass) (core : CoreId) (L : Lane) (c : Core) (tgt : PilotTarget) (x : Int) :
    Gives (fun a => InPass L a.1) (pilotApply p core L c tgt x) := by
  cases tgt with
  | word k => simp [pilotApply]
  | v | p | x | pc | cn | sg => simp [pilotApply]

theorem inPass_replayAt (pi : Pilot) (core : CoreId) (L : Lane) (c : Core) :
    Gives (fun a => InPass L a.1) (replayAt pi core L c) :=
  gives_foldlM (fun (a b : Lane × Core) => InPass a.1 b.1) (fun _ => InPass.refl _) InPass.trans _
    (fun a _ => inPass_pilotApply _ _ a.1 _ _ _) _ (L, c)

theorem inPass_context (pi : Option Pilot) (core : CoreId) (p : Pass) (L : Lane) :
    Gives (fun t => InPass L t.L) (L.context pi core p) := by
  unfold Lane.context
  simp only [gives_bind, gives_pure]
  rintro a ha b hb
  have hgen := inPass_genTo L p core none a ha
  refine InPass.trans hgen (InPass.trans ?_ (inPass_correct ..))
  split at hb
  · exact inPass_replayAt _ _ _ _ b hb
  · cases hb
    exact InPass.refl _

/-! ### Instructions -/

/-- An instruction keeps its lane's frame. -/
def KeepsLane (body : TCtx → TRes) : Prop := ∀ t, Gives (fun a => InPass t.L a.1) (body t)

@[simp] theorem inPass_corrected (t : TCtx) (keys : List Nat) : InPass t.L (t.corrected keys) := InPass.refl _

@[simp] theorem inPass_storePlain (t : TCtx) (L : Lane) (key : Nat) (x : Int) (off : Nat) :
    InPass L (storePlain t L key x off) := by
  simp [storePlain]

@[simp] theorem keepsLane_load (f : Fields) (sp : Space) (altOk : Bool) : KeepsLane (load f sp altOk) := by
  intro t
  simp [load]

@[simp] theorem keepsLane_storeTo (f : Fields) (sp : Space) (bf frame : Bool) (off : Nat) : KeepsLane (storeTo f sp bf frame off) := by
  intro t
  simp [storeTo]

@[simp] theorem keepsLane_tms (f : Fields) (m : TmsMode) : KeepsLane (tms f m) := by
  intro t
  simp [tms]

@[simp] theorem keepsLane_tmxOp (f : Fields) : KeepsLane (tmxOp f) := by
  intro t
  simp [tmxOp]

@[simp] theorem keepsLane_edgeOp (f : Fields) : KeepsLane (edgeOp f) := by
  intro t
  simp [edgeOp]

theorem inPass_requestRoute (t : TCtx) (off r kind : Nat) (L : Lane) : Gives (InPass L) (requestRoute t off r kind L) := by
  simp [requestRoute, acceptReq]

@[simp] theorem keepsLane_rrqOp (f : Fields) : KeepsLane (rrqOp f) := by
  intro t
  unfold rrqOp
  dsimp only
  simp only [gives_bind]
  intro _ _ xs _
  split
  · exact (gives_bind _ _).2 nofun
  · exact (gives_bind _ _).2 fun M hM => (gives_pure _).2 (inPass_requestRoute _ _ _ _ _ M hM)

theorem inPass_presentAll (t : TCtx) (i : PresentIn) (off : Nat) (rs : List Nat) (L : Lane) :
    Gives (InPass L) (presentAll t i off rs L) := by
  induction rs generalizing off L with
  | nil => simp [presentAll]
  | cons r rest ih =>
    simp only [presentAll, gives_bind]
    exact fun M hM => (ih _ M).mono fun N hN => (inPass_requestRoute _ _ _ _ _ M hM).trans hN

@[simp] theorem keepsLane_presentRun : KeepsLane presentRun := by
  intro t
  unfold presentRun
  split
  · simp
  · dsimp only
    split
    · simp
    · simp only [gives_bind]
      intro i _ L1 hL1
      have h : InPass t.L L1 := (inPass_correctWords ..).trans (inPass_presentAll _ _ _ _ _ L1 hL1)
      split <;> exact (gives_pure _).2 h

@[simp] theorem keepsLane_arithV (f : Fields) (res : Int → Int → Int → Int → Int → Int → Int) : KeepsLane (arithV f res) := by
  intro t
  simp [arithV]

@[simp] theorem keepsLane_mulk (f : Fields) : KeepsLane (mulk f) := by
  intro t
  simp [mulk]

@[simp] theorem keepsLane_compare (f : Fields) (rel : Int → Int → Bool) : KeepsLane (Machine.compare f rel) := by
  intro t
  simp [Machine.compare]

@[simp] theorem keepsLane_boolTwo (f : Fields) (pick : Int → Int → Int) : KeepsLane (boolTwo f pick) := by
  intro t
  simp [boolTwo]

@[simp] theorem keepsLane_boolNot (f : Fields) : KeepsLane (boolNot f) := by
  intro t
  simp [boolNot]

@[simp] theorem keepsLane_boolSel (f : Fields) : KeepsLane (boolSel f) := by
  intro t
  simp [boolSel]

@[simp] theorem keepsLane_brfOp (f : Fields) : KeepsLane (brfOp f) := by
  intro t
  simp [brfOp]

@[simp] theorem keepsLane_loopInit (f : Fields) : KeepsLane (loopInit f) := by
  intro t
  simp [loopInit]

@[simp] theorem keepsLane_loopClose (f : Fields) : KeepsLane (loopClose f) := by
  intro t
  unfold loopClose
  simp only [gives_bind]
  intro _ _
  split <;> simp

@[simp] theorem keepsLane_ckptOp (f : Fields) : KeepsLane (ckptOp f) := by
  intro t
  unfold ckptOp
  dsimp only
  simp only [gives_bind]
  intro _ _
  split <;> simp

@[simp] theorem keepsLane_snapOp (f : Fields) : KeepsLane (snapOp f) := by
  intro t
  unfold snapOp
  simp only [gives_bind]
  intro _ _
  split <;> simp

@[simp] theorem keepsLane_endpOp (f : Fields) : KeepsLane (endpOp f) := by
  intro t
  unfold endpOp
  simp only [gives_bind]
  intro _ _ a ha
  have h := keepsLane_presentRun t a ha
  split <;> simp [h]

@[simp] theorem keepsLane_error (e : TFault) : KeepsLane (fun _ => .error e) := fun _ => gives_error e

@[simp] theorem keepsLane_opOf (w : U64) : KeepsLane (opOf w).2 := by
  unfold opOf
  dsimp only
  (repeat' split) <;> simp

/-! ### The route engine -/

theorem inPass_engWrite (p : Pass) (clk off key : Nat) (x : Int) (L : Lane) : Gives (InPass L) (engWrite p clk off key x L) := by
  unfold engWrite
  split
  · simp
  · simp only [gives_bind]
    exact fun M hM => (gives_pure _).2 (inPass_storeBy _ _ _ _ _ _ _ _ M hM)

theorem inPass_commitEntry (p : Pass) (s n : Nat) (ov : Overlay) (L : Lane) (e : Entry) :
    Gives (InPass L) (commitEntry p s n ov L e) := by
  refine gives_foldlM InPass InPass.refl InPass.trans _ (fun M l => ?_) _ _
  refine gives_foldlM InPass InPass.refl InPass.trans _ (fun N i => ?_) _ _
  split
  · exact inPass_engWrite _ _ _ _ _ N
  · simp

theorem inPass_commit (p : Pass) (s : Nat) (v : RouteView) (d : Decision) (L : Lane) :
    Gives (InPass L) (commit p s v d L) := by
  unfold commit
  simp only [gives_bind]
  intro L1 h1 L2 h2 L3 h3 L4 h4 L5 h5 L6 h6 L7 h7
  have hsweep := gives_foldlM InPass InPass.refl InPass.trans _ (inPass_commitEntry p s v.entries.length d.ov) _ _ L1 h1
  have hroute := ((inPass_engWrite _ _ _ _ _ _ L2 h2).trans (inPass_engWrite _ _ _ _ _ _ L3 h3)).trans
    ((inPass_engWrite _ _ _ _ _ _ L4 h4).trans (inPass_engWrite _ _ _ _ _ _ L5 h5))
  have hsignal := (inPass_engWrite _ _ _ _ _ _ L6 h6).trans (inPass_engWrite _ _ _ _ _ _ L7 h7)
  exact (hsweep.trans hroute).trans hsignal

theorem inPass_evaluate (p : Pass) (s : Nat) (q : RouteReq) (L : Lane) : Gives (InPass L) (evaluate p s q L) := by
  have hfeed : InPass L (feedRequest L q) := InPass.refl _
  unfold evaluate
  generalize feedRequest L q = F at hfeed ⊢
  simp only [gives_bind]
  intro v _
  have hread := hfeed.trans (inPass_correctWords F p v.keys)
  generalize F.correctWords p v.keys = G at hread ⊢
  split
  · simp only [gives_bind, gives_map]
    exact fun d _ M hM => hread.trans (inPass_commit _ _ _ _ G M hM)
  · simp only [gives_bind, gives_map]
    exact fun d _ M hM => hread.trans (inPass_commit _ _ _ _ G M hM)
  · simp only [gives_map]
    exact fun M hM => hread.trans (inPass_engWrite _ _ _ _ _ G M hM)
  · simp only [gives_bind]
    intro o _
    split
    · exact (gives_pure _).2 hread
    · simp only [gives_map]
      exact fun M hM => hread.trans (inPass_commit _ _ _ _ G M hM)

@[simp] theorem inPass_irelDone (p : Pass) (q : RouteReq) (before after : Lane) : InPass after (irelDone p q before after) := by
  unfold irelDone
  split <;> exact InPass.refl _

end Sys2Proof.PassFrame
end

section
/-! PROOF. The decision tables, the front of the queue, and the state right after reset. -/

namespace Sys2Proof.DecisionTables

open Sys2Proof Sys2Proof.Machine

/-- Settles O53: `step` is the case split on the queue. -/
theorem stepRunsFront : Obligations.StepRunsFront :=
  ⟨fun _ _ _ => rfl, fun _ => rfl⟩

/-! ## Table 7.5 -/

/-- Settles O9: each row of Table 7.5 is one branch of `decideInput`. -/
theorem inputDecisionTable : Obligations.InputDecisionTable := by
  intro a b c x y z v w r i
  refine ⟨?_, ?_, ?_, ?_, ?_, ?_, ?_, ?_, ?_⟩
  case refine_8 => simp [decideBits]
  case refine_9 => simp [decideBits]
  all_goals by_cases hxy : x = y <;> by_cases hxz : x = z <;> by_cases hyz : y = z <;>
    simp_all [decideInput, eq_comm]

/-! ## Tables 2.5 and 7.8 -/

section
variable (a b c : LaneId) (x y z : ConsRec)

theorem decideCons_three (hx : x.ovr = false) (hy : y.ovr = false) (hz : z.ovr = false) :
    decideCons [(a, x), (b, y), (c, z)] =
      consTable none [(a, x.sig, x.out), (b, y.sig, y.out), (c, z.sig, z.out)] := by
  simp [decideCons, hx, hy, hz]

theorem decideCons_one_overrun (hx : x.ovr = false) (hy : y.ovr = false) (hz : z.ovr = true) :
    decideCons [(a, x), (b, y), (c, z)] = consTable (some c) [(a, x.sig, x.out), (b, y.sig, y.out)] := by
  simp [decideCons, hx, hy, hz]

theorem decideCons_two (hx : x.ovr = false) (hy : y.ovr = false) :
    decideCons [(a, x), (b, y)] = consTable none [(a, x.sig, x.out), (b, y.sig, y.out)] := by
  simp [decideCons, hx, hy]

end

/-- Three records without an overrun: the rows of Table 7.8. -/
theorem consTable_three (a b c : LaneId) (x y z : U64 × U64) :
    consTable none [(a, x), (b, y), (c, z)] =
      if x = y then .commit (if z = x then none else some c)
      else if x = z then .commit (some b)
      else if y = z then .commit (some a)
      else .lost := rfl

/-- Settles O13: the overruns select the row of Table 2.5, and what is left is compared by Table 7.8. -/
theorem consensusTable : Obligations.ConsensusTable := by
  intro a b c x y z
  have pair : ∀ p q : ConsRec, (p.sig, p.out) = (q.sig, q.out) ↔ p.sig = q.sig ∧ p.out = q.out := by simp
  refine ⟨fun hx hy hz => ?_, fun hx hy hz => ?_, fun hx hy hz => ?_, fun hx hy hz => ?_, fun hx hy => ?_,
    fun hx hy => ?_, fun hx hy => ?_⟩
  · rw [decideCons_three a b c x y z hx hy hz, consTable_three]
    simp only [← pair]
    refine ⟨fun h1 h2 => ?_, fun h1 h2 => ?_, fun h1 h2 => ?_, fun h1 h2 => ?_, fun h1 h2 h3 => ?_⟩
    · rw [if_pos h1, if_pos h2.symm]
    · rw [if_pos h1, if_neg fun h => h2 h.symm]
    · rw [if_neg h2, if_pos h1]
    · rw [if_neg h2, if_neg fun h => h2 (h.trans h1.symm), if_pos h1]
    · rw [if_neg h1, if_neg h2, if_neg h3]
  · rw [decideCons_one_overrun a b c x y z hx hy hz]
    exact ⟨fun h => if_pos ((pair x y).2 h), fun h => if_neg fun e => h ((pair x y).1 e)⟩
  · simp [decideCons, hx, hy, hz]
  · simp [decideCons, hx, hy, hz]
  · rw [decideCons_two a b x y hx hy]
    exact ⟨fun h => if_pos ((pair x y).2 h), fun h => if_neg fun e => h ((pair x y).1 e)⟩
  · simp [decideCons, hx, hy]
  · simp [decideCons, hx, hy]

/-! ## Reset -/

theorem queueDepth64_pos (n : Nat) : 0 < queueDepth64 n := by
  have pos : ∀ (c : Prop) [Decidable c] (a b : Nat), 0 < a → 0 < b → 0 < if c then a else b :=
    fun c _ a b ha hb => by split <;> assumption
  unfold queueDepth64
  repeat refine pos _ _ _ (by decide) ?_
  decide

theorem queue_reset (n : Nat) : State.reset.queue n = queueReset n := rfl

theorem stat_queueReset (n : Nat) : (queueReset n).stat = 0x20000000 := by
  have h : 64 * queueDepth64 n ≠ 0 := Nat.mul_ne_zero (by decide) (queueDepth64_pos n).ne'
  simp [Queue.stat, queueReset, Queue.depth, h.symm]

theorem queueReset_holds (n : Nat) :
    (queueReset n).en = true ∧ (queueReset n).words = [] ∧ (queueReset n).high = (queueReset n).depth ∧
      2 * (queueReset n).low = (queueReset n).depth ∧ (queueReset n).stat = 0x20000000 :=
  ⟨rfl, rfl, rfl, by simp only [queueReset, Queue.depth]; omega, stat_queueReset n⟩

theorem switches_reset (ln : LaneId) : (State.reset.lane ln).switches = [] := by cases ln <;> rfl

theorem energised_reset (ch : Nat) : State.reset.energised ch = false := by
  simp [State.energised, State.fieldOn, State.reset]

/-- Settles O54: field by field, from the definition of `State.reset`. -/
theorem resetValues : Obligations.ResetValues := by
  have locks : ∀ b, (State.reset.lock b).word = 0 := by intro b; cases b <;> rfl
  exact ⟨rfl, rfl, rfl, switches_reset, energised_reset, locks,
    fun q _ _ => queue_reset q ▸ queueReset_holds q, by decide, rfl, by decide,
    fun _ => rfl, rfl, rfl, rfl, rfl, rfl, rfl, rfl, rfl, rfl, fun ln _ => switches_reset ln, rfl⟩

end Sys2Proof.DecisionTables
end

section
/-! ## Switches of a lane outside the vote (R210, R211) -/

namespace Sys2Proof.SwitchFrame

open Sys2Proof Sys2Proof.Machine Sys2Proof.Laws Sys2Proof.PassFrame

/-! ### Operations of a lane that leave its views and its switches alone -/

/-- Views and switches of `M` are those of `L`. Reducible, so that a simp lemma that states it rewrites both. -/
@[reducible, simp] def Still (L M : Lane) : Prop := M.views = L.views ∧ M.switches = L.switches

theorem Still.trans {L M N : Lane} (h : Still L M) (k : Still M N) : Still L N :=
  ⟨k.1.trans h.1, k.2.trans h.2⟩

@[simp] theorem still_foldl {α : Type} (f : Lane → α → Lane) (h : ∀ L a, Still L (f L a)) (xs : List α) (L : Lane) :
    Still L (xs.foldl f L) :=
  ⟨VoteFlag.foldl_preserves Lane.views f (fun L a => (h L a).1) xs L,
   VoteFlag.foldl_preserves Lane.switches f (fun L a => (h L a).2) xs L⟩

theorem still_foldl_fst {α β : Type} (f : Lane × β → α → Lane × β) (h : ∀ a x, Still a.1 (f a x).1) (xs : List α)
    (a : Lane × β) : Still a.1 (xs.foldl f a).1 :=
  ⟨VoteFlag.foldl_preserves (fun a => a.1.views) f (fun a x => (h a x).1) xs a,
   VoteFlag.foldl_preserves (fun a => a.1.switches) f (fun a x => (h a x).2) xs a⟩

@[simp] theorem still_put (L : Lane) (key : Nat) (x : Int) : Still L (L.put key x) := by
  unfold Lane.put
  split <;> simp

@[simp] theorem still_putAll (L : Lane) (ws : List (Nat × Int)) : Still L (L.putAll ws) := by
  unfold Lane.putAll
  refine still_foldl _ (fun M e => ?_) _ _
  simp

@[simp] theorem still_putE (L : Lane) (key : Nat) (x : Int) : Still L (L.putE key x) := by
  unfold Lane.putE
  split <;> simp

@[simp] theorem still_restore (L : Lane) : Still L (L.restore) := by
  simp [Lane.restore]

@[simp] theorem still_codeFrames (L : Lane) : Still L (L.codeFrames) := by
  unfold Lane.codeFrames
  refine still_foldl _ (fun M e => ?_) _ _
  (repeat' split) <;> simp

@[simp] theorem still_hold (L : Lane) (e : Event) : Still L (L.hold e) := by
  unfold Lane.hold
  split <;> simp

@[simp] theorem still_noteChange (L : Lane) (e : Event) : Still L (L.noteChange e) := ⟨rfl, rfl⟩

@[simp] theorem still_gate (L : Lane) : Still L (L.gate) := ⟨rfl, rfl⟩

@[simp] theorem still_latchX (L : Lane) : Still L (L.latchX) := by
  unfold Lane.latchX
  split <;> simp

@[simp] theorem still_latchNet (qs : Tbl Queue) (L : Lane) : Still L (Lane.latchNet qs L) := by
  unfold Lane.latchNet
  split <;> simp

@[simp] theorem still_toCommitted (L : Lane) : Still L (L.toCommitted) := by
  simp [Lane.toCommitted]

@[simp] theorem still_retain (L : Lane) : Still L (L.retain) := by
  unfold Lane.retain
  dsimp only
  split <;> simp

@[simp] theorem still_countUp (L : Lane) (ctrl : Nat) (pl : PlaneId) (cause : Nat) : Still L (L.countUp ctrl pl cause) := ⟨rfl, rfl⟩

@[simp] theorem still_takeUp (ln : LaneId) (L : Lane) (m : Manifest) (pl : PlaneId) (r : UpRec) :
    Still L (Lane.takeUp ln L m pl r).1 := by
  unfold Lane.takeUp
  (repeat' split) <;> simp

@[simp] theorem still_countSl (L : Lane) (conn cause : Nat) : Still L (L.countSl conn cause) := ⟨rfl, rfl⟩

@[simp] theorem still_clearCycle (L : Lane) : Still L (L.clearCycle) := ⟨rfl, rfl⟩

@[simp] theorem still_latchInputs (L : Lane) (dead : Nat → Bool) (pf : Bool × Bool) : Still L (L.latchInputs dead pf) := ⟨rfl, rfl⟩

@[simp] theorem still_startPass (L : Lane) (p : Pass) : Still L (L.startPass p) := ⟨rfl, rfl⟩

@[simp] theorem still_closePass (L : Lane) : Still L (L.closePass) := by
  unfold Lane.closePass
  split <;> simp

@[simp] theorem still_runImage (L : Lane) (m : Manifest) (ws : Tbl WordCfg) : Still L (L.runImage m ws) := ⟨rfl, rfl⟩

@[simp] theorem still_switchTo (L : Lane) (new : Manifest) : Still L (L.switchTo new) := by
  unfold Lane.switchTo
  split <;> simp

@[simp] theorem still_activateTarget (L : Lane) : Still L (L.activateTarget) := ⟨rfl, rfl⟩

@[simp] theorem still_compareCounts (L : Lane) : Still L (L.compareCounts).1 := by
  have up : ∀ (m : Manifest), Still L ((m.body.ctrls.foldl (fun (a : Lane × Evs) e =>
      match (planeCompare (Tbl.get [] L.upA e.1) (Tbl.get [] L.upB e.1)).2 with
      | some 9 => ((a.1.countUp e.1 .a 9).countUp e.1 .b 9, a.2 ++ [upEvent e.1 .a 9, upEvent e.1 .b 9])
      | some k =>
        let pl : PlaneId := if Tbl.get [] L.upA e.1 = [] then .a else .b
        (a.1.countUp e.1 pl k, a.2 ++ [upEvent e.1 pl k])
      | none => a) (L, [])).1) := fun m => by
    refine still_foldl_fst _ (fun a e => ?_) _ (L, [])
    split <;> simp
  unfold Lane.compareCounts
  split
  · simp
  · dsimp only
    split
    · exact up _
    · refine Still.trans (up _) (still_foldl_fst _ (fun a e => ?_) _ _)
      split <;> split <;> simp

@[simp] theorem still_openAgreement (me : LaneId) (L : Lane) : Still L (Lane.openAgreement me L) := ⟨rfl, rfl⟩

@[simp] theorem still_decideAll (me : LaneId) (L : Lane) : Still L (Lane.decideAll me L) := ⟨rfl, rfl⟩

@[simp] theorem still_twoStep (c : SentCmd) (L : Lane) (act : Lane → Lane × Evs) (h : ∀ M, Still M (act M).1) :
    Still L (twoStep c L act).1 := by
  unfold twoStep
  dsimp only
  (repeat' split) <;> simp [h]

@[simp] theorem still_forceValueOp (m : ModState) (c : SentCmd) (t : ForceTarget) (v : Int) (L : Lane) :
    Still L (forceValueOp m c t v L).1 := by
  unfold forceValueOp
  (repeat' split) <;> simp

@[simp] theorem still_unforceOp (m : ModState) (c : SentCmd) (t : ForceTarget) (L : Lane) :
    Still L (unforceOp m c t L).1 := by
  unfold unforceOp
  split <;> simp

@[simp] theorem still_cmdApply (m : ModState) (a : Lane × Evs) (c : SentCmd) : Still a.1 (cmdApply m a c).1 := by
  unfold cmdApply
  dsimp only
  (repeat' split) <;> simp [apply_ite Prod.fst, apply_ite Lane.views, apply_ite Lane.switches]

@[simp] theorem still_dropIrels (L : Lane) : Still L (L.dropIrels).1 := ⟨rfl, rfl⟩

@[simp] theorem still_clearForces (m : ModState) (was : Bool) (L : Lane) : Still L (Lane.clearForces m was L).1 := by
  unfold Lane.clearForces
  split <;> simp

@[simp] theorem still_elemUpdate (m : ModState) (v : BitVec 128) (L : Lane) (id : Nat) (e : ElemCfg) :
    Still L (elemUpdate m v L id e) := by
  unfold elemUpdate
  split <;> simp

@[simp] theorem still_elemUpdates (m : ModState) (v : BitVec 128) (L : Lane) : Still L (Lane.elemUpdates m v L) := by
  unfold Lane.elemUpdates
  split <;> simp

@[simp] theorem still_firstNew (at_ : Option U32) (L : Lane) : Still L (Lane.firstNew at_ L) := by
  unfold Lane.firstNew
  split <;> simp

@[simp] theorem still_writeAgreed (s : State) (ln : LaneId) (L : Lane) : Still L (State.writeAgreed s ln L) := by
  have cmds : ∀ M : Lane, Still M (L.agreedCmds.foldl (cmdApply s.module) M.dropIrels).1 := fun M =>
    Still.trans (still_dropIrels M) (still_foldl_fst _ (still_cmdApply s.module) _ _)
  unfold State.writeAgreed
  dsimp only
  split <;> simp [cmds]

@[simp] theorem still_holdRec (src : LaneId) (r : ConsRec) (L : Lane) : Still L (Lane.holdRec src r L) := ⟨rfl, rfl⟩

@[simp] theorem still_calibrated (me : LaneId) (trips : Trips) (L : Lane) : Still L (Lane.calibrated me trips L) := ⟨rfl, rfl⟩

@[simp] theorem still_commitCycle (L : Lane) : Still L (L.commitCycle) := ⟨rfl, rfl⟩

@[simp] theorem still_shadowCycle (me : LaneId) (donor : Option ConsRec) (L : Lane) :
    Still L (Lane.shadowCycle me donor L) := ⟨rfl, rfl⟩

@[simp] theorem still_skipCycle (L : Lane) : Still L (L.skipCycle) := by
  simp [Lane.skipCycle]

@[simp] theorem still_scrub (L : Lane) : Still L (L.scrub) := ⟨rfl, rfl⟩

@[simp] theorem still_takeCopy (me : LaneId) (cn : U32) (c : SlCopy) (L : Lane) : Still L (Lane.takeCopy me cn c L) := by
  unfold Lane.takeCopy
  split <;> simp

@[simp] theorem still_takeBatch (me : LaneId) (cn : U32) (cmds : List SentCmd) (L : Lane) :
    Still L (Lane.takeBatch me cn cmds L) := by
  unfold Lane.takeBatch
  (repeat' split) <;> simp

@[simp] theorem still_setSup (L : Lane) (f : Sup → Sup) : Still L (L.setSup f) := ⟨rfl, rfl⟩

@[simp] theorem still_applyRec (n : Nat) (L : Lane) (r : CopyRec) : Still L (Lane.applyRec n L r) := by
  unfold Lane.applyRec
  (repeat' split) <;> simp

@[simp] theorem still_rollback (L : Lane) : Still L (L.rollback) := by
  unfold Lane.rollback
  split
  · simp
  · refine still_foldl _ (fun M r => ?_) _ _
    split <;> simp

@[simp] theorem still_badTarget (L : Lane) : Still L (L.badTarget) := ⟨rfl, rfl⟩

@[simp] theorem still_takeBody (man : Manifest) (good : Bool) (L : Lane) : Still L (Lane.takeBody man good L) := by
  unfold Lane.takeBody
  split <;> simp

@[simp] theorem still_verifySlot (slot : Nat) (gcmOk : Bool) (L : Lane) : Still L (Lane.verifySlot slot gcmOk L) := by
  unfold Lane.verifySlot
  (repeat' split) <;> simp

@[simp] theorem still_rewind (p : Pilot) (L : Lane) : Still L (Lane.rewind p L) := by
  unfold Lane.rewind
  refine still_foldl _ (fun M e => ?_) _ _
  simp

@[simp] theorem still_clearEs (L : Lane) (stage : Tbl Nat) : Still L (L.clearEs stage) := ⟨rfl, rfl⟩

@[simp] theorem still_startFactory (L : Lane) : Still L (L.startFactory) := ⟨rfl, rfl⟩

@[simp] theorem still_startCold (L : Lane) (m : Manifest) : Still L (L.startCold' m) := by
  unfold Lane.startCold'
  refine still_foldl _ (fun M e => ?_) _ _
  (repeat' split) <;> simp

@[simp] theorem still_startWarm (L : Lane) (m : Manifest) (w : Retention × Manifest) : Still L (L.startWarm' m w) := by
  simp [Lane.startWarm']

@[simp] theorem still_startOn (L : Lane) (img : Option Manifest) (w : Option (Retention × Manifest)) :
    Still L (L.startOn img w) := by
  unfold Lane.startOn
  split <;> simp

@[simp] theorem still_takePending (L : Lane) : Still L (L.takePending) := by
  unfold Lane.takePending
  (repeat' split) <;> simp

@[simp] theorem still_reload (cn : U32) (L : Lane) : Still L (Lane.reload cn L) := by
  unfold Lane.reload
  split <;> simp

@[simp] theorem still_keepHidden (L : Lane) (p : Pass) (id : Nat) (o : GenOut) : Still L (L.keepHidden p id o) := by
  unfold Lane.keepHidden
  split <;> simp

@[simp] theorem still_feedRequest (L : Lane) (q : RouteReq) : Still L (feedRequest L q) := ⟨rfl, rfl⟩

@[simp] theorem still_irelDone (p : Pass) (q : RouteReq) (before after : Lane) :
    Still after (irelDone p q before after) := by
  unfold irelDone
  split <;> simp

@[simp] theorem still_takeFrom (donor L : Lane) (frames : List (Nat × Int)) : Still L (Lane.takeFrom donor L frames) := by
  unfold Lane.takeFrom
  refine still_foldl _ (fun M e => ?_) _ _
  (repeat' split) <;> simp

@[simp] theorem still_takeover (j : U32) (epoch : U32) (roll : Bool) (me : LaneId) (L : Lane) :
    Still L (Lane.takeover j epoch roll me L) := by
  unfold Lane.takeover
  split <;> simp

@[simp] theorem still_correct (L : Lane) (places : List Nat) : Still L (L.correct places) := ⟨rfl, rfl⟩

@[simp] theorem still_correctWords (L : Lane) (p : Pass) (keys : List Nat) : Still L (L.correctWords p keys) := ⟨rfl, rfl⟩

/-! ### Switches of a lane outside the vote -/

/-- With views `V` and switches `S`, a lane that does not see itself IN-VOTE holds every switch open (R211). -/
def HeldOpen (me : LaneId) (V : Tri LaneState) (S : Tbl (BitVec 3)) : Prop := V.get me ≠ .inVote → S = []

/-- Every lane outside the vote holds its switches open. -/
def LanesSafe (T : Tri Lane) : Prop := ∀ ln, HeldOpen ln (T.get ln).views (T.get ln).switches

theorem switchesSafe_iff (s : State) : s.switchesSafe ↔ LanesSafe s.lanes := Iff.rfl

@[simp] theorem heldOpen_nil (me : LaneId) (V : Tri LaneState) : HeldOpen me V [] := fun _ => rfl

@[simp] theorem heldOpen_set_inVote (me : LaneId) (V : Tri LaneState) (S : Tbl (BitVec 3)) :
    HeldOpen me (V.set me .inVote) S :=
  fun h => absurd (Tri_get_set_self V me .inVote) h

theorem heldOpen_set_ne {me ln : LaneId} {V : Tri LaneState} {S : Tbl (BitVec 3)} (hn : me ≠ ln) (v : LaneState)
    (h : HeldOpen me V S) : HeldOpen me (V.set ln v) S :=
  fun k => h (Tri_get_set_ne V v hn ▸ k)

@[simp] theorem heldOpen_openPair {me : LaneId} {V : Tri LaneState} (a b : LaneId) {L : Lane}
    (h : HeldOpen me V L.switches) : HeldOpen me V (L.openPair a b).switches :=
  fun k => by simp [Lane.openPair, h k]

@[simp] theorem views_openPair (a b : LaneId) (L : Lane) : (L.openPair a b).views = L.views := rfl

@[simp] theorem heldOpen_drive (me : LaneId) (L : Lane) : HeldOpen me L.views (L.drive me).switches :=
  fun k => by simp [Lane.drive, driveTable, k]

@[simp] theorem views_drive (me : LaneId) (L : Lane) : (L.drive me).views = L.views := rfl

@[simp] theorem heldOpen_esHold {me : LaneId} {V : Tri LaneState} {L : Lane} (h : HeldOpen me V L.switches) :
    HeldOpen me V L.esHold.switches :=
  fun k => by simp [Lane.esHold, h k]

@[simp] theorem views_esHold (L : Lane) : L.esHold.views = L.views := rfl

@[simp] theorem heldOpen_driveHeld (me : LaneId) (L : Lane) : HeldOpen me L.views (L.driveHeld me).switches :=
  heldOpen_esHold (heldOpen_drive me L)

@[simp] theorem views_driveHeld (me : LaneId) (L : Lane) : (L.driveHeld me).views = L.views := rfl

@[simp] theorem switches_openAll (L : Lane) : L.openAll.switches = [] := rfl

@[simp] theorem views_openAll (L : Lane) : L.openAll.views = L.views := rfl

@[simp] theorem switches_leave (me : LaneId) (c : Cause) (now : Nat) (L : Lane) : (L.leave me c now).switches = [] := by
  simp [Lane.leave]

@[simp] theorem heldOpen_see {me src : LaneId} (hn : me ≠ src) {L : Lane} (h : HeldOpen me L.views L.switches) :
    HeldOpen me (Lane.see me src L).views (Lane.see me src L).switches := by
  unfold Lane.see
  split
  · exact h
  · simpa using heldOpen_set_ne hn _ (heldOpen_openPair me src h)

@[simp] theorem switches_halted (me : LaneId) (now : Nat) (L : Lane) : (Lane.halted me now L).switches = [] := by
  unfold Lane.halted
  split <;> simp

@[simp] theorem heldOpen_stopForTest {me : LaneId} {L : Lane} (h : HeldOpen me L.views L.switches) :
    HeldOpen me (L.stopForTest me).views (L.stopForTest me).switches := by
  unfold Lane.stopForTest
  split <;> simp [h]

@[simp] theorem heldOpen_issueVector {me : LaneId} {L : Lane} (m : ModState) (h : HeldOpen me L.views L.switches) :
    HeldOpen me (L.issueVector me m).views (L.issueVector me m).switches := by
  unfold Lane.issueVector
  dsimp only
  split
  · simp
  · split
    · exact heldOpen_driveHeld me _
    · exact h

@[simp] theorem switches_powerFail (me : LaneId) (L : Lane) : (L.powerFail me).switches = [] := by
  unfold Lane.powerFail
  split <;> rfl

@[simp] theorem switches_unpowered (L : Lane) : L.unpowered.switches = [] := rfl

@[simp] theorem switches_booting (L : Lane) : L.booting.switches = [] := rfl

@[simp] theorem switches_started (L : Lane) (cn epoch : U32) (views : Tri LaneState) :
    (L.started cn epoch views).switches = L.switches := rfl

@[simp] theorem heldOpen_inPass {me : LaneId} {L M : Lane} (k : InPass L M)
    (h : HeldOpen me L.views L.switches) : HeldOpen me M.views M.switches := by
  obtain ⟨hv, hs, -⟩ := k
  rwa [hv, hs]

/-! ### Operations of the state -/

@[simp] theorem heldOpen_lane {s : State} (h : LanesSafe s.lanes) (ln : LaneId) :
    HeldOpen ln (s.lane ln).views (s.lane ln).switches := h ln

@[simp] theorem safe_putLane {s : State} (h : LanesSafe s.lanes) {ln : LaneId} {L : Lane}
    (k : HeldOpen ln L.views L.switches) : LanesSafe (s.putLane ln L).lanes := by
  intro m
  change HeldOpen m ((s.putLane ln L).lane m).views ((s.putLane ln L).lane m).switches
  by_cases hm : m = ln
  · rwa [hm, lane_putLane_self]
  · rw [lane_putLane_ne s L hm]
    exact h m

@[simp] theorem safe_updLane {s : State} (h : LanesSafe s.lanes) {ln : LaneId} {f : Lane → Lane}
    (k : HeldOpen ln (f (s.lane ln)).views (f (s.lane ln)).switches) : LanesSafe (s.updLane ln f).lanes :=
  safe_putLane h k

@[simp] theorem safe_mapLanes {s : State} {f : LaneId → Lane → Lane}
    (k : ∀ ln, HeldOpen ln (f ln (s.lane ln)).views (f ln (s.lane ln)).switches) : LanesSafe (s.mapLanes f).lanes := by
  intro ln
  change HeldOpen ln ((s.mapLanes f).lane ln).views ((s.mapLanes f).lane ln).switches
  rw [lane_mapLanes]
  exact k ln

theorem safe_foldl {α : Type} (f : State → α → State) (hf : ∀ u a, LanesSafe u.lanes → LanesSafe (f u a).lanes)
    (xs : List α) (s : State) (h : LanesSafe s.lanes) : LanesSafe (xs.foldl f s).lanes := by
  induction xs generalizing s with
  | nil => exact h
  | cons x xs ih => exact ih _ (hf s x h)

theorem heldOpen_ite {me : LaneId} {c : Prop} [Decidable c] {A B : Lane} (hA : c → HeldOpen me A.views A.switches)
    (hB : ¬ c → HeldOpen me B.views B.switches) :
    HeldOpen me (if c then A else B).views (if c then A else B).switches := by
  by_cases h : c
  · rw [if_pos h]
    exact hA h
  · rw [if_neg h]
    exact hB h

theorem safe_ite {c : Prop} [Decidable c] {s t : State} (hs : c → LanesSafe s.lanes) (ht : ¬ c → LanesSafe t.lanes) :
    LanesSafe (if c then s else t).lanes := by
  by_cases h : c
  · rw [if_pos h]
    exact hs h
  · rw [if_neg h]
    exact ht h

/-- Operations that leave every lane's views and switches alone keep and reflect `LanesSafe`. -/
theorem safe_congr {s t : State} (h : ∀ ln, Still (s.lane ln) (t.lane ln)) : LanesSafe t.lanes ↔ LanesSafe s.lanes := by
  have key : ∀ ln, HeldOpen ln (t.lane ln).views (t.lane ln).switches ↔
      HeldOpen ln (s.lane ln).views (s.lane ln).switches := fun ln => by rw [(h ln).1, (h ln).2]
  exact ⟨fun k ln => (key ln).1 (k ln), fun k ln => (key ln).2 (k ln)⟩

theorem still_lane_updLane {s : State} {ln : LaneId} {f : Lane → Lane} (h : ∀ L, Still L (f L)) (m : LaneId) :
    Still (s.lane m) ((s.updLane ln f).lane m) := by
  by_cases hm : m = ln
  · rw [hm, lane_updLane_self]
    exact h _
  · rw [lane_updLane_ne s f hm]
    exact ⟨rfl, rfl⟩

theorem safe_mapLanes_iff {s : State} {f : LaneId → Lane → Lane} (h : ∀ ln L, Still L (f ln L)) :
    LanesSafe (s.mapLanes f).lanes ↔ LanesSafe s.lanes :=
  safe_congr fun ln => by
    rw [lane_mapLanes]
    exact h ln _

theorem safe_foldr {α : Type} (f : α → State → State) (hf : ∀ u a, LanesSafe u.lanes → LanesSafe (f a u).lanes)
    (xs : List α) (s : State) (h : LanesSafe s.lanes) : LanesSafe (xs.foldr f s).lanes := by
  rw [← List.foldl_reverse]
  exact safe_foldl _ hf _ s h

theorem safe_foldl_iff {α : Type} (f : State → α → State) (hf : ∀ u a, LanesSafe (f u a).lanes ↔ LanesSafe u.lanes)
    (xs : List α) (s : State) : LanesSafe (xs.foldl f s).lanes ↔ LanesSafe s.lanes := by
  induction xs generalizing s with
  | nil => exact Iff.rfl
  | cons x xs ih => exact (ih _).trans (hf s x)

@[simp] theorem safe_raiseLane (s : State) (ln : LaneId) (c : LogClass) (n : EventName) (x : List Int) :
    LanesSafe (s.raiseLane ln c n x).lanes ↔ LanesSafe s.lanes := by
  unfold State.raiseLane
  split
  · simp
  · exact safe_congr (still_lane_updLane fun L => still_hold L _)

@[simp] theorem safe_raiseModule (s : State) (c : LogClass) (n : EventName) (x : List Int) :
    LanesSafe (s.raiseModule c n x).lanes ↔ LanesSafe s.lanes := by
  unfold State.raiseModule
  split
  · simp
  · exact safe_congr (still_lane_updLane fun L => still_hold L _)

@[simp] theorem safe_putQueue (s : State) (n : Nat) (q : Queue) :
    LanesSafe (s.putQueue n q).lanes ↔ LanesSafe s.lanes := Iff.rfl

@[simp] theorem safe_raiseChange (s : State) (d : Die) (n : EventName) (data : List Int) :
    LanesSafe (s.raiseChange d n data).lanes ↔ LanesSafe s.lanes := by
  unfold State.raiseChange
  split
  · simp
  · exact safe_congr fun ln => by
      rw [lane_mapLanes]
      split <;> simp

@[simp] theorem safe_raiseCommitted (s : State) (ln : LaneId) (es : List (LogClass × EventName × List Int)) :
    LanesSafe (s.raiseCommitted ln es).lanes ↔ LanesSafe s.lanes := by
  refine safe_foldl_iff _ (fun u e => ?_) _ _
  split <;> simp

@[simp] theorem safe_raiseLaneAll (s : State) (ln : LaneId) (es : List (LogClass × EventName × List Int)) :
    LanesSafe (s.raiseLaneAll ln es).lanes ↔ LanesSafe s.lanes := by
  exact safe_foldl_iff _ (fun u e => safe_raiseLane u ln _ _ _) _ _

@[simp] theorem safe_settle (s : State) : LanesSafe s.settle.lanes ↔ LanesSafe s.lanes := by
  unfold State.settle
  dsimp only
  split <;> simp

@[simp] theorem safe_setModule (s : State) (m : ModState) : LanesSafe (s.setModule m).lanes ↔ LanesSafe s.lanes := by
  unfold State.setModule
  split <;> simp

@[simp] theorem safe_endTest (s : State) (ln : LaneId) : LanesSafe (s.endTest ln).lanes ↔ LanesSafe s.lanes := by
  unfold State.endTest
  split <;> simp

@[simp] theorem safe_exclude (s : State) (ln : LaneId) (c : Cause) (h : LanesSafe s.lanes) :
    LanesSafe (s.exclude ln c).lanes := by
  unfold State.exclude
  (repeat' split) <;> simp [h]

@[simp] theorem safe_seenByVoters (s : State) (src : LaneId) (h : LanesSafe s.lanes) :
    LanesSafe (s.seenByVoters src).lanes := by
  refine safe_foldl _ (fun u ln k => ?_) _ _ h
  split
  · exact k
  · exact safe_updLane k (heldOpen_see ‹_› (k ln))

@[simp] theorem safe_excludeAgreed (s : State) (ln : LaneId) (c : Cause) (h : LanesSafe s.lanes) :
    LanesSafe (s.excludeAgreed ln c).lanes := by
  simp [State.excludeAgreed, h]

@[simp] theorem safe_shareViews (s : State) (h : LanesSafe s.lanes) : LanesSafe s.shareViews.lanes := by
  refine safe_mapLanes fun ln k => h ln fun hv => k ?_
  rw [Tri_get_ofFn]
  exact hv

@[simp] theorem safe_dropTest (s : State) : LanesSafe s.dropTest.lanes ↔ LanesSafe s.lanes := by
  unfold State.dropTest
  split <;> simp

@[simp] theorem safe_dropPilot (s : State) (h : LanesSafe s.lanes) : LanesSafe s.dropPilot.lanes := by
  unfold State.dropPilot
  split <;> simp [h]

@[simp] theorem safe_enterHalt (s : State) : LanesSafe s.enterHalt.lanes := by
  simp [State.enterHalt]

@[simp] theorem safe_loseVote (s : State) (h : LanesSafe s.lanes) : LanesSafe s.loseVote.lanes := by
  unfold State.loseVote
  split <;> simp [h]

@[simp] theorem safe_checkVote (s : State) (h : LanesSafe s.lanes) : LanesSafe s.checkVote.lanes := by
  unfold State.checkVote
  split <;> simp [h]

@[simp] theorem safe_startRejoin (s : State) (ln : LaneId) (h : LanesSafe s.lanes) :
    LanesSafe (s.startRejoin ln).lanes := by
  unfold State.startRejoin
  extract_lets donor s1 s2 s3
  have h1 : LanesSafe s1.lanes := by
    refine safe_mapLanes fun m => ?_
    split
    · simp
    · exact heldOpen_set_ne ‹_› _ (h m)
  have h3 : LanesSafe s3.lanes := (safe_raiseLane s1 ln _ _ _).2 h1
  split
  · exact h3
  · exact safe_excludeAgreed s3 ln _ h3

@[simp] theorem safe_laneOff (s : State) (ln : LaneId) (h : LanesSafe s.lanes) : LanesSafe (s.laneOff ln).lanes := by
  refine (safe_endTest _ ln).2 (safe_mapLanes fun m => ?_)
  split
  · simp
  · exact heldOpen_set_ne ‹_› _ (heldOpen_openPair m ln (h m))

@[simp] theorem safe_logChange (s : State) (n : Nat) (e : EventName) (vals : List Int) :
    LanesSafe (s.logChange n e vals).lanes ↔ LanesSafe s.lanes := by
  simp [State.logChange]

@[simp] theorem safe_keepAlive (s : State) (n : Nat) : LanesSafe (s.keepAlive n).lanes ↔ LanesSafe s.lanes := by
  unfold State.keepAlive
  split <;> simp

@[simp] theorem safe_putLock (s : State) (b : Blk) (k : Lock) : LanesSafe (s.putLock b k).lanes ↔ LanesSafe s.lanes := Iff.rfl

@[simp] theorem safe_wrote (s : State) (b : Blk) : LanesSafe (s.wrote b).lanes ↔ LanesSafe s.lanes := Iff.rfl

@[simp] theorem safe_lockedWrite (s : State) (b : Blk) (off : Nat) :
    LanesSafe (s.lockedWrite b off).lanes ↔ LanesSafe s.lanes := by
  simp [State.lockedWrite]

@[simp] theorem safe_queWrote (s : State) (q : Nat) : LanesSafe (s.queWrote q).lanes ↔ LanesSafe s.lanes := by
  unfold State.queWrote
  split <;> simp

@[simp] theorem safe_setWm (s : State) (q : Nat) (v : U32) : LanesSafe (s.setWm q v).lanes ↔ LanesSafe s.lanes := by
  unfold State.setWm
  dsimp only
  split <;> simp

@[simp] theorem safe_setDepth (s : State) (q : Nat) (v : U32) : LanesSafe (s.setDepth q v).lanes ↔ LanesSafe s.lanes := by
  unfold State.setDepth
  dsimp only
  split <;> simp

@[simp] theorem safe_putChk (s : State) (n : Nat) (e : CheckEngine) :
    LanesSafe (s.putChk n e).lanes ↔ LanesSafe s.lanes := Iff.rfl

@[simp] theorem safe_writeRecord (s : State) (e : Event) : LanesSafe (s.writeRecord e).lanes ↔ LanesSafe s.lanes := by
  unfold State.writeRecord
  dsimp only
  (repeat' split) <;> simp

@[simp] theorem safe_latchLane (s : State) (ln : LaneId) (h : LanesSafe s.lanes) : LanesSafe (s.latchLane ln).lanes := by
  unfold State.latchLane
  split <;> simp [h]

@[simp] theorem safe_latchAll (s : State) (h : LanesSafe s.lanes) : LanesSafe s.latchAll.lanes := by
  refine safe_foldl _ (fun u e k => ?_) _ _ h
  simp [k]

@[simp] theorem safe_stage (s : State) (f : BbFrame) : LanesSafe (s.stage f).lanes ↔ LanesSafe s.lanes := Iff.rfl

@[simp] theorem safe_snapTake (s : State) (x : SnapSource) (regReason : Nat) (h : LanesSafe s.lanes) :
    LanesSafe (s.snapTake x regReason).lanes := by
  have acked : ∀ ln, LanesSafe (s.updLane ln (fun L => { L with snapUnacked := false })).lanes :=
    fun ln => safe_updLane h (h ln)
  unfold State.snapTake
  dsimp only
  (repeat' split) <;> simp [acked, h]

@[simp] theorem safe_stageDeferred (s : State) : LanesSafe s.stageDeferred.lanes ↔ LanesSafe s.lanes := by
  unfold State.stageDeferred
  split <;> simp

@[simp] theorem safe_release (s : State) (v : U32) (h : LanesSafe s.lanes) : LanesSafe (s.release v).lanes := by
  simp [State.release, h]

@[simp] theorem safe_checkCopy (s : State) (ln : LaneId) (m : Manifest) (batchCn : U32) (c : SlCopy)
    (h : LanesSafe s.lanes) : LanesSafe (s.checkCopy ln m batchCn c).lanes := by
  unfold State.checkCopy
  dsimp only
  (repeat' split) <;> simp [h]

@[simp] theorem safe_codedFault (s : State) (ln : LaneId) (unit : Nat) (p : Pass) (idx clk : Nat) (e : TFault)
    (h : LanesSafe s.lanes) : LanesSafe (s.codedFault ln unit p idx clk e).lanes := by
  unfold State.codedFault
  split
  · simp [h]
  · exact safe_exclude _ _ _ (by simp [h])

@[simp] theorem safe_tickLane (s : State) (ln : LaneId) (mids : List (Nat × Nat × Nat)) (h : LanesSafe s.lanes) :
    LanesSafe (s.tickLane ln mids).lanes := by
  unfold State.tickLane
  extract_lets L dist shift cs trim votes stuck base L1 s1
  have h1 : LanesSafe s1.lanes := (safe_raiseLaneAll _ ln _).2 (safe_putLane h (by simp [L1, base, L, h]))
  exact safe_ite (fun _ => safe_exclude s1 ln _ h1) fun _ => safe_ite (fun _ => safe_loseVote s1 h1) fun _ => h1

@[simp] theorem safe_capture (s : State) (h : LanesSafe s.lanes) : LanesSafe s.capture.lanes := by
  refine safe_mapLanes fun m => ?_
  split
  · simp
  · exact heldOpen_set_ne ‹_› _ (heldOpen_openPair m .l1 (h m))

@[simp] theorem safe_beginBist (s : State) (h : LanesSafe s.lanes) : LanesSafe s.beginBist.lanes := by
  refine safe_shareViews _ (safe_mapLanes fun ln => heldOpen_stopForTest ?_)
  exact heldOpen_lane ((safe_dropTest s).2 h) ln

@[simp] theorem safe_shutdownGoesOn (s : State) (h : LanesSafe s.lanes) : LanesSafe s.shutdownGoesOn.lanes := by
  unfold State.shutdownGoesOn
  split <;> simp [h]

@[simp] theorem safe_noteCons (s : State) : LanesSafe s.noteCons.lanes ↔ LanesSafe s.lanes := Iff.rfl

@[simp] theorem safe_setClaim (s : State) (clm : U32) : LanesSafe (s.setClaim clm).lanes ↔ LanesSafe s.lanes := by
  refine safe_mapLanes_iff fun ln L => ?_
  split <;> simp

@[simp] theorem safe_endPilot (s : State) (h : LanesSafe s.lanes) : LanesSafe s.endPilot.lanes := by
  unfold State.endPilot
  dsimp only
  split <;> simp [h]

@[simp] theorem safe_checkPilot (s : State) (h : LanesSafe s.lanes) : LanesSafe s.checkPilot.lanes := by
  unfold State.checkPilot
  split <;> simp [h]

@[simp] theorem safe_enterStandby (s : State) (clm : U32) (c : CopyState) (h : LanesSafe s.lanes) :
    LanesSafe (s.enterStandby clm c).lanes := by
  exact safe_shutdownGoesOn _ (safe_checkPilot _ (by simp [h]))

@[simp] theorem safe_loseClaim (s : State) (other : U32) (h : LanesSafe s.lanes) :
    LanesSafe (s.loseClaim other).lanes := by
  unfold State.loseClaim
  split <;> simp [h]

@[simp] theorem safe_closeModule (s : State) (h : LanesSafe s.lanes) : LanesSafe s.closeModule.lanes := by
  simp [State.closeModule, h]

@[simp] theorem safe_closePair (s : State) (e : EventName) (h : LanesSafe s.lanes) : LanesSafe (s.closePair e).lanes := by
  simp [State.closePair, h]

@[simp] theorem safe_leaveOut (s : State) (src : LaneId) (h : LanesSafe s.lanes) : LanesSafe (s.leaveOut src).lanes := by
  simp [State.leaveOut, h]

@[simp] theorem safe_damaged (s : State) (a b : LaneId) (h : LanesSafe s.lanes) : LanesSafe (s.damaged a b).lanes := by
  unfold State.damaged
  dsimp only
  (repeat' split) <;> simp [h]

@[simp] theorem safe_finishAgreement (s : State) (ln : LaneId) (h : LanesSafe s.lanes) :
    LanesSafe (s.finishAgreement ln).lanes := by
  have written : ∀ cmds, LanesSafe (s.putLane ln (s.writeAgreed ln { s.lane ln with agreedCmds := cmds })).lanes :=
    fun cmds => safe_putLane h (by simp [h])
  unfold State.finishAgreement
  dsimp only
  (repeat' split) <;> simp [written, h]

@[simp] theorem safe_sendCopy (s : State) (ln : LaneId) : LanesSafe (s.sendCopy ln).lanes ↔ LanesSafe s.lanes := by
  unfold State.sendCopy
  dsimp only
  (repeat' split) <;> simp

@[simp] theorem safe_linkFail (s : State) (l : ClxLink) (h : LanesSafe s.lanes) : LanesSafe (s.linkFail l).lanes := by
  unfold State.linkFail
  dsimp only
  (repeat' split) <;> simp [h]

@[simp] theorem safe_judgeLink (trips : Trips) (s : State) (l : ClxLink) (h : LanesSafe s.lanes) :
    LanesSafe (s.judgeLink trips l).lanes := by
  unfold State.judgeLink
  (repeat' split) <;> simp [h]

@[simp] theorem safe_calibrate (s : State) (ln : LaneId) (trips : Trips) (h : LanesSafe s.lanes) :
    LanesSafe (s.calibrate ln trips).lanes := by
  exact safe_foldl _ (fun u l k => safe_judgeLink trips u l k) _ _ (by simp [h])

@[simp] theorem safe_echoRound (s : State) (h : LanesSafe s.lanes) : LanesSafe s.echoRound.lanes := by
  refine safe_foldl _ (fun u e k => ?_) _ _ h
  (repeat' split) <;> simp [k]

@[simp] theorem safe_dropSilent (s : State) (h : LanesSafe s.lanes) : LanesSafe s.dropSilent.lanes := by
  refine safe_foldl _ (fun u e k => ?_) _ _ h
  (repeat' split) <;> simp [k]

@[simp] theorem safe_onlineAgreed (s : State) (L : Lane) : LanesSafe (s.onlineAgreed L).lanes ↔ LanesSafe s.lanes := by
  unfold State.onlineAgreed
  (repeat' split) <;> simp

@[simp] theorem safe_commitAll (s : State) (h : LanesSafe s.lanes) : LanesSafe s.commitAll.lanes := by
  unfold State.commitAll
  extract_lets lead L donor evs s1 s2 s3
  have h1 : LanesSafe s1.lanes := by
    refine (safe_mapLanes_iff fun ln M => ?_).2 h
    split
    · simp
    · split <;> simp
    all_goals exact ⟨rfl, rfl⟩
  have h3 : LanesSafe s3.lanes := safe_checkPilot _ ((safe_onlineAgreed s2 L).2 ((safe_raiseCommitted _ lead evs).2 h1))
  split
  · exact (safe_setModule s3 _).2 h3
  · exact h3

@[simp] theorem safe_skipAll (s : State) (disagree : Bool) (h : LanesSafe s.lanes) :
    LanesSafe (s.skipAll disagree).lanes := by
  unfold State.skipAll
  extract_lets lead L second late s1 s2 s3
  have h2 : LanesSafe s2.lanes := by
    unfold s2
    split <;> simp [s1, h]
  have h3 : LanesSafe s3.lanes := by
    refine (safe_mapLanes_iff fun ln M => ?_).2 h2
    (repeat' split) <;> simp
  split
  · exact safe_enterHalt s3
  · exact h3

@[simp] theorem safe_consensus (s : State) (only : Bool) (h : LanesSafe s.lanes) : LanesSafe (s.consensus only).lanes := by
  have h1 : LanesSafe s.echoRound.dropSilent.lanes := safe_dropSilent _ (safe_echoRound s h)
  unfold State.consensus
  extract_lets s1 rs anyOvr
  split
  · split
    · split
      · exact h
      · refine safe_skipAll _ _ ?_
        split
        · exact safe_excludeAgreed _ _ _ h1
        · exact h1
    · split
      · exact h
      · refine safe_commitAll _ ?_
        split
        · exact safe_excludeAgreed _ _ _ h1
        · exact h1
    · split
      · exact h
      · exact safe_loseVote _ h1
  · split
    · exact h
    · exact h1

@[simp] theorem safe_shutdownAtCons (s : State) (h : LanesSafe s.lanes) : LanesSafe s.shutdownAtCons.lanes := by
  unfold State.shutdownAtCons
  split <;> simp [h]

@[simp] theorem safe_signLane (s : State) (ln : LaneId) (m : Manifest) (h : LanesSafe s.lanes) :
    LanesSafe (s.signLane ln m).lanes := by
  simp [State.signLane, h]

@[simp] theorem safe_shadowSign (s : State) (ln : LaneId) (h : LanesSafe s.lanes) : LanesSafe (s.shadowSign ln).lanes := by
  unfold State.shadowSign
  dsimp only
  (repeat' split) <;> simp [h]

@[simp] theorem safe_putChan (s : State) (ch : Nat) (c : WbChan) :
    LanesSafe (s.putChan ch c).lanes ↔ LanesSafe s.lanes := Iff.rfl

@[simp] theorem safe_complete (s : State) (ch : Nat) (q : TxReq) (status : Nat) :
    LanesSafe (s.complete ch q status).lanes ↔ LanesSafe s.lanes := Iff.rfl

@[simp] theorem safe_dropExpired (s : State) (ch : Nat) : LanesSafe (s.dropExpired ch).lanes ↔ LanesSafe s.lanes := by
  simp [State.dropExpired]

@[simp] theorem safe_followErrors (s : State) (ch : Nat) (c : WbChan) :
    LanesSafe (s.followErrors ch c).lanes ↔ LanesSafe s.lanes := by
  unfold State.followErrors
  dsimp only
  (repeat' split) <;> simp

@[simp] theorem safe_takeCan (s : State) (ch : Nat) (f : CanFrame) (sofTime : U48) :
    LanesSafe (s.takeCan ch f sofTime).lanes ↔ LanesSafe s.lanes := by
  unfold State.takeCan
  dsimp only
  (repeat' split) <;> simp

@[simp] theorem safe_flushItems (s : State) (q : Nat) : LanesSafe (s.flushItems q).2.lanes ↔ LanesSafe s.lanes := by
  unfold State.flushItems
  (repeat' split) <;> simp

@[simp] theorem safe_flush (s : State) (q : Nat) : LanesSafe (s.flush q).lanes ↔ LanesSafe s.lanes := by
  simp [State.flush]

@[simp] theorem safe_placeWb (s : State) (ch : Nat) (c : WbChan) :
    LanesSafe (s.placeWb ch c).lanes ↔ LanesSafe s.lanes := by
  unfold State.placeWb
  (repeat' split) <;> simp

@[simp] theorem safe_configureWb (s : State) (b : ManBody) : LanesSafe (s.configureWb b).lanes ↔ LanesSafe s.lanes := by
  simp [State.configureWb]

@[simp] theorem safe_changeWb (s : State) (old new : ManBody) :
    LanesSafe (s.changeWb old new).lanes ↔ LanesSafe s.lanes := by
  refine safe_foldl_iff _ (fun u e => ?_) _ _
  (repeat' split) <;> simp

@[simp] theorem safe_busOff (s : State) (ch : Nat) : LanesSafe (s.busOff ch).lanes ↔ LanesSafe s.lanes := by
  unfold State.busOff
  dsimp only
  split <;> simp

@[simp] theorem safe_renewWb (s : State) (ch : Nat) : LanesSafe (s.renewWb ch).lanes ↔ LanesSafe s.lanes := by
  unfold State.renewWb
  dsimp only
  split <;> simp

@[simp] theorem safe_updUplink (s : State) (f : Uplink → Uplink) :
    LanesSafe (s.updUplink f).lanes ↔ LanesSafe s.lanes := Iff.rfl

@[simp] theorem safe_putPort (s : State) (k : Nat) (f : List Byte) (port : Nat) :
    LanesSafe (s.putPort k f port).lanes ↔ LanesSafe s.lanes := by
  unfold State.putPort
  split <;> simp

@[simp] theorem safe_sendOn (s : State) (lanB : Bool) (dst : U48) (k : Nat) (f : List Byte) :
    LanesSafe (s.sendOn lanB dst k f).lanes ↔ LanesSafe s.lanes := by
  simp [State.sendOn]

@[simp] theorem safe_sendPrp (s : State) (dst : Bool → U48) (k etherType : Nat) (p : List Byte) :
    LanesSafe (s.sendPrp dst k etherType p).lanes ↔ LanesSafe s.lanes := by
  simp [State.sendPrp]

@[simp] theorem safe_keepCopy (s : State) (lanB : Bool) (e : NetFrame) :
    LanesSafe (s.keepCopy lanB e).lanes ↔ LanesSafe s.lanes := by
  unfold State.keepCopy
  split <;> simp

@[simp] theorem safe_takeArp (s : State) (lanB : Bool) (e : NetFrame) :
    LanesSafe (s.takeArp lanB e).lanes ↔ LanesSafe s.lanes := by
  unfold State.takeArp
  (repeat' split) <;> simp

@[simp] theorem safe_takeEcho (s : State) (e : NetFrame) : LanesSafe (s.takeEcho e).lanes ↔ LanesSafe s.lanes := by
  unfold State.takeEcho
  dsimp only
  (repeat' split) <;> simp

@[simp] theorem safe_takeNet (s : State) (lanB : Bool) (e : NetFrame) :
    LanesSafe (s.takeNet lanB e).lanes ↔ LanesSafe s.lanes := by
  unfold State.takeNet
  dsimp only
  (repeat' split) <;> simp

@[simp] theorem safe_ownNet (s : State) (lanB : Bool) (e : NetFrame) :
    LanesSafe (s.ownNet lanB e).lanes ↔ LanesSafe s.lanes := by
  unfold State.ownNet
  dsimp only
  (repeat' split) <;> simp

@[simp] theorem safe_learn (s : State) (port : Nat) (e : NetFrame) :
    LanesSafe (s.learn port e).lanes ↔ LanesSafe s.lanes := Iff.rfl

@[simp] theorem safe_bridge (s : State) (port : Nat) (f : List Byte) :
    LanesSafe (s.bridge port f).lanes ↔ LanesSafe s.lanes := by
  unfold State.bridge
  (repeat' split) <;> simp

@[simp] theorem safe_forwardCopy (s : State) (cn : U32) (c : SlCopy) (h : LanesSafe s.lanes) :
    LanesSafe (s.forwardCopy cn c).lanes := by
  unfold State.forwardCopy
  split <;> simp [h]

@[simp] theorem safe_takeSafeLink (s : State) (c : SlCopy) (h : LanesSafe s.lanes) :
    LanesSafe (s.takeSafeLink c).lanes := by
  unfold State.takeSafeLink
  dsimp only
  (repeat' split) <;> simp [h]

@[simp] theorem safe_netRx (s : State) (port : Nat) (f : List Byte) (h : LanesSafe s.lanes) :
    LanesSafe (s.netRx port f).lanes := by
  unfold State.netRx
  split <;> simp [h]

@[simp] theorem safe_sendPdu (s : State) (key : Nat) (pdu : List Byte) :
    LanesSafe (s.sendPdu key pdu).lanes ↔ LanesSafe s.lanes := by
  unfold State.sendPdu
  split <;> simp

@[simp] theorem safe_launch (s : State) (p : HeldLaunch → Bool) : LanesSafe (s.launch p).lanes ↔ LanesSafe s.lanes := by
  simp [State.launch]

@[simp] theorem safe_breakLoad (s : State) : LanesSafe s.breakLoad.lanes ↔ LanesSafe s.lanes := by
  unfold State.breakLoad
  split
  · exact Iff.rfl
  · refine safe_mapLanes_iff fun ln L => ?_
    split <;> simp

@[simp] theorem safe_svcDown (s : State) (h : LanesSafe s.lanes) : LanesSafe s.svcDown.lanes := by
  simp [State.svcDown, h]

@[simp] theorem safe_deliver (s : State) (ln : LaneId) (h : LanesSafe s.lanes) : LanesSafe (s.deliver ln).lanes := by
  simp [State.deliver, h]

@[simp] theorem safe_deliverChanges (s : State) (h : LanesSafe s.lanes) : LanesSafe s.deliverChanges.lanes := by
  simp [State.deliverChanges, h]

@[simp] theorem safe_deliverAll (s : State) (h : LanesSafe s.lanes) : LanesSafe s.deliverAll.lanes := by
  exact safe_deliverChanges _ (safe_foldl _ (fun u ln k => safe_deliver u ln k) _ _ h)

@[simp] theorem safe_freeLaunches (s : State) : LanesSafe s.freeLaunches.lanes ↔ LanesSafe s.lanes := by
  unfold State.freeLaunches
  split <;> simp

@[simp] theorem safe_slew (s : State) (o : Int) : LanesSafe (s.slew o).lanes ↔ LanesSafe s.lanes := by
  unfold State.slew
  dsimp only
  split <;> simp

@[simp] theorem safe_stepClock (s : State) (o : Int) : LanesSafe (s.stepClock o).lanes ↔ LanesSafe s.lanes := by
  simp [State.stepClock]

@[simp] theorem safe_refuseOffset (s : State) (o : Int) (n : Nat) :
    LanesSafe (s.refuseOffset o n).lanes ↔ LanesSafe s.lanes := by
  unfold State.refuseOffset
  split <;> simp

@[simp] theorem safe_ptpOffset (s : State) (m : U64) (o : Int) :
    LanesSafe (s.ptpOffset m o).lanes ↔ LanesSafe s.lanes := by
  unfold State.ptpOffset
  dsimp only
  (repeat' split) <;> simp

@[simp] theorem safe_ptpIgnore (s : State) : LanesSafe s.ptpIgnore.lanes ↔ LanesSafe s.lanes := Iff.rfl

@[simp] theorem safe_unlock (s : State) : LanesSafe s.unlock.lanes ↔ LanesSafe s.lanes := by
  simp [State.unlock]

@[simp] theorem safe_putPlane (s : State) (pl : PlaneId) (p : Plane) :
    LanesSafe (s.putPlane pl p).lanes ↔ LanesSafe s.lanes := Iff.rfl

@[simp] theorem safe_updPlane (s : State) (pl : PlaneId) (f : Plane → Plane) :
    LanesSafe (s.updPlane pl f).lanes ↔ LanesSafe s.lanes := Iff.rfl

@[simp] theorem safe_sendStatus (s : State) (pl : PlaneId) (down : Bool) :
    LanesSafe (s.sendStatus pl down).lanes ↔ LanesSafe s.lanes := by
  unfold State.sendStatus
  split <;> simp

@[simp] theorem safe_logDrift (s : State) (pl : PlaneId) (ctrl : Nat) (before : Bool) :
    LanesSafe (s.logDrift pl ctrl before).lanes ↔ LanesSafe s.lanes := by
  unfold State.logDrift
  dsimp only
  split <;> simp

@[simp] theorem safe_sendSync (s : State) (pl : PlaneId) : LanesSafe (s.sendSync pl).lanes ↔ LanesSafe s.lanes := by
  unfold State.sendSync
  dsimp only
  split <;> simp

@[simp] theorem safe_planeTick (s : State) (pl : PlaneId) (set : List LaneId) (cn : U32) (t : Nat) :
    LanesSafe (s.planeTick pl set cn t).lanes ↔ LanesSafe s.lanes := by
  unfold State.planeTick
  extract_lets p q q1 step r q2 s1 s2
  have h2 : LanesSafe s2.lanes ↔ LanesSafe s.lanes := safe_foldl_iff _ (fun u e => safe_logDrift u pl _ _) _ _
  clear_value s2 q2
  split <;> simp [h2]

@[simp] theorem safe_lateStrobe (s : State) (pl : PlaneId) (ln : LaneId) :
    LanesSafe (s.lateStrobe pl ln).lanes ↔ LanesSafe s.lanes := Iff.rfl

@[simp] theorem safe_forwardUp (s : State) (pl : PlaneId) (c : Nat) (r : UpRec) :
    LanesSafe (s.forwardUp pl c r).lanes ↔ LanesSafe s.lanes := by
  unfold State.forwardUp
  split
  · exact Iff.rfl
  · refine safe_foldl_iff _ (fun u ln => ?_) _ _
    dsimp only
    (repeat' split) <;> simp

@[simp] theorem safe_guard (s : State) (pl : PlaneId) (seg slot : Nat) (e : Int) (frame : List Byte)
    (h : LanesSafe s.lanes) : LanesSafe (s.guard pl seg slot e frame).lanes := by
  unfold State.guard
  dsimp only
  (repeat' split) <;> simp [h]

@[simp] theorem safe_stopQuayline (s : State) : LanesSafe s.stopQuayline.lanes ↔ LanesSafe s.lanes := Iff.rfl

@[simp] theorem safe_startQuayline (s : State) : LanesSafe s.startQuayline.lanes ↔ LanesSafe s.lanes := Iff.rfl

@[simp] theorem safe_sendRequest (s : State) (pl : PlaneId) (seg t : Nat) :
    LanesSafe (s.sendRequest pl seg t).lanes ↔ LanesSafe s.lanes := by
  have taken : ∀ {r : Nat × List Byte} {s1 : State}, s.takeRequest pl seg = some (r, s1) → s1.lanes = s.lanes := by
    intro r s1 hr
    unfold State.takeRequest at hr
    dsimp only at hr
    split at hr
    · cases hr
    · cases hr
      rfl
  unfold State.sendRequest
  split
  · exact Iff.rfl
  · next r s1 hr =>
    split <;> simp [taken hr]

@[simp] theorem safe_useFree (s : State) (pl : PlaneId) (seg t : Nat) (h : LanesSafe s.lanes) :
    LanesSafe (s.useFree pl seg t).lanes := by
  unfold State.useFree
  dsimp only
  split <;> simp [h]

@[simp] theorem safe_openWindow (s : State) (pl : PlaneId) (seg win t : Nat) (h : LanesSafe s.lanes) :
    LanesSafe (s.openWindow pl seg win t).lanes := by
  unfold State.openWindow
  dsimp only
  (repeat' split) <;> simp [h]

@[simp] theorem safe_takeResponse (s : State) (c : Nat) (f : List Byte) :
    LanesSafe (s.takeResponse c f).lanes ↔ LanesSafe s.lanes := by
  unfold State.takeResponse
  split <;> simp

@[simp] theorem safe_farSends (s : State) (pl : PlaneId) : LanesSafe (s.farSends pl).lanes ↔ LanesSafe s.lanes := by
  unfold State.farSends
  dsimp only
  (repeat' split) <;> simp

@[simp] theorem safe_putCtrl (s : State) (c : Nat) (x : Ctrl) : LanesSafe (s.putCtrl c x).lanes ↔ LanesSafe s.lanes := Iff.rfl

@[simp] theorem safe_updController (s : State) (c : Nat) (f : Ctrl → Ctrl) :
    LanesSafe (s.updController c f).lanes ↔ LanesSafe s.lanes := Iff.rfl

@[simp] theorem safe_ncAnswer (s : State) (ctrl : Nat) (pl : PlaneId) (port : Nat) (frame : List Byte) (t turn : Nat) (serve : Ctrl → List Byte → Option (List Byte × Ctrl))
    : LanesSafe (s.ncAnswer ctrl pl port frame t turn serve).lanes ↔ LanesSafe s.lanes := by
  unfold State.ncAnswer
  dsimp only
  (repeat' split) <;> simp

@[simp] theorem safe_intoVote (s : State) (ln : LaneId) (h : LanesSafe s.lanes) : LanesSafe (s.intoVote ln).lanes := by
  unfold State.intoVote
  extract_lets s1
  have h1 : LanesSafe s1.lanes := by
    refine safe_mapLanes fun m => ?_
    by_cases hm : m = ln
    · simp only [hm, if_true]
      exact heldOpen_set_inVote ln _ _
    · simp only [hm, if_false]
      exact heldOpen_set_ne hm _ (h m)
  clear_value s1
  exact safe_mapLanes fun m => heldOpen_ite (fun _ => heldOpen_driveHeld m (s1.lane m)) fun _ => h1 m

@[simp] theorem safe_takeOut (s : State) (ln : LaneId) (c : Cause) (h : LanesSafe s.lanes) :
    LanesSafe (s.takeOut ln c).lanes := by
  refine safe_mapLanes fun m => ?_
  split
  · simp
  · exact heldOpen_set_ne ‹_› _ (heldOpen_openPair m ln (h m))

@[simp] theorem safe_logMids (s : State) (me : LaneId) (xs : List MidTest) :
    LanesSafe (s.logMids me xs).lanes ↔ LanesSafe s.lanes := by
  refine safe_foldl_iff _ (fun u e => ?_) _ _
  simp

@[simp] theorem safe_supplyLoss (s : State) (ln : LaneId) (ofLnI : Bool) (h : LanesSafe s.lanes) :
    LanesSafe (s.supplyLoss ln ofLnI).lanes := by
  unfold State.supplyLoss
  extract_lets s1 s2 s3
  have h1 : LanesSafe s1.lanes := h
  have h3 : LanesSafe s3.lanes := by
    have h2 : LanesSafe s2.lanes := (safe_raiseModule ..).2 (safe_laneOff s1 ln h1)
    unfold s3
    split
    · exact safe_endPilot s2 h2
    · exact h2
  split
  · split
    · split
      · exact safe_checkVote s3 h3
      · exact h3
    · exact safe_seenByVoters _ ln (safe_exclude s1 ln _ h1)
  · exact h1

@[simp] theorem safe_followSwitch (s : State) (rs : List CopyRec) :
    LanesSafe (s.followSwitch rs).lanes ↔ LanesSafe s.lanes := by
  unfold State.followSwitch
  split
  · split
    · refine safe_mapLanes_iff fun ln L => ?_
      split <;> simp
    · exact Iff.rfl
  · exact Iff.rfl

@[simp] theorem safe_takeClaim (s : State) (x : CopyHdr) (j : U32) (trig : Nat) (h : LanesSafe s.lanes) :
    LanesSafe (s.takeClaim x j trig).lanes := by
  unfold State.takeClaim
  extract_lets stored roll s1 s2 s3 pr s4 s5
  have h1 : LanesSafe s1.lanes := (safe_mapLanes_iff fun ln L => still_takeover _ _ _ ln L).2 h
  have h3 : LanesSafe s3.lanes := safe_ite (fun _ => by simpa [s2] using h1) fun _ => by simpa [s2] using h1
  have h5 : LanesSafe s5.lanes := safe_ite (fun _ => by simpa [s4] using h3) fun _ => by simpa [s4] using h3
  clear_value s5
  split
  · exact (safe_noteCons s5).2 h5
  · exact (safe_noteCons _).2 (safe_startRejoin _ _ ((safe_endTest s5 _).2 h5))

@[simp] theorem safe_updAccess (s : State) (f : Access → Access) :
    LanesSafe (s.updAccess f).lanes ↔ LanesSafe s.lanes := Iff.rfl

@[simp] theorem safe_failLogin (s : State) (n : Nat) (a : Account) :
    LanesSafe (s.failLogin n a).lanes ↔ LanesSafe s.lanes := by
  unfold State.failLogin
  split <;> simp

@[simp] theorem safe_endSession (s : State) (sess : Nat) : LanesSafe (s.endSession sess).lanes ↔ LanesSafe s.lanes := by
  unfold State.endSession
  split <;> simp

@[simp] theorem safe_withPassword (s : State) (n : Nat) (a : Account) (password : List Byte) :
    LanesSafe (s.withPassword n a password).lanes ↔ LanesSafe s.lanes := Iff.rfl

@[simp] theorem safe_refuse (s : State) (sess : Nat) (vals : List Int) :
    LanesSafe (s.refuse sess vals).lanes ↔ LanesSafe s.lanes := by
  simp [State.refuse]

@[simp] theorem safe_answer (s : State) (sess : Nat) (vals : List Int) :
    LanesSafe (s.answer sess vals).lanes ↔ LanesSafe s.lanes := by
  simp [State.answer]

@[simp] theorem safe_sendCmd (s : State) (sess : Nat) (c : LaneCmd) :
    LanesSafe (s.sendCmd sess c).lanes ↔ LanesSafe s.lanes := by
  unfold State.sendCmd
  split <;> simp

@[simp] theorem safe_mapFlash (s : State) (f : LaneFlash → LaneFlash) :
    LanesSafe (s.mapFlash f).lanes ↔ LanesSafe s.lanes := by
  refine safe_mapLanes_iff fun ln L => ?_
  split <;> simp

@[simp] theorem safe_switchNow (s : State) (new : Manifest) (at_ : U32) (h : LanesSafe s.lanes) :
    LanesSafe (s.switchNow new at_).lanes := by
  unfold State.switchNow
  split <;> simp [h]

@[simp] theorem safe_updPilot (s : State) (f : Pilot → Pilot) : LanesSafe (s.updPilot f).lanes ↔ LanesSafe s.lanes := Iff.rfl

@[simp] theorem safe_pilotRefuse (s : State) : LanesSafe s.pilotRefuse.lanes ↔ LanesSafe s.lanes := by
  simp [State.pilotRefuse]

@[simp] theorem safe_stopAt (s : State) (core : CoreId) : LanesSafe (s.stopAt core).lanes ↔ LanesSafe s.lanes := Iff.rfl

@[simp] theorem safe_putResult (s : State) (unit : Nat) (r : BistRec) (ms : List Mark) (h : LanesSafe s.lanes) :
    LanesSafe (s.putResult unit r ms).lanes := by
  unfold State.putResult
  split <;> simp [h]

@[simp] theorem safe_bistDue (s : State) : LanesSafe s.bistDue.lanes ↔ LanesSafe s.lanes := by
  unfold State.bistDue
  split <;> simp

@[simp] theorem safe_endItem (s : State) (unit : Nat) (r : BistRec) (ms : List Mark) (h : LanesSafe s.lanes) :
    LanesSafe (s.endItem unit r ms).lanes := by
  unfold State.endItem
  (repeat' split) <;> simp [h]

@[simp] theorem safe_zeroise (s : State) (unit : Nat) (h : LanesSafe s.lanes) : LanesSafe (s.zeroise unit).lanes := by
  unfold State.zeroise
  split <;> simp [h]

@[simp] theorem safe_cutUnit (s : State) (unit : Nat) (h : LanesSafe s.lanes) : LanesSafe (s.cutUnit unit).lanes := by
  unfold State.cutUnit
  split <;> simp [h]

@[simp] theorem safe_cutBist (s : State) (h : LanesSafe s.lanes) : LanesSafe s.cutBist.lanes := by
  unfold State.cutBist
  split
  · exact safe_foldr _ (fun u x k => safe_cutUnit u x k) _ _ h
  · exact h

@[simp] theorem safe_domainMissed (s : State) (d : Domain) : LanesSafe (s.domainMissed d).lanes ↔ LanesSafe s.lanes := by
  simp [State.domainMissed]

@[simp] theorem safe_seqEnd (s : State) : LanesSafe s.seqEnd.lanes ↔ LanesSafe s.lanes := Iff.rfl

@[simp] theorem safe_laneStart (s : State) (ln : LaneId) (trips : Trips) (h : LanesSafe s.lanes) :
    LanesSafe (s.laneStart ln trips).lanes := by
  unfold State.laneStart
  split
  · refine safe_mapLanes fun m => ?_
    split
    · simp
    · exact heldOpen_set_ne ‹_› _ (h m)
  · split
    · refine safe_mapLanes fun m => ?_
      split
      · simp
      · exact heldOpen_set_ne ‹_› _ (h m)
    · split
      · exact safe_startRejoin _ ln (safe_calibrate _ ln trips (safe_updLane h (h ln)))
      · exact h

@[simp] theorem safe_domainUp (s : State) (d : Domain) (trips : Trips) (h : LanesSafe s.lanes) :
    LanesSafe (s.domainUp d trips).lanes := by
  unfold State.domainUp
  split
  · extract_lets s1
    have h1 : LanesSafe s1.lanes := safe_updLane h (h _)
    split
    · exact safe_laneStart s1 _ trips h1
    · exact h1
  · split
    · exact safe_laneStart s _ trips h
    · exact h
  · exact h
  · split
    · exact h
    · split
      · exact h
      · split
        · exact safe_deliverAll _ h
        · exact h

@[simp] theorem safe_cutPower (s : State) (mask : BitVec 12) : LanesSafe (s.cutPower mask).lanes ↔ LanesSafe s.lanes := Iff.rfl

@[simp] theorem safe_planeDown (s : State) (pl : PlaneId) : LanesSafe (s.planeDown pl).lanes ↔ LanesSafe s.lanes := Iff.rfl

@[simp] theorem safe_domainOff (s : State) (d : Domain) (h : LanesSafe s.lanes) : LanesSafe (s.domainOff d).lanes := by
  unfold State.domainOff
  split <;> simp [h]

@[simp] theorem safe_noteReq (s : State) (mask : BitVec 12) (off : Bool) (done : Bool) (code : Nat) :
    LanesSafe (s.noteReq mask off done code).lanes ↔ LanesSafe s.lanes := Iff.rfl

@[simp] theorem safe_seqNext (ds : List Domain) (s : State) :
    LanesSafe (s.seqNext ds).lanes ↔ LanesSafe s.lanes := by
  induction ds generalizing s with
  | nil => simp [State.seqNext]
  | cons d r ih =>
    unfold State.seqNext
    split
    · exact ih s
    · split
      · simp
      · simpa using ih (s.domainMissed d)

@[simp] theorem safe_requestOn (s : State) (mask : BitVec 12) (h : LanesSafe s.lanes) :
    LanesSafe (s.requestOn mask).lanes := by
  unfold State.requestOn
  dsimp only
  split <;> simp [h]

@[simp] theorem safe_requestOff (s : State) (mask : BitVec 12) (h : LanesSafe s.lanes) :
    LanesSafe (s.requestOff mask).lanes := by
  unfold State.requestOff
  extract_lets c s1
  split
  · simp [h]
  · exact safe_foldl _ (fun u d k => safe_domainOff u d k) _ _ (by simp [h])

@[simp] theorem safe_applyMarks (s : State) : LanesSafe s.applyMarks.lanes ↔ LanesSafe s.lanes := Iff.rfl

@[simp] theorem safe_powerOn (s : State) (mask : BitVec 12) (h : LanesSafe s.lanes) :
    LanesSafe (s.powerOn mask).lanes := by
  simp [State.powerOn, h]

@[simp] theorem safe_enterBoot (s : State) (cold : Bool) : LanesSafe (s.enterBoot cold).lanes := by
  unfold State.enterBoot
  extract_lets s1 acc chg bst s2 upl s3 s4 off pow
  have h1 : LanesSafe s1.lanes := safe_mapLanes fun ln => by simp
  have h2 : LanesSafe s2.lanes := by
    refine (safe_applyMarks _).2 (safe_deliverAll _ ?_)
    simpa using h1
  clear_value s2
  have h3 : LanesSafe s3.lanes := by simpa [s3] using h2
  have h4 : LanesSafe s4.lanes :=
    safe_foldl _ (fun u pl k => safe_ite (fun _ => (safe_planeDown u pl).2 k) fun _ => k) _ _ h3
  clear_value s4
  refine safe_powerOn _ off ?_
  simpa using h4

@[simp] theorem safe_bootHalt (s : State) : LanesSafe s.bootHalt.lanes := by
  simp [State.bootHalt]

@[simp] theorem safe_laneFailures (s : State) (o : BootObs) : LanesSafe (s.laneFailures o).lanes ↔ LanesSafe s.lanes := by
  refine safe_foldl_iff _ (fun u e => ?_) _ _
  (repeat' split) <;> simp

@[simp] theorem safe_bistAtBoot (s : State) (h : LanesSafe s.lanes) : LanesSafe s.bistAtBoot.lanes := by
  unfold State.bistAtBoot
  extract_lets b s1
  have h1 : LanesSafe s1.lanes := safe_ite (fun _ => by simpa using h) fun _ => h
  exact safe_ite (fun _ => by simpa using h1) fun _ => h1

@[simp] theorem safe_bootCalibrate (s : State) (o : BootObs) (vs : List LaneId) (h : LanesSafe s.lanes) :
    LanesSafe (s.bootCalibrate o vs).lanes := by
  refine safe_foldl _ (fun u l k => ?_) _ _ ((safe_mapLanes_iff fun ln L => ?_).2 h)
  · split
    · exact safe_linkFail u l k
    · exact k
  · split <;> simp

@[simp] theorem safe_startLanes (s : State) (o : BootObs) (vs ws : List LaneId) (w : Option (Retention × Manifest)) :
    LanesSafe (s.startLanes o vs ws w).lanes := by
  unfold State.startLanes
  extract_lets views epoch cn s1
  refine safe_bootCalibrate s1 o vs (safe_mapLanes fun ln => ?_)
  split
  · split <;> simp
  · simp

@[simp] theorem safe_bootEnds (s : State) (causes : List (EventName × List Int)) (other : Option HwStatus)
    (h : LanesSafe s.lanes) : LanesSafe (s.bootEnds causes other).lanes := by
  unfold State.bootEnds
  split
  · exact safe_enterStandby _ _ _ (by simp [h])
  · simp [h]
  · exact (safe_foldl_iff _ (fun u e => safe_raiseModule u _ _ _) _ _).2 (by simp [h])

@[simp] theorem safe_startWb (s : State) : LanesSafe s.startWb.lanes ↔ LanesSafe s.lanes := by
  unfold State.startWb
  (repeat' split) <;> simp

@[simp] theorem safe_bootDone (s : State) (o : BootObs) (vs : List LaneId) : LanesSafe (s.bootDone o vs).lanes := by
  unfold State.bootDone
  extract_lets m w ws claim causes other s1 s3 s4 s5 s6 s7
  have h1 : LanesSafe s1.lanes := safe_startLanes (s.laneFailures o) o vs ws w
  have h3 : LanesSafe s3.lanes := by
    refine (safe_mapLanes_iff fun ln L => ?_).2 h1
    split <;> simp
  have h4 : LanesSafe s4.lanes := by
    have := safe_bootEnds (s3.setClaim claim) causes other ((safe_setClaim s3 claim).2 h3)
    simpa [s4] using this
  have h5 : LanesSafe s5.lanes := safe_foldl _ (fun u ln k => safe_startRejoin u ln k) _ _ h4
  have h7 : LanesSafe s7.lanes := by simpa [s7, s6] using h5
  clear_value s7
  refine (safe_noteCons _).2 (safe_bistAtBoot _ (safe_ite (fun _ => ?_) fun _ => h7))
  simpa using h7

@[simp] theorem safe_retainVoters (s : State) : LanesSafe s.retainVoters.lanes ↔ LanesSafe s.lanes := by
  refine safe_mapLanes_iff fun ln L => ?_
  split <;> simp

@[simp] theorem safe_writeSelected (s : State) (slot : Nat) (h : LanesSafe s.lanes) :
    LanesSafe (s.writeSelected slot).lanes := by
  simp [State.writeSelected, h]

@[simp] theorem safe_issue (ln : LaneId) (core : CoreId) (n : Nat) (body : TCtx → TRes) (s : State)
    (hb : KeepsLane body) (h : LanesSafe s.lanes) : LanesSafe (issue ln core n body s).lanes := by
  unfold issue
  extract_lets L0 c0
  split
  · exact h
  · next p hp =>
    split
    · exact safe_codedFault s _ _ _ _ _ _ h
    · next t ht =>
      split
      · exact safe_codedFault s _ _ _ _ _ _ h
      · exact safe_codedFault s _ _ _ _ _ _ h
      · next hbody =>
        have k := (inPass_context _ core p L0 t ht).trans (hb t _ hbody)
        exact safe_putLane h (heldOpen_inPass k (heldOpen_lane h ln))

@[simp] theorem safe_runEngine (ln : LaneId) (kind : Nat) (s : State) (h : LanesSafe s.lanes) :
    LanesSafe (runEngine ln kind s).lanes := by
  unfold runEngine
  extract_lets L
  split
  · split
    · dsimp only
      split
      · exact safe_codedFault s _ _ _ _ _ _ h
      · next p q rest _ _ _ _ L1 hgen =>
        have k1 := inPass_genBefore L p _ _ L1 hgen
        split
        · next L' hev =>
          have k0 : InPass L1 { L1 with route := { L1.route with queue := rest } } := InPass.refl L1
          have k := k1.trans (k0.trans (inPass_evaluate p _ q _ L' hev))
          exact safe_putLane h (heldOpen_inPass (k.trans (inPass_irelDone p q L1 _)) (heldOpen_lane h ln))
        · exact safe_codedFault s _ _ _ _ _ _ h
    · exact h
  · exact h

@[simp] theorem safe_issueFetched (ln : LaneId) (core : CoreId) (s : State) (h : LanesSafe s.lanes) :
    LanesSafe (issueFetched ln core s).lanes := by
  exact safe_issue ln core _ _ s (keepsLane_opOf _) h

@[simp] theorem safe_cfgChk (s : State) (n : Nat) (f : CheckEngine → CheckEngine) :
    LanesSafe (s.cfgChk n f).lanes ↔ LanesSafe s.lanes := by
  unfold State.cfgChk
  split <;> simp

@[simp] theorem safe_storeWord (s : State) (b : Blk) (addr : Nat) (v : U32) :
    LanesSafe (s.storeWord b addr v).lanes ↔ LanesSafe s.lanes := Iff.rfl

@[simp] theorem safe_writeField (s : State) (ch : Nat) (f : WbField) :
    LanesSafe (s.writeField ch f).lanes ↔ LanesSafe s.lanes := by
  unfold State.writeField
  dsimp only
  split <;> simp

@[simp] theorem safe_writeWb (s : State) (addr off : Nat) (v : U32) :
    LanesSafe (s.writeWb addr off v).lanes ↔ LanesSafe s.lanes := by
  unfold State.writeWb
  dsimp only
  (repeat' split) <;> simp

end Sys2Proof.SwitchFrame
end

section
/-! ## Every command keeps the switches of a lane outside the vote open (R210, R211) -/

namespace Sys2Proof.SwitchFrame

open Sys2Proof Sys2Proof.Machine Sys2Proof.Laws Sys2Proof.PassFrame Sys2Proof.ServiceFrame

/-- Where the outcome is a next state, that state holds the switches of every lane outside the vote open. -/
def SafeOut (o : Host.Outcome State Fault Refusal) : Prop := ∀ u, o = .next u → LanesSafe u.lanes

@[simp] theorem safeOut_ok (t : State) : SafeOut (ok t) ↔ LanesSafe t.lanes :=
  ⟨fun h => h t rfl, fun h _ hu => Host.Outcome.next.inj hu ▸ h⟩

@[simp] theorem safeOut_fin (t : State) : SafeOut (fin t) ↔ LanesSafe t.lanes := by
  refine ⟨fun h => ?_, fun h _ hu => Host.Outcome.next.inj hu ▸ ?_⟩
  · simpa using h _ rfl
  · simpa using h

@[simp] theorem safeOut_next (t : State) : SafeOut (.next t) ↔ LanesSafe t.lanes :=
  ⟨fun h => h t rfl, fun h _ hu => Host.Outcome.next.inj hu ▸ h⟩

@[simp] theorem safe_touch (s : State) (t : Nat) : LanesSafe (s.touch t).lanes ↔ LanesSafe s.lanes := Iff.rfl

@[simp] theorem heldOpen_get {s : State} (h : LanesSafe s.lanes) (ln : LaneId) :
    HeldOpen ln (s.lanes.get ln).views (s.lanes.get ln).switches := h ln

theorem heldOpen_of_still {me : LaneId} {L M : Lane} (k : Still L M) (h : HeldOpen me L.views L.switches) :
    HeldOpen me M.views M.switches := by
  rwa [k.1, k.2]

/-! ### Lines, sessions and the service side -/

theorem safe_of_vital {s u : State} (k : Vital s u) (h : LanesSafe s.lanes) : LanesSafe u.lanes := by
  refine (safe_congr fun ln => ?_).2 h
  have hv := k.lane ln
  simp only [vitals, Prod.mk.injEq] at hv
  exact ⟨hv.1, hv.2.1⟩

theorem safeOut_of_serviceCommand {c : Instr} (hc : serviceCommand c = true) {s : State} (h : LanesSafe s.lanes) :
    SafeOut (exec c s) :=
  fun _ hu => safe_of_vital (vital_of_serviceCommand hc hu) h

theorem safe_execQDynWindowStart (pl : PlaneId) (win t : Nat) {s : State} (h : LanesSafe s.lanes) :
    SafeOut (execQDynWindowStart pl win t s) := by
  unfold execQDynWindowStart
  extract_lets s0 p
  split
  · exact (safeOut_ok _).2 (safe_foldl _ (fun u seg k => by simp [k]) _ _ h)
  · exact (safeOut_ok _).2 h

theorem safeOut_of_lineCommand {c : Instr} (hc : VoteFlag.lineCommand c = true) {s : State} (h : LanesSafe s.lanes) :
    SafeOut (exec c s) := by
  cases c with
  | qDynWindowStart => exact safe_execQDynWindowStart _ _ _ h
  | planeNoTick | uplinkGuardian | barred | delayUnknown | laneBodyRx | downlinkSlotOpen 
  | dreqSend | drespRx | drespMissing | lineDreqRx | quaylineListenEnd | ncRequestQueue | ncResponseRx
  | lossOfSignal | controllerSyncRx | controllerCoast | controllerSyncLoss | controllerLaunch
  | controllerDownlinkRx | controllerAgeExpiry | rstClear | controllerRestart | controllerDreqRx | controllerDsetRx
  | controllerDnoteRx | controllerBarRx | ident | counters | clrcnt | ncDesigner | farTick | farTickStrobeRx
  | farEndFeedStart | farEndFeedStop | relayRx | relaySlotOpen | copyRx | rollbackHoldClear | autoHandover
  | hawserLost =>
    dsimp only [exec, execPlaneNoTick, execUplinkGuardian, execBarred, execDelayUnknown, execLaneBodyRx,
      execDownlinkSlotOpen, execDreqSend, execDrespRx, execDrespMissing, execLineDreqRx,
      execQuaylineListenEnd, execNcRequestQueue, execNcResponseRx, execLossOfSignal, execControllerSyncRx,
      execControllerCoast, execControllerSyncLoss, execControllerLaunch, execControllerDownlinkRx,
      execControllerAgeExpiry, execRstClear, execControllerRestart, execControllerDreqRx, execControllerDsetRx,
      execControllerDnoteRx, execControllerBarRx, execIdent, execCounters, execClrcnt, execNcDesigner, execFarTick,
      execFarTickStrobeRx, execFarEndFeedStart, execFarEndFeedStop, execRelayRx, execRelaySlotOpen, execCopyRx,
      execRollbackHoldClear, execAutoHandover, execHawserLost]
    (repeat' split) <;> simp [h, -lanes_touch]
  | _ => exact absurd hc Bool.false_ne_true

theorem safe_execManifestLoad (sess : Nat) (hdr : ManHeader) (sigOk : Tri Bool) {s : State} (h : LanesSafe s.lanes) :
    SafeOut (execManifestLoad sess hdr sigOk s) := by
  unfold execManifestLoad
  extract_lets s0 slot
  have h0 : LanesSafe s0.lanes := (safe_keepAlive s sess).2 h
  clear_value s0
  split
  · split
    · simp [h0]
    · split
      · simp [h0]
      · refine (safeOut_ok _).2 ((safe_foldl_iff _ (fun u ln => safe_raiseLane u ln _ _ _) _ _).2 ?_)
        refine (safe_mapLanes_iff fun ln L => ?_).2 h0
        split <;> simp
  · simp [h]

theorem safe_execManifestBodyWritten (man : Manifest) (hashOk : Tri Bool) {s : State} (h : LanesSafe s.lanes) :
    SafeOut (execManifestBodyWritten man hashOk s) := by
  unfold execManifestBodyWritten
  extract_lets ls slot s1 good
  have h1 : LanesSafe s1.lanes := by
    refine (safe_mapLanes_iff fun ln L => ?_).2 h
    split <;> simp
  clear_value s1
  split <;> simp [h, h1]

theorem safe_execManifestVerified (slot : Nat) (gcmOk : Tri Bool) {s : State} (h : LanesSafe s.lanes) :
    SafeOut (execManifestVerified slot gcmOk s) := by
  unfold execManifestVerified
  extract_lets ls s1
  have h1 : LanesSafe s1.lanes := by
    refine (safe_mapLanes_iff fun ln L => ?_).2 h
    split <;> simp
  clear_value s1
  split <;> simp [h, h1]

theorem safeOut_of_sessionCommand {c : Instr} (hc : VoteFlag.sessionCommand c = true) {s : State}
    (h : LanesSafe s.lanes) : SafeOut (exec c s) := by
  cases c with
  | manifestLoad => exact safe_execManifestLoad _ _ _ h
  | manifestBodyWritten => exact safe_execManifestBodyWritten _ _ h
  | manifestVerified => exact safe_execManifestVerified _ _ h
  | login | accountUnlock | logout | sessionTimeout | accountCreate | accountRemove | passwordChange | readState
  | readLogbook | readBlackbox | logExport | blackboxExport | signingKeyEnrol | signingKeyRemove |  manifestStaged | activatePending | firmwareLoad | firmwareActivate
  | onlineChange | restrictiveForce | removeRestrictiveForce | forceValue | removeForcedValue | individualRelease
  | deferTest | handover | pilotBreakpointSet | pilotRead | pilotBreakpointHit | pilotRerun =>
    dsimp only [exec, execLogin, execAccountUnlock, execLogout, execSessionTimeout, execAccountCreate, execAccountRemove,
      execPasswordChange, execReadState, execReadLogbook, execReadBlackbox, execLogExport, execBlackboxExport,
      execSigningKeyEnrol, execSigningKeyRemove,
      execManifestStaged, execActivatePending, execFirmwareLoad, execFirmwareActivate, execOnlineChange,
      execRestrictiveForce, execRemoveRestrictiveForce, execForceValue, execRemoveForcedValue, execIndividualRelease,
      execDeferTest, execHandover, execPilotBreakpointSet, execPilotRead, execPilotBreakpointHit, execPilotRerun]
    (repeat' split) <;> simp [h, -lanes_touch]
  | _ => exact absurd hc Bool.false_ne_true

/-! ### A write of a register -/

theorem safe_after {o : Host.Outcome State Fault Refusal} {s : State} (ho : SafeOut o) (h : LanesSafe s.lanes) :
    LanesSafe (after o s).lanes := by
  unfold after
  split
  · exact ho _ rfl
  all_goals exact h

theorem safe_after_serviceCommand {c : Instr} (hc : serviceCommand c = true) {s : State} (h : LanesSafe s.lanes) :
    LanesSafe (after (exec c s) s).lanes :=
  safe_after (safeOut_of_serviceCommand hc h) h

theorem safe_rwl {s : State} (b : Blk) (off t : Nat) {f : State → State} (h : LanesSafe s.lanes)
    (hf : ∀ u, LanesSafe u.lanes → LanesSafe (f u).lanes) : LanesSafe (s.rwl b off t f).lanes := by
  unfold State.rwl
  dsimp only
  split
  · exact (safe_wrote _ b).2 (hf _ h)
  · simpa using h

@[simp] theorem safe_rwl_cfgChk {s : State} (b : Blk) (off t n : Nat) (f : CheckEngine → CheckEngine)
    (h : LanesSafe s.lanes) : LanesSafe (s.rwl b off t (fun u => u.cfgChk n f)).lanes :=
  safe_rwl b off t h fun u hu => (safe_cfgChk u n f).2 hu

theorem safe_writePtp32 {s : State} (off : Nat) (v : U32) (t : Nat) (h : LanesSafe s.lanes) :
    LanesSafe (s.writePtp32 off v t).lanes := by
  unfold State.writePtp32
  split
  · exact safe_after_serviceCommand (c := .ptpModeWrite v t) rfl h
  · split
    · refine safe_rwl _ _ _ h fun u hu => ?_
      dsimp only
      split <;> simp [hu]
    · split <;> simp [h]

theorem safe_ctrlChk {s : State} (n : Nat) (v : U32) (h : LanesSafe s.lanes) : LanesSafe (s.ctrlChk n v).lanes := by
  unfold State.ctrlChk
  extract_lets e s1
  have h1 : LanesSafe s1.lanes := by
    refine safe_ite (fun _ => ?_) fun _ => ?_
    · exact safe_after_serviceCommand (c := .chkStart n (v.getLsbD 30)) rfl h
    · simpa using h
  clear_value s1
  split
  · exact safe_after_serviceCommand (c := .chkAbort n) rfl h1
  · exact h1

theorem safe_writeChk32 {s : State} (n r : Nat) (v : U32) (t : Nat) (h : LanesSafe s.lanes) :
    LanesSafe (s.writeChk32 n r v t).lanes := by
  unfold State.writeChk32
  iterate 2 (split; · simp [h])
  split
  · exact safe_ctrlChk n v h
  · split <;> simp [h]

theorem safe_writeChk64 {s : State} (n r : Nat) (v : U64) (t : Nat) (h : LanesSafe s.lanes) :
    LanesSafe (s.writeChk64 n r v t).lanes := by
  unfold State.writeChk64
  iterate 3 (split; · simp [h])
  split
  · exact safe_after_serviceCommand (c := .chkValueWrite n v) rfl h
  · split <;> simp [h]

theorem safe_writeQue32 {s : State} (off : Nat) (v : U32) (t : Nat) (h : LanesSafe s.lanes) :
    LanesSafe (s.writeQue32 off v t).lanes := by
  unfold State.writeQue32
  dsimp only
  iterate 3 (split; · simp [h])
  split
  · have hen := safe_after_serviceCommand (c := .queEnable (96 + off / 0x40) (v.getLsbD 0)) rfl h
    split
    · exact safe_after_serviceCommand (c := .queFlush (96 + off / 0x40) t) rfl hen
    · exact hen
  · split
    · exact safe_after_serviceCommand (c := .queWmWrite (96 + off / 0x40) v t) rfl h
    · split
      · exact safe_after_serviceCommand (c := .queCfgWrite (96 + off / 0x40) v t) rfl h
      · simp [h]

theorem safe_writeSnp {s : State} (off : Nat) (v : U32) (t : Nat) (h : LanesSafe s.lanes) :
    LanesSafe (s.writeSnp off v t).lanes := by
  unfold State.writeSnp
  split
  · exact safe_after_serviceCommand (c := .snpTrigGo v t) rfl h
  · split
    · exact safe_after_serviceCommand (c := .snpBankRelease v) rfl h
    · split <;> simp [h]

theorem safe_execPwrReqOn (mask : BitVec 12) (t : Nat) {s : State} (h : LanesSafe s.lanes) :
    SafeOut (execPwrReqOn mask t s) := by
  unfold execPwrReqOn
  split
  · exact (safeOut_fin _).2 (safe_rwl _ _ _ h fun u hu => safe_requestOn u mask hu)
  · simp [h]

theorem safe_execPwrReqOff (mask : BitVec 12) (t : Nat) {s : State} (h : LanesSafe s.lanes) :
    SafeOut (execPwrReqOff mask t s) := by
  unfold execPwrReqOff
  split
  · exact (safeOut_fin _).2 (safe_rwl _ _ _ h fun u hu => safe_requestOff u mask hu)
  · simp [h]

theorem safe_writePwr {s : State} (off : Nat) (v : U32) (t : Nat) (h : LanesSafe s.lanes) :
    LanesSafe (s.writePwr off v t).lanes := by
  unfold State.writePwr
  split
  · split
    · exact safe_after (safe_execPwrReqOff _ _ h) h
    · exact safe_after (safe_execPwrReqOn _ _ h) h
  · split <;> simp [h]

theorem safe_write32 {s : State} (b : Blk) (addr off : Nat) (v : U32) (t : Nat) (h : LanesSafe s.lanes) :
    LanesSafe (s.write32 b addr off v t).lanes := by
  unfold State.write32
  split
  · exact safe_after_serviceCommand (c := .lockKeyWrite b v t) rfl h
  · split
    · simp [h]
    · cases b with
      | ptp => exact safe_writePtp32 _ _ _ h
      | chk =>
        dsimp only
        split
        · exact safe_writeChk32 _ _ _ _ h
        · simp [h]
      | que => exact safe_writeQue32 _ _ _ h
      | snp => exact safe_writeSnp _ _ _ h
      | pwr => exact safe_writePwr _ _ _ h
      | wb | upl | bist | log => simp [h]
      | qla | qlb =>
        dsimp only
        split <;> simp [h]

theorem safe_write64 {s : State} (b : Blk) (off : Nat) (v : U64) (t : Nat) (h : LanesSafe s.lanes) :
    LanesSafe (s.write64 b off v t).lanes := by
  cases b with
  | ptp =>
    simp only [State.write64]
    split
    · exact safe_after_serviceCommand (c := .ptpIncrWrite v) rfl h
    · simp [h]
  | chk => exact safe_writeChk64 _ _ _ _ h
  | que =>
    simp only [State.write64]
    split
    · exact safe_after_serviceCommand (c := .quePush (96 + off / 0x40) (v.setWidth 63)) rfl h
    · simp [h]
  | upl | wb | snp | pwr | bist | log | qla | qlb => simp [State.write64, h]

theorem safe_writeBlk {s : State} (b : Blk) (addr off bits : Nat) (v : U64) (t : Nat) (h : LanesSafe s.lanes) :
    LanesSafe (s.writeBlk b addr off bits v t).lanes := by
  unfold State.writeBlk
  split
  · split
    · exact h
    · exact safe_write32 _ _ _ _ _ h
  · split
    · exact safe_write64 _ _ _ _ h
    · exact safe_write32 _ _ _ _ _ (safe_write32 _ _ _ _ _ h)

theorem safe_execRegisterWrite (addr bits : Nat) (v : U64) (t : Nat) {s : State} (h : LanesSafe s.lanes) :
    SafeOut (execRegisterWrite addr bits v t s) := by
  have h0 : LanesSafe (s.touch t).lanes := h
  unfold execRegisterWrite
  dsimp only
  split
  · simpa using h0
  · split
    · exact (safeOut_fin _).2 h0
    · split
      · exact (safeOut_fin _).2 h0
      · split
        · exact (safeOut_fin _).2 (safe_writeBlk _ _ _ _ _ _ h0)
        · simpa using h0

/-! ### Commands that change views or switches, or run a part of a cycle -/

theorem safe_unpowered (s : State) : LanesSafe s.unpowered.lanes := by
  intro ln
  cases ln <;> exact heldOpen_nil _ _

theorem safe_execDomainPowerDown {s : State} (h : LanesSafe s.lanes) : SafeOut (execDomainPowerDown s) := by
  unfold execDomainPowerDown
  split
  · exact (safeOut_ok _).2 (safe_unpowered s)
  · simpa using h

theorem safe_execDomainPgLoss (d : Domain) {s : State} (h : LanesSafe s.lanes) : SafeOut (execDomainPgLoss d s) := by
  unfold execDomainPgLoss
  split
  · split
    · exact (safeOut_fin _).2 (safe_supplyLoss _ _ _ (safe_cutUnit s _ h))
    · simpa using safe_cutUnit s _ h
    · split
      · exact (safeOut_fin _).2 (safe_unpowered s)
      · split
        · simpa using h
        · split
          · simpa using safe_svcDown _ (safe_cutUnit s 5 h)
          · simpa using h
  · simpa using h

theorem safe_execPowerGood (t offUs : Nat) {s : State} (h : LanesSafe s.lanes) : SafeOut (execPowerGood t offUs s) := by
  unfold execPowerGood
  extract_lets s0 s1
  have h0 : LanesSafe s0.lanes := h
  have h1 : LanesSafe s1.lanes := (safe_applyMarks _).2 (safe_mapLanes fun ln => heldOpen_lane h0 ln)
  split
  · refine (safeOut_ok _).2 (safe_powerOn _ _ ?_)
    simpa using h1
  · exact (safeOut_ok _).2 h0

theorem safe_execInputAgreement (ln : LaneId) {s : State} (h : LanesSafe s.lanes) : SafeOut (execInputAgreement ln s) := by
  unfold execInputAgreement
  extract_lets L L1 s1
  have h1 : LanesSafe s1.lanes := (safe_raiseLaneAll _ ln _).2 (safe_putLane h (by simp [L1, L, h]))
  clear_value s1
  split
  · split
    · exact (safeOut_fin _).2 (safe_excludeAgreed s1 ln _ h1)
    · exact (safeOut_fin _).2 (safe_finishAgreement s1 ln h1)
  · simpa using h

theorem safe_execRepairPayloadRx (ln src : LaneId) (input : Nat) (payload : List Byte) {s : State}
    (h : LanesSafe s.lanes) : SafeOut (execRepairPayloadRx ln src input payload s) := by
  unfold execRepairPayloadRx
  extract_lets L
  split
  · simpa using h
  · split
    · split
      · exact (safeOut_fin _).2 (safe_finishAgreement _ ln (safe_putLane h (heldOpen_lane h ln)))
      · exact (safeOut_fin _).2 (safe_excludeAgreed s ln _ h)
    · simpa using h

theorem safe_execPass1Start (ln : LaneId) {s : State} (h : LanesSafe s.lanes) : SafeOut (execPass1Start ln s) := by
  unfold execPass1Start
  extract_lets s0 L
  have h0 : LanesSafe s0.lanes := safe_ite (fun _ => safe_capture s h) fun _ => h
  clear_value s0
  split
  · split
    · exact (safeOut_fin _).2 (safe_putLane h0 (by simp [L, h0]))
    · exact (safeOut_fin _).2 (safe_excludeAgreed s0 ln _ h0)
  · simpa using h0

theorem safe_execPConsStart (ln : LaneId) {s : State} (h : LanesSafe s.lanes) : SafeOut (execPConsStart ln s) := by
  have closed : ∀ ph, LanesSafe (s.putLane ln { (s.lane ln).closePass.gate with phase := ph }).lanes :=
    fun ph => safe_putLane h (by simp [h])
  have gated : LanesSafe (s.putLane ln (s.lane ln).closePass.gate).lanes := safe_putLane h (by simp [h])
  have recorded : ∀ r ph vec, LanesSafe (s.putLane ln (Lane.holdRec ln r
      { (s.lane ln).closePass.gate with phase := ph, newVec := vec })).lanes :=
    fun r ph vec => safe_putLane h (by simp [h])
  unfold execPConsStart
  extract_lets L0 L s1 s2 vec
  split
  · split
    · split
      · exact (safeOut_fin _).2 (safe_codedFault _ _ _ _ _ _ _ (closed _))
      · exact (safeOut_fin _).2 (closed _)
    · simpa using h
  · split
    · split
      · exact (safeOut_fin _).2 (recorded _ _ _)
      · split
        · exact (safeOut_fin _).2 (safe_codedFault _ _ _ _ _ _ _ gated)
        · split
          · exact (safeOut_fin _).2 (safe_codedFault _ _ _ _ _ _ _ gated)
          · exact (safeOut_fin _).2 (recorded _ _ _)
    · simpa using h

theorem safe_execExchangeDeadline (ln : LaneId) {s : State} (h : LanesSafe s.lanes) :
    SafeOut (execExchangeDeadline ln s) := by
  unfold execExchangeDeadline
  dsimp only
  split
  · refine (safeOut_fin _).2 (safe_foldl _ (fun u src k => ?_) _ _ h)
    (repeat' split) <;> simp [k]
  · simpa using h

theorem safe_execPConsEnd (ln : LaneId) {s : State} (h : LanesSafe s.lanes) : SafeOut (execPConsEnd ln s) := by
  unfold execPConsEnd
  extract_lets L L1
  have h1 : HeldOpen ln L1.views L1.switches := heldOpen_issueVector s.module (heldOpen_lane h ln)
  have hc : LanesSafe s.noteCons.lanes := h
  clear_value L1
  split
  · split
    · exact (safeOut_fin _).2 (safe_codedFault _ _ _ _ _ _ _ (safe_putLane hc h1))
    · refine (safeOut_fin _).2 ((safe_sendCopy _ ln).2 (safe_putLane hc ?_))
      simpa using h1
  · simpa using h

theorem safe_execPSignStart (ln : LaneId) {s : State} (h : LanesSafe s.lanes) : SafeOut (execPSignStart ln s) := by
  have signed : ∀ u : State, LanesSafe u.lanes → LanesSafe (u.updLane ln (fun L => { L with phase := .signed })).lanes :=
    fun u hu => safe_updLane hu (hu ln)
  unfold execPSignStart
  extract_lets L s1 s2
  have h1 : LanesSafe s1.lanes := h
  have h2 : LanesSafe s2.lanes := by
    unfold s2
    split
    · exact h1
    · split
      · exact safe_signLane s1 ln _ h1
      · exact safe_updLane h1 (h1 ln)
  clear_value s2
  split
  · exact (safeOut_ok _).2 (signed s2 h2)
  · split
    · exact (safeOut_ok _).2 (signed _ (safe_shadowSign s ln h))
    · simpa using h

theorem safe_execExclusionNoticeRx (ln src : LaneId) {s : State} (h : LanesSafe s.lanes) :
    SafeOut (execExclusionNoticeRx ln src s) := by
  unfold execExclusionNoticeRx
  split
  · next hc => exact (safeOut_fin _).2 (safe_checkVote _ (safe_updLane h (heldOpen_see hc.1 (heldOpen_lane h ln))))
  · simpa using h

theorem safe_execLaneRestart (ln : LaneId) (t : Nat) (trips : Trips) {s : State} (h : LanesSafe s.lanes) :
    SafeOut (execLaneRestart ln t trips s) := by
  unfold execLaneRestart
  extract_lets s0 s1
  have h0 : LanesSafe s0.lanes := h
  have h1 : LanesSafe s1.lanes := safe_updLane h0 (h0 ln)
  split
  · split
    · split
      · exact (safeOut_fin _).2 (safe_startRejoin _ ln (safe_calibrate s1 ln trips h1))
      · exact (safeOut_fin _).2 h1
    · simpa using h0
  · simpa using h0

theorem safe_execCopyDecision {s : State} (h : LanesSafe s.lanes) : SafeOut (execCopyDecision s) := by
  have clear : ∀ u : State, LanesSafe u.lanes →
      LanesSafe (u.mapLanes (fun _ L => { L with copyRecs := [], copySeals := [] })).lanes :=
    fun u hu => safe_mapLanes fun ln => heldOpen_lane hu ln
  unfold execCopyDecision
  split
  · extract_lets clear2 c transfer cn
    split
    · exact (safeOut_fin _).2 (clear _ h)
    · extract_lets bad s1 c0 s2
      have h1 : LanesSafe s1.lanes := safe_foldl _ (fun u ln k => safe_excludeAgreed u ln _ k) _ _ h
      have h2 : LanesSafe s2.lanes := by
        refine (safe_mapLanes_iff fun ln L => ?_).2 ((safe_followSwitch s1 _).2 h1)
        split <;> simp
      clear_value s2
      refine (safeOut_fin _).2 (clear _ ?_)
      simpa using h2
  · simpa using h

theorem safe_execBatchClose {s : State} (h : LanesSafe s.lanes) : SafeOut (execBatchClose s) := by
  unfold execBatchClose
  split
  · split
    · extract_lets cn copies s1 s2
      have h2 : LanesSafe s2.lanes := safe_foldl _ (fun u c k => safe_forwardCopy u _ _ k) _ _ h
      clear_value s2
      refine (safeOut_ok _).2 (safe_ite (fun _ => ?_) fun _ => h2)
      exact (safe_mapLanes_iff fun ln L => still_takeBatch ln _ _ L).2 h2
    · simpa using h
  · simpa using h

theorem safe_execSafeLinkCopyCheck (ln : LaneId) {s : State} (h : LanesSafe s.lanes) :
    SafeOut (execSafeLinkCopyCheck ln s) := by
  unfold execSafeLinkCopyCheck
  extract_lets L
  split
  · simpa using h
  · split
    · simpa using h
    · extract_lets s1
      have h1 : LanesSafe s1.lanes := safe_putLane h (heldOpen_lane h ln)
      clear_value s1
      split
      · exact (safeOut_ok _).2 (safe_checkCopy s1 ln _ _ _ h1)
      · exact (safeOut_ok _).2 (safe_checkCopy s1 ln _ _ _ h1)
      · exact (safeOut_ok _).2 h1

theorem safe_execEsTask (ln : LaneId) {s : State} (h : LanesSafe s.lanes) : SafeOut (execEsTask ln s) := by
  unfold execEsTask
  split
  · exact (safeOut_ok _).2 (safe_updLane h (heldOpen_esHold (heldOpen_lane h ln)))
  · simpa using h

theorem safe_execPilotStep (core : CoreId) {s : State} (h : LanesSafe s.lanes) : SafeOut (execPilotStep core s) := by
  unfold execPilotStep
  split
  · simpa using safe_issueFetched .l1 core s h
  · simpa using h

theorem safe_execPilotWrite (core : CoreId) (tgt : PilotTarget) (value : Int) {s : State} (h : LanesSafe s.lanes) :
    SafeOut (execPilotWrite core tgt value s) := by
  unfold execPilotWrite
  split
  · simpa using h
  · extract_lets L c
    split
    · split
      · split
        · exact (safeOut_fin _).2 (safe_codedFault s _ _ _ _ _ _ h)
        · next a ha =>
          split
          · exact (safeOut_fin _).2 (safe_codedFault s _ _ _ _ _ _ h)
          · next r hr =>
            have k := (inPass_genTo L .p1 core none a ha).trans (inPass_pilotApply .p1 core a.1 a.2 tgt value r hr)
            have hput : LanesSafe (s.putLane .l1 { r.1 with cores := r.1.cores.set core r.2 }).lanes :=
              safe_putLane h (heldOpen_inPass k (heldOpen_lane h .l1))
            simpa using hput
      · simpa using h
    · simpa using h

theorem exec_safe (c : Instr) {s : State} (h : LanesSafe s.lanes) : SafeOut (exec c s) := by
  cases c with
  -- the Tally instructions and the route engine
  | cadd | csub | cmulk | ccmpEq | ccmpNe | ccmpLt | ccmpLe | band | bor | bnot
  | bsel | ldl | stl | lde | ste | ldi | sto | tmsStart | tmsRestart | tmsCancel | tmx | edg | rrq | brf
  | loopnInit | loopnClose | ckpt | snap | endp =>
    exact (safeOut_fin _).2 (safe_issue _ _ _ _ s (by simp) h)
  | routeSet | routeCancel | routeCheck | irel => exact (safeOut_fin _).2 (safe_runEngine _ _ s h)
  | canFrameRx | txRequestAdmit | frameStart | canFrameEnd | busOffHoldoffEnd | busOffRecovery | busoffLimit
  | tideRowStart | exclusiveWindow | channelModeChange | ptpSyncRx | ptpFollowUpRx | ptpAnnounceRx
  | announceReceiptTimeout | pdelayReqSend | pdelayReqRx | pdelayRespRx | transparentClockForward | logEvent
  | snapRequest | snapinEdge | snapWindowEnd | snapLocalLatch | blackboxFrameWritten | lockKeyWrite | lockRead
  | lockTimeout | queDataRead | quePush | queFlush | queEnable | queWmWrite | queCfgWrite | queErrRead | chkStart
  | chkAbort | chkValueWrite | chkScanEnd | snpTrigGo | snpBankRelease | ptpModeWrite | ptpIncrWrite =>
    exact safeOut_of_serviceCommand rfl h
  | planeNoTick | uplinkGuardian | barred | delayUnknown | laneBodyRx | downlinkSlotOpen | qDynWindowStart
  | dreqSend | drespRx | drespMissing | lineDreqRx | quaylineListenEnd | ncRequestQueue | ncResponseRx
  | lossOfSignal | controllerSyncRx | controllerCoast | controllerSyncLoss | controllerLaunch
  | controllerDownlinkRx | controllerAgeExpiry | rstClear | controllerRestart | controllerDreqRx | controllerDsetRx
  | controllerDnoteRx | controllerBarRx | ident | counters | clrcnt | ncDesigner | farTick | farTickStrobeRx
  | farEndFeedStart | farEndFeedStop | relayRx | relaySlotOpen | copyRx | rollbackHoldClear | autoHandover
  | hawserLost =>
    exact safeOut_of_lineCommand rfl h
  | login | accountUnlock | logout | sessionTimeout | accountCreate | accountRemove | passwordChange | readState
  | readLogbook | readBlackbox | logExport | blackboxExport | signingKeyEnrol | signingKeyRemove | manifestLoad
  | manifestBodyWritten | manifestVerified | manifestStaged | activatePending | firmwareLoad | firmwareActivate
  | onlineChange | restrictiveForce | removeRestrictiveForce | forceValue | removeForcedValue | individualRelease
  | deferTest | handover | pilotBreakpointSet | pilotRead | pilotBreakpointHit | pilotRerun =>
    exact safeOut_of_sessionCommand rfl h
  | powerGood => exact safe_execPowerGood _ _ h
  | inputAgreement => exact safe_execInputAgreement _ h
  | repairPayloadRx => exact safe_execRepairPayloadRx _ _ _ _ h
  | pass1Start => exact safe_execPass1Start _ h
  | pConsStart => exact safe_execPConsStart _ h
  | pConsEnd => exact safe_execPConsEnd _ h
  | pSignStart => exact safe_execPSignStart _ h
  | exclusionNoticeRx => exact safe_execExclusionNoticeRx _ _ h
  | laneRestart => exact safe_execLaneRestart _ _ _ h
  | copyDecision => exact safe_execCopyDecision h
  | batchClose => exact safe_execBatchClose h
  | safeLinkCopyCheck => exact safe_execSafeLinkCopyCheck _ h
  | esTask => exact safe_execEsTask _ h
  | pilotStep => exact safe_execPilotStep _ h
  | domainPowerDown => exact safe_execDomainPowerDown h
  | domainPgLoss => exact safe_execDomainPgLoss _ h
  | exchangeDeadline => exact safe_execExchangeDeadline _ h
  | registerWrite => exact safe_execRegisterWrite _ _ _ _ h
  | pwrReqOn => exact safe_execPwrReqOn _ _ h
  | pwrReqOff => exact safe_execPwrReqOff _ _ h
  | pilotWrite => exact safe_execPilotWrite _ _ _ h
  | laneSupplyLoss => exact (safeOut_fin _).2 (by simp [h])
  | pilotClose => exact (safeOut_fin _).2 (by simp [h])
  -- meanings that end in `fin` on each branch
  | domainPowerGood | domainPgTimeout | bootComplete | bootTimeout | pllLockLoss | agreedTick | wakeDeadline
  | agreementRecordRx | agreementEchoRx | agreeMinorityLimit
  | pass2Start | passBudgetCheck | consensusRecordRx | consensusDecision
  | secondSkipHalt | clxLinkFailure | rejoinChunkRx
  | rejoinFrameStateRx | rejoinComplete | rejoinFailure | rotatingTestStart | testStepEnd | rotatingTestTimeout
  | moduleSyncRx | sealRx | hawserStatusRx | takeover | svcRestart | slotSelect | restartWarm
  | restartCold | enterTest | leaveTest | moduleClose | rejoinCommand | pilotOpen | plannedShutdown
  | bistAbort | shutdownReady =>
    dsimp only [exec, execDomainPowerGood, execDomainPgTimeout, execBootComplete, execBootTimeout, execPllLockLoss,
      execAgreedTick, execWakeDeadline, execAgreementRecordRx, execAgreementEchoRx, 
      execAgreeMinorityLimit, execPass2Start, execPassBudgetCheck,
      execConsensusRecordRx, execConsensusDecision, execSecondSkipHalt,
      execClxLinkFailure, execRejoinChunkRx,
      execRejoinFrameStateRx, execRejoinComplete, execRejoinFailure, execRotatingTestStart, execTestStepEnd,
      execRotatingTestTimeout, execModuleSyncRx, execSealRx, execHawserStatusRx, execTakeover,
      execSvcRestart, execSlotSelect, execRestartWarm, execRestartCold, execEnterTest, execLeaveTest,
      execModuleClose, execRejoinCommand, execPilotOpen, execPlannedShutdown, execBistAbort,
      execShutdownReady]
    (repeat' split) <;> simp [h, -lanes_touch]
  -- meanings that end in `ok` on each branch
  | feedLevelChange | powerFailWarning | tickMarkerRx | wakeRequest | pAgreeStart | uplinkAgeLimit
  | safeLinkAgeExpiry | mirrorRefresh | uplinkTelegramRx | cycleStartNotice | safeLinkFrameRx
  | slCopyExpire | safeLinkSend | slUnsigned | timedLaunch | uplinkFrameRx
  | prpSupervisionSend | svcRecovery | esStuck | esDisc | inputTest | firstMessageLapse | irelEntry
  | bistItemEnd | bistItemOvertime | ibcFail | vliofStageFail | unitselChange | tempHigh =>
    dsimp only [exec, execFeedLevelChange, execPowerFailWarning, execTickMarkerRx, execWakeRequest,
      execPAgreeStart, execUplinkAgeLimit, execSafeLinkAgeExpiry, execMirrorRefresh,
      execUplinkTelegramRx, execCycleStartNotice, execSafeLinkFrameRx, 
      execSlCopyExpire, execSafeLinkSend, execSlUnsigned, execTimedLaunch, execUplinkFrameRx, execPrpSupervisionSend,
      execSvcRecovery, execEsStuck, execEsDisc, execInputTest, execFirstMessageLapse, execIrelEntry,
      execBistItemEnd, execBistItemOvertime, execIbcFail, execVliofStageFail, execUnitselChange, execTempHigh]
    (repeat' split) <;> simp [h, -lanes_touch]
  | comparatorSample =>
    dsimp only [exec, execComparatorSample]
    split <;> simp [h, -lanes_touch]
  -- meanings with branches of both ends
  | tickStrobeRx | switchDecision =>
    dsimp only [exec, execTickStrobeRx, execSwitchDecision]
    (repeat' split) <;> simp [h, -lanes_touch]

/-- Settles O57: a lane's views and switches change together, by the operations that take a lane out of the vote, put it
back or drive its switches, and each of these keeps what the others have left. -/
theorem switchesKept : Obligations.SwitchesKept := by
  unfold Obligations.SwitchesKept
  intro s t hs hstep
  unfold step at hstep
  split at hstep
  · cases hstep
    exact hs
  · next c r _ => exact exec_safe c (s := { s with pending := r }) hs t hstep

end Sys2Proof.SwitchFrame
end

section
/-! ## The coded arithmetic and boolean instructions (R122-R126) -/

namespace Sys2Proof.TallyResults

open Sys2Proof Sys2Proof.Machine Sys2Proof.Laws Sys2Proof.PassFrame

/-! ### What an issuing core sees -/

theorem gives_context (pi : Option Pilot) (core : CoreId) (p : Pass) (L : Lane) :
    Gives (fun t => t.core = core ∧ t.p = p) (L.context pi core p) := by
  unfold Lane.context
  simp

section
variable {s : State} {ln : LaneId} {core : CoreId} {p : Pass}

theorem tctx_p (h : issuing s ln core p) : (tctx s ln core p).p = p :=
  (gives_context _ core p _ _ h.2.1).2

theorem tctx_core (h : issuing s ln core p) : (tctx s ln core p).core = core :=
  (gives_context _ core p _ _ h.2.1).1

end

/-! ### Answers of an instruction's steps -/

@[simp] theorem ok_bind {ε α β : Type} (a : α) (f : α → Except ε β) : ((.ok a : Except ε α) >>= f) = f a := rfl

@[simp] theorem error_bind {ε α β : Type} (e : ε) (f : α → Except ε β) :
    ((.error e : Except ε α) >>= f) = .error e := rfl

@[simp] theorem pure_ok {ε α : Type} (a : α) : (pure a : Except ε α) = .ok a := rfl

/-! ### Register operands -/

theorem checkAll_regs {t : TCtx} {a b : Bool} {r q : BitVec 6} {x y : Int} (hx : regHolds t a r x)
    (hy : regHolds t b q y) :
    checkAll t.p [regChk (t.c.reg a r) t.d, regChk (t.c.reg b q) t.d] = .ok [x, y] :=
  checkAll_cons (checkAll_reg hx) (checkAll_reg hy)

/-- The part of a register's word that codes its value. -/
theorem regHolds_value {t : TCtx} {isP : Bool} {r : BitVec 6} {x : Int} (h : regHolds t isP r x) :
    (t.c.reg isP r).c.toInt - (t.c.reg isP r).tag.toNat - t.d = multA t.p * x := by
  rw [regHolds_toInt h]
  ring

/-! ### CADD, CSUB and CMULK -/

/-- The state of a core that has put `z` under tag B_d into a register, and gone on. -/
theorem encodeWord_eq (p : Pass) (z : Int) (b : U24) (d : Int) :
    encodeWord p z b d = BitVec.ofInt 64 (multA p * z + b.toNat + d) := rfl

section
variable {f : Fields} {t : TCtx} {p : Pass} {x y z : Int} {res : Int → Int → Int → Int → Int → Int → Int}

/-- The sum or difference as the unit forms it from the coded operands is the coded word of `z`. -/
def Forms (f : Fields) (t : TCtx) (res : Int → Int → Int → Int → Int → Int → Int) (z : Int) : Prop :=
  res (t.c.reg false f.src1).c.toInt (t.c.reg false f.src2).c.toInt (t.c.reg false f.src1).tag.toNat
    (t.c.reg false f.src2).tag.toNat t.d (fbd f).toNat = multA t.p * z + (fbd f).toNat + t.d

theorem arithV_ok (hp : t.p = p) (hf : ffld f 24 14 = 0) (hb : fbd f ≠ 0) (hx : regHolds t false f.src1 x)
    (hy : regHolds t false f.src2 y) (hres : Forms f t res z) (hz : inS32 z = true) :
    arithV f res t =
      .ok (t.L, (t.c.writeReg false f.dst (encodeWord p z (fbd f) t.d) (fbd f) z).next) := by
  subst hp
  have hneed : need [decide (ffld f 24 14 = 0), decide (fbd f ≠ 0)] = .ok () := need_ok (by simpa [hf] using hb)
  unfold Forms at hres
  simp only [arithV, hneed, checkAll_regs hx hy, hres, checkAll_one _ _ _ _ _ hz, ok_bind, pure_ok, encodeWord_eq,
    List.headD_cons]

theorem arithV_range (hp : t.p = p) (hf : ffld f 24 14 = 0) (hb : fbd f ≠ 0) (hx : regHolds t false f.src1 x)
    (hy : regHolds t false f.src2 y) (hres : Forms f t res z) (hz : inS32 z = false) :
    arithV f res t = .error ⟨.range, 0, encodeWord p z (fbd f) t.d, fbd f, t.d⟩ := by
  subst hp
  have hneed : need [decide (ffld f 24 14 = 0), decide (fbd f ≠ 0)] = .ok () := need_ok (by simpa [hf] using hb)
  unfold Forms at hres
  simp only [arithV, hneed, checkAll_regs hx hy, hres, checkAll_range _ _ _ _ _ hz, ok_bind, error_bind, encodeWord_eq]

theorem mulk_forms (hx : regHolds t false f.src1 x) (k : Int) :
    k * ((t.c.reg false f.src1).c.toInt - (t.c.reg false f.src1).tag.toNat - t.d) + (fbd f).toNat + t.d =
      multA t.p * (k * x) + (fbd f).toNat + t.d := by
  rw [regHolds_value hx]
  ring

theorem mulk_ok (hp : t.p = p) (hk : toSigned 14 (ffld f 24 14) ≠ 0) (h2 : f.src2 = 0) (hb : fbd f ≠ 0)
    (hx : regHolds t false f.src1 x) (hz : inS32 (toSigned 14 (ffld f 24 14) * x) = true) :
    mulk f t = .ok (t.L, (t.c.writeReg false f.dst (encodeWord p (toSigned 14 (ffld f 24 14) * x) (fbd f) t.d) (fbd f)
      (toSigned 14 (ffld f 24 14) * x)).next) := by
  subst hp
  have hneed : need [decide (toSigned 14 (ffld f 24 14) ≠ 0), decide (f.src2 = 0), decide (fbd f ≠ 0)] = .ok () :=
    need_ok (by simpa [h2] using ⟨hk, hb⟩)
  simp only [mulk, hneed, checkAll_reg hx, mulk_forms hx, checkAll_one _ _ _ _ _ hz, ok_bind, pure_ok, encodeWord_eq,
    List.headD_cons]

theorem mulk_range (hp : t.p = p) (hk : toSigned 14 (ffld f 24 14) ≠ 0) (h2 : f.src2 = 0) (hb : fbd f ≠ 0)
    (hx : regHolds t false f.src1 x) (hz : inS32 (toSigned 14 (ffld f 24 14) * x) = false) :
    mulk f t =
      .error ⟨.range, 0, encodeWord p (toSigned 14 (ffld f 24 14) * x) (fbd f) t.d, fbd f, t.d⟩ := by
  subst hp
  have hneed : need [decide (toSigned 14 (ffld f 24 14) ≠ 0), decide (f.src2 = 0), decide (fbd f ≠ 0)] = .ok () :=
    need_ok (by simpa [h2] using ⟨hk, hb⟩)
  simp only [mulk, hneed, checkAll_reg hx, mulk_forms hx, checkAll_range _ _ _ _ _ hz, ok_bind, error_bind,
    encodeWord_eq]

theorem forms_add (hx : regHolds t false f.src1 x) (hy : regHolds t false f.src2 y) :
    Forms f t (fun c1 c2 t1 t2 d b => c1 + c2 - t1 - t2 - d + b) (x + y) := by
  unfold Forms
  rw [regHolds_toInt hx, regHolds_toInt hy]
  ring

theorem forms_sub (hx : regHolds t false f.src1 x) (hy : regHolds t false f.src2 y) :
    Forms f t (fun c1 c2 t1 t2 d b => c1 - c2 - t1 + t2 + b + d) (x - y) := by
  unfold Forms
  rw [regHolds_toInt hx, regHolds_toInt hy]
  ring

end

/-- Settles O1: each unit forms the coded word of the exact result from the coded operands, and the check of that word
passes or raises RANGE with the 32-bit range. -/
theorem codedArithmeticResult : Obligations.CodedArithmeticResult := by
  refine ⟨fun s ln core p f x y => ?_, fun s ln core p f x y => ?_⟩ <;> intro t hi hb hx <;> have hp := tctx_p hi
  · exact ⟨fun hf hy hz => issue_ok hi (arithV_ok hp hf hb hx hy (forms_add hx hy) hz),
      fun hf hy hz => issue_ok hi (arithV_ok hp hf hb hx hy (forms_sub hx hy) hz),
      fun h2 hk hz => issue_ok hi (mulk_ok hp hk h2 hb hx hz)⟩
  · exact ⟨fun hf hy hz => issue_error hi (arithV_range hp hf hb hx hy (forms_add hx hy) hz),
      fun hf hy hz => issue_error hi (arithV_range hp hf hb hx hy (forms_sub hx hy) hz),
      fun h2 hk hz => issue_error hi (mulk_range hp hk h2 hb hx hz)⟩

/-! ### The compares and the boolean instructions -/

section
variable {f : Fields} {t : TCtx} {p : Pass} {x y z : Int}

/-- A bit of the format that is set asks for a condition. -/
theorem unset_or {a b : Bool} (h : a = true → b = true) : a = false ∨ b = true := by
  cases a
  · exact .inl rfl
  · exact .inr (h rfl)

theorem needBools_one {k : Chk} (tx : isBoolean x) : needBools [(k, x)] = .ok () :=
  needBools_ok fun e he => by rwa [List.mem_singleton.1 he]

theorem needBools_two {k l : Chk} (tx : isBoolean x) (ty : isBoolean y) : needBools [(k, x), (l, y)] = .ok () := by
  refine needBools_ok fun e he => ?_
  rcases List.mem_cons.1 he with rfl | he
  · exact tx
  · rwa [List.mem_singleton.1 he]

theorem compare_ok (hp : t.p = p) (hf : ffld f 24 13 = 0) (hd : fbit f 37 = true → isPX f.dst = true) (hb : fbd f ≠ 0)
    (hx : regHolds t false f.src1 x) (hy : regHolds t false f.src2 y) (rel : Int → Int → Bool) :
    Machine.compare f rel t = .ok (t.L, (t.c.writeReg (fbit f 37) f.dst (encodeWord p (ofBool (rel x y)) (fbd f) t.d) (fbd f)
      (ofBool (rel x y))).next) := by
  subst hp
  have hneed : need [decide (ffld f 24 13 = 0), !fbit f 37 || isPX f.dst, decide (fbd f ≠ 0)] = .ok () :=
    need_ok (by simpa [hf] using ⟨unset_or hd, hb⟩)
  simp only [Machine.compare, hneed, checkAll_regs hx hy, ok_bind, pure_ok, List.headD_cons, List.getD_cons_succ,
    List.getD_cons_zero]

theorem boolFormat_ok {low : Bool} (hl : low = true) (hd : fbit f 37 = true → isPX f.dst = true)
    (h1 : fbit f 36 = true → isPX f.src1 = true) (h2 : fbit f 35 = true → isPX f.src2 = true) (hb : fbd f ≠ 0) :
    boolFormat f low = .ok () :=
  need_ok (by simpa [hl] using ⟨unset_or hd, unset_or h1, unset_or h2, hb⟩)

theorem boolTwo_ok (hp : t.p = p) (hf : boolFormat f (decide (ffld f 24 11 = 0)) = .ok ())
    (hx : regHolds t (fbit f 36) f.src1 x) (hy : regHolds t (fbit f 35) f.src2 y) (tx : isBoolean x) (ty : isBoolean y)
    (pick : Int → Int → Int) :
    boolTwo f pick t = .ok (t.L, (t.c.writeReg (fbit f 37) f.dst (encodeWord p (pick x y) (fbd f) t.d) (fbd f)
      (pick x y)).next) := by
  subst hp
  simp only [boolTwo, hf, checkAll_regs hx hy, ok_bind, pure_ok, List.zip_cons_cons, List.zip_nil_right,
    needBools_two tx ty, List.headD_cons,
    List.getD_cons_succ, List.getD_cons_zero]

/-- The smaller of two truth values is their conjunction (R125). -/
theorem min_isBoolean (tx : isBoolean x) (ty : isBoolean y) :
    min x y = if x = vTrue ∧ y = vTrue then vTrue else vFalse := by
  rcases tx with rfl | rfl <;> rcases ty with rfl | rfl <;> decide

/-- The greater of two truth values is their disjunction (R125). -/
theorem max_isBoolean (tx : isBoolean x) (ty : isBoolean y) :
    max x y = if x = vTrue ∨ y = vTrue then vTrue else vFalse := by
  rcases tx with rfl | rfl <;> rcases ty with rfl | rfl <;> decide

/-- 3FFF less a truth value is the other one (R125). -/
theorem complement_isBoolean (tx : isBoolean x) :
    0x3FFF - x = (if x = vTrue then vFalse else vTrue) ∧ inS32 (0x3FFF - x) = true := by
  rcases tx with rfl | rfl <;> decide

theorem boolNot_ok (hp : t.p = p) (hf : boolFormat f (decide (ffld f 24 12 = 0) && decide (f.src2 = 0)) = .ok ())
    (hx : regHolds t (fbit f 36) f.src1 x) (tx : isBoolean x) :
    boolNot f t = .ok (t.L, (t.c.writeReg (fbit f 37) f.dst
      (encodeWord p (if x = vTrue then vFalse else vTrue) (fbd f) t.d) (fbd f)
      (if x = vTrue then vFalse else vTrue)).next) := by
  subst hp
  obtain ⟨hz, hs⟩ := complement_isBoolean tx
  have forms : multA t.p * 0x3FFF - ((t.c.reg (fbit f 36) f.src1).c.toInt - (t.c.reg (fbit f 36) f.src1).tag.toNat - t.d)
      + (fbd f).toNat + t.d = multA t.p * (0x3FFF - x) + (fbd f).toNat + t.d := by
    rw [regHolds_value hx]
    ring
  rw [← hz]
  simp only [boolNot, hf, checkAll_reg hx, ok_bind, pure_ok, List.zip_cons_cons, List.zip_nil_right,
    needBools_one tx, forms, checkAll_one _ _ _ _ _ hs, List.headD_cons,
    encodeWord_eq]

theorem ffld_lt (f : Fields) (lo n : Nat) : ffld f lo n < 2 ^ n := Nat.mod_lt _ (Nat.two_pow_pos n)

theorem boolSel_ok (hp : t.p = p) (hf : boolFormat f (decide (ffld f 24 8 = 0)) = .ok ())
    (hx : regHolds t (fbit f 36) f.src1 x) (hy : regHolds t (fbit f 35) f.src2 y)
    (hz : regHolds t true (BitVec.ofNat 6 (ffld f 32 3)) z) (bz : isBoolean z) (b1 : fbit f 36 = true → isBoolean x)
    (b2 : fbit f 35 = true → isBoolean y) (bd : fbit f 37 = true → isBoolean (if z = vTrue then x else y)) :
    boolSel f t = .ok (t.L, (t.c.writeReg (fbit f 37) f.dst
      (encodeWord p (if z = vTrue then x else y) (fbd f) t.d) (fbd f) (if z = vTrue then x else y)).next) := by
  subst hp
  have sel : Tbl.get ({} : VReg) t.c.p (ffld f 32 3) = t.c.reg true (BitVec.ofNat 6 (ffld f 32 3)) := by
    have := ffld_lt f 32 3
    simp only [Core.reg, if_true, BitVec.toNat_ofNat, Nat.mod_eq_of_lt (show ffld f 32 3 < 2 ^ 6 by omega)]
  have hregs := checkAll_cons (checkAll_reg hx) (checkAll_regs hy hz)
  have hbools : ∀ w, needBools ((if fbit f 36 then [(regChk (t.c.reg (fbit f 36) f.src1) t.d, x)] else []) ++
      (if fbit f 35 then [(regChk (t.c.reg (fbit f 35) f.src2) t.d, y)] else []) ++
      [(regChk (t.c.reg true (BitVec.ofNat 6 (ffld f 32 3))) t.d, z)] ++
      (if fbit f 37 then [(w, if z = vTrue then x else y)] else [])) = .ok () := by
    refine fun w => needBools_ok fun k hk => ?_
    simp only [List.mem_append, List.mem_ite_nil_right, List.mem_singleton] at hk
    rcases hk with ((⟨h, rfl⟩ | ⟨h, rfl⟩) | rfl) | ⟨h, rfl⟩
    · exact b1 h
    · exact b2 h
    · exact bz
    · exact bd h
  simp only [boolSel, hf, sel, hregs, ok_bind, pure_ok, List.headD_cons, List.getD_cons_succ, List.getD_cons_zero, hbools]

end

/-- Settles O2: the compares decide the relation of the checked operands; of truth values the smaller is their
conjunction, the greater their disjunction, and 3FFF less one the other. -/
theorem compareAndBooleanResult : Obligations.CompareAndBooleanResult := by
  refine ⟨fun s ln core p f x y => ?_, fun s ln core p f x y z => ?_⟩ <;> intro t after hi hb <;> have hp := tctx_p hi
  · intro hf hd hx hy
    have run := fun rel => issue_ok (n := 2) hi (compare_ok hp hf hd hb hx hy rel)
    exact ⟨run _, run _, run _, run _⟩
  · intro hd h1 h2 hx
    have fmt : ∀ low : Bool, low = true → boolFormat f low = .ok () := fun low hl => boolFormat_ok hl hd h1 h2 hb
    refine ⟨fun hf hy tx ty => ⟨?_, ?_⟩, fun hf hs tx => ?_, fun hf hy hz bz b1 b2 bd => ?_⟩
    · rw [← min_isBoolean tx ty]
      exact issue_ok hi (boolTwo_ok hp (fmt _ (by simp [hf])) hx hy tx ty min)
    · rw [← max_isBoolean tx ty]
      exact issue_ok hi (boolTwo_ok hp (fmt _ (by simp [hf])) hx hy tx ty max)
    · exact issue_ok hi (boolNot_ok hp (fmt _ (by simp [hf, hs])) hx tx)
    · exact issue_ok hi (boolSel_ok hp (fmt _ (by simp [hf])) hx hy hz bz b1 b2 bd)

end Sys2Proof.TallyResults
end

section
/-! ## While SVC is up, events leave the lanes alone -/

namespace Sys2Proof.SvcUp

open Sys2Proof Sys2Proof.Machine Sys2Proof.Laws

theorem lanes_raiseLane {s : State} (h : s.uplink.up = true) (ln : LaneId) (c : LogClass) (n : EventName) (x : List Int) :
    (s.raiseLane ln c n x).lanes = s.lanes := by
  simp [State.raiseLane, h]

theorem lanes_raiseModule {s : State} (h : s.uplink.up = true) (c : LogClass) (n : EventName) (x : List Int) :
    (s.raiseModule c n x).lanes = s.lanes := by
  simp [State.raiseModule, h]

theorem lanes_settle {s : State} (h : s.uplink.up = true) : s.settle.lanes = s.lanes := by
  unfold State.settle
  dsimp only
  split <;> simp [lanes_raiseModule h]

theorem lane_settle {s : State} (h : s.uplink.up = true) (m : LaneId) : s.settle.lane m = s.lane m :=
  congrArg (fun T => T.get m) (lanes_settle h)

/-- What a core leaves of its lane when it retires an instruction. -/
theorem lane_retired_self {s : State} (h : s.uplink.up = true) (ln : LaneId) (core : CoreId) (pc n : Nat) (L : Lane)
    (c : Core) :
    (retired s ln core pc n L c).lane ln =
      { L with cores := L.cores.set core { c with clk := c.clk + n, occ := Tbl.upd 0 c.occ pc (· + 1) } } :=
  (lane_settle (by exact h) ln).trans (lane_putLane_self s ln _)

theorem lane_retired_ne {s : State} (h : s.uplink.up = true) {ln m : LaneId} (core : CoreId) (pc n : Nat) (L : Lane)
    (c : Core) (hm : m ≠ ln) : (retired s ln core pc n L c).lane m = s.lane m :=
  (lane_settle (by exact h) m).trans (lane_putLane_ne s _ hm)

end Sys2Proof.SvcUp
end

section
/-! ## Loads and stores (R130-R132) -/

namespace Sys2Proof.TallyResults

open Sys2Proof Sys2Proof.Machine Sys2Proof.Laws Sys2Proof.PassFrame

/-! ### Words of a copy -/

section
variable (L : Lane) (p : Pass) (key : Nat) (w : Coded)

@[simp] theorem word_setWord_self : (L.setWord p key w).word p key = w := by
  cases p <;> simp [Lane.setWord, Lane.word]

theorem word_setWord_ne {q : Pass} {k : Nat} (h : q ≠ p ∨ k ≠ key) : (L.setWord p key w).word q k = L.word q k := by
  have get := fun T (hk : k ≠ key) => Tbl_get_set_ne (0 : Coded) T w hk
  cases p <;> cases q <;> simp_all [Lane.setWord, Lane.word]

@[simp] theorem word_store_self (req clk : Nat) : (L.store p key w req clk).word p key = w :=
  word_setWord_self _ p key w

theorem word_store_ne (req clk : Nat) {q : Pass} {k : Nat} (h : q ≠ p ∨ k ≠ key) :
    (L.store p key w req clk).word q k = L.word q k :=
  word_setWord_ne _ p key w h

@[simp] theorem sig_setWord (k : Nat) : (L.setWord p key w).sig k = L.sig k := by
  cases p <;> rfl

@[simp] theorem sig_store (req clk k : Nat) : (L.store p key w req clk).sig k = L.sig k := sig_setWord _ p key w k

@[simp] theorem word_correctWords (q : Pass) (keys : List Nat) (k : Nat) :
    (L.correctWords q keys).word p k = L.word p k := rfl

@[simp] theorem sig_correctWords (keys : List Nat) (k : Nat) : (L.correctWords p keys).sig k = L.sig k := rfl

end

/-! ### Loads -/

section
variable {f : Fields} {t : TCtx} {p : Pass} {x : Int} {sp : Space} {a : Nat}

theorem load_ok (hp : t.p = p) {altOk : Bool} (halt : altOk = true ∨ fbit f 35 = false) (h3 : ffld f 32 3 = 0)
    (h1 : f.src1 = 0) (ha : addrFormat f = true) (hd : fbit f 37 = true → isPX f.dst = true ∧ t.c.counts f.dst = false)
    (hr : resolve t sp f = .ok a) (hw : wordHolds t 0 (flatKey sp a) x) :
    load f sp altOk t = .ok (t.corrected [flatKey sp a],
      (if fbit f 37 then t.c.writeX f.dst x
       else t.c.writeReg false f.dst (encodeWord p x (t.L.sig (flatKey sp a)).b t.d) (t.L.sig (flatKey sp a)).b x).next) := by
  subst hp
  have hx : (!fbit f 37 || (isPX f.dst && !t.c.counts f.dst)) = true := by
    cases h : fbit f 37
    · rfl
    · simp [hd h]
  have hneed : need [altOk || !fbit f 35, decide (ffld f 32 3 = 0), decide (f.src1 = 0),
      !fbit f 37 || (isPX f.dst && !t.c.counts f.dst), addrFormat f] = .ok () :=
    need_ok (by simpa [h3, h1, ha] using ⟨halt, by simpa using hx⟩)
  have hb : (memChk t (flatKey sp a) 0).b = (t.L.sig (flatKey sp a)).b := rfl
  simp only [load, hneed, hr, hw.1, wordHolds_chk hw, hb, ok_bind, pure_ok, List.headD_cons]
  split <;> rfl

end

/-- Settles O3: every load is `load` at its space, and a word that holds a value passes the check with it. -/
theorem loadResult : Obligations.LoadResult := by
  intro s ln core p f sp a x t key after hi h3 h1 ha hd hr hw
  have hp := tctx_p hi
  refine ⟨fun hs => ?_, fun hs => ?_, fun hs h35 => ?_⟩
  · subst hs
    exact issue_ok hi (load_ok hp (.inl rfl) h3 h1 ha hd hr hw)
  · subst hs
    exact issue_ok hi (load_ok hp (.inl rfl) h3 h1 ha hd hr hw)
  · subst hs
    exact issue_ok hi (load_ok hp (.inr h35) h3 h1 ha hd hr hw)

/-! ### Stores -/

/-- The format and the address of a store, and the configured destination word, meet their conditions. -/
structure StoreAt (f : Fields) (t : TCtx) (sp : Space) (a off : Nat) : Prop where
  format : need [!fbit f 37, decide (ffld f 32 2 = 0), decide (f.dst = 0), !fbit f 34 || isPX f.src1, addrFormat f] =
    .ok ()
  address : resolve t sp f = .ok a
  ready : wordReady t off (flatKey sp a) = .ok ()

/-- The source register of a store carries the destination's B, and codes `x` under it. -/
structure SourceFits (f : Fields) (t : TCtx) (sp : Space) (a : Nat) (x : Int) : Prop where
  range : inS32 x = true
  tag : (t.c.reg (fbit f 34) f.src1).tag = (t.L.sig (flatKey sp a)).b
  word : (t.c.reg (fbit f 34) f.src1).c = encodeWord t.p x (t.L.sig (flatKey sp a)).b t.d

section
variable {f : Fields} {t : TCtx} {sp : Space} {a off : Nat} {x : Int} {bf frame : Bool}

theorem storeAt (h37 : fbit f 37 = false) (h32 : ffld f 32 2 = 0) (hd : f.dst = 0) (ha : addrFormat f = true)
    (hs : fbit f 34 = true → isPX f.src1 = true) (hr : resolve t sp f = .ok a)
    (hw : wordReady t off (flatKey sp a) = .ok ()) : StoreAt f t sp a off :=
  ⟨need_ok (by simpa [h37, h32, hd, ha] using unset_or hs), hr, hw⟩

theorem storeSource_ok (h : SourceFits f t sp a x) :
    storeSource t (t.c.reg (fbit f 34) f.src1) (t.L.sig (flatKey sp a)).b off = .ok x := by
  have hx := (inS32_iff x).1 h.range
  have hc : (t.c.reg (fbit f 34) f.src1).c.toInt = multA t.p * x + (t.L.sig (flatKey sp a)).b.toNat + t.d := by
    rw [h.word]
    exact encodeWord_toInt _ _ _ _ (by omega) ⟨stamp_nonneg _, stamp_lt _⟩
  simp [storeSource, h.tag, hc, checkAll_one _ _ _ _ _ h.range]

theorem storeSource_code {r : VReg} {b : U24} (h : r.tag ≠ b) : storeSource t r b off = .error ⟨.code, off, r.c, b, t.d⟩ := by
  simp [storeSource, h, Chk.fault, throw, throwThe, MonadExceptOf.throw]

/-- A store up to its owner check: the source fits, and is a boolean where one is asked for. -/
theorem storeTo_checked (hat : StoreAt f t sp a off) (hsrc : SourceFits f t sp a x) (hb : bf = true → isBoolean x) :
    storeTo f sp bf frame off t =
      if sp = .k ∨ sp = .t ∨ (frame = true ∧ a % 32 = 0) then .error (t.L.wordFault t.p off (flatKey sp a) .owner)
      else storeReady t off 1 [flatKey sp a] >>= fun _ =>
        .ok (storePlain t (t.corrected [flatKey sp a]) (flatKey sp a) x off, t.c.next) := by
  have hbool : bf = true → ∀ k : Chk, needBools [(k, x)] = .ok () := fun h k => needBools_one (hb h)
  simp only [storeTo, hat.format, hat.address, hat.ready, storeSource_ok hsrc, ok_bind, pure_ok]
  cases bf with
  | false => split <;> simp_all [throw, throwThe, MonadExceptOf.throw]
  | true =>
    simp only [hbool rfl, if_true, ok_bind]
    split <;> simp_all [throw, throwThe, MonadExceptOf.throw]

theorem storeTo_ok (hat : StoreAt f t sp a off) (hsrc : SourceFits f t sp a x) (hb : bf = true → isBoolean x)
    (hown : ¬ (sp = .k ∨ sp = .t ∨ (frame = true ∧ a % 32 = 0))) (hr : storeReady t off 1 [flatKey sp a] = .ok ()) :
    storeTo f sp bf frame off t = .ok (storePlain t (t.corrected [flatKey sp a]) (flatKey sp a) x off, t.c.next) := by
  rw [storeTo_checked hat hsrc hb, if_neg hown, hr, ok_bind]

theorem storeTo_owner (hat : StoreAt f t sp a off) (hsrc : SourceFits f t sp a x) (hb : bf = true → isBoolean x)
    (hown : sp = .k ∨ sp = .t ∨ (frame = true ∧ a % 32 = 0)) :
    storeTo f sp bf frame off t = .error (t.L.wordFault t.p off (flatKey sp a) .owner) := by
  rw [storeTo_checked hat hsrc hb, if_pos hown]

theorem storeTo_code (hat : StoreAt f t sp a off)
    (htag : (t.c.reg (fbit f 34) f.src1).tag ≠ (t.L.sig (flatKey sp a)).b) :
    storeTo f sp bf frame off t =
      .error ⟨.code, off, (t.c.reg (fbit f 34) f.src1).c, (t.L.sig (flatKey sp a)).b, t.d⟩ := by
  simp only [storeTo, hat.format, hat.address, hat.ready, storeSource_code htag, ok_bind, error_bind]

end

/-- A store of a pass changes one word of the pass's own copy. -/
theorem word_storePlain {t : TCtx} {p : Pass} (hp : t.p = p) (key off : Nat) (x : Int) :
    (storePlain t (t.corrected [key]) key x off).word p key = encodeWord p x (t.L.sig key).b 0 ∧
      ∀ q k, q ≠ p ∨ k ≠ key → (storePlain t (t.corrected [key]) key x off).word q k = t.L.word q k := by
  subst hp
  exact ⟨word_store_self .., fun _ _ h => word_store_ne _ _ _ _ _ _ h⟩

theorem word_retired {s : State} (h : s.uplink.up = true) (ln : LaneId) (core : CoreId) (pc n : Nat) (L : Lane) (c : Core)
    (q : Pass) (k : Nat) : ((retired s ln core pc n L c).lane ln).word q k = L.word q k := by
  rw [SvcUp.lane_retired_self h]
  rfl

/-- The forms of a store that write: the space and the offset of each. -/
def Writes (i : Instr) (ln : LaneId) (core : CoreId) (f : Fields) (sp : Space) (a off : Nat) (x : Int) : Prop :=
  i = .stl ln core f ∧ sp = .l ∧ fbit f 35 = false ∧ off = 1 ∨
  i = .ste ln core f ∧ sp = .e ∧ fbit f 35 = false ∧ off = 2 ∨
  i = .sto ln core f ∧ sp = .o ∧ off = 2 ∧ (fbit f 35 = true → isBoolean x) ∧ a % 32 ≠ 0

theorem store_retires {s : State} {ln : LaneId} {core : CoreId} {p : Pass} {f : Fields} {sp : Space} {a off : Nat}
    {x : Int} {i : Instr} (hw : Writes i ln core f sp a off x) (hi : issuing s ln core p)
    (hat : StoreAt f (tctx s ln core p) sp a off) (hsrc : SourceFits f (tctx s ln core p) sp a x)
    (hr : storeReady (tctx s ln core p) off 1 [flatKey sp a] = .ok ()) :
    ∃ n, exec i s = .next (retired s ln core (tctx s ln core p).c.pc n
      (storePlain (tctx s ln core p) ((tctx s ln core p).corrected [flatKey sp a]) (flatKey sp a) x off)
      (tctx s ln core p).c.next) := by
  rcases hw with ⟨rfl, rfl, h35, rfl⟩ | ⟨rfl, rfl, h35, rfl⟩ | ⟨rfl, rfl, rfl, hb, hne⟩
  · exact ⟨2, issue_ok hi (by rw [h35]; exact storeTo_ok hat hsrc (by simp) (by simp) hr)⟩
  · exact ⟨3, issue_ok hi (by rw [h35]; exact storeTo_ok hat hsrc (by simp) (by simp) hr)⟩
  · exact ⟨3, issue_ok hi (storeTo_ok hat hsrc hb (by simp [hne]) hr)⟩

/-- Settles O4: every store is `storeTo` at its space, and what it retires writes one word. -/
theorem storeResult : Obligations.StoreResult := by
  refine ⟨fun s ln core p f sp a off x => ?_, fun s ln core p f sp a off x i => ?_⟩
  · intro t key r after fault hi h37 h32 hd ha hs hr hw hx
    have hp : t.p = p := tctx_p hi
    have hat : StoreAt f t sp a off := storeAt h37 h32 hd ha hs hr hw
    refine ⟨fun htag hc => ?_, fun htag => ?_⟩
    · have hsrc : SourceFits f t sp a x := ⟨hx, htag, hp.symm ▸ hc⟩
      refine ⟨fun hready => ⟨fun hsp h35 ho => ?_, fun hsp h35 ho => ?_, fun hsp ho hb hne => ?_⟩, fun hsp h35 ho => ?_,
        fun hsp h35 ho => ?_, fun hsp ho hb heq => ?_⟩
      all_goals subst hsp ho
      · exact issue_ok hi (by rw [h35]; exact storeTo_ok hat hsrc (by simp) (by simp) hready)
      · exact issue_ok hi (by rw [h35]; exact storeTo_ok hat hsrc (by simp) (by simp) hready)
      · exact issue_ok hi (storeTo_ok hat hsrc hb (by simp [hne]) hready)
      all_goals rw [← hp] at *
      · exact issue_error hi (by rw [h35]; exact storeTo_owner hat hsrc (by simp) (by simp))
      · exact issue_error hi (by rw [h35]; exact storeTo_owner hat hsrc (by simp) (by simp))
      · exact issue_error hi (storeTo_owner hat hsrc hb (by simp [heq]))
    · refine ⟨fun hsp ho => ?_, fun hsp ho => ?_, fun hsp ho => ?_⟩
      all_goals subst hsp ho; exact issue_error hi (storeTo_code hat htag)
  · intro t key r hwr hi h37 h32 hd ha hs hr hw hx htag hc hready hup
    have hp : t.p = p := tctx_p hi
    obtain ⟨n, hexec⟩ := store_retires hwr hi (storeAt h37 h32 hd ha hs hr hw) ⟨hx, htag, hp.symm ▸ hc⟩ hready
    obtain ⟨hself, hother⟩ := word_storePlain hp key off x
    exact ⟨_, hexec, (word_retired hup ..).trans hself, fun q k hk => (word_retired hup ..).trans (hother q k hk),
      fun m hm => SvcUp.lane_retired_ne hup _ _ _ _ _ hm⟩

end Sys2Proof.TallyResults
end

section
/-! ## What an instruction sees, and the faults before it (R492, R108, R115, R58) -/

namespace Sys2Proof.TallyContext

open Sys2Proof Sys2Proof.Machine Sys2Proof.Laws Sys2Proof.TallyResults

/-- Every Tally command is an issue of its core. -/
theorem exec_tallyForms {ln : LaneId} {core : CoreId} {f : Fields} {i : Instr} (h : i ∈ tallyForms ln core f) :
    ∃ n body, ∀ s, exec i s = fin (issue ln core n body s) := by
  simp only [tallyForms, List.mem_cons, List.not_mem_nil, or_false] at h
  rcases h with rfl | rfl | rfl | rfl | rfl | rfl | rfl | rfl | rfl | rfl | rfl | rfl | rfl | rfl | rfl | rfl | rfl |
    rfl | rfl | rfl | rfl | rfl | rfl | rfl | rfl | rfl | rfl | rfl | rfl <;> exact ⟨_, _, fun _ => rfl⟩

section
variable {s : State} {ln : LaneId} {core : CoreId} {p : Pass} {n : Nat} {body : TCtx → TRes} {e : TFault}

theorem issue_context_fault (hi : (s.lane ln).issues core = some p)
    (hc : (s.lane ln).context (s.pilotOf ln) core p = .error e) :
    issue ln core n body s =
      s.codedFault ln core.idx p ((s.lane ln).cores.get core).pc ((s.lane ln).cores.get core).clk e := by
  simp [issue, hi, hc]

theorem issue_fetch_fault {t : TCtx} (hi : (s.lane ln).issues core = some p)
    (hc : (s.lane ln).context (s.pilotOf ln) core p = .ok t) (hf : fetchReady t = .error e) :
    issue ln core n body s = s.codedFault ln core.idx p t.c.pc t.c.clk e := by
  simp [issue, hi, hc, hf]

end

/-- Once the generated code of its partition has run, a core goes straight to its program (R492). -/
theorem genTo_done {L : Lane} {m : Manifest} {core : CoreId} (p : Pass) (hm : L.image = some m)
    (hg : (genList m core).length ≤ (L.cores.get core).gen) :
    L.genTo p core none = .ok (L, L.cores.get core) := by
  unfold Lane.genTo
  rw [hm]
  dsimp only
  rw [List.drop_eq_nil_of_le hg]
  split <;> rfl

theorem context_plain {L : Lane} {m : Manifest} {core : CoreId} (p : Pass) (hm : L.image = some m)
    (hg : (genList m core).length ≤ (L.cores.get core).gen) :
    L.context none core p =
      .ok ⟨L.correct [softCode (core.idx * 262144 + (L.cores.get core).pc)], core, p, L.cores.get core⟩ := by
  simp [Lane.context, genTo_done p hm hg]

/-- Settles O5: every Tally command is `issue`, whose first steps are the context and the fetch. -/
theorem instructionContext : Obligations.InstructionContext := by
  intro s ln core p m f t e L
  refine ⟨fun hm hg hpi => ?_, fun i hi => ?_⟩
  · have hctx : L.context (s.pilotOf ln) core p =
        .ok ⟨L.correct [softCode (core.idx * 262144 + (L.cores.get core).pc)], core, p, L.cores.get core⟩ :=
      hpi ▸ context_plain p hm hg
    refine ⟨hctx, fun q k => ?_⟩
    have ht := (context_tctx (by rw [hctx]; rfl)).symm.trans hctx
    rw [Except.ok.inj ht]
    rfl
  · obtain ⟨n, body, hexec⟩ := exec_tallyForms hi
    refine ⟨fun hs hc => ?_, fun hs hc hf => ?_, fun hs => ?_⟩ <;> rw [hexec, fin]
    · rw [issue_context_fault hs hc]
    · rw [issue_fetch_fault hs hc hf]
    · rw [issue_gated n body hs]

end Sys2Proof.TallyContext
end

section
/-! ## Timers, edge detectors and route requests (R133-R140) -/

namespace Sys2Proof.TallyResults

open Sys2Proof Sys2Proof.Machine Sys2Proof.Laws Sys2Proof.PassFrame

theorem ofBool_decide (q : Prop) [Decidable q] : ofBool (decide q) = if q then vTrue else vFalse := by
  by_cases h : q <;> simp [ofBool, h]

/-! ### Timer words -/

theorem ready_cons {L : Lane} {p : Pass} {off k : Nat} {ks : List Nat} (h1 : L.ready p off [k] = .ok ())
    (h2 : L.ready p off ks = .ok ()) : L.ready p off (k :: ks) = .ok () := by
  simp only [Lane.ready, List.find?_cons, List.find?_nil] at *
  cases hb : decide ((L.sig k).b = 0) <;> simp only [hb] at *
  · cases hd : L.damagedWord p k <;> simp only [hd] at *
    · exact h2
    · cases h1
  · cases h1

section
variable {f : Fields} {t : TCtx} {p : Pass} {a : Nat} {st ex d : Int}

theorem timerAddr_ok (h2 : a % 2 = 0) (ha : a < 32768) : timerAddr a = .ok () := if_pos ⟨h2, ha⟩

theorem timerWords_ok {more : List Chk} {xs : List Int} (h0 : wordHolds t 0 (flatKey .m a) st)
    (h1 : wordHolds t 0 (flatKey .m (a + 1)) ex) (hm : checkAll t.p more = .ok xs) :
    timerWords t a more = .ok (st :: ex :: xs) := by
  have hready : t.L.ready t.p 0 [flatKey .m a, flatKey .m (a + 1)] = .ok () := ready_cons h0.1 h1.1
  simp only [timerWords, hready, ok_bind]
  exact checkAll_cons (wordHolds_chk h0) (checkAll_cons (wordHolds_chk h1) hm)

theorem tmsResult_start (cn : U32) : tmsResult .start cn st ex ([d].headD 0) =
    if st = 1 then (st, ex) else if d ≤ 0 then (2, cn.toInt) else (1, (cn + BitVec.ofInt 32 d).toInt) := rfl

theorem tmsResult_restart (cn : U32) : tmsResult .restart cn st ex ([d].headD 0) =
    if d ≤ 0 then (2, cn.toInt) else (1, (cn + BitVec.ofInt 32 d).toInt) := rfl

theorem tmsResult_cancel (cn : U32) : tmsResult .cancel cn st ex d = (0, ex) := rfl

/-- What a TMS leaves: both words of the timer, coded for the pass. -/
def timerLeft (t : TCtx) (a : Nat) (r : Int × Int) : Lane :=
  storePlain t (storePlain t (t.corrected [flatKey .m a, flatKey .m (a + 1)]) (flatKey .m a) r.1 1)
    (flatKey .m (a + 1)) r.2 1

theorem tms_ok {m : TmsMode} {xs : List Int} (h37 : fbit f 37 = false) (h32 : ffld f 32 2 = 0) (hd : f.dst = 0)
    (hsrc : m = .cancel → f.src1 = 0) (hf : addrFormat f = true) (hr : resolve t .m f = .ok a)
    (haddr : timerAddr a = .ok ()) (h0 : wordHolds t 0 (flatKey .m a) st) (h1 : wordHolds t 0 (flatKey .m (a + 1)) ex)
    (hready : storeReady t 1 2 [flatKey .m a, flatKey .m (a + 1)] = .ok ())
    (hm : checkAll t.p (if m = .cancel then [] else [regChk (t.c.reg false f.src1) t.d]) = .ok xs) :
    tms f m t = .ok (timerLeft t a (tmsResult m t.L.cn st ex (xs.headD 0)), t.c.next) := by
  have hneed : need [!fbit f 37, decide (ffld f 32 2 = 0), decide (f.dst = 0),
      decide (m ≠ .cancel) || decide (f.src1 = 0), addrFormat f] = .ok () := by
    refine need_ok ?_
    cases m <;> simp [h37, h32, hd, hf, hsrc]
  simp only [tms, hneed, hr, haddr, timerWords_ok h0 h1 hm, hready, ok_bind, pure_ok, List.headD_cons,
    List.getD_cons_succ, List.getD_cons_zero]
  cases xs <;> rfl

theorem tmxOp_ok (hp : t.p = p) (h32 : ffld f 32 4 = 0) (hs : f.src1 = 0) (hd : fbit f 37 = true → isPX f.dst = true)
    (hf : addrFormat f = true) (hr : resolve t .m f = .ok a) (haddr : timerAddr a = .ok ())
    (h0 : wordHolds t 0 (flatKey .m a) st) (h1 : wordHolds t 0 (flatKey .m (a + 1)) ex)
    (hready : storeReady t 2 1 [flatKey .m a] = .ok ()) :
    tmxOp f t = .ok (storePlain t (t.corrected [flatKey .m a, flatKey .m (a + 1)]) (flatKey .m a)
        (tmxState t.L.cn st ex) 2,
      (t.c.writeReg (fbit f 37) f.dst
        (encodeWord p (ofBool (decide (tmxState t.L.cn st ex = 2))) (t.L.sig (flatKey .m a)).b t.d)
        (t.L.sig (flatKey .m a)).b (ofBool (decide (tmxState t.L.cn st ex = 2)))).next) := by
  subst hp
  have hneed : need [decide (ffld f 32 4 = 0), decide (f.src1 = 0), !fbit f 37 || isPX f.dst, addrFormat f] = .ok () :=
    need_ok (by simpa [h32, hs, hf] using unset_or hd)
  have hnil : checkAll t.p [] = .ok [] := rfl
  simp only [tmxOp, hneed, hr, haddr, timerWords_ok h0 h1 hnil, hready, ok_bind, pure_ok, List.headD_cons,
    List.getD_cons_succ, List.getD_cons_zero]

end

/-! ### Edge detectors -/

section
variable {f : Fields} {t : TCtx} {p : Pass} {a : Nat} {old x : Int}

theorem edgeOp_ok (hp : t.p = p) (h34 : ffld f 34 2 ≠ 3) (h32 : fbit f 32 = false)
    (hd : fbit f 37 = true → isPX f.dst = true) (hs : fbit f 33 = true → isPX f.src1 = true) (hf : addrFormat f = true)
    (hr : resolve t .m f = .ok a) (ha : 32768 ≤ a) (hw : wordHolds t 0 (flatKey .m a) old) (bo : isBoolean old)
    (hx : regHolds t (fbit f 33) f.src1 x) (tx : isBoolean x) (hready : storeReady t 2 1 [flatKey .m a] = .ok ()) :
    edgeOp f t = .ok (storePlain t (t.corrected [flatKey .m a]) (flatKey .m a) x 2,
      (t.c.writeReg (fbit f 37) f.dst
        (encodeWord p (ofBool (edgeResult (ffld f 34 2) old x)) (t.L.sig (flatKey .m a)).b t.d)
        (t.L.sig (flatKey .m a)).b (ofBool (edgeResult (ffld f 34 2) old x))).next) := by
  subst hp
  have hneed : need [decide (ffld f 34 2 ≠ 3), !fbit f 32, !fbit f 37 || isPX f.dst, !fbit f 33 || isPX f.src1,
      addrFormat f] = .ok () := need_ok (by simpa [h34, h32, hf] using ⟨unset_or hd, unset_or hs⟩)
  simp only [edgeOp, hneed, hr, if_neg (Nat.not_lt.2 ha), hw.1, checkAll_cons (checkAll_reg hx) (wordHolds_chk hw),
    List.zip_cons_cons, List.zip_nil_right, needBools_two tx bo, hready, ok_bind, pure_ok, List.headD_cons,
    List.getD_cons_succ, List.getD_cons_zero]

/-- The edge of Table 4.8 for a MODE in use. -/
theorem edgeResult_iff {mode : Nat} (hm : mode < 3) :
    edgeResult mode old x = true ↔
      old ≠ x ∧ (mode = 0 ∧ x = vTrue ∨ mode = 1 ∧ x = vFalse ∨ mode = 2) := by
  interval_cases mode <;> simp [edgeResult]

end

/-! ### Route requests -/

section
variable {f : Fields} {t : TCtx} {r : Int}

theorem requestRoute_ok {k kind : Nat} (hb : (t.L.sig (keyRoute k 0)).b ≠ 0)
    (hpar : (t.L.sig (keyRoute k 0)).parityOk = true) (hecc : t.L.eccSig.contains (keyRoute k 0) = false)
    (hacc : t.L.route.accepted < 256) :
    requestRoute t 0 k kind t.L = .ok { t.L.correct [softSig (keyRoute k 0)] with
      route := { t.L.route with
        queue := enqueue ⟨t.core.idx, t.c.pc, k, kind, t.c.clk + 2⟩ t.L.route.queue
        accepted := t.L.route.accepted + 1, gated := false } } := by
  have hroute : (t.L.correct [softSig (keyRoute k 0)]).route = t.L.route := rfl
  simp only [requestRoute, if_neg hb, hpar, hecc, Bool.not_true, Bool.or_false, if_neg Bool.false_ne_true,
    acceptReq, hroute, if_pos hacc, Nat.add_zero]

theorem rrqOp_ok {L : Lane} (h32 : ffld f 32 5 = 0) (h13 : ffld f 13 15 = 0) (hk : ffld f 28 4 < 3) (hd : f.dst = 0)
    (h2 : f.src2 = 0)
    (hr : if fbit f 37 then f.src1 = 0 ∧ r = (ffld f 0 13 : Int) else ffld f 0 13 = 0 ∧ regHolds t false f.src1 r)
    (h0 : 0 ≤ r) (h1 : r ≤ 8191) (hreq : requestRoute t 0 r.toNat (ffld f 28 4) t.L = .ok L) :
    rrqOp f t = .ok (L, t.c.next) := by
  have hneed : need [decide (ffld f 32 5 = 0), decide (ffld f 13 15 = 0), decide (ffld f 28 4 < 3), decide (f.dst = 0),
      decide (f.src2 = 0), if fbit f 37 then decide (f.src1 = 0) else decide (ffld f 0 13 = 0)] = .ok () := by
    refine need_ok ?_
    cases h : fbit f 37 <;> simp_all
  have hroute : (if fbit f 37 then .ok [(ffld f 0 13 : Int)] else checkAll t.p [regChk (t.c.reg false f.src1) t.d]) =
      .ok [r] := by
    cases h : fbit f 37
    · simp only [h, if_neg Bool.false_ne_true] at hr ⊢
      exact checkAll_reg hr.2
    · simp only [h, if_true] at hr ⊢
      rw [hr.2]
  have hrange : ¬ (r < 0 ∨ 8191 < r) := by omega
  simp only [rrqOp, hneed, hroute, ok_bind, List.headD_cons, if_neg hrange, pure_ok, hreq]

end

/-- Settles O6: TMS and TMX read both words of the timer and write what Tables 4.7 and R135 give, EDG stores its input
and answers Table 4.8, and RRQ enters the queue of the route engine. -/
theorem timerEdgeAndRouteRequest : Obligations.TimerEdgeAndRouteRequest := by
  refine ⟨fun s ln core p f a st ex d => ?_, fun s ln core p f a old x r => ?_⟩
  · intro t k0 k1 set after hi hf hr h2 ha h0 h1
    have hp : t.p = p := tctx_p hi
    have haddr := timerAddr_ok h2 ha
    refine ⟨fun h37 h32 hd hready hx => ⟨?_, ?_⟩, fun h37 h32 hd hs hready => ?_, fun h32 hs hd hready => ?_⟩
    · have hrun := tms_ok (m := .start) h37 h32 hd nofun hf hr haddr h0 h1 hready (checkAll_reg hx)
      rw [tmsResult_start] at hrun
      exact issue_ok hi hrun
    · have hrun := tms_ok (m := .restart) h37 h32 hd nofun hf hr haddr h0 h1 hready (checkAll_reg hx)
      rw [tmsResult_restart] at hrun
      exact issue_ok hi hrun
    · have hrun := tms_ok (m := .cancel) h37 h32 hd (fun _ => hs) hf hr haddr h0 h1 hready (xs := []) rfl
      rw [tmsResult_cancel] at hrun
      exact issue_ok hi hrun
    · intro st' v
      have hv : v = ofBool (decide (tmxState t.L.cn st ex = 2)) := (ofBool_decide _).symm
      rw [hv]
      exact issue_ok hi (tmxOp_ok hp h32 hs hd hf hr haddr h0 h1 hready)
  · intro t key hi
    have hp : t.p = p := tctx_p hi
    refine ⟨fun h34 h32 hd hs hf hr ha hw bo hx tx hready => ?_, fun h32 h13 hk hd h2 hr h0 h1 hb hpar hecc hacc => ?_⟩
    · intro edge
      have hmode : ffld f 34 2 < 3 := by
        have := ffld_lt f 34 2
        omega
      have hedge : edgeResult (ffld f 34 2) old x = true ↔ edge := edgeResult_iff hmode
      refine ⟨_, ?_, issue_ok hi (edgeOp_ok hp h34 h32 hd hs hf hr ha hw bo hx tx hready)⟩
      cases h : edgeResult (ffld f 34 2) old x
      · exact .inr ⟨fun he => by simp [hedge.2 he] at h, rfl⟩
      · exact .inl ⟨hedge.1 h, rfl⟩
    · have hreq := requestRoute_ok (t := t) (kind := ffld f 28 4) hb hpar hecc hacc
      rw [show t.core = core from tctx_core hi] at hreq
      exact issue_ok hi (rrqOp_ok h32 h13 hk hd h2 hr h0 h1 hreq)

end Sys2Proof.TallyResults
end

section
/-! ## Flow and pass control (R141-R148, R104, R105) -/

namespace Sys2Proof.TallyResults

open Sys2Proof Sys2Proof.Machine Sys2Proof.Laws Sys2Proof.PassFrame

section
variable {f : Fields} {t : TCtx} {p : Pass}

theorem innerOk_of {c : Core} {ok : Nat → Bool} (h : ∀ k, c.innerClose = some k → ok k = true) : innerOk c ok = true := by
  unfold innerOk
  cases hk : c.innerClose with
  | none => rfl
  | some k => exact h k hk

theorem vFalse_not_true : isTrue vFalse = false := rfl

/-! ### Branches and counted loops -/

theorem brfOp_ok {x : Int} (h18 : ffld f 18 18 = 0) (hd : f.dst = 0) (h2 : f.src2 = 0) (hlo : t.c.pc < ffld f 0 18)
    (hhi : ffld f 0 18 < t.codeLen) (hin : ∀ k, t.c.innerClose = some k → ffld f 0 18 ≤ k)
    (hx : if fbit f 37 then f.src1 = 0 ∧ fbit f 36 = false
      else (fbit f 36 = true → isPX f.src1 = true) ∧ regHolds t (fbit f 36) f.src1 x ∧ isBoolean x) :
    brfOp f t = .ok (t.L, if fbit f 37 = true ∨ x = vFalse then { t.c with pc := ffld f 0 18 } else t.c.next) := by
  have hinner := innerOk_of (ok := fun k => decide (ffld f 0 18 ≤ k)) fun k hk => decide_eq_true (hin k hk)
  cases h : fbit f 37
  · rw [h, if_neg Bool.false_ne_true] at hx
    obtain ⟨hp, hr, hb⟩ := hx
    have hneed : need [decide (ffld f 18 18 = 0), decide (f.dst = 0), decide (f.src2 = 0),
        !fbit f 36 || isPX f.src1, decide (t.c.pc < ffld f 0 18), decide (ffld f 0 18 < t.codeLen),
        innerOk t.c (fun k => decide (ffld f 0 18 ≤ k))] = .ok () :=
      need_ok (by simpa [h18, hd, h2, hlo, hhi, hinner] using unset_or hp)
    simp only [brfOp, h, if_neg Bool.false_ne_true, hneed, checkAll_reg hr, List.zip_cons_cons, List.zip_nil_right,
      needBools_one hb, ok_bind, pure_ok, List.headD_cons]
    rcases hb with rfl | rfl <;> rfl
  · rw [h, if_pos rfl] at hx
    have hneed : need [decide (ffld f 18 18 = 0), decide (f.dst = 0), decide (f.src2 = 0),
        decide (f.src1 = 0) && !fbit f 36, decide (t.c.pc < ffld f 0 18), decide (ffld f 0 18 < t.codeLen),
        innerOk t.c (fun k => decide (ffld f 0 18 ≤ k))] = .ok () :=
      need_ok (by simp [h18, hd, h2, hlo, hhi, hinner, hx.1, hx.2])
    simp only [brfOp, h, if_true, hneed, ok_bind, pure_ok, true_or]

theorem loopInit_ok (h34 : ffld f 34 3 = 0) (hd : isPX f.dst = true) (h1 : f.src1 = 0) (h2 : f.src2 = 0)
    (hlo : t.c.pc < ffld f 0 18) (hin : ∀ k, t.c.innerClose = some k → ffld f 0 18 < k) (hlen : t.c.loops.length < 4)
    (hfree : t.c.counts f.dst = false) :
    loopInit f t = .ok (t.L, Core.next { t.c.writeX f.dst 0 with
      loops := ⟨t.c.pc + 1, ffld f 0 18, f.dst.toNat, ffld f 18 16⟩ :: t.c.loops }) := by
  have hinner := innerOk_of (ok := fun k => decide (ffld f 0 18 < k)) fun k hk => decide_eq_true (hin k hk)
  have hneed : need [decide (ffld f 34 3 = 0), isPX f.dst, decide (f.src1 = 0), decide (f.src2 = 0),
      decide (t.c.pc < ffld f 0 18), innerOk t.c (fun k => decide (ffld f 0 18 < k)),
      decide (t.c.loops.length < 4), !t.c.counts f.dst] = .ok () :=
    need_ok (by simp [h34, hd, h1, h2, hlo, hinner, hlen, hfree])
  simp only [loopInit, hneed, ok_bind, pure_ok]
  rfl

theorem loopClose_ok {e : LoopEntry} {rest : List LoopEntry} (h34 : ffld f 34 3 = 0) (hd : isPX f.dst = true)
    (h1 : f.src1 = 0) (h2 : f.src2 = 0) (hl : t.c.loops = e :: rest) (hc : e.close = t.c.pc)
    (hk : e.counter = f.dst.toNat) (hb : e.bound = ffld f 18 16) (hs : e.start = ffld f 0 18)
    (hpar : (Tbl.get ({} : XReg) t.c.x f.dst.toNat).parityOk = true)
    (hw : (Tbl.get ({} : XReg) t.c.x f.dst.toNat).written = true) :
    let n := (Tbl.get ({} : XReg) t.c.x f.dst.toNat).val.toInt + 1
    loopClose f t = .ok (t.L, if n ≤ e.bound then { t.c.writeX f.dst n with pc := e.start }
      else Core.next { t.c.writeX f.dst n with loops := rest }) := by
  intro n
  have hform : need [decide (ffld f 34 3 = 0), isPX f.dst, decide (f.src1 = 0), decide (f.src2 = 0)] = .ok () :=
    need_ok (by simp [h34, hd, h1, h2])
  have hentry : need [decide (e.close = t.c.pc), decide (e.counter = f.dst.toNat), decide (e.bound = ffld f 18 16),
      decide (e.start = ffld f 0 18)] = .ok () := need_ok (by simp [hc, hk, hb, hs])
  simp only [loopClose, hform, hl, hentry, hpar, hw, ok_bind, pure_ok, Bool.not_true, Bool.or_self,
    if_neg Bool.false_ne_true]
  exact (apply_ite (fun c => Except.ok (t.L, c)) _ _ _).symm

/-! ### Checkpoints and snapshots -/

theorem noRegs_of (hd : f.dst = 0) (h1 : f.src1 = 0) (h2 : f.src2 = 0) : noRegs f = true := by
  simp [noRegs, hd, h1, h2]

section
variable {h : PartHdr}

theorem ckpt_format (hn : noRegs f = true) (h6 : ffld f 6 32 = 0) (hk : ffld f 0 6 < h.ckpts) (hl : t.c.loops = []) :
    need [noRegs f, decide (ffld f 6 32 = 0), decide (ffld f 0 6 < h.ckpts), t.c.loops.isEmpty] = .ok () :=
  need_ok (by simp [hn, h6, hk, hl])

variable (hn : noRegs f = true) (h6 : ffld f 6 32 = 0) (hpart : t.L.part t.core = some h) (hk : ffld f 0 6 < h.ckpts)
  (hl : t.c.loops = [])
include hn h6 hpart hk hl

theorem ckptOp_pass1 (hp : t.p = .p1) (hslot : Tbl.get none t.c.ckptSlots (ffld f 0 6) = none) :
    ckptOp f t = .ok (t.L, Core.next { t.c with
      ckptSlots := Tbl.set none t.c.ckptSlots (ffld f 0 6) (some t.c.sg), ckptCount := t.c.ckptCount + 1 }) := by
  simp only [ckptOp, hpart, ckpt_format hn h6 hk hl, ok_bind, hp, hslot, Option.isSome_none, if_neg Bool.false_ne_true, pure_ok]

theorem ckptOp_pass2 (hp : t.p = .p2) (hslot : Tbl.get none t.c.ckptSlots (ffld f 0 6) = some t.c.sg) :
    ckptOp f t = .ok (t.L, Core.next { t.c with ckptCount := t.c.ckptCount + 1 }) := by
  simp only [ckptOp, hpart, ckpt_format hn h6 hk hl, ok_bind, hp, hslot, ne_eq, not_true_eq_false, if_false, pure_ok]

theorem ckptOp_differs (hp : t.p = .p2) (hslot : Tbl.get none t.c.ckptSlots (ffld f 0 6) ≠ some t.c.sg) :
    ckptOp f t = .error { cause := .ckpt } := by
  simp only [ckptOp, hpart, ckpt_format hn h6 hk hl, ok_bind, hp, if_pos hslot]
  rfl

end

theorem snapOp_first (hn : noRegs f = true) (h16 : ffld f 16 22 = 0) (hp : t.p = .p1) (hs : t.L.snapTally = none) :
    snapOp f t = .ok ({ t.L with snapTally := some (t.c.clk, t.core.idx, t.c.pc, ffld f 0 16), snapUnacked := true },
      t.c.next) := by
  have hneed : need [noRegs f, decide (ffld f 16 22 = 0)] = .ok () := need_ok (by simp [hn, h16])
  simp only [snapOp, hneed, hp, hs, ok_bind, if_true, pure_ok]

theorem snapOp_pass2 (hn : noRegs f = true) (h16 : ffld f 16 22 = 0) (hp : t.p = .p2) :
    snapOp f t = .ok (t.L, t.c.next) := by
  have hneed : need [noRegs f, decide (ffld f 16 22 = 0)] = .ok () := need_ok (by simp [hn, h16])
  simp only [snapOp, hneed, hp, ok_bind, pure_ok]

/-! ### The end of a pass -/

section
variable {M : Lane} {c : Core}

theorem endp_format (hn : noRegs f = true) (ho : f.opnd = 0) (hl : t.c.loops = []) :
    need [noRegs f, decide (f.opnd = 0), t.c.loops.isEmpty] = .ok () := need_ok (by simp [hn, ho, hl])

variable (hn : noRegs f = true) (ho : f.opnd = 0) (hl : t.c.loops = []) (hrun : presentRun t = .ok (M, c))
include hn ho hl hrun

theorem endpOp_pass1 (hp : t.p = .p1) :
    let fed := c.feed 0x50 ((c.clk + 16 : Nat) : Int)
    endpOp f t =
      .ok (M, { fed with finalSg := fed.sg, endp := true, running := false, ckptPass1 := fed.ckptCount }) := by
  simp only [endpOp, endp_format hn ho hl, hrun, hp, ok_bind, pure_ok]

theorem endpOp_pass2 (hp : t.p = .p2) (hc : c.ckptCount = c.ckptPass1) :
    let fed := c.feed 0x50 ((c.clk + 16 : Nat) : Int)
    endpOp f t = .ok (M, { fed with finalSg := fed.sg, endp := true, running := false }) := by
  simp only [endpOp, endp_format hn ho hl, hrun, hp, hc, ok_bind, pure_ok, ne_eq, not_true_eq_false, if_false]

end

end

/-- Settles O7: each flow instruction of a core at work retires with what its operation answers, or takes the lane out
where pass 2 meets another signature at a checkpoint. -/
theorem flowAndPassControlResult : Obligations.FlowAndPassControlResult := by
  refine ⟨fun s ln core p f x e rest => ?_, fun s ln core p f h M c => ?_⟩
  · intro t target hi
    refine ⟨fun h18 hd h2 hlo hhi hin hx => issue_ok hi (brfOp_ok h18 hd h2 hlo hhi hin hx),
      fun h34 hd h1 h2 hlo hin hlen hfree => issue_ok hi (loopInit_ok h34 hd h1 h2 hlo hin hlen hfree),
      fun h34 hd h1 h2 hl hc hk hb hs => ?_⟩
    intro xr hpar hw n
    exact issue_ok hi (loopClose_ok h34 hd h1 h2 hl hc hk hb hs hpar hw)
  · intro t k hi hd h1 h2
    have hp : t.p = p := tctx_p hi
    have hcore : t.core = core := tctx_core hi
    have hn := noRegs_of hd h1 h2
    refine ⟨fun h6 hpart hk hl => ?_, fun h16 => ⟨fun hp1 hs => ?_, fun hp2 => ?_⟩, fun ho hl hrun hcount => ?_⟩
    · rw [← hcore] at hpart
      exact ⟨fun hp1 hslot => issue_ok hi (ckptOp_pass1 hn h6 hpart hk hl (hp.trans hp1) hslot),
        fun hp2 hslot => issue_ok hi (ckptOp_pass2 hn h6 hpart hk hl (hp.trans hp2) hslot),
        fun hp2 hslot => issue_error hi (ckptOp_differs hn h6 hpart hk hl (hp.trans hp2) hslot)⟩
    · have hfirst := snapOp_first hn h16 (hp.trans hp1) hs
      rw [hcore] at hfirst
      exact issue_ok hi hfirst
    · exact issue_ok hi (snapOp_pass2 hn h16 (hp.trans hp2))
    · intro fed
      cases p with
      | p1 => exact issue_ok hi (endpOp_pass1 hn ho hl hrun hp)
      | p2 => exact issue_ok hi (endpOp_pass2 hn ho hl hrun hp (hcount rfl))

end Sys2Proof.TallyResults
end

section
/-! ## Exclusion, notices and the loss of the vote (R107, R210, R216)

What an exclusion does to each lane: the lane leaves the vote, every lane IN-VOTE sees it leave, and events never touch
more than a lane's held events. -/

namespace Sys2Proof.VoteRules

open Sys2Proof Sys2Proof.Machine Sys2Proof.Laws Sys2Proof.SvcUp

/-! ### Events -/

/-- A property of a lane that the events it holds do not touch. -/
def HoldFree (P : Lane → Prop) : Prop := ∀ L e, P L → P (L.hold e)

section
variable {P : Lane → Prop} {s : State} {m : LaneId}

theorem lane_raiseLane_ne (s : State) {ln m : LaneId} (c : LogClass) (n : EventName) (x : List Int) (h : m ≠ ln) :
    (s.raiseLane ln c n x).lane m = s.lane m := by
  unfold State.raiseLane
  split
  · exact lane_raise ..
  · exact lane_updLane_ne s _ h

theorem raiseLane_of (hP : HoldFree P) (ln : LaneId) (c : LogClass) (n : EventName) (x : List Int) (h : P (s.lane m)) :
    P ((s.raiseLane ln c n x).lane m) := by
  unfold State.raiseLane
  split
  · rwa [lane_raise]
  · by_cases hm : m = ln
    · subst hm
      rw [lane_updLane_self]
      exact hP _ _ h
    · rwa [lane_updLane_ne s _ hm]

theorem raiseModule_of (hP : HoldFree P) (c : LogClass) (n : EventName) (x : List Int) (h : P (s.lane m)) :
    P ((s.raiseModule c n x).lane m) := by
  unfold State.raiseModule
  split
  · rwa [lane_raise]
  · by_cases hm : m = s.lead
    · subst hm
      rw [lane_updLane_self]
      exact hP _ _ h
    · rwa [lane_updLane_ne s _ hm]

theorem settle_of (hP : HoldFree P) (h : P (s.lane m)) : P (s.settle.lane m) := by
  unfold State.settle
  dsimp only
  split
  · exact h
  · exact raiseModule_of hP _ _ _ h

end

theorem hold_views (L : Lane) (e : Event) : (L.hold e).views = L.views := by
  unfold Lane.hold
  split <;> rfl

theorem holdFree_view (m : LaneId) (v : LaneState) : HoldFree (fun L => L.views.get m = v) := by
  intro L e h
  exact (congrArg (fun V => V.get m) (hold_views L e)).trans h

/-- The state of every lane, as each lane holds its own, stays with an event. -/
theorem laneState_raiseLane (s : State) (ln : LaneId) (c : LogClass) (n : EventName) (x : List Int) (m : LaneId) :
    (s.raiseLane ln c n x).laneState m = s.laneState m :=
  raiseLane_of (holdFree_view m _) ln c n x rfl

theorem laneState_settle (s : State) (m : LaneId) : s.settle.laneState m = s.laneState m :=
  settle_of (holdFree_view m _) rfl

theorem voters_of_laneState {s t : State} (h : ∀ m, t.laneState m = s.laneState m) : t.voters = s.voters := by
  have hv : t.votes = s.votes := funext fun m => by simp [State.votes, h m]
  simp only [State.voters, hv]

theorem votes_iff (s : State) (m : LaneId) : s.votes m = true ↔ s.laneState m = .inVote := by simp [State.votes]

theorem mem_voters (s : State) (m : LaneId) : m ∈ s.voters ↔ s.laneState m = .inVote := by
  cases m <;> simp [State.voters, LaneId.all, votes_iff]

theorem voters_eq_all {s : State} (h : s.voters.length = 3) : s.voters = [.l1, .l2, .l3] := by
  have hsub : s.voters.Sublist LaneId.all := List.filter_sublist
  exact hsub.eq_of_length h

theorem inVote_of_three {s : State} (h : s.voters.length = 3) (m : LaneId) : s.laneState m = .inVote := by
  rw [← mem_voters, voters_eq_all h]
  cases m <;> simp

/-! ### A lane that leaves the vote -/

/-- What `leftVote` says of the lane alone. -/
def LaneOut (ln : LaneId) (c : Cause) (L : Lane) : Prop :=
  L.views.get ln = .outFault ∧ L.cause = c ∧ L.switches = [] ∧ L.pass = none ∧ L.route.gated = true ∧
  ∀ k, (L.cores.get k).running = false

theorem leftVote_iff (u : State) (ln : LaneId) (c : Cause) : leftVote u ln c ↔ LaneOut ln c (u.lane ln) := Iff.rfl

theorem holdFree_laneOut (ln : LaneId) (c : Cause) : HoldFree (LaneOut ln c) := by
  intro L e h
  unfold Lane.hold
  split <;> exact h

@[simp] theorem Quad_get_map {α β : Type} (q : Quad α) (f : α → β) (k : CoreId) : (q.map f).get k = f (q.get k) := by
  cases k <;> rfl

/-- A gated lane runs no core, no route engine and no pass. -/
theorem gate_off (L : Lane) : L.gate.pass = none ∧ L.gate.route.gated = true ∧
    ∀ k, (L.gate.cores.get k).running = false :=
  ⟨rfl, rfl, fun k => by simp [Lane.gate]⟩

theorem latchX_frame (L : Lane) : L.latchX = { L with xbank := L.latchX.xbank, xmissed := L.latchX.xmissed } := by
  unfold Lane.latchX
  split <;> rfl

theorem laneOut_leave (ln : LaneId) (c : Cause) (now : Nat) (L : Lane) : LaneOut ln c (Lane.leave ln c now L) := by
  obtain ⟨hpass, hroute, hcores⟩ := gate_off L
  unfold Lane.leave
  rw [latchX_frame]
  exact ⟨Tri_get_set_self _ _ _, rfl, rfl, hpass, hroute, hcores⟩

theorem lane_endTest (s : State) (ln m : LaneId) : (s.endTest ln).lane m = s.lane m := by
  unfold State.endTest
  split <;> rfl

/-- The states of a lane that may be excluded (Table 7.2). -/
def excludable : LaneState → Bool
  | .inVote => true | .outTest => true | .rejoining => true
  | .outFault => false | .laneOff => false

section
variable {s : State} {ln : LaneId}

theorem exclude_eq (c : Cause) (ht : s.testing = false) (h : excludable (s.laneState ln) = true) :
    s.exclude ln c =
      ((s.updLane ln (Lane.leave ln c s.now)).raiseLane ln .fault .exclusion [ln.num, causeCode c]).endTest ln := by
  unfold State.exclude
  rw [ht, if_neg Bool.false_ne_true]
  cases hs : s.laneState ln with
  | inVote => rfl
  | outTest => rfl
  | rejoining => rfl
  | outFault => simp [hs, excludable] at h
  | laneOff => simp [hs, excludable] at h

theorem lane_exclude_ne (s : State) {ln m : LaneId} (c : Cause) (h : m ≠ ln) : (s.exclude ln c).lane m = s.lane m := by
  have out : (((s.updLane ln (Lane.leave ln c s.now)).raiseLane ln .fault .exclusion
      [ln.num, causeCode c]).endTest ln).lane m = s.lane m := by
    rw [lane_endTest, lane_raiseLane_ne _ _ _ _ h, lane_updLane_ne s _ h]
  unfold State.exclude
  cases s.testing with
  | true => rfl
  | false =>
    cases s.laneState ln with
    | inVote => exact out
    | outTest => exact out
    | rejoining => exact out
    | outFault => rfl
    | laneOff => rfl

theorem exclude_of {P : Lane → Prop} (hP : HoldFree P) (c : Cause) (ht : s.testing = false)
    (h : excludable (s.laneState ln) = true) (hl : P (Lane.leave ln c s.now (s.lane ln))) : P ((s.exclude ln c).lane ln) := by
  rw [exclude_eq c ht h, lane_endTest]
  refine raiseLane_of hP _ _ _ _ ?_
  rwa [lane_updLane_self]

theorem laneOut_exclude (c : Cause) (ht : s.testing = false) (h : excludable (s.laneState ln) = true) :
    LaneOut ln c ((s.exclude ln c).lane ln) :=
  exclude_of (holdFree_laneOut ln c) c ht h (laneOut_leave ln c s.now _)

/-- An exclusion leaves the states of the other lanes. -/
theorem laneState_exclude_ne (s : State) {ln m : LaneId} (c : Cause) (h : m ≠ ln) :
    (s.exclude ln c).laneState m = s.laneState m := by
  unfold State.laneState
  rw [lane_exclude_ne s c h]

end

/-! ### Lanes that see it leave -/

theorem see_views (me src : LaneId) (L : Lane) : (Lane.see me src L).views = L.views.set src .outFault := by
  unfold Lane.see
  split
  · next h => cases src <;> simp only [Tri.get] at h <;> simp only [Tri.set, ← h]
  · rw [latchX_frame]
    rfl

theorem see_of_out {me src : LaneId} {L : Lane} (h : L.views.get src = .outFault) : Lane.see me src L = L := if_pos h

theorem see_see (me src : LaneId) (L : Lane) : Lane.see me src (Lane.see me src L) = Lane.see me src L :=
  see_of_out (by rw [see_views, Tri_get_set_self])

theorem see_self_state (me src : LaneId) (L : Lane) (h : me ≠ src) :
    (Lane.see me src L).views.get me = L.views.get me := by
  rw [see_views, Tri_get_set_ne _ _ h]

theorem lane_seeFold (src : LaneId) (xs : List LaneId) (s : State) (m : LaneId) :
    (xs.foldl (fun s ln => if ln = src then s else s.updLane ln (Lane.see ln src)) s).lane m =
      if m ≠ src ∧ m ∈ xs then Lane.see m src (s.lane m) else s.lane m := by
  induction xs generalizing s with
  | nil => simp
  | cons x xs ih =>
    rw [List.foldl_cons, ih]
    by_cases hx : x = src
    · rw [if_pos hx]
      have : (m ≠ src ∧ m ∈ x :: xs) ↔ (m ≠ src ∧ m ∈ xs) := by grind
      simp only [this]
    · rw [if_neg hx]
      by_cases hm : m = x
      · subst hm
        simp [hx, see_see]
      · rw [lane_updLane_ne s _ hm]
        simp [hm]

theorem lane_seenByVoters (s : State) (src m : LaneId) :
    (s.seenByVoters src).lane m =
      if m ≠ src ∧ s.laneState m = .inVote then Lane.see m src (s.lane m) else s.lane m := by
  unfold State.seenByVoters
  rw [lane_seeFold]
  simp only [mem_voters]

theorem lane_seenByVoters_self (s : State) (src : LaneId) : (s.seenByVoters src).lane src = s.lane src := by
  rw [lane_seenByVoters, if_neg (by simp)]

theorem laneOut_excludeAgreed {s : State} {ln : LaneId} (c : Cause) (ht : s.testing = false)
    (h : excludable (s.laneState ln) = true) : LaneOut ln c ((s.excludeAgreed ln c).lane ln) := by
  unfold State.excludeAgreed
  rw [lane_seenByVoters_self]
  exact laneOut_exclude c ht h

/-- What the other lanes hold after an exclusion the lanes decide. -/
theorem lane_excludeAgreed_ne (s : State) {ln m : LaneId} (c : Cause) (h : m ≠ ln) :
    (s.excludeAgreed ln c).lane m =
      if s.laneState m = .inVote then Lane.see m ln (s.lane m) else s.lane m := by
  unfold State.excludeAgreed
  rw [lane_seenByVoters, laneState_exclude_ne s c h, lane_exclude_ne s c h]
  simp [h]

theorem laneState_excludeAgreed_ne (s : State) {ln m : LaneId} (c : Cause) (h : m ≠ ln) :
    (s.excludeAgreed ln c).laneState m = s.laneState m := by
  unfold State.laneState
  rw [lane_excludeAgreed_ne s c h]
  split
  · exact see_self_state m ln _ h
  · rfl

theorem leftVote_settle {u : State} {ln : LaneId} {c : Cause} (h : leftVote u ln c) : leftVote u.settle ln c :=
  settle_of (holdFree_laneOut ln c) h

theorem leftVote_fin {u : State} {ln : LaneId} {c : Cause} (h : LaneOut ln c (u.lane ln)) :
    ∃ v, fin u = .next v ∧ leftVote v ln c := ⟨_, rfl, leftVote_settle h⟩

theorem excludable_inVote {s : State} {ln : LaneId} (h : s.laneState ln = .inVote) :
    excludable (s.laneState ln) = true := by rw [h]; rfl

theorem excludable_of_active {s : State} {ln : LaneId} (h : (s.lane ln).active ln = true) :
    excludable (s.laneState ln) = true := by
  unfold Lane.active at h
  unfold State.laneState
  cases hv : (s.lane ln).views.get ln <;> rw [hv] at h <;> simp_all [excludable]

/-! ### The third lane -/

theorem thirdLane_spec {a b t : LaneId} (h : thirdLane a b = some t) : t ≠ a ∧ t ≠ b := by
  simpa using List.find?_some h

end Sys2Proof.VoteRules
end

section
/-! ## Agreement of the inputs (R200-R204, R279, R302, R418) -/

namespace Sys2Proof.AgreeRules

open Sys2Proof Sys2Proof.Machine Sys2Proof.Laws Sys2Proof.SvcUp Sys2Proof.VoteRules
open Sys2Proof.VoteFlag (foldl_preserves)

/-! ### Tables of records -/

theorem getSome_set {α : Type} [DecidableEq α] (t : Tbl (Option α)) (k i : Nat) (v : Option α) (hv : v.isSome = true)
    (h : i = k ∨ (Tbl.get none t i).isSome = true) : (Tbl.get none (Tbl.set none t k v) i).isSome = true := by
  by_cases hi : i = k
  · subst hi
    rwa [Tbl_get_set_self]
  · rw [Tbl_get_set_ne _ _ _ hi]
    exact h.resolve_left hi

theorem getSome_fold {α : Type} [DecidableEq α] (l : List (Nat × Option α)) (hl : ∀ e ∈ l, e.2.isSome = true) (i : Nat)
    (t : Tbl (Option α)) (h : i ∈ l.map (·.1) ∨ (Tbl.get none t i).isSome = true) :
    (Tbl.get none (l.foldl (fun t e => t.set none e.1 e.2) t) i).isSome = true := by
  induction l generalizing t with
  | nil => simpa using h
  | cons e l ih =>
    rw [List.foldl_cons]
    refine ih (fun x hx => hl x (List.mem_cons_of_mem _ hx)) _ ?_
    have he := hl e (by simp)
    rcases h with h | h
    · rcases List.mem_cons.1 h with h | h
      · exact .inr (getSome_set t _ _ _ he (.inl h))
      · exact .inl h
    · exact .inr (getSome_set t _ _ _ he (.inr h))

/-- A table listed from entries that are all present holds one under each of their keys. -/
theorem getSome_ofList {α : Type} [DecidableEq α] {l : List (Nat × Option α)} (hl : ∀ e ∈ l, e.2.isSome = true) {i : Nat}
    (h : i ∈ l.map (·.1)) : (Tbl.get none (Tbl.ofList none l) i).isSome = true := getSome_fold l hl i [] (.inl h)

/-! ### The opening of P-AGREE -/

/-- A lane but for the counts of its comparisons. -/
def uncounted (L : Lane) : Lane := { L with late := 0, upCounts := [], slCounts := [] }

@[simp] theorem uncounted_countUp (L : Lane) (ctrl : Nat) (pl : PlaneId) (cause : Nat) :
    uncounted (L.countUp ctrl pl cause) = uncounted L := rfl

theorem uncounted_compareCounts (L : Lane) : uncounted L.compareCounts.1 = uncounted L := by
  unfold Lane.compareCounts
  split
  · rfl
  · have up := fun m : Manifest => foldl_preserves (fun a : Lane × Evs => uncounted a.1)
      (fun (a : Lane × Evs) (e : Nat × CtrlCfg) =>
        match (planeCompare (Tbl.get [] L.upA e.1) (Tbl.get [] L.upB e.1)).2 with
        | some 9 => ((a.1.countUp e.1 .a 9).countUp e.1 .b 9, a.2 ++ [upEvent e.1 .a 9, upEvent e.1 .b 9])
        | some k =>
          let pl : PlaneId := if Tbl.get [] L.upA e.1 = [] then .a else .b
          (a.1.countUp e.1 pl k, a.2 ++ [upEvent e.1 pl k])
        | none => a) (fun a e => by split <;> simp) m.body.ctrls (L, [])
    dsimp only
    split
    · exact up _
    · rw [foldl_preserves (fun a : Lane × Evs => uncounted a.1)]
      · exact up _
      · intro a e
        split <;> split <;> rfl

/-- What the comparison leaves of a lane. -/
theorem compareCounts_eq (L : Lane) :
    L.compareCounts.1 = { L with late := L.compareCounts.1.late, upCounts := L.compareCounts.1.upCounts
                                 slCounts := L.compareCounts.1.slCounts } := by
  have h := uncounted_compareCounts L
  calc L.compareCounts.1
      = { uncounted L.compareCounts.1 with
          late := L.compareCounts.1.late, upCounts := L.compareCounts.1.upCounts
          slCounts := L.compareCounts.1.slCounts } := rfl
    _ = { L with late := L.compareCounts.1.late, upCounts := L.compareCounts.1.upCounts
                 slCounts := L.compareCounts.1.slCounts } := by rw [h]; rfl

/-- Every configured input has a view, and so a record. -/
theorem views0_inputs (L : Lane) : ∀ i ∈ L.inputs, i ∈ L.views0.map (·.1) := by
  intro i hi
  unfold Lane.inputs at hi
  unfold Lane.views0
  cases hm : L.image with
  | none => simp [hm] at hi
  | some m =>
    simp only [hm, List.mem_append, List.mem_map, List.map_append, List.map_map] at hi ⊢
    exact .inl (hi.imp (fun ⟨e, he, h⟩ => ⟨e, he, h⟩) (fun ⟨e, he, h⟩ => ⟨e, he, h⟩))

theorem openAgreement_recs (me : LaneId) (L : Lane) :
    ∀ i ∈ L.inputs ++ L.localInputs, (Tbl.get none ((L.openAgreement me).recs.get me) i).isSome = true := by
  intro i hi
  unfold Lane.openAgreement
  dsimp only
  rw [Tri_get_set_self]
  refine getSome_ofList (fun e he => ?_) ?_
  · rcases List.mem_append.1 he with he | he <;> obtain ⟨x, -, rfl⟩ := List.mem_map.1 he <;> rfl
  · rcases List.mem_append.1 hi with hi | hi
    · obtain ⟨e, he, rfl⟩ := List.mem_map.1 (views0_inputs L i hi)
      simpa using .inl ⟨_, he⟩
    · simpa using .inr hi

theorem lanes_raiseLaneAll {s : State} (h : s.uplink.up = true) (ln : LaneId)
    (es : List (LogClass × EventName × List Int)) : (s.raiseLaneAll ln es).lanes = s.lanes := by
  unfold State.raiseLaneAll
  induction es generalizing s with
  | nil => rfl
  | cons e es ih =>
    rw [List.foldl_cons, ih (by simpa using h), lanes_raiseLane h]

theorem lane_raiseLaneAll {s : State} (h : s.uplink.up = true) (ln : LaneId)
    (es : List (LogClass × EventName × List Int)) (m : LaneId) : (s.raiseLaneAll ln es).lane m = s.lane m :=
  congrArg (fun T => T.get m) (lanes_raiseLaneAll h ln es)

/-- What the comparison and the opening of P-AGREE make of a lane. -/
theorem openAgreement_compared (me : LaneId) (L : Lane) :
    let O := L.compareCounts.1.openAgreement me
    O.phase = .pAgree ∧ O.vectors.get me = L.localBits ∧
      (∀ i ∈ L.inputs ++ L.localInputs, (Tbl.get none (O.recs.get me) i).isSome = true) ∧
      O.recsFrom = me :: L.recsFrom ∧ O.views = L.views ∧ ∀ m, m ≠ me → O.recs.get m = L.recs.get m := by
  intro O
  have hrecs := openAgreement_recs me L.compareCounts.1
  have hO : O = L.compareCounts.1.openAgreement me := rfl
  clear_value O
  rw [compareCounts_eq] at hO hrecs
  subst hO
  exact ⟨rfl, Tri_get_set_self _ _ _, hrecs, rfl, rfl, fun m hm => Tri_get_set_ne _ _ hm⟩

/-- R200: the lane opens P-AGREE with its own records. -/
theorem pAgreeStart_opens {s : State} {ln : LaneId} (ha : (s.lane ln).active ln = true)
    (hr : runsCycle s.module = true) (hp : (s.lane ln).phase = .idle) (hu : s.uplink.up = true) :
    ∃ u, exec (.pAgreeStart ln) s = .next u ∧ u.lane ln = (s.lane ln).compareCounts.1.openAgreement ln ∧
      ∀ m, m ≠ ln → u.lane m = s.lane m := by
  have hlane := fun m => lane_raiseLaneAll (s := s.putLane ln ((s.lane ln).compareCounts.1.openAgreement ln)) hu ln
    (s.lane ln).compareCounts.2 m
  refine ⟨_, if_pos (by simp [ha, hr, hp]), ?_, fun m hm => ?_⟩
  · rw [hlane, lane_putLane_self]
  · rw [hlane, lane_putLane_ne _ _ hm]

/-! ### Records and their echo -/

theorem lane_leaveOut (s : State) (t m : LaneId) :
    (s.leaveOut t).lane m =
      { s.lane m with leftOut := if (s.lane m).leftOut.contains t then (s.lane m).leftOut else t :: (s.lane m).leftOut } :=
  lane_mapLanes s _ m

theorem holdFree_leftOut (t : LaneId) : HoldFree (fun L => L.leftOut.contains t = true) := by
  intro L e h
  unfold Lane.hold
  split <;> exact h

theorem leaveOut_contains (s : State) (t m : LaneId) : ((s.leaveOut t).lane m).leftOut.contains t = true := by
  rw [lane_leaveOut]
  dsimp only
  split
  · next h => exact h
  · simp

/-- R201: the third lane leaves the vote and its records are left out in every lane. -/
theorem echo_excludes {s : State} {t : LaneId} (ht : s.testing = false) (h3 : s.voters.length = 3) :
    ∃ u, fin ((s.excludeAgreed t .agree).leaveOut t) = .next u ∧ leftVote u t .agree ∧
      ∀ m, (u.lane m).leftOut.contains t = true := by
  have hout := laneOut_excludeAgreed .agree ht (excludable_inVote (inVote_of_three h3 t))
  refine ⟨_, rfl, leftVote_settle ?_, fun m => settle_of (holdFree_leftOut t) (leaveOut_contains _ t m)⟩
  rw [leftVote_iff, lane_leaveOut]
  exact hout

/-! ### Ages -/

section
variable {s : State} {ln : LaneId} {frame : Nat} {m : Manifest}

/-- R279: the frame of a controller takes F := 1 past UPMAX. -/
theorem uplinkAge_passed {e : Nat × CtrlCfg} (him : (s.lane ln).image = some m) (hp : (s.lane ln).phase = .pAgree)
    (he : m.body.ctrls.find? (fun e => decide (e.1 = frame)) = some e) (hd : (s.lane ln).decided = true)
    (hup : (e.2.upMax : Int) < (s.lane ln).sup.frameWord frame 0 / 2)
    (hw : (s.lane ln).sup.frameWord frame 0 % 2 = 0) :
    exec (.uplinkAgeLimit ln frame) s = .next (s.putLane ln (Lane.codeFrames { s.lane ln with
      sup := (s.lane ln).sup.heldFrame frame ((s.lane ln).sup.frameWord frame 0 + 1) e.2.up })) := by
  have hguard : (s.lane ln).phase = .pAgree ∧ (s.lane ln).decided = true ∧
      (e.2.upMax : Int) < (s.lane ln).sup.frameWord frame 0 / 2 ∧ (s.lane ln).sup.frameWord frame 0 % 2 = 0 :=
    ⟨hp, hd, hup, hw⟩
  show execUplinkAgeLimit ln frame s = _
  simp only [execUplinkAgeLimit, him, he, if_pos hguard, ok]

/-- R302: the frame of a safe link takes F := 1 past its bound. -/
theorem safeLinkAge_passed {k a : Nat} {c : ConnCfg} {g : MsgCfg} {at_ : U32} (him : (s.lane ln).image = some m)
    (hp : (s.lane ln).phase = .pAgree) (hin : (inMsgs m).find? (fun e => decide (e.2.2.frame = frame)) = some (k, c, g))
    (hb : Tbl.get none (Tbl.get {} (s.lane ln).sup.conns k).bounds g.msg = some (a, at_))
    (hold : c.tmax * 10 < a + ((s.lane ln).st - safeTime at_ (s.lane ln).cnE (tcOf (s.lane ln).image)).toNat) :
    exec (.safeLinkAgeExpiry ln frame) s = .next (s.putLane ln (Lane.codeFrames { s.lane ln with
      sup := (s.lane ln).sup.heldFrame frame ((s.lane ln).sup.frameWord frame 0 / 2 * 2 + 1) g.fields })) := by
  have hold' : ((c.tmax * 10 : Nat) : Int) < (a : Int) +
      (((s.lane ln).st - safeTime at_ (s.lane ln).cnE (tcOf (s.lane ln).image)).toNat : Nat) := by omega
  rw [him] at hold'
  show execSafeLinkAgeExpiry ln frame s = _
  simp only [execSafeLinkAgeExpiry, him, hin, hb, hp, hold', decide_true, Bool.and_self, if_true, ok]

end

/-- Settles O10: each command of the exchange in the case its guard names; the ages by the frame it rewrites. -/
theorem agreementExchangeAndAges : Obligations.AgreementExchangeAndAges := by
  refine ⟨fun s ln src t r bits crc => ?_, ⟨fun s ln frame m e k c g a at_ => ?_, fun s ln hu => ?_⟩⟩
  · intro L
    refine ⟨fun ha hr hp hu => ?_, fun hp hd hs hv => ?_, fun hp hd hs ht h3 hc hcrc hte => ?_⟩
    · obtain ⟨u, hrun, hself, hothers⟩ := pAgreeStart_opens ha hr hp hu
      obtain ⟨hphase, hvec, hrecs, hfrom, hviews, hkept⟩ := openAgreement_compared ln L
      rw [← hself] at hphase hvec hrecs hfrom hviews hkept
      exact ⟨u, hrun, hphase, hvec, hrecs, hfrom, hviews, hkept, hothers⟩
    · have hguard : L.phase = .pAgree ∧ (!L.decided) = true ∧ src ≠ ln := ⟨hp, by rw [hd]; rfl, hs⟩
      exact (if_pos hguard).trans (if_pos (.inl hv))
    · have hguard : L.phase = .pAgree ∧ (!L.decided) = true ∧ src ≠ ln ∧ s.voters.length = 3 ∧
          L.recsFrom.contains t = true ∧ crc ≠ recsCrc (L.recs.get t) := ⟨hp, by rw [hd]; rfl, hs, h3, hc, hcrc⟩
      have hrun : exec (.agreementEchoRx ln src crc) s = fin ((s.excludeAgreed t .agree).leaveOut t) := by
        show execAgreementEchoRx ln src crc s = _
        unfold execAgreementEchoRx
        simp only [ht]
        exact if_pos hguard
      rw [hrun]
      exact echo_excludes hte h3
  · intro L w him hp
    exact ⟨fun he hd hup hw => uplinkAge_passed him hp he hd hup hw, fun hin hb hold =>
      safeLinkAge_passed him hp hin hb hold⟩
  · refine ⟨_, rfl, ?_⟩
    rw [lane_raiseLaneAll (by exact hu), lane_putLane_self]
    refine ⟨fun f _ hold hin => ?_, fun f hf hyoung => ?_, rfl, rfl, rfl, fun m hm => ?_⟩
    · have := (List.mem_filter.1 hin).2
      simp [hold] at this
    · refine List.mem_filter.2 ⟨hf, ?_⟩
      simp only [Bool.not_eq_true', Bool.or_eq_false_iff, Bool.and_eq_false_iff, decide_eq_false_iff_not]
      omega
    · rw [lane_raiseLaneAll (by exact hu), lane_putLane_ne _ _ hm]

end Sys2Proof.AgreeRules
end

section
/-! ## The decision on the inputs (R202-R204) -/

namespace Sys2Proof.AgreeRules

open Sys2Proof Sys2Proof.Machine Sys2Proof.Laws Sys2Proof.SvcUp Sys2Proof.VoteRules
open Sys2Proof.VoteFlag (foldl_preserves)

/-! ### What the supervisor writes leaves of a lane -/

/-- A lane but for its words and its supervisor's record. -/
def wordless (L : Lane) : Lane :=
  { L with copy1 := [], copy2 := [], supUndo := [], sup := {}, supC := {}, pendEvents := [], reportMsgs := [],
           reportCmds := [] }

@[simp] theorem wordless_sup (L : Lane) (u : Sup) : wordless { L with sup := u } = wordless L := rfl

@[simp] theorem wordless_put (L : Lane) (key : Nat) (x : Int) : wordless (L.put key x) = wordless L := by
  unfold Lane.put
  split <;> rfl

@[simp] theorem wordless_putE (L : Lane) (key : Nat) (x : Int) : wordless (L.putE key x) = wordless L := by
  unfold Lane.putE
  split
  · exact wordless_put _ key x
  · rfl

@[simp] theorem wordless_codeFrames (L : Lane) : wordless L.codeFrames = wordless L :=
  foldl_preserves wordless _ (fun M e => by split <;> simp) _ _

theorem wordless_twoStep (c : SentCmd) (L : Lane) (act : Lane → Lane × Evs)
    (h : ∀ M, wordless (act M).1 = wordless M) : wordless (twoStep c L act).1 = wordless L := by
  unfold twoStep
  dsimp only
  (repeat' split) <;> simp [h]

@[simp] theorem wordless_forceValueOp (m : ModState) (c : SentCmd) (t : ForceTarget) (v : Int) (L : Lane) :
    wordless (forceValueOp m c t v L).1 = wordless L := by
  unfold forceValueOp
  dsimp only
  (repeat' split) <;> simp

@[simp] theorem wordless_unforceOp (m : ModState) (c : SentCmd) (t : ForceTarget) (L : Lane) :
    wordless (unforceOp m c t L).1 = wordless L := by
  cases t with
  | elem id => exact wordless_putE _ _ _
  | channel ch => rfl
  | sdr j => rfl

theorem wordless_cmdApply (m : ModState) (a : Lane × Evs) (c : SentCmd) : wordless (cmdApply m a c).1 = wordless a.1 := by
  unfold cmdApply
  cases c.cmd with
  | onlineChange => rfl
  | restrictiveForce e => dsimp only; split <;> simp
  | removeRestrictive e => dsimp only; split <;> simp [wordless_twoStep]
  | forceValue t v => dsimp only; split <;> simp
  | removeForced t => dsimp only; split <;> simp [wordless_twoStep]
  | individualRelease r =>
    dsimp only
    split
    · refine wordless_twoStep _ _ _ fun M => ?_
      split <;> rfl
    · rfl

theorem wordless_clearForces (m : ModState) (was : Bool) (L : Lane) : wordless (L.clearForces m was).1 = wordless L := by
  unfold Lane.clearForces
  split
  · rfl
  · exact foldl_preserves wordless (fun L id => L.putE (keyE id 7) (-1)) (fun M e => wordless_putE _ _ _) _ _

theorem wordless_elemUpdates (m : ModState) (v : BitVec 128) (L : Lane) : wordless (L.elemUpdates m v) = wordless L := by
  unfold Lane.elemUpdates
  split
  · rfl
  · refine foldl_preserves wordless _ (fun M e => ?_) _ _
    unfold elemUpdate
    dsimp only
    split <;> simp

theorem wordless_firstNew (a : Option U32) (L : Lane) : wordless (L.firstNew a) = wordless L := by
  unfold Lane.firstNew
  split
  · rfl
  · exact foldl_preserves wordless _ (fun M k => wordless_putE _ _ _) _ _

theorem wordless_writeAgreed (s : State) (ln : LaneId) (L : Lane) : wordless (s.writeAgreed ln L) = wordless L := by
  have cmds := fun a : Lane × Evs => foldl_preserves (fun a : Lane × Evs => wordless a.1) (cmdApply s.module)
    (wordless_cmdApply s.module) L.agreedCmds a
  unfold State.writeAgreed
  extract_lets v u u1 L1 a c f L2 L3
  have hL1 : wordless L1 = wordless L := (wordless_codeFrames _).trans rfl
  have hc : wordless c.1 = wordless L1 := cmds a
  have hf : wordless f.1 = wordless c.1 := wordless_clearForces _ _ _
  have hL2 : wordless L2 = wordless f.1 := (wordless_firstNew _ _).trans (wordless_elemUpdates _ _ _)
  have h : wordless L2 = wordless L := by rw [hL2, hf, hc, hL1]
  split <;> exact h

theorem decided_writeAgreed (s : State) (ln : LaneId) (L : Lane) : (s.writeAgreed ln L).decided = L.decided := by
  have h := congrArg Lane.decided (wordless_writeAgreed s ln L)
  exact h

/-! ### The decision -/

/-- A lane as it stands once it has decided. -/
theorem finishAgreement_waits {s : State} {ln : LaneId} (h : (s.lane ln).repairs ≠ []) : s.finishAgreement ln = s := by
  have : (s.lane ln).repairs.isEmpty = false := by simpa using h
  simp only [State.finishAgreement, this, if_neg Bool.false_ne_true]

/-- With every payload there and no later claim, the lane writes its inputs and reports the claims it saw. -/
theorem finishAgreement_writes {s : State} {ln : LaneId} (h : (s.lane ln).repairs = [])
    (hc : laterClaim s.pair.clm (clmReport s.pair.clm (s.lane ln)) = none) :
    s.finishAgreement ln = { s.putLane ln (s.writeAgreed ln { s.lane ln with agreedCmds := s.agreedCmds ln (s.lane ln) })
      with pair := { s.pair with
        clmReports := s.pair.clmReports.set ln (clmReport s.pair.clm (s.lane ln)) } } := by
  have hempty : (s.lane ln).repairs.isEmpty = true := by rw [h]; rfl
  unfold State.finishAgreement
  extract_lets L0 L L' rep s1
  have hnone : laterClaim s.pair.clm rep = none := hc
  rw [hnone]
  exact if_pos hempty

section
variable {s : State} {ln : LaneId}

/-- The state with the lane's decision, its events raised. -/
def decidedState (s : State) (ln : LaneId) : State :=
  (s.putLane ln ((s.lane ln).decideAll ln)).raiseLaneAll ln ((s.lane ln).agreeEvents ln (decide (s.lead = ln)))

theorem inputAgreement_eq (hp : (s.lane ln).phase = .pAgree) (hd : (s.lane ln).decided = false)
    (hr : (s.lane ln).recordsHeld ln = true) (ha : (s.lane ln).active ln = true) :
    exec (.inputAgreement ln) s =
      if 64 < ((s.lane ln).decideAll ln).repairs.length then fin ((decidedState s ln).excludeAgreed ln .agree)
      else fin ((decidedState s ln).finishAgreement ln) :=
  if_pos ⟨hp, by rw [hd]; rfl, hr, ha⟩

variable (hu : s.uplink.up = true)
include hu

theorem uplink_decidedState : (decidedState s ln).uplink.up = true := by
  have h : (decidedState s ln).uplink = s.uplink :=
    foldl_preserves State.uplink _ (fun s e => uplink_raiseLane s ln _ _ _) _ _
  rw [h, hu]

theorem lane_decidedState_self : (decidedState s ln).lane ln = (s.lane ln).decideAll ln := by
  unfold decidedState
  rw [lane_raiseLaneAll (by exact hu), lane_putLane_self]

theorem lane_decidedState_ne {m : LaneId} (h : m ≠ ln) : (decidedState s ln).lane m = s.lane m := by
  unfold decidedState
  rw [lane_raiseLaneAll (by exact hu), lane_putLane_ne _ _ h]

/-- A lane that may not write yet stands as it decided. -/
theorem inputAgreement_waits (hp : (s.lane ln).phase = .pAgree) (hd : (s.lane ln).decided = false)
    (hr : (s.lane ln).recordsHeld ln = true) (ha : (s.lane ln).active ln = true)
    (hrep : ((s.lane ln).decideAll ln).repairs ≠ []) (hlen : ((s.lane ln).decideAll ln).repairs.length ≤ 64) :
    exec (.inputAgreement ln) s = fin (decidedState s ln) := by
  have hwait : (decidedState s ln).finishAgreement ln = decidedState s ln :=
    finishAgreement_waits (by rwa [lane_decidedState_self hu])
  rw [inputAgreement_eq hp hd hr ha, if_neg (Nat.not_lt.2 hlen), hwait]

end

/-- The lane needs more repairs than R203 allows, or fails one: it leaves the vote with cause AGREE. -/
theorem excluded_agree {s : State} {ln : LaneId} (ht : s.testing = false) (ha : (s.lane ln).active ln = true) :
    ∃ u, fin (s.excludeAgreed ln .agree) = .next u ∧ leftVote u ln .agree :=
  leftVote_fin (laneOut_excludeAgreed .agree ht (excludable_of_active ha))

theorem testing_raiseLaneAll (s : State) (ln : LaneId) (es : List (LogClass × EventName × List Int)) :
    (s.raiseLaneAll ln es).testing = s.testing := by
  have h : (s.raiseLaneAll ln es).bist = s.bist := foldl_preserves State.bist _ (fun s e => bist_raiseLane s ln _ _ _) es s
  unfold State.testing
  rw [h]

theorem pair_settle (s : State) : s.settle.pair = s.pair := by
  unfold State.settle
  dsimp only
  split
  · rfl
  · exact pair_raiseModule s _ _ _

/-- R203: what a payload from the lower-numbered lane of the majority does. -/
theorem repairPayloadRx_eq {s : State} {ln src : LaneId} {input : Nat} {payload : List Byte} {d : U64}
    (hget : Tbl.get none (s.lane ln).repairs input = some d)
    (hsrc : ((s.lane ln).deciders ln).find?
      (fun m => decide (m ≠ ln) && decide ((s.lane ln).viewOf input m = some d)) = some src)
    (hp : (s.lane ln).phase = .pAgree) :
    exec (.repairPayloadRx ln src input payload) s =
      if crc64 payload = d then
        fin ((s.putLane ln { s.lane ln with
          repairs := Tbl.set none (s.lane ln).repairs input none
          localViews := Tbl.upd {} (s.lane ln).localViews input (fun v => { v with payload := payload }) }).finishAgreement
            ln)
      else fin (s.excludeAgreed ln .agree) := by
  show execRepairPayloadRx ln src input payload s = _
  simp only [execRepairPayloadRx, hget]
  exact if_pos ⟨hsrc, hp⟩

/-- Settles O11: the decision in its three outcomes, a repair that fits or fails its check, and the minority limit. -/
theorem agreementDecision : Obligations.AgreementDecision := by
  intro s ln src input payload d L
  refine ⟨fun hp hd hr ha hu hrep => ⟨fun hlen => ?_, fun hlen ht => ?_⟩, fun hp hd hr ha hu hrep hc => ?_,
    fun hget hp hsrc => ⟨fun hcrc hleft => ?_, fun hcrc ht ha => ?_⟩, fun hd hv hmin ht => ?_⟩
  · have hlanes := lane_settle (uplink_decidedState (ln := ln) hu)
    refine ⟨_, inputAgreement_waits hu hp hd hr ha hrep hlen, ?_⟩
    rw [hlanes, lane_decidedState_self hu]
    exact ⟨rfl, rfl, rfl, fun m hm => by rw [hlanes, lane_decidedState_ne hu hm]⟩
  · have hview : (decidedState s ln).laneState ln = s.laneState ln := by
      unfold State.laneState
      rw [lane_decidedState_self hu]
      rfl
    have htest : (decidedState s ln).testing = false := (testing_raiseLaneAll _ ln _).trans ht
    rw [inputAgreement_eq hp hd hr ha, if_pos hlen]
    refine leftVote_fin (laneOut_excludeAgreed .agree htest ?_)
    rw [hview]
    exact excludable_of_active ha
  · have hself := lane_decidedState_self (ln := ln) hu
    have hpair : (decidedState s ln).pair = s.pair :=
      foldl_preserves State.pair _ (fun s e => pair_raiseLane s ln _ _ _) _ _
    have hwrites := finishAgreement_writes (s := decidedState s ln) (ln := ln) (by rw [hself]; exact hrep)
      (by rw [hself, hpair]; exact hc)
    have hshort : ¬ 64 < ((s.lane ln).decideAll ln).repairs.length := by
      rw [show ((s.lane ln).decideAll ln).repairs = [] from hrep]
      decide
    have hrun := inputAgreement_eq hp hd hr ha
    rw [if_neg hshort, hwrites] at hrun
    have hup := uplink_decidedState (ln := ln) hu
    refine ⟨_, hrun, ?_⟩
    rw [pair_settle, lane_settle (by exact hup), hself, hpair]
    refine ⟨?_, Tri_get_set_self _ _ _, fun m hm => ?_⟩
    · exact (congrArg Lane.decided (lane_putLane_self _ ln _)).trans (decided_writeAgreed _ ln _)
    · rw [lane_settle (by exact hup)]
      exact (lane_putLane_ne _ _ hm).trans (lane_decidedState_ne hu hm)
  · rw [repairPayloadRx_eq hget hsrc hp, if_pos hcrc, finishAgreement_waits (by rw [lane_putLane_self]; exact hleft)]
    rfl
  · rw [repairPayloadRx_eq hget hsrc hp, if_neg hcrc]
    exact excluded_agree ht ha
  · rw [show exec (.agreeMinorityLimit ln) s = fin (s.excludeAgreed ln .agree) from if_pos ⟨hd, hv, hmin⟩]
    exact leftVote_fin (laneOut_excludeAgreed .agree ht (excludable_inVote ((votes_iff s ln).1 hv)))

end Sys2Proof.AgreeRules
end

section
/-! ## Consensus records, silent lanes, link failures and notices (R28, R51, R207, R208, R210) -/

namespace Sys2Proof.ConsRules

open Sys2Proof Sys2Proof.Machine Sys2Proof.Laws Sys2Proof.SvcUp Sys2Proof.VoteRules Sys2Proof.AgreeRules
open Sys2Proof.VoteFlag (foldl_preserves)

/-! ### Faults of a lane -/

theorem testing_of_bist {s t : State} (h : t.bist = s.bist) : t.testing = s.testing := by
  unfold State.testing
  rw [h]

/-- A fault of coded processing outside a Pilot session takes the lane out. -/
theorem laneOut_codedFault {s : State} {ln : LaneId} (unit : Nat) (p : Pass) (idx clk : Nat) (e : TFault)
    (hpilot : s.pilot = none) (ht : s.testing = false) (h : excludable (s.laneState ln) = true) :
    LaneOut ln (.coded e.cause) ((s.codedFault ln unit p idx clk e).lane ln) := by
  obtain ⟨r, hrun⟩ : ∃ r, s.codedFault ln unit p idx clk e =
      ((s.updLane ln (fun L => { L with faultRec := r })).raiseLane ln .fault .codedFault
        [causeCode (.coded e.cause), unit, idx]).exclude ln (.coded e.cause) := by
    unfold State.codedFault
    rw [hpilot]
    cases ln <;> exact ⟨_, rfl⟩
  rw [hrun]
  refine laneOut_exclude _ ((testing_of_bist (by simp)).trans ht) ?_
  rw [laneState_raiseLane]
  unfold State.laneState
  rw [lane_updLane_self]
  exact h

/-! ### The record of a lane -/

section
variable {s : State} {ln : LaneId}

theorem ovr_closed (L : Lane) : L.closePass.gate.ovr = L.ovr := by
  unfold Lane.closePass
  dsimp only
  split <;> rfl

theorem views_closed (L : Lane) : L.closePass.gate.views = L.views := by
  unfold Lane.closePass
  dsimp only
  split <;> rfl

/-- P-CONS of a lane in the cycle, outside a Pilot session (R207). -/
theorem pConsStart_eq (hpilot : s.pilot = none) (ha : (s.lane ln).active ln = true) (hr : runsCycle s.module = true)
    (hp : (s.lane ln).phase = .pass2 ∨ (s.lane ln).phase = .waitCons) :
    exec (.pConsStart ln) s =
      let L := (s.lane ln).closePass.gate
      if (s.lane ln).ovr then
        fin (s.putLane ln (Lane.holdRec ln ⟨L.cn, 0, 0, true, L.views⟩ { L with phase := .pCons }))
      else if L.sig1 ≠ L.sig2 then fin ((s.putLane ln L).codedFault ln 5 .p2 0 0 { cause := .passcmp })
      else match L.outBad with
        | some e => fin ((s.putLane ln L).codedFault ln 5 e.1 0 0 e.2)
        | none =>
          let vec := switchVector L s.module s.dead (resetLatches L L.sup.outs)
          fin (s.putLane ln (Lane.holdRec ln ⟨L.cn, L.sig1, L.outDigest vec, false, L.views⟩
            { L with phase := .pCons, newVec := vec })) := by
  have hguard : (s.lane ln).active ln = true ∧ runsCycle s.module = true ∧
      ((s.lane ln).phase = .pass2 ∨ (s.lane ln).phase = .waitCons) := ⟨ha, hr, hp⟩
  have hno : s.piloted ln = false := by simp [State.piloted, hpilot]
  show execPConsStart ln s = _
  simp only [execPConsStart, hno, if_neg Bool.false_ne_true, if_pos hguard, ovr_closed] <;> rfl

variable (hpilot : s.pilot = none) (ha : (s.lane ln).active ln = true) (hr : runsCycle s.module = true)
include hpilot ha hr

/-- The record of a lane whose passes agree. -/
theorem pConsStart_record (hp : (s.lane ln).phase = .pass2) (hovr : (s.lane ln).ovr = false)
    (hsig : (s.lane ln).closePass.gate.sig1 = (s.lane ln).closePass.gate.sig2)
    (hbad : (s.lane ln).closePass.gate.outBad = none) :
    exec (.pConsStart ln) s =
      let L := (s.lane ln).closePass.gate
      let vec := switchVector L s.module s.dead (resetLatches L L.sup.outs)
      fin (s.putLane ln (Lane.holdRec ln ⟨L.cn, L.sig1, L.outDigest vec, false, L.views⟩
        { L with phase := .pCons, newVec := vec })) := by
  rw [pConsStart_eq hpilot ha hr (.inl hp)]
  simp only [hovr, hbad, if_neg Bool.false_ne_true, if_neg (not_not.2 hsig)]

/-- A lane whose passes differ leaves the vote with PASSCMP. -/
theorem pConsStart_differs (hp : (s.lane ln).phase = .pass2) (hovr : (s.lane ln).ovr = false) (ht : s.testing = false)
    (hsig : (s.lane ln).closePass.gate.sig1 ≠ (s.lane ln).closePass.gate.sig2) :
    ∃ u, exec (.pConsStart ln) s = .next u ∧ leftVote u ln (.coded .passcmp) := by
  have hstate : (s.putLane ln (s.lane ln).closePass.gate).laneState ln = s.laneState ln := by
    unfold State.laneState
    rw [lane_putLane_self, views_closed]
  rw [pConsStart_eq hpilot ha hr (.inl hp)]
  simp only [hovr, if_neg Bool.false_ne_true, if_pos hsig]
  refine leftVote_fin (laneOut_codedFault 5 .p2 0 0 { cause := .passcmp } (by exact hpilot) (by exact ht) ?_)
  rw [hstate]
  exact excludable_of_active ha

end

/-! ### Links and damaged exchanges -/

theorem clxOk_exclude (s : State) (ln : LaneId) (c : Cause) : (s.exclude ln c).clxOk = s.clxOk := by
  have hend : ∀ t : State, (t.endTest ln).clxOk = t.clxOk := fun t => by
    unfold State.endTest
    split <;> rfl
  unfold State.exclude
  cases s.testing with
  | true => rfl
  | false => cases s.laneState ln <;> simp [hend]

theorem clxOk_excludeAgreed (s : State) (ln : LaneId) (c : Cause) : (s.excludeAgreed ln c).clxOk = s.clxOk :=
  (foldl_preserves State.clxOk _ (fun t m => by split <;> rfl) _ _).trans (clxOk_exclude s ln c)

theorem clxOk_settle (s : State) : s.settle.clxOk = s.clxOk := by
  unfold State.settle
  dsimp only
  split
  · rfl
  · exact clxOk_raiseModule s _ _ _

theorem voters_raiseLane (s : State) (ln : LaneId) (c : LogClass) (n : EventName) (x : List Int) :
    (s.raiseLane ln c n x).voters = s.voters := voters_of_laneState (laneState_raiseLane s ln c n x)

theorem votes_of_voters {s t : State} (h : t.voters = s.voters) (m : LaneId) : t.votes m = s.votes m := by
  have hm : t.laneState m = .inVote ↔ s.laneState m = .inVote := by rw [← mem_voters, ← mem_voters, h]
  simp only [State.votes, hm]

theorem all_vote {s : State} (h : s.voters = [.l1, .l2, .l3]) (m : LaneId) : s.votes m = true := by
  rw [votes_iff, ← mem_voters, h]
  cases m <;> simp

/-- The state once the failure of a link is logged. -/
def linkDown (s : State) (l : ClxLink) : State :=
  { s.raiseLane l.ends.1 .fault .clxLinkFailed [l.ends.1.num, l.ends.2.num] with clxOk := s.clxOk.setLink l false }

theorem laneState_linkDown (s : State) (l : ClxLink) (m : LaneId) : (linkDown s l).laneState m = s.laneState m :=
  laneState_raiseLane s l.ends.1 .fault .clxLinkFailed [l.ends.1.num, l.ends.2.num] m

theorem voters_linkDown (s : State) (l : ClxLink) : (linkDown s l).voters = s.voters :=
  voters_of_laneState (laneState_linkDown s l)

theorem testing_linkDown (s : State) (l : ClxLink) : (linkDown s l).testing = s.testing :=
  testing_of_bist (bist_raiseLane s _ _ _ _)

section
variable {s : State} (h3 : s.voters = [.l1, .l2, .l3]) (ht : s.testing = false)
include h3

/-- R28: of the two lanes of a link that fails, the higher-numbered one leaves. -/
theorem linkFail_three (l : ClxLink) : s.linkFail l = (linkDown s l).excludeAgreed l.ends.2 .clx := by
  have hv : (linkDown s l).voters = [.l1, .l2, .l3] := (voters_linkDown s l).trans h3
  have hboth : (linkDown s l).votes l.ends.1 = true ∧ (linkDown s l).votes l.ends.2 = true :=
    ⟨all_vote hv _, all_vote hv _⟩
  have hthree : (linkDown s l).voters.length = 3 := by rw [hv]; rfl
  exact (if_pos hboth).trans (if_pos hthree)

/-- R51: an exchange damaged after its resend takes out the higher-numbered lane of its link. -/
theorem damaged_three (l : ClxLink) : s.damaged l.ends.1 l.ends.2 =
    ((s.raiseLane l.ends.1 .warn .exchangeDamaged [l.ends.1.num, l.ends.2.num]).excludeAgreed l.ends.2
      .exchange).leaveOut l.ends.2 := by
  have hguard : s.votes l.ends.1 = true ∧ s.votes l.ends.2 = true ∧ l.ends.1 ≠ l.ends.2 :=
    ⟨all_vote h3 _, all_vote h3 _, by cases l <;> decide⟩
  have hhigh : (if l.ends.1.idx < l.ends.2.idx then l.ends.2 else l.ends.1) = l.ends.2 := by cases l <;> rfl
  unfold State.damaged
  rw [if_pos hguard, hhigh]
  exact if_pos (by rw [voters_raiseLane, h3]; rfl)

include ht

theorem linkFailure_excludes (l : ClxLink) :
    ∃ u, exec (.clxLinkFailure l false) s = .next u ∧ leftVote u l.ends.2 .clx ∧ u.clxOk = s.clxOk.setLink l false := by
  have hv : (linkDown s l).laneState l.ends.2 = .inVote := by
    rw [laneState_linkDown, ← mem_voters, h3]
    cases l <;> decide
  have hrun : exec (.clxLinkFailure l false) s = fin ((linkDown s l).excludeAgreed l.ends.2 .clx) :=
    congrArg fin (linkFail_three h3 l)
  refine ⟨_, hrun, leftVote_settle (laneOut_excludeAgreed .clx ((testing_linkDown s l).trans ht)
    (excludable_inVote hv)), ?_⟩
  rw [clxOk_settle, clxOk_excludeAgreed]
  rfl

theorem damagedExchange_excludes (l : ClxLink) :
    ∃ u, exec (.clxLinkFailure l true) s = .next u ∧ leftVote u l.ends.2 .exchange ∧ u.clxOk = s.clxOk := by
  have hv := (laneState_raiseLane s l.ends.1 .warn .exchangeDamaged [l.ends.1.num, l.ends.2.num] l.ends.2).trans
    ((mem_voters s _).1 (by rw [h3]; cases l <;> decide))
  have hrun := congrArg fin (damaged_three h3 l)
  refine ⟨_, hrun, leftVote_settle ?_, ?_⟩
  · rw [leftVote_iff, lane_leaveOut]
    exact laneOut_excludeAgreed .exchange ((testing_of_bist (bist_raiseLane s _ _ _ _)).trans ht) (excludable_inVote hv)
  · rw [clxOk_settle]
    exact (clxOk_excludeAgreed _ _ _).trans (clxOk_raiseLane s _ _ _ _)

/-! ### Silent lanes -/

end

/-- What a lane does at the deadline of the exchange for one of the others (R208). -/
def deadlineFor (ln : LaneId) (s : State) (src : LaneId) : State :=
  if s.votes ln ∧ s.votes src ∧ ((s.lane ln).consRecs.get src).isNone then
    match thirdLane ln src with
    | some t =>
      if s.votes t ∧ ((s.lane t).consRecs.get src).isNone then s.excludeAgreed src .silent
      else match linkOf ln src with
        | some l => s.linkFail l
        | none => s
    | none => s
  else s

theorem exchangeDeadline_eq (s : State) (ln : LaneId) :
    exec (.exchangeDeadline ln) s =
      if (s.lane ln).phase = .pCons ∧ s.votes ln then fin (ln.others.foldl (deadlineFor ln) s) else fin s := rfl

theorem deadlineFor_held {s : State} {ln src : LaneId} (h : ((s.lane ln).consRecs.get src).isSome = true) :
    deadlineFor ln s src = s := by
  refine if_neg fun hn => ?_
  simp [Option.isNone_iff_eq_none.1 hn.2.2] at h

theorem deadlineFor_silent {s : State} {ln src t : LaneId} (h3 : s.voters = [.l1, .l2, .l3])
    (ht : thirdLane ln src = some t) (h1 : ((s.lane ln).consRecs.get src).isNone = true)
    (h2 : ((s.lane t).consRecs.get src).isNone = true) : deadlineFor ln s src = s.excludeAgreed src .silent := by
  unfold deadlineFor
  rw [if_pos ⟨all_vote h3 ln, all_vote h3 src, h1⟩, ht]
  exact if_pos ⟨all_vote h3 t, h2⟩

theorem consRecs_see (me src : LaneId) (L : Lane) : (Lane.see me src L).consRecs = L.consRecs := by
  unfold Lane.see
  split
  · rfl
  · rw [latchX_frame]
    rfl

theorem others_of_third {ln src t : LaneId} (hs : src ≠ ln) (ht : thirdLane ln src = some t) :
    ln.others = [src, t] ∨ ln.others = [t, src] := by
  revert hs ht
  cases ln <;> cases src <;> cases t <;> decide

/-- R208: a record missing at both other lanes excludes its lane as SILENT. -/
theorem deadline_silent {s : State} {ln src t : LaneId} (h3 : s.voters = [.l1, .l2, .l3])
    (hs : src ≠ ln) (ht : thirdLane ln src = some t) (h1 : ((s.lane ln).consRecs.get src).isNone = true)
    (h2 : ((s.lane t).consRecs.get src).isNone = true) (hheld : ((s.lane ln).consRecs.get t).isSome = true) :
    ln.others.foldl (deadlineFor ln) s = s.excludeAgreed src .silent := by
  have hsilent := deadlineFor_silent h3 ht h1 h2
  rcases others_of_third hs ht with ho | ho
  · rw [ho, List.foldl_cons, List.foldl_cons, List.foldl_nil, hsilent]
    refine deadlineFor_held ?_
    rw [lane_excludeAgreed_ne s .silent (Ne.symm hs)]
    split
    · rwa [consRecs_see]
    · exact hheld
  · rw [ho, List.foldl_cons, List.foldl_cons, List.foldl_nil, deadlineFor_held hheld, hsilent]

/-! ### Notices of an exclusion -/

theorem get_of_all {α : Type} {P : α → Prop} {d : α} (hd : P d) (t : Tbl α) (ht : ∀ e ∈ t, P e.2) (k : Nat) :
    P (Tbl.get d t k) := by
  induction t with
  | nil => exact hd
  | cons e t ih =>
    unfold Tbl.get
    split
    · exact ht e (by simp)
    · exact ih fun x hx => ht x (List.mem_cons_of_mem _ hx)

/-- A lane that sees another leave opens its switches of the pair they share (R210). -/
theorem see_opens {me src : LaneId} {L : Lane} (h : L.views.get src ≠ .outFault) (ch : Nat) (hb : pairBit me src < 3) :
    (Tbl.get 0 (Lane.see me src L).switches ch).getLsbD (pairBit me src) = false := by
  have hsw : (Lane.see me src L).switches = (L.openPair me src).switches := by
    unfold Lane.see
    rw [if_neg h, latchX_frame]
  rw [hsw]
  refine get_of_all (P := fun v : BitVec 3 => v.getLsbD (pairBit me src) = false) (by simp) _ (fun e he => ?_) ch
  obtain ⟨x, -, rfl⟩ := List.mem_map.1 (List.mem_filter.1 he).1
  simp [hb]

theorem voters_see (s : State) {ln src : LaneId} (h : ln ≠ src) :
    (s.updLane ln (Lane.see ln src)).voters = s.voters := by
  refine voters_of_laneState fun m => ?_
  unfold State.laneState
  by_cases hm : m = ln
  · subst hm
    rw [lane_updLane_self, see_self_state m src _ h]
  · rw [lane_updLane_ne s _ hm]

theorem pairBit_lt {me src : LaneId} (h : me ≠ src) : pairBit me src < 3 := by
  revert h
  cases me <;> cases src <;> decide

/-- Settles O12: the records of P-CONS, and each way a lane leaves the vote by what it fails to send. -/
theorem consensusRecordsAndFailures : Obligations.ConsensusRecordsAndFailures := by
  refine ⟨fun s ln src r => ?_, fun s ln src t l hte hrc => ⟨fun h3 hp hs ht h1 h2 hheld => ?_,
    fun h3 => linkFailure_excludes h3 hte l, fun h3 => damagedExchange_excludes h3 hte l, fun hne hout h2 hv => ?_⟩⟩
  · intro L0 L
    refine ⟨fun hpilot ha hr hp hovr => ⟨fun hsig hbad => ?_, fun hsig ht => ?_⟩, fun hpilot ha hr hp hovr => ?_,
      fun hp hs hv => ?_⟩
    · exact pConsStart_record hpilot ha hr hp hovr hsig hbad
    · exact pConsStart_differs hpilot ha hr hp hovr ht hsig
    · rw [pConsStart_eq hpilot ha hr (.inr hp)]
      exact if_pos hovr
    · exact (if_pos ⟨hp, hs⟩).trans (if_pos hv)
  · rw [exchangeDeadline_eq, if_pos ⟨hp, all_vote h3 ln⟩, deadline_silent h3 hs ht h1 h2 hheld]
    exact leftVote_fin (laneOut_excludeAgreed .silent hte (excludable_inVote ((votes_iff s src).1 (all_vote h3 src))))
  · have hrun : exec (.exclusionNoticeRx ln src) s = fin (s.updLane ln (Lane.see ln src)).checkVote :=
      if_pos ⟨hne, hout⟩
    have hvote : (s.updLane ln (Lane.see ln src)).checkVote = s.updLane ln (Lane.see ln src) := by
      refine if_neg ?_
      rw [voters_see s hne]
      omega
    rw [hrun, hvote]
    exact ⟨rfl, fun ch => see_opens hv ch (pairBit_lt hne)⟩

end Sys2Proof.ConsRules
end

section
/-! ## The consensus of a cycle (R65, R208-R210, R216) -/

namespace Sys2Proof.ConsRules

open Sys2Proof Sys2Proof.Machine Sys2Proof.Laws Sys2Proof.SvcUp Sys2Proof.VoteRules Sys2Proof.AgreeRules
open Sys2Proof.VoteFlag (foldl_preserves)

/-! ### What events and exclusions leave of the module -/

/-- A state but for its lanes, the logbook with its queue, and the rotating test. -/
def outer (s : State) : State :=
  { s with lanes := State.reset.lanes, log := State.reset.log, queues := [], rot := State.reset.rot }

@[simp] theorem outer_putLane (s : State) (ln : LaneId) (L : Lane) : outer (s.putLane ln L) = outer s := rfl

@[simp] theorem outer_updLane (s : State) (ln : LaneId) (f : Lane → Lane) : outer (s.updLane ln f) = outer s := rfl

@[simp] theorem outer_mapLanes (s : State) (f : LaneId → Lane → Lane) : outer (s.mapLanes f) = outer s := rfl

@[simp] theorem outer_raise (s : State) (c : LogClass) (n : EventName) (d : Die) (x : List Int) :
    outer (s.raise c n d x) = outer s := by
  unfold State.raise
  (repeat' split) <;> rfl

@[simp] theorem outer_raiseLane (s : State) (ln : LaneId) (c : LogClass) (n : EventName) (x : List Int) :
    outer (s.raiseLane ln c n x) = outer s := by
  unfold State.raiseLane
  split <;> simp

@[simp] theorem outer_raiseModule (s : State) (c : LogClass) (n : EventName) (x : List Int) :
    outer (s.raiseModule c n x) = outer s := by
  unfold State.raiseModule
  split <;> simp

@[simp] theorem outer_raiseChange (s : State) (d : Die) (n : EventName) (x : List Int) :
    outer (s.raiseChange d n x) = outer s := by
  unfold State.raiseChange
  split <;> simp

@[simp] theorem outer_endTest (s : State) (ln : LaneId) : outer (s.endTest ln) = outer s := by
  unfold State.endTest
  split <;> rfl

@[simp] theorem outer_exclude (s : State) (ln : LaneId) (c : Cause) : outer (s.exclude ln c) = outer s := by
  unfold State.exclude
  cases s.testing with
  | true => rfl
  | false => cases s.laneState ln <;> simp

@[simp] theorem outer_excludeAgreed (s : State) (ln : LaneId) (c : Cause) :
    outer (s.excludeAgreed ln c) = outer s :=
  (foldl_preserves outer _ (fun t m => by split <;> rfl) _ _).trans (outer_exclude s ln c)

@[simp] theorem outer_raiseCommitted (s : State) (ln : LaneId) (es : List (LogClass × EventName × List Int)) :
    outer (s.raiseCommitted ln es) = outer s :=
  foldl_preserves outer _ (fun t e => by split <;> simp) es s

section
variable {s t : State} (h : outer t = outer s)
include h

theorem uplink_of_outer : t.uplink = s.uplink := by
  have h' := congrArg State.uplink h
  exact h'

theorem pilot_of_outer : t.pilot = s.pilot := by
  have h' := congrArg State.pilot h
  exact h'

theorem pilotDue_of_outer : t.pilotDue = s.pilotDue := by
  have h' := congrArg State.pilotDue h
  exact h'

theorem bist_of_outer : t.bist = s.bist := by
  have h' := congrArg State.bist h
  exact h'

theorem module_of_outer : t.module = s.module := by
  have h' := congrArg State.module h
  exact h'

theorem skippedCn_of_outer : t.skippedCn = s.skippedCn := by
  have h' := congrArg State.skippedCn h
  exact h'

theorem testing_of_outer : t.testing = s.testing := testing_of_bist (bist_of_outer h)

theorem quiet_of_outer (hc : ∀ m, (t.lane m).agreedCmds = (s.lane m).agreedCmds) (hq : quiet s) : quiet t := by
  obtain ⟨hu, hp, hd, hb, ht, ha⟩ := hq
  exact ⟨by rw [uplink_of_outer h, hu], by rw [pilot_of_outer h, hp], by rw [pilotDue_of_outer h, hd],
    by rw [bist_of_outer h, hb], (testing_of_outer h).trans ht, fun m => by rw [hc m]; exact ha m⟩

end

/-! ### Records that agree -/

theorem foldl_stays {α β : Type} (f : β → α → β) (b : β) (xs : List α) (h : ∀ x ∈ xs, f b x = b) : xs.foldl f b = b := by
  induction xs with
  | nil => rfl
  | cons x xs ih =>
    rw [List.foldl_cons, h x (by simp)]
    exact ih fun y hy => h y (List.mem_cons_of_mem _ hy)

theorem voters_iff (s : State) (m : LaneId) : m ∈ s.voters ↔ s.votes m = true := by rw [mem_voters, votes_iff]

theorem nodup_voters (s : State) : s.voters.Nodup :=
  List.Nodup.sublist (List.filter_sublist (l := LaneId.all)) (by decide)

/-- The lanes IN-VOTE where at least two are. -/
theorem voters_cases {s : State} (h : 2 ≤ s.voters.length) :
    s.voters = [.l1, .l2, .l3] ∨ ∃ a b, a ≠ b ∧ s.voters = [a, b] := by
  have hsub : s.voters.Sublist LaneId.all := List.filter_sublist
  have hle : s.voters.length ≤ 3 := hsub.length_le
  have hnd := nodup_voters s
  by_cases h3 : s.voters.length = 3
  · exact .inl (voters_eq_all h3)
  · obtain ⟨a, b, hab⟩ := List.length_eq_two.1 (show s.voters.length = 2 by omega)
    rw [hab] at hnd
    exact .inr ⟨a, b, by simpa using hnd, hab⟩

section
variable {s : State} (h : recordsAgree s)
include h

theorem equivocates_agree {src : LaneId} (hv : s.votes src = true) : s.equivocates src = false := by
  have hall : ∀ r ∈ (s.voters.filter (fun m => decide (m ≠ src))).filterMap (fun m => (s.lane m).consRecs.get src),
      some r = (s.lane src).consRecs.get src := by
    intro r hr
    obtain ⟨m, hm, hr⟩ := List.mem_filterMap.1 hr
    rw [← hr]
    exact (h m src ((voters_iff s m).1 (List.mem_filter.1 hm).1) hv).1
  unfold State.equivocates
  rw [Bool.and_eq_false_iff]
  right
  split
  · next a b hab =>
    rw [hab] at hall
    have hr : some a = some b := (hall a (by simp)).trans (hall b (by simp)).symm
    simpa using hr
  · rfl

theorem echoRound_agree : s.echoRound = s :=
  foldl_stays _ s _ fun m hm => if_neg (by simp [equivocates_agree h ((voters_iff s m).1 hm)])

theorem dropSilent_agree : s.dropSilent = s :=
  foldl_stays _ s _ fun m hm => if_neg (by
    have hsome := (h m m ((voters_iff s m).1 hm) ((voters_iff s m).1 hm)).2
    simp [Option.isSome_iff_ne_none.1 hsome])

theorem recsSeenBy_agree {a b : LaneId} (ha : s.votes a = true) (hb : s.votes b = true) :
    s.recsSeenBy a = s.recsSeenBy b := by
  refine List.filterMap_congr fun m hm => ?_
  have hv := (voters_iff s m).1 hm
  rw [(h a m ha hv).1, (h b m hb hv).1]

theorem voteRecs_agree {a b : LaneId} {rest : List LaneId} (hv : s.voters = a :: b :: rest) :
    s.voteRecs = some (s.recsSeenBy a) := by
  have hnd := nodup_voters s
  rw [hv] at hnd
  have hab : b ≠ a := fun e => by simp [e] at hnd
  have ha : s.votes a = true := (voters_iff s a).1 (by simp [hv])
  have hb : s.votes b = true := (voters_iff s b).1 (by simp [hv])
  have hcarry : s.voters.any (fun m =>
      decide (m ≠ a) && decide (decideCons (s.recsSeenBy m) = decideCons (s.recsSeenBy a))) = true :=
    List.any_eq_true.2 ⟨b, by simp [hv], by simp [hab, recsSeenBy_agree h ha hb]⟩
  unfold State.voteRecs
  conv_lhs => rw [hv, List.find?_cons]
  rw [← hv, hcarry]
  rfl

/-- The record each lane IN-VOTE made, as every other one holds it. -/
theorem recsSeenBy_map {a : LaneId} (ha : s.votes a = true) :
    ∃ rec : LaneId → ConsRec, (∀ m, s.votes m = true → (s.lane m).consRecs.get m = some (rec m)) ∧
      s.recsSeenBy a = s.voters.map (fun m => (m, rec m)) := by
  refine ⟨fun m => ((s.lane m).consRecs.get m).getD ⟨0, 0, 0, false, (s.lane m).views⟩, fun m hm => ?_, ?_⟩
  · obtain ⟨r, hr⟩ := Option.isSome_iff_exists.1 (h m m hm hm).2
    simp [hr]
  · rw [← List.filterMap_eq_map]
    refine List.filterMap_congr fun m hm => ?_
    have hv := (voters_iff s m).1 hm
    obtain ⟨r, hr⟩ := Option.isSome_iff_exists.1 (h m m hv hv).2
    rw [(h a m ha hv).1, hr]
    simp [hr]

end

/-! ### Table 7.8 over equal records, and over overruns -/

theorem decideCons_equal {xs : List (LaneId × ConsRec)} (hlen : xs.length = 2 ∨ xs.length = 3) {sg od : U64}
    (hx : ∀ e ∈ xs, e.2.sig = sg ∧ e.2.out = od ∧ e.2.ovr = false) : decideCons xs = .commit none := by
  rcases hlen with hl | hl
  · obtain ⟨a, b, rfl⟩ := List.length_eq_two.1 hl
    have ha := hx a (by simp)
    have hb := hx b (by simp)
    simp [decideCons, consTable, ha, hb]
  · obtain ⟨a, b, c, rfl⟩ := List.length_eq_three.1 hl
    have ha := hx a (by simp)
    have hb := hx b (by simp)
    have hc := hx c (by simp)
    simp [decideCons, consTable, ha, hb, hc]

theorem decideCons_overrun {xs : List (LaneId × ConsRec)} (hlen : xs.length = 2 ∨ xs.length = 3)
    (hx : ∀ e ∈ xs, e.2.ovr = true) : decideCons xs = .skip none false := by
  rcases hlen with hl | hl
  · obtain ⟨a, b, rfl⟩ := List.length_eq_two.1 hl
    have ha := hx a (by simp)
    have hb := hx b (by simp)
    simp [decideCons, ha, hb]
  · obtain ⟨a, b, c, rfl⟩ := List.length_eq_three.1 hl
    have ha := hx a (by simp)
    have hb := hx b (by simp)
    have hc := hx c (by simp)
    simp [decideCons, ha, hb, hc]

end Sys2Proof.ConsRules
end

section
/-! ## A cycle that commits, and a second skipped one (R208-R210, R216, R478) -/

namespace Sys2Proof.ConsRules

open Sys2Proof Sys2Proof.Machine Sys2Proof.Laws Sys2Proof.SvcUp Sys2Proof.VoteRules Sys2Proof.AgreeRules
open Sys2Proof.VoteFlag (foldl_preserves)

/-! ### Events of a committed cycle, and the module's state -/

theorem lanes_raiseChange {s : State} (h : s.uplink.up = true) (d : Die) (n : EventName) (x : List Int) :
    (s.raiseChange d n x).lanes = s.lanes := by
  simp [State.raiseChange, h]

theorem lanes_raiseCommitted {s : State} (h : s.uplink.up = true) (ln : LaneId)
    (es : List (LogClass × EventName × List Int)) : (s.raiseCommitted ln es).lanes = s.lanes := by
  unfold State.raiseCommitted
  induction es generalizing s with
  | nil => rfl
  | cons e es ih =>
    rw [List.foldl_cons]
    split
    · exact (ih (by rw [uplink_of_outer (outer_raiseChange s _ _ _), h])).trans (lanes_raiseChange h _ _ _)
    · exact (ih (by rw [uplink_of_outer (outer_raiseLane s _ _ _ _), h])).trans (lanes_raiseLane h _ _ _ _)

theorem module_setModule (s : State) (m : ModState) : (s.setModule m).module = m := by
  unfold State.setModule
  split
  · next h => exact h
  · rfl

theorem lanes_setModule {s : State} (h : s.uplink.up = true) (m : ModState) : (s.setModule m).lanes = s.lanes := by
  unfold State.setModule
  split
  · rfl
  · exact lanes_raiseModule h _ _ _

/-- A change of module state keeps what is neither lane, log nor module state. -/
theorem outer_setModule (s : State) (m : ModState) :
    outer (s.setModule m) = { outer s with module := m } := by
  unfold State.setModule
  split
  · next h => subst h; rfl
  · have h := outer_raiseModule s .info .moduleState [(modCode m : Int)]
    exact congrArg (fun t : State => { t with module := m }) h

theorem module_settle (s : State) : s.settle.module = s.module := by
  unfold State.settle
  dsimp only
  split
  · rfl
  · exact module_raiseModule s _ _ _

theorem skippedCn_settle (s : State) : s.settle.skippedCn = s.skippedCn := by
  unfold State.settle
  dsimp only
  split
  · rfl
  · exact skippedCn_raiseModule s _ _ _

/-! ### The commit in every lane -/

/-- What a commit makes of a lane. -/
def commitOf (donor : Option ConsRec) (ln : LaneId) (M : Lane) : Lane :=
  match M.views.get ln with
  | .inVote => M.commitCycle
  | .rejoining => if M.rejoin.framesDone ∧ M.phase = .pCons then M.shadowCycle ln donor else M
  | .outTest => M
  | .outFault => M
  | .laneOff => M

theorem commitOf_inVote {donor : Option ConsRec} {ln : LaneId} {M : Lane} (h : M.views.get ln = .inVote) :
    commitOf donor ln M = M.commitCycle := by
  unfold commitOf
  rw [h]

theorem commitOf_out {donor : Option ConsRec} {ln : LaneId} {M : Lane} (h : M.views.get ln ≠ .inVote)
    (hr : M.views.get ln ≠ .rejoining) : commitOf donor ln M = M := by
  unfold commitOf
  cases hv : M.views.get ln <;> simp_all

/-- The state once every lane has committed and the events of the cycle are raised. -/
def committedState (s : State) : State :=
  ({ s.mapLanes (commitOf ((s.lane s.lead).consRecs.get s.lead)) with skippedCn := none } : State).raiseCommitted s.lead
    (s.lane s.lead).pendEvents

theorem outer_committedState (s : State) : outer (committedState s) = { outer s with skippedCn := none } :=
  outer_raiseCommitted _ _ _

theorem bist_committedState (s : State) : (committedState s).bist = s.bist := by
  have h := congrArg State.bist (outer_committedState s)
  exact h

theorem module_committedState (s : State) : (committedState s).module = s.module := by
  have h := congrArg State.module (outer_committedState s)
  exact h

section
variable {s : State} (hq : quiet s)
include hq

theorem uplink_committedState : (committedState s).uplink.up = true := by
  have h := congrArg State.uplink (outer_committedState s)
  exact (congrArg Uplink.up h).trans hq.1

theorem lane_committedState (m : LaneId) :
    (committedState s).lane m = commitOf ((s.lane s.lead).consRecs.get s.lead) m (s.lane m) := by
  have hup : ({ s.mapLanes (commitOf ((s.lane s.lead).consRecs.get s.lead)) with skippedCn := none } : State).uplink.up =
      true := hq.1
  exact (congrArg (fun T => T.get m) (lanes_raiseCommitted hup _ _)).trans (lane_mapLanes s _ m)

/-- Nothing but the commit goes on: no online change was agreed, and no session ends. -/
theorem commitAll_eq : s.commitAll =
    if (committedState s).module = .restricted ∧ ((committedState s).lane s.lead).allProven then
      (committedState s).setModule .operational else committedState s := by
  obtain ⟨_, hpil, hdue, _, _, hcmds⟩ := hq
  have hno : (s.lane s.lead).agreedCmds.find? (fun c => decide (c.cmd = .onlineChange)) = none :=
    List.find?_eq_none.2 fun c hc => by simpa using hcmds s.lead c hc
  have honline : (committedState s).onlineAgreed (s.lane s.lead) = committedState s := by
    unfold State.onlineAgreed
    rw [hno]
  have hpilot : (committedState s).checkPilot = committedState s := by
    have h1 := congrArg State.pilot (outer_committedState s)
    have h2 := congrArg State.pilotDue (outer_committedState s)
    refine if_neg ?_
    simp [show (committedState s).pilot = none from Eq.trans h1 hpil,
      show (committedState s).pilotDue = false from Eq.trans h2 hdue]
  have h : (( committedState s).onlineAgreed (s.lane s.lead)).checkPilot = committedState s := by rw [honline, hpilot]
  unfold State.commitAll
  extract_lets lead L donor evs s1 s2 s3
  have h3 : s3 = committedState s := h
  rw [h3]

theorem lane_commitAll (m : LaneId) :
    s.commitAll.lane m = commitOf ((s.lane s.lead).consRecs.get s.lead) m (s.lane m) := by
  rw [commitAll_eq hq]
  split
  · exact (congrArg (fun T => T.get m) (lanes_setModule (uplink_committedState hq) _)).trans (lane_committedState hq m)
  · exact lane_committedState hq m

theorem uplink_commitAll : s.commitAll.uplink.up = true := by
  rw [commitAll_eq hq]
  split
  · have h := congrArg State.uplink (outer_setModule (committedState s) .operational)
    exact (congrArg Uplink.up h).trans (uplink_committedState hq)
  · exact uplink_committedState hq

theorem bist_commitAll : s.commitAll.bist = s.bist := by
  have hb := bist_committedState s
  rw [commitAll_eq hq]
  split
  · have h := congrArg State.bist (outer_setModule (committedState s) .operational)
    exact Eq.trans h hb
  · exact hb

theorem skippedCn_commitAll : s.commitAll.skippedCn = none := by
  have hs : (committedState s).skippedCn = none := skippedCn_of_outer (outer_raiseCommitted _ _ _)
  rw [commitAll_eq hq]
  split
  · have h := congrArg State.skippedCn (outer_setModule (committedState s) .operational)
    exact Eq.trans h hs
  · exact hs

theorem module_commitAll :
    s.commitAll.module = s.module ∨ s.module = .restricted ∧ s.commitAll.module = .operational := by
  have hm := module_committedState s
  rw [commitAll_eq hq]
  split
  · next h => exact .inr ⟨hm ▸ h.1, module_setModule _ _⟩
  · exact .inl hm

/-- No shutdown waits for the end of the cycle. -/
theorem shutdown_commitAll : s.commitAll.shutdownAtCons = s.commitAll := by
  have h : s.commitAll.bist.shutdownDue = false := by
    rw [bist_commitAll hq]
    exact hq.2.2.2.1
  exact if_neg (by simp [h])

end

/-! ### The decision -/

section
variable {s : State} (hagree : recordsAgree s) (h2 : 2 ≤ s.voters.length)

include hagree h2 in
/-- Records that agree are decided as one of the lanes IN-VOTE holds them. -/
theorem consensus_records : ∃ rec : LaneId → ConsRec,
    (∀ m, s.votes m = true → (s.lane m).consRecs.get m = some (rec m)) ∧
    s.voteRecs.getD [] = s.voters.map (fun m => (m, rec m)) := by
  obtain ⟨a, b, rest, hv⟩ : ∃ a b rest, s.voters = a :: b :: rest := by
    rcases voters_cases h2 with h | ⟨a, b, -, h⟩
    · exact ⟨_, _, _, h⟩
    · exact ⟨a, b, [], h⟩
  have ha : s.votes a = true := (voters_iff s a).1 (by simp [hv])
  obtain ⟨rec, hrec, hseen⟩ := recsSeenBy_map hagree ha
  exact ⟨rec, hrec, by rw [voteRecs_agree hagree hv, Option.getD_some, hseen]⟩

include hagree in
/-- The consensus once the records agree: Table 7.8 over them. -/
theorem consensus_eq (hrun : runsCycle s.module = true) (only : Bool) : s.consensus only =
    match decideCons (s.voteRecs.getD []) with
    | .skip out d =>
      if only && !s.secondSkip then s
      else (match out with
        | some ln => s.excludeAgreed ln .overrun
        | none => s).skipAll d
    | .commit out =>
      if only then s
      else
        let anyOvr := (s.voteRecs.getD []).any (fun e => e.2.ovr)
        (match out with
        | some ln => s.excludeAgreed ln (if anyOvr then .overrun else .sigcmp)
        | none => s).commitAll
    | .lost => if only then s else s.loseVote := by
  unfold State.consensus
  rw [echoRound_agree hagree, dropSilent_agree hagree]
  dsimp only
  exact if_pos hrun

include h2 in
theorem voters_len (xs : List (LaneId × ConsRec)) {rec : LaneId → ConsRec}
    (hx : xs = s.voters.map (fun m => (m, rec m))) : xs.length = 2 ∨ xs.length = 3 := by
  rw [hx, List.length_map]
  rcases voters_cases h2 with h | ⟨a, b, -, h⟩ <;> rw [h] <;> simp

end

end Sys2Proof.ConsRules
end

section
/-! ## Equal records, a minority record, and a second skip -/

namespace Sys2Proof.ConsRules

open Sys2Proof Sys2Proof.Machine Sys2Proof.Laws Sys2Proof.SvcUp Sys2Proof.VoteRules Sys2Proof.AgreeRules

/-! ### Equal records -/

theorem consensusDecision_eq {s : State} (hrun : runsCycle s.module = true) (hin : s.inCons = true) :
    exec .consensusDecision s = fin (s.consensus false).shutdownAtCons := if_pos ⟨hrun, hin⟩

/-- The decision where the records name one cycle. -/
theorem consensus_commit {s : State} (hagree : recordsAgree s) (hrun : runsCycle s.module = true)
    (hd : decideCons (s.voteRecs.getD []) = .commit none) : s.consensus false = s.commitAll := by
  rw [consensus_eq hagree hrun, hd]
  rfl

/-- Settles O14: equal records decide `commit` with no lane left out, and the commit acts lane by lane. -/
theorem equalRecordsCommit : Obligations.EqualRecordsCommit := by
  intro s sg od hrun hin hq h2 hagree heq
  obtain ⟨rec, hrec, hrecs⟩ := consensus_records hagree h2
  have hall : ∀ e ∈ s.voteRecs.getD [], e.2.sig = sg ∧ e.2.out = od ∧ e.2.ovr = false := by
    intro e he
    rw [hrecs] at he
    obtain ⟨m, hm, rfl⟩ := List.mem_map.1 he
    have hv := (voters_iff s m).1 hm
    exact heq m (rec m) hv (hrec m hv)
  have hcommit := consensus_commit hagree hrun (decideCons_equal (voters_len h2 _ hrecs) hall)
  have hlane := fun m => (lane_settle (uplink_commitAll hq) m).trans (lane_commitAll hq m)
  have hrunx := consensusDecision_eq hrun hin
  rw [hcommit, shutdown_commitAll hq] at hrunx
  refine ⟨_, hrunx, fun m hm => ?_, fun m hm hr => ?_, ?_, ?_⟩
  · rw [hlane, commitOf_inVote ((votes_iff s m).1 hm)]
  · rw [hlane, commitOf_out (fun hi => by simp [(votes_iff s m).2 hi] at hm) hr]
  · rw [skippedCn_settle, skippedCn_commitAll hq]
  · rw [module_settle]
    exact module_commitAll hq

/-! ### A minority record -/

section
variable {s : State} {bad : LaneId}

/-- Table 7.8: one lane of three whose signature or output stands alone. -/
theorem decideCons_minority {rec : LaneId → ConsRec} {sg od : U64} (hovr : (rec bad).ovr = false)
    (hdiff : (rec bad).sig ≠ sg ∨ (rec bad).out ≠ od)
    (hsame : ∀ m, m ≠ bad → (rec m).sig = sg ∧ (rec m).out = od ∧ (rec m).ovr = false) :
    decideCons (LaneId.all.map (fun m => (m, rec m))) = .commit (some bad) := by
  have hpair : ((rec bad).sig, (rec bad).out) ≠ (sg, od) := by
    rintro h
    simp only [Prod.mk.injEq] at h
    exact hdiff.elim (fun hs => hs h.1) (fun ho => ho h.2)
  cases bad with
  | l1 =>
    have h2 := hsame .l2 (by decide)
    have h3 := hsame .l3 (by decide)
    simp [decideCons, consTable, LaneId.all, hovr, h2, h3, hpair, -Prod.mk.injEq]
  | l2 =>
    have h1 := hsame .l1 (by decide)
    have h3 := hsame .l3 (by decide)
    simp [decideCons, consTable, LaneId.all, hovr, h1, h3, hpair.symm, -Prod.mk.injEq]
  | l3 =>
    have h1 := hsame .l1 (by decide)
    have h2 := hsame .l2 (by decide)
    simp [decideCons, consTable, LaneId.all, hovr, h1, h2, hpair, -Prod.mk.injEq]

theorem hold_agreedCmds (L : Lane) (e : Event) : (L.hold e).agreedCmds = L.agreedCmds := by
  unfold Lane.hold
  split <;> rfl

/-- A lane that sees another leave: its views, switches and banks alone change. -/
theorem see_frame (me src : LaneId) (L : Lane) :
    Lane.see me src L = { L with
      views := L.views.set src .outFault, switches := (Lane.see me src L).switches
      xbank := (Lane.see me src L).xbank, xmissed := (Lane.see me src L).xmissed
      snapUnacked := (Lane.see me src L).snapUnacked } := by
  by_cases h : L.views.get src = .outFault
  · have hviews := see_views me src L
    rw [see_of_out h] at hviews ⊢
    rw [← hviews]
  · unfold Lane.see
    rw [if_neg h, latchX_frame]
    rfl

theorem agreedCmds_excludeAgreed (ht : s.testing = false) (hv : s.laneState bad = .inVote) (c : Cause) (m : LaneId) :
    ((s.excludeAgreed bad c).lane m).agreedCmds = (s.lane m).agreedCmds := by
  by_cases hm : m = bad
  · subst hm
    unfold State.excludeAgreed
    rw [lane_seenByVoters_self]
    refine exclude_of (P := fun L => L.agreedCmds = (s.lane m).agreedCmds)
      (fun L e h => (hold_agreedCmds L e).trans h) c ht (excludable_inVote hv) ?_
    unfold Lane.leave
    rw [latchX_frame]
    rfl
  · rw [lane_excludeAgreed_ne s c hm]
    split
    · rw [see_frame]
    · rfl

end

/-- R208: the lane whose record stands alone leaves with SIGCMP, and the others commit. -/
theorem minority_excluded {s : State} {bad : LaneId} {sg od : U64} {rb : ConsRec} (hrun : runsCycle s.module = true)
    (hq : quiet s) (h3 : s.voters = [.l1, .l2, .l3]) (hagree : recordsAgree s) (hin : s.inCons = true)
    (hb : (s.lane bad).consRecs.get bad = some rb) (hovr : rb.ovr = false) (hdiff : rb.sig ≠ sg ∨ rb.out ≠ od)
    (hsame : ∀ m r, m ≠ bad → (s.lane m).consRecs.get m = some r → r.sig = sg ∧ r.out = od ∧ r.ovr = false) :
    ∃ u, exec .consensusDecision s = .next u ∧ LaneOut bad .sigcmp (u.lane bad) ∧
      ∀ m, m ≠ bad → u.lane m = (Lane.see m bad (s.lane m)).commitCycle := by
  have hin3 : ∀ m, s.laneState m = .inVote := fun m => (votes_iff s m).1 (all_vote h3 m)
  obtain ⟨rec, hrec, hrecs⟩ := consensus_records hagree (by rw [h3]; decide)
  have hbad : rec bad = rb := Option.some.inj ((hrec bad (all_vote h3 bad)).symm.trans hb)
  have hothers : ∀ m, m ≠ bad → (rec m).sig = sg ∧ (rec m).out = od ∧ (rec m).ovr = false :=
    fun m hm => hsame m (rec m) hm (hrec m (all_vote h3 m))
  have hdec : decideCons (s.voteRecs.getD []) = .commit (some bad) := by
    rw [hrecs, h3]
    exact decideCons_minority (by rw [hbad, hovr]) (by rwa [hbad]) hothers
  have hany : (s.voteRecs.getD []).any (fun e => e.2.ovr) = false := by
    rw [hrecs, List.any_eq_false]
    intro e he
    obtain ⟨m, -, rfl⟩ := List.mem_map.1 he
    by_cases hm : m = bad
    · simp [hm, hbad, hovr]
    · simp [(hothers m hm).2.2]
  have hcons : s.consensus false = (s.excludeAgreed bad .sigcmp).commitAll := by
    rw [consensus_eq hagree hrun, hdec, hany]
    rfl
  have ht : s.testing = false := hq.2.2.2.2.1
  have hq' : quiet (s.excludeAgreed bad .sigcmp) :=
    quiet_of_outer (outer_excludeAgreed s bad .sigcmp) (agreedCmds_excludeAgreed ht (hin3 bad) .sigcmp) hq
  have hout : LaneOut bad .sigcmp ((s.excludeAgreed bad .sigcmp).lane bad) :=
    laneOut_excludeAgreed .sigcmp ht (excludable_inVote (hin3 bad))
  have hlane := fun m => (lane_settle (uplink_commitAll hq') m).trans (lane_commitAll hq' m)
  have hrunx := consensusDecision_eq hrun hin
  rw [hcons, shutdown_commitAll hq'] at hrunx
  refine ⟨_, hrunx, ?_, fun m hm => ?_⟩
  · rw [hlane, commitOf_out (by rw [hout.1]; decide) (by rw [hout.1]; decide)]
    exact hout
  · have hsee : (s.excludeAgreed bad .sigcmp).lane m = Lane.see m bad (s.lane m) := by
      rw [lane_excludeAgreed_ne s .sigcmp hm, if_pos (hin3 m)]
    have hview : (Lane.see m bad (s.lane m)).views.get m = .inVote := (see_self_state m bad _ hm).trans (hin3 m)
    rw [hlane, hsee, commitOf_inVote hview]

/-! ### The second skipped cycle -/

/-- A lane without a vote, with every switch open. -/
def Halted (ln : LaneId) (L : Lane) : Prop := L.switches = [] ∧ L.views.get ln ≠ .inVote

theorem holdFree_halted (ln : LaneId) : HoldFree (Halted ln) := by
  intro L e h
  unfold Lane.hold
  split <;> exact h

theorem halted_halted (me : LaneId) (now : Nat) (L : Lane) : Halted me (Lane.halted me now L) := by
  have hleave : Halted me (Lane.leave me .halt now L) := by
    obtain ⟨hview, -, hsw, -⟩ := laneOut_leave me .halt now L
    exact ⟨hsw, by rw [hview]; decide⟩
  unfold Lane.halted
  split
  · next h => exact ⟨rfl, by rw [show L.openAll.views = L.views from rfl, h]; decide⟩
  · next h => exact ⟨rfl, by rw [show L.gate.openAll.views = L.views from rfl, h]; decide⟩
  · exact hleave
  · exact hleave
  · exact hleave

theorem halted_shareViews {s : State} {m : LaneId} (h : Halted m (s.lane m)) : Halted m (s.shareViews.lane m) := by
  unfold State.shareViews
  rw [lane_mapLanes]
  exact ⟨h.1, by rw [Tri_get_ofFn]; exact h.2⟩

/-- HALT: no lane has a vote or a closed switch (R478). -/
theorem enterHalt_halted (s : State) (m : LaneId) : Halted m (s.enterHalt.lane m) := by
  have h1 : Halted m (((s.dropTest.dropPilot.mapLanes
      (fun ln L => Lane.halted ln s.dropTest.dropPilot.now L)).shareViews).lane m) :=
    halted_shareViews (by rw [lane_mapLanes]; exact halted_halted m _ _)
  have h2 : ∀ t : State, Halted m (t.lane m) → Halted m ((t.setModule .halt).lane m) := fun t ht => by
    unfold State.setModule
    split
    · exact ht
    · exact raiseModule_of (holdFree_halted m) _ _ _ ht
  exact raiseModule_of (holdFree_halted m) .fault .moduleHalt [] (h2 _ h1)

theorem module_enterHalt (s : State) : s.enterHalt.module = .halt :=
  (module_raiseModule _ _ _ _).trans (module_setModule _ _)

theorem skipAll_second {s : State} (h : s.secondSkip = true) (d : Bool) : ∃ t : State, s.skipAll d = t.enterHalt :=
  ⟨_, if_pos h⟩

theorem second_skip_halts {s : State} (hrun : runsCycle s.module = true) (hin : s.inCons = true)
    (h2 : 2 ≤ s.voters.length) (hagree : recordsAgree s)
    (hovr : ∀ m r, s.votes m = true → (s.lane m).consRecs.get m = some r → r.ovr = true)
    (hskip : s.skippedCn = some ((s.lane s.lead).cn - 1)) :
    ∃ t : State, exec .secondSkipHalt s = fin t.enterHalt := by
  obtain ⟨rec, hrec, hrecs⟩ := consensus_records hagree h2
  have hall : ∀ e ∈ s.voteRecs.getD [], e.2.ovr = true := by
    intro e he
    rw [hrecs] at he
    obtain ⟨m, hm, rfl⟩ := List.mem_map.1 he
    have hv := (voters_iff s m).1 hm
    exact hovr m (rec m) hv (hrec m hv)
  have hsecond : s.secondSkip = true := decide_eq_true hskip
  obtain ⟨t, ht⟩ := skipAll_second hsecond false
  have hcons : s.consensus true = t.enterHalt := by
    rw [consensus_eq hagree hrun, decideCons_overrun (voters_len h2 _ hrecs) hall, ← ht]
    exact if_neg (by simp [hsecond])
  refine ⟨t, ?_⟩
  rw [← hcons]
  exact if_pos ⟨hrun, hin⟩

/-- Settles O15: the minority record by Table 7.8, and the second skip by what HALT leaves. -/
theorem minorityExcludedAndSecondSkipHalts : Obligations.MinorityExcludedAndSecondSkipHalts := by
  refine ⟨fun s bad sg od rb hrun hq h3 hagree hin hb hovr hdiff hsame => ?_,
    fun s hrun _ hin h2 hagree hovr hskip => ?_⟩
  · obtain ⟨u, hex, hout, hlane⟩ := minority_excluded hrun hq h3 hagree hin hb hovr hdiff hsame
    refine ⟨u, hex, hout, fun m hm => ?_⟩
    have hview : (Lane.see m bad (s.lane m)).views.get m = .inVote :=
      (see_self_state m bad _ hm).trans ((votes_iff s m).1 (all_vote h3 m))
    unfold State.laneState
    rw [hlane m hm]
    refine ⟨hview, rfl, ?_, ?_⟩
    · rw [see_frame]
      rfl
    · exact (congrArg (fun V => V.get bad) (see_views m bad (s.lane m))).trans (Tri_get_set_self _ _ _)
  · obtain ⟨t, hex⟩ := second_skip_halts hrun hin h2 hagree hovr hskip
    have hlane := fun m => settle_of (holdFree_halted m) (enterHalt_halted t m)
    refine ⟨_, hex, (module_settle _).trans (module_enterHalt t), ?_, fun m => ⟨(hlane m).1, (hlane m).2⟩⟩
    exact List.eq_nil_iff_forall_not_mem.2 fun m hm => (hlane m).2 ((mem_voters _ m).1 hm)

end Sys2Proof.ConsRules
end

section
/-! ## The end of P-CONS, signing, and individual releases (R66, R153, R206, R209, R211, R212, R419) -/

namespace Sys2Proof.ConsRules

open Sys2Proof Sys2Proof.Machine Sys2Proof.Laws Sys2Proof.SvcUp Sys2Proof.VoteRules Sys2Proof.AgreeRules
open Sys2Proof.VoteFlag (foldl_preserves)

/-! ### A lane and the events it holds -/

/-- A lane that differs at most in the events it holds. -/
def SameButHeld (L M : Lane) : Prop := ∃ es n, M = { L with heldEvents := es, lostEvents := n }

theorem SameButHeld.refl (L : Lane) : SameButHeld L L := ⟨L.heldEvents, L.lostEvents, rfl⟩

theorem holdFree_sameButHeld (L : Lane) : HoldFree (SameButHeld L) := by
  rintro M e ⟨es, n, rfl⟩
  unfold Lane.hold
  split <;> exact ⟨_, _, rfl⟩

theorem lane_settle_held (s : State) (m : LaneId) : SameButHeld (s.lane m) (s.settle.lane m) :=
  settle_of (holdFree_sameButHeld _) (SameButHeld.refl _)

theorem raiseLaneAll_of {P : Lane → Prop} (hP : HoldFree P) {m : LaneId} (ln : LaneId)
    (es : List (LogClass × EventName × List Int)) {s : State} (h : P (s.lane m)) : P ((s.raiseLaneAll ln es).lane m) := by
  unfold State.raiseLaneAll
  induction es generalizing s with
  | nil => exact h
  | cons e es ih =>
    rw [List.foldl_cons]
    exact ih (raiseLane_of hP ln _ _ _ h)

theorem lane_raiseLaneAll_ne (s : State) {ln m : LaneId} (es : List (LogClass × EventName × List Int)) (h : m ≠ ln) :
    (s.raiseLaneAll ln es).lane m = s.lane m :=
  foldl_preserves (fun t : State => t.lane m) (fun t (e : LogClass × EventName × List Int) => t.raiseLane ln e.1 e.2.1 e.2.2)
    (fun t _ => lane_raiseLane_ne t _ _ _ h) es s

@[simp] theorem outer_raiseLaneAll (s : State) (ln : LaneId) (es : List (LogClass × EventName × List Int)) :
    outer (s.raiseLaneAll ln es) = outer s :=
  foldl_preserves outer (fun t (e : LogClass × EventName × List Int) => t.raiseLane ln e.1 e.2.1 e.2.2)
    (fun t _ => outer_raiseLane t ln _ _ _) es s

/-! ### Switch commands (R209, R211) -/

section
variable {L : Lane} {ln : LaneId} {m : ModState}

theorem mem_driveTable {views : Tri LaneState} {vec : BitVec 56} {e : Nat × BitVec 3}
    (h : e ∈ driveTable ln views vec) : vec.getLsbD e.1 = true ∧ views.get ln = .inVote := by
  unfold driveTable at h
  split at h
  · next hv =>
    dsimp only at h
    split at h
    · simp at h
    · obtain ⟨c, hc, rfl⟩ := List.mem_map.1 h
      exact ⟨(List.mem_filter.1 hc).2, hv⟩
  · simp at h

/-- A committed lane issues its new vector. -/
theorem issueVector_done (hm : commandsNet m = true) (hd : L.everCompleted = true ∧ L.cnC = L.cn) :
    L.issueVector ln m = Lane.driveHeld ln { L with prevVec2 := L.prevVec, prevVec := L.vec, vec := L.newVec } := by
  unfold Lane.issueVector
  dsimp only
  rw [hm, if_neg (by decide), if_pos hd]

/-- A skipped cycle changes no command. -/
theorem issueVector_skipped (hm : commandsNet m = true) (hd : ¬ (L.everCompleted = true ∧ L.cnC = L.cn)) :
    L.issueVector ln m = { L with prevVec2 := L.prevVec, prevVec := L.vec } := by
  unfold Lane.issueVector
  dsimp only
  rw [hm, if_neg (by decide), if_neg hd]

/-- A lane of a module that does not command opens everything. -/
theorem issueVector_silent (hm : commandsNet m = false) :
    L.issueVector ln m = Lane.openAll { L with prevVec2 := L.prevVec, prevVec := L.vec, vec := 0 } := by
  unfold Lane.issueVector
  dsimp only
  rw [hm, if_pos (by decide)]

/-- Switch commands touch a lane's vectors and switches alone. -/
theorem issueVector_frame (L : Lane) (ln : LaneId) (m : ModState) : L.issueVector ln m = { L with
    prevVec2 := L.prevVec, prevVec := L.vec
    vec := (L.issueVector ln m).vec, switches := (L.issueVector ln m).switches } := by
  cases hm : commandsNet m
  · rw [issueVector_silent hm]
    rfl
  · by_cases hd : L.everCompleted = true ∧ L.cnC = L.cn
    · rw [issueVector_done hm hd]
      rfl
    · rw [issueVector_skipped hm hd]

end

/-- A lane at the end of P-CONS, before its sweep. -/
def commanded (ln : LaneId) (m : ModState) (L : Lane) : Lane :=
  { L.issueVector ln m with phase := if L.phase = Phase.judged then Phase.pSign else L.phase }

theorem sweepBad_commanded (ln : LaneId) (m : ModState) (L : Lane) :
    (commanded ln m L).sweepBad = (L.issueVector ln m).sweepBad := rfl

theorem views_commanded (ln : LaneId) (m : ModState) (L : Lane) : (commanded ln m L).views = L.views := by
  unfold commanded
  rw [issueVector_frame]

theorem lanes_sendCopy (s : State) (ln : LaneId) : (s.sendCopy ln).lanes = s.lanes := by
  unfold State.sendCopy
  dsimp only
  (repeat' split) <;> rfl

theorem module_sendCopy (s : State) (ln : LaneId) : (s.sendCopy ln).module = s.module := by
  unfold State.sendCopy
  dsimp only
  (repeat' split) <;> rfl

theorem uplink_sendCopy (s : State) (ln : LaneId) : (s.sendCopy ln).uplink = s.uplink := by
  unfold State.sendCopy
  dsimp only
  (repeat' split) <;> rfl

section
variable {s : State} {ln : LaneId} (hr : runsCycle s.module = true) (ha : (s.lane ln).active ln = true)
  (hp : (s.lane ln).phase = .judged ∨ s.module = .standby)
include hr ha hp

theorem pConsEnd_eq : exec (.pConsEnd ln) s =
    match ((s.lane ln).issueVector ln s.module).sweepBad with
    | some e => fin ((s.noteCons.putLane ln (commanded ln s.module (s.lane ln))).codedFault ln 5 e.1 0 0 e.2)
    | none => fin ((s.noteCons.putLane ln (commanded ln s.module (s.lane ln)).scrub).sendCopy ln) :=
  (if_pos ⟨hr, ha, hp⟩).trans (by rw [← sweepBad_commanded]; rfl)

/-- The lane at the end of P-CONS where the sweep finds every word as it should be. -/
theorem pConsEnd_swept (hsweep : ((s.lane ln).issueVector ln s.module).sweepBad = none) :
    ∃ u, exec (.pConsEnd ln) s = .next u ∧
      SameButHeld (commanded ln s.module (s.lane ln)).scrub (u.lane ln) ∧ u.module = s.module ∧
      (s.uplink.up = true → ∀ k, k ≠ ln → u.lane k = s.lane k) := by
  have hrun := pConsEnd_eq hr ha hp
  rw [hsweep] at hrun
  have hlane : ∀ m, ((s.noteCons.putLane ln (commanded ln s.module (s.lane ln)).scrub).sendCopy ln).lane m =
      (s.noteCons.putLane ln (commanded ln s.module (s.lane ln)).scrub).lane m :=
    fun m => congrArg (fun T => T.get m) (lanes_sendCopy _ ln)
  refine ⟨_, hrun, ?_, ?_, fun hu k hk => ?_⟩
  · have h := lane_settle_held ((s.noteCons.putLane ln (commanded ln s.module (s.lane ln)).scrub).sendCopy ln) ln
    rwa [hlane, lane_putLane_self] at h
  · rw [module_settle, module_sendCopy]
    rfl
  · rw [lane_settle (by rw [uplink_sendCopy]; exact hu), hlane, lane_putLane_ne _ _ hk]
    rfl

/-- A word the sweep finds bad takes the lane out. -/
theorem pConsEnd_fault {e : Pass × TFault} (hsweep : ((s.lane ln).issueVector ln s.module).sweepBad = some e)
    (ht : s.testing = false) (hpilot : s.pilot = none) :
    ∃ u, exec (.pConsEnd ln) s = .next u ∧ leftVote u ln (.coded e.2.cause) := by
  have hstate : (s.noteCons.putLane ln (commanded ln s.module (s.lane ln))).laneState ln = s.laneState ln := by
    unfold State.laneState
    rw [lane_putLane_self, views_commanded]
  rw [pConsEnd_eq hr ha hp, hsweep]
  refine leftVote_fin (laneOut_codedFault 5 e.1 0 0 e.2 (by exact hpilot) (by exact ht) ?_)
  rw [hstate]
  exact excludable_of_active ha

end

/-! ### Signing (R212, R206) -/

section
variable {s : State} {ln : LaneId}

/-- The parts of a lane's outgoing messages that reach SVC. -/
def addParts (m : Manifest) (ln : LaneId) (xs : List (Nat × List Byte)) (u : Uplink) : Uplink :=
  xs.foldl (fun u x => u.addPart ln x.1 x.2 (slCodeField (m.body.key ln false 3 (x.1 / 512)) x.2 ln.num)) u

theorem addParts_queues (m : Manifest) (ln : LaneId) (xs : List (Nat × List Byte)) (u : Uplink) :
    (addParts m ln xs u).cmds = u.cmds ∧ (addParts m ln xs u).held = u.held :=
  Prod.mk.inj (foldl_preserves (fun u : Uplink => (u.cmds, u.held))
    (fun u (x : Nat × List Byte) => u.addPart ln x.1 x.2 (slCodeField (m.body.key ln false 3 (x.1 / 512)) x.2 ln.num))
    (fun _ _ => rfl) xs u)

/-- The connection records and messages a lane builds in its cycle. -/
def built (s : State) (ln : LaneId) (m : Manifest) : Tbl Conn × List (Nat × List Byte) × List (Nat × Nat) :=
  buildAll (s.lane ln) m (decide (s.module = .test)) s.pair.unitB s.pair.clm

/-- A lane with its connection records set to those it sent under. -/
def sentUnder (conns : Tbl Conn) (L : Lane) : Lane :=
  { L with sup := { L.sup with conns := conns }, supC := { L.supC with conns := conns } }

/-- A lane once it has signed. -/
def signedLane (s : State) (ln : LaneId) (m : Manifest) : Lane :=
  { sentUnder (built s ln m).1 (s.lane ln) with
    signedDown := (signAll ln (s.lane ln) m (decide (s.module = .test)) s.pair.unitB s.pair.clm).1 }

/-- Signing gives the lane its bodies and connection records, and SVC its messages. -/
theorem signLane_eq (s : State) (ln : LaneId) (m : Manifest) : ∃ evs, s.signLane ln m =
    { (s.putLane ln (signedLane s ln m)).raiseLaneAll ln evs with
      uplink := if s.uplink.up && s.uplink.linkAccepted then addParts m ln (built s ln m).2.1 s.uplink else s.uplink } :=
  ⟨_, rfl⟩

theorem signLane_lane (s : State) (ln : LaneId) (m : Manifest) :
    SameButHeld (signedLane s ln m) ((s.signLane ln m).lane ln) := by
  obtain ⟨evs, h⟩ := signLane_eq s ln m
  rw [h]
  refine raiseLaneAll_of (holdFree_sameButHeld _) ln evs ?_
  rw [lane_putLane_self]
  exact SameButHeld.refl _

theorem signLane_ne (s : State) {ln k : LaneId} (m : Manifest) (hk : k ≠ ln) :
    (s.signLane ln m).lane k = s.lane k := by
  obtain ⟨evs, h⟩ := signLane_eq s ln m
  rw [h]
  exact (lane_raiseLaneAll_ne _ evs hk).trans (lane_putLane_ne _ _ hk)

theorem signLane_queues (s : State) (ln : LaneId) (m : Manifest) :
    (s.signLane ln m).uplink.cmds = s.uplink.cmds ∧ (s.signLane ln m).uplink.held = s.uplink.held := by
  obtain ⟨evs, h⟩ := signLane_eq s ln m
  rw [h]
  dsimp only
  split
  · exact addParts_queues m ln _ _
  · exact ⟨rfl, rfl⟩

theorem module_signLane (s : State) (ln : LaneId) (m : Manifest) : (s.signLane ln m).module = s.module := by
  obtain ⟨evs, h⟩ := signLane_eq s ln m
  have hm := module_of_outer (outer_raiseLaneAll (s.putLane ln (signedLane s ln m)) ln evs)
  rw [h]
  exact hm

/-- What the lane's report leaves at SVC (R206). -/
def reported (s : State) (ln : LaneId) : State :=
  { s with uplink := if (s.lane ln).committed then s.uplink.report (s.lane ln).reportMsgs (s.lane ln).reportCmds
                     else s.uplink }

/-- What P-SIGN makes of a lane IN-VOTE, but for its phase. -/
def signs (s : State) (ln : LaneId) : State :=
  match (s.lane ln).image with
  | none => reported s ln
  | some m =>
    if (reported s ln).signs (s.lane ln) then (reported s ln).signLane ln m
    else (reported s ln).updLane ln (fun L => { L with signedDown := [] })

theorem pSignStart_vote (hv : s.votes ln = true) (hr : runsPasses s.module = true) (hp : (s.lane ln).phase = .pSign) :
    exec (.pSignStart ln) s = .next ((signs s ln).updLane ln (fun L => { L with phase := .signed })) :=
  (if_pos ⟨hv, hr, hp⟩).trans rfl

theorem signs_iff (s : State) (ln : LaneId) : s.signs (s.lane ln) = true ↔
    commandsNet s.module = true ∧ ((s.lane ln).committed = true ∨ (s.lane ln).everCompleted = true) := by
  simp [State.signs]

theorem signs_signed {m : Manifest} (him : (s.lane ln).image = some m) (h : s.signs (s.lane ln) = true) :
    signs s ln = (reported s ln).signLane ln m := by
  unfold signs
  rw [him]
  exact if_pos h

theorem signs_silent {m : Manifest} (him : (s.lane ln).image = some m) (h : ¬ s.signs (s.lane ln) = true) :
    signs s ln = (reported s ln).updLane ln (fun L => { L with signedDown := [] }) := by
  unfold signs
  rw [him]
  exact if_neg h

/-- A lane that differs at most in what it signed, its supervisor's records and its held events. -/
def SameButSigned (L M : Lane) : Prop := ∃ down u v es n, M =
  { L with signedDown := down, sup := u, supC := v, heldEvents := es, lostEvents := n }

theorem SameButSigned.fields {L M : Lane} (h : SameButSigned L M) :
    M.views = L.views ∧ M.switches = L.switches ∧ M.copy1 = L.copy1 ∧ M.copy2 = L.copy2 := by
  obtain ⟨down, u, v, es, n, rfl⟩ := h
  exact ⟨rfl, rfl, rfl, rfl⟩

theorem sameButSigned_signedLane {M : Lane} {m : Manifest} (h : SameButHeld (signedLane s ln m) M) :
    SameButSigned (s.lane ln) M := by
  obtain ⟨es, n, rfl⟩ := h
  exact ⟨(signedLane s ln m).signedDown, (signedLane s ln m).sup, (signedLane s ln m).supC, es, n, rfl⟩

theorem SameButSigned.refl (L : Lane) : SameButSigned L L :=
  ⟨L.signedDown, L.sup, L.supC, L.heldEvents, L.lostEvents, rfl⟩

theorem sameButSigned_unsigned (L : Lane) : SameButSigned L { L with signedDown := [] } :=
  ⟨[], L.sup, L.supC, L.heldEvents, L.lostEvents, rfl⟩

/-- What P-SIGN leaves of the module. -/
theorem signs_frame (s : State) (ln : LaneId) : SameButSigned (s.lane ln) ((signs s ln).lane ln) ∧
    (∀ k, k ≠ ln → (signs s ln).lane k = s.lane k) ∧ (signs s ln).uplink.cmds = (reported s ln).uplink.cmds ∧
    (signs s ln).uplink.held = (reported s ln).uplink.held ∧ (signs s ln).module = s.module := by
  cases him : (s.lane ln).image with
  | none =>
    have h : signs s ln = reported s ln := by
      unfold signs
      rw [him]
    rw [h]
    exact ⟨SameButSigned.refl _, fun _ _ => rfl, rfl, rfl, rfl⟩
  | some m =>
    by_cases hs : s.signs (s.lane ln) = true
    · have hlane : SameButSigned (s.lane ln) (((reported s ln).signLane ln m).lane ln) :=
        sameButSigned_signedLane (s := reported s ln) (signLane_lane (reported s ln) ln m)
      obtain ⟨hcmds, hheld⟩ := signLane_queues (reported s ln) ln m
      rw [signs_signed him hs]
      exact ⟨hlane, fun k hk => signLane_ne (reported s ln) m hk, hcmds, hheld,
        module_signLane (reported s ln) ln m⟩
    · rw [signs_silent him hs]
      refine ⟨?_, fun k hk => lane_updLane_ne (reported s ln) _ hk, rfl, rfl, rfl⟩
      rw [lane_updLane_self]
      exact sameButSigned_unsigned _

/-- A shadow lane follows the connection records alone (R219, R301). -/
theorem pSignStart_shadow (hv : s.laneState ln = .rejoining) (hr : runsPasses s.module = true)
    (hp : (s.lane ln).phase = .pSign) :
    exec (.pSignStart ln) s = .next ((s.shadowSign ln).updLane ln (fun L => { L with phase := .signed })) := by
  have hno : ¬ (s.votes ln = true ∧ runsPasses s.module = true ∧ (s.lane ln).phase = .pSign) :=
    fun h => by simp [(votes_iff s ln).1 h.1] at hv
  exact (if_neg hno).trans (if_pos ⟨hv, hr, hp⟩)

theorem shadowSign_frame (s : State) (ln : LaneId) :
    (s.shadowSign ln).uplink = s.uplink ∧ ((s.shadowSign ln).lane ln).signedDown = (s.lane ln).signedDown ∧
      ∀ k, k ≠ ln → (s.shadowSign ln).lane k = s.lane k := by
  unfold State.shadowSign
  dsimp only
  split
  · exact ⟨rfl, rfl, fun _ _ => rfl⟩
  · split
    · refine ⟨rfl, ?_, fun k hk => lane_putLane_ne _ _ hk⟩
      rw [lane_putLane_self]
    · exact ⟨rfl, rfl, fun _ _ => rfl⟩

theorem shadowSign_conns {m : Manifest} (him : (s.lane ln).image = some m) (hs : s.signs (s.lane ln) = true) :
    ((s.shadowSign ln).lane ln).supC.conns = (built s ln m).1 := by
  unfold State.shadowSign
  simp only [him, hs, if_true]
  rw [lane_putLane_self]
  rfl

end

/-- Settles O16: the switch commands by the case of the vector, the signing lane by lane, and the releases that fall due. -/
theorem switchCommandsSignAndRelease : Obligations.SwitchCommandsSignAndRelease := by
  refine ⟨fun s ln e => ?_, fun s ln m => ?_⟩
  · intro L done hr ha hp
    refine ⟨fun hsweep => ?_, fun hsweep ht hpilot => pConsEnd_fault hr ha hp hsweep ht hpilot⟩
    obtain ⟨u, hex, ⟨es, n, hlane⟩, hmod, hothers⟩ := pConsEnd_swept hr ha hp hsweep
    refine ⟨u, hex, ?_⟩
    rw [hlane]
    refine ⟨rfl, fun hc hd => ?_, fun hc hd => ?_, fun hc => ?_, ?_, rfl, views_commanded ln s.module L, ?_, ?_, hmod,
      hothers⟩
    · show (L.issueVector ln s.module).vec = L.newVec ∧ (L.issueVector ln s.module).prevVec = L.vec ∧
        ∀ e ∈ (L.issueVector ln s.module).switches, L.newVec.getLsbD e.1 = true ∧ s.laneState ln = .inVote
      rw [issueVector_done hc hd]
      exact ⟨rfl, rfl, fun e he => mem_driveTable (List.mem_filter.1 he).1⟩
    · show (L.issueVector ln s.module).vec = L.vec ∧ (L.issueVector ln s.module).switches = L.switches
      rw [issueVector_skipped hc hd]
      exact ⟨rfl, rfl⟩
    · show (L.issueVector ln s.module).vec = 0 ∧ (L.issueVector ln s.module).switches = []
      rw [issueVector_silent hc]
      exact ⟨rfl, rfl⟩
    · show ((L.issueVector ln s.module).sweep + sweepStep) % sweepLen = (L.sweep + 16384) % 589824
      rw [issueVector_frame, sweepStep, sweepLen]
    · show (L.issueVector ln s.module).copy1 = L.copy1
      rw [issueVector_frame]
    · show (L.issueVector ln s.module).copy2 = L.copy2
      rw [issueVector_frame]
  · intro L test due signing
    have hsigning : s.signs L = true ↔ signing := signs_iff s ln
    refine ⟨fun hv hr hp => ?_, fun hv hr hp => ?_, fun hpass hbusy hdue => if_pos ⟨hpass, hbusy, hdue⟩⟩
    · obtain ⟨hlane, hothers, hcmds, hheld, hmod⟩ := signs_frame s ln
      obtain ⟨hviews, hswitches, hcopy1, hcopy2⟩ := hlane.fields
      refine ⟨_, pSignStart_vote hv hr hp, ?_⟩
      rw [lane_updLane_self]
      refine ⟨rfl, hviews, fun him hs => ?_, fun him hs => ?_, fun hc => ⟨?_, ?_⟩, hswitches, hcopy1, hcopy2,
        fun k hk => ?_, hmod⟩
      · obtain ⟨es, n, hsigned⟩ := signLane_lane (reported s ln) ln m
        rw [signs_signed him (hsigning.2 hs)]
        exact ⟨congrArg Lane.signedDown hsigned, congrArg (fun M => M.supC.conns) hsigned⟩
      · rw [signs_silent him (fun h => hs (hsigning.1 h)), lane_updLane_self]
      · exact hcmds.trans (congrArg Uplink.cmds (if_pos hc))
      · exact hheld.trans (congrArg Uplink.held (if_pos hc))
      · rw [lane_updLane_ne _ _ hk, hothers k hk]
    · obtain ⟨hup, hdown, hothers⟩ := shadowSign_frame s ln
      refine ⟨_, pSignStart_shadow hv hr hp, ?_⟩
      rw [lane_updLane_self]
      refine ⟨rfl, hup, fun him hs => shadowSign_conns him (hsigning.2 hs), hdown, fun k hk => ?_⟩
      rw [lane_updLane_ne _ _ hk, hothers k hk]

end Sys2Proof.ConsRules
end

section
/-! ## Restart and rejoin of a lane (R53, R197, R217-R220) -/

namespace Sys2Proof.RejoinRules

open Sys2Proof Sys2Proof.Machine Sys2Proof.Laws Sys2Proof.SvcUp Sys2Proof.VoteRules Sys2Proof.AgreeRules
open Sys2Proof.ConsRules

/-! ### A command of a session -/

/-- A session's last use is noted in the access records alone. -/
theorem keepAlive_eq (s : State) (n : Nat) : ∃ a, s.keepAlive n = { s with access := a } := by
  unfold State.keepAlive
  split <;> exact ⟨_, rfl⟩

theorem lanes_keepAlive (s : State) (n : Nat) : (s.keepAlive n).lanes = s.lanes := by
  obtain ⟨a, h⟩ := keepAlive_eq s n
  rw [h]

theorem lanes_logChange (s : State) (n : Nat) (e : EventName) (x : List Int) : (s.logChange n e x).lanes = s.lanes :=
  lanes_raise _ _ _ _ _

theorem outer_logChange (s : State) (n : Nat) (e : EventName) (x : List Int) : outer (s.logChange n e x) = outer s :=
  outer_raise _ _ _ _ _

/-! ### Calibration (R53) -/

section
variable {s : State} {ln : LaneId} {trips : Trips}

/-- Every link of the lane calibrates, and no mark keeps it out. -/
def Calibrates (s : State) (ln : LaneId) (trips : Trips) : Prop :=
  ∀ m l, linkOf ln m = some l → tripsOk (trips.link l) = true ∧ s.marked (.link l) = false

theorem judgeLink_ok {l : ClxLink} (ht : tripsOk (trips.link l) = true) (hm : s.marked (.link l) = false) :
    State.judgeLink trips s l = { s with clxOk := s.clxOk.setLink l true } := by
  unfold State.judgeLink
  rw [hm, if_neg Bool.false_ne_true, if_pos ht]

/-- The two links of a lane. -/
theorem links_of (ln : LaneId) : ∃ a b, ln.others.filterMap (linkOf ln) = [a, b] ∧
    (∃ m, linkOf ln m = some a) ∧ (∃ m, linkOf ln m = some b) ∧ ∀ m l, linkOf ln m = some l → l = a ∨ l = b := by
  cases ln
  · exact ⟨.l12, .l13, rfl, ⟨.l2, rfl⟩, ⟨.l3, rfl⟩, by intro m; cases m <;> simp [linkOf]⟩
  · exact ⟨.l12, .l23, rfl, ⟨.l1, rfl⟩, ⟨.l3, rfl⟩, by intro m; cases m <;> simp [linkOf]⟩
  · exact ⟨.l13, .l23, rfl, ⟨.l1, rfl⟩, ⟨.l2, rfl⟩, by intro m; cases m <;> simp [linkOf]⟩

theorem link_setLink_self {t : Tri Bool} (l : ClxLink) (v : Bool) : (t.setLink l v).link l = v := by cases l <;> rfl

theorem link_setLink_true {t : Tri Bool} {l : ClxLink} (k : ClxLink) (h : t.link l = true) :
    (t.setLink k true).link l = true := by
  by_cases hk : l = k
  · subst hk
    exact link_setLink_self l true
  · cases l <;> cases k <;> simp_all [Tri.link, Tri.setLink]

/-- A lane whose links calibrate has both of them in service, and their latencies. -/
theorem calibrate_ok (h : Calibrates s ln trips) :
    ∃ c, s.calibrate ln trips = { s.updLane ln (Lane.calibrated ln trips) with clxOk := c } ∧
      ∀ m l, linkOf ln m = some l → c.link l = true := by
  obtain ⟨a, b, hlinks, ⟨ma, ha⟩, ⟨mb, hb⟩, hall⟩ := links_of ln
  have hjudge : s.calibrate ln trips = { s.updLane ln (Lane.calibrated ln trips) with
      clxOk := (s.clxOk.setLink a true).setLink b true } := by
    unfold State.calibrate
    rw [hlinks, List.foldl_cons, List.foldl_cons, List.foldl_nil, judgeLink_ok (h ma a ha).1 (by exact (h ma a ha).2),
      judgeLink_ok (h mb b hb).1 (by exact (h mb b hb).2)]
    rfl
  refine ⟨_, hjudge, fun m l hl => ?_⟩
  rcases hall m l hl with rfl | rfl
  · exact link_setLink_true b (link_setLink_self l true)
  · exact link_setLink_self l true

theorem latency_calibrated (h : Calibrates s ln trips) (L : Lane) {m : LaneId} {l : ClxLink}
    (hl : linkOf ln m = some l) : (Lane.calibrated ln trips L).latency.get m = ((trips.link l).sum / 128 : Nat) := by
  unfold Lane.calibrated
  rw [Tri_get_ofFn, hl]
  exact if_pos (h m l hl).1

/-- A calibration that succeeds changes the lane's latencies alone. -/
theorem lane_calibrate (h : Calibrates s ln trips) (m : LaneId) :
    (s.calibrate ln trips).lane m = if m = ln then Lane.calibrated ln trips (s.lane ln) else s.lane m := by
  obtain ⟨c, hc, -⟩ := calibrate_ok h
  rw [hc]
  split
  · next hm =>
    subst hm
    exact lane_updLane_self s m _
  · next hm => exact lane_updLane_ne s _ hm

theorem linksUp_calibrate (h : Calibrates s ln trips) : (s.calibrate ln trips).linksUp ln = true := by
  obtain ⟨c, hc, hup⟩ := calibrate_ok h
  rw [hc]
  refine List.all_eq_true.2 fun m _ => ?_
  cases hl : linkOf ln m with
  | none => rfl
  | some l => exact hup m l hl

end

/-! ### The start of a rejoin (R217) -/

/-- A lane at the start of the rejoin of lane `ln`. -/
def startedLane (s : State) (ln m : LaneId) (L : Lane) : Lane :=
  if m = ln then
    { Lane.reload (s.lane s.lead).cn L.openAll with
        views := (s.lane s.lead).views.set ln .rejoining
        cause := .none
        outFaultEnd := if L.views.get ln = .outFault then some s.now else L.outFaultEnd
        rejoin := {}
        corrections := [], trim := 0 }
  else { L with views := L.views.set ln .rejoining }

/-- The state once a rejoin has started, before its conditions are judged. -/
def rejoinStarted (s : State) (ln : LaneId) : State :=
  let s2 := (s.mapLanes (startedLane s ln)).raiseLane ln .info .rejoinStart [ln.num]
  { s2 with power := s2.power.restartLnC ln }

theorem startRejoin_eq (s : State) (ln : LaneId) : s.startRejoin ln =
    if (rejoinStarted s ln).rejoinOk ln then rejoinStarted s ln
    else (rejoinStarted s ln).excludeAgreed ln .rejoin := rfl

theorem reload_frame (cn : U32) (L : Lane) : (Lane.reload cn L).image = L.image ∧
    (Lane.reload cn L).switches = L.switches ∧ (Lane.reload cn L).journal = [] ∧
    (Lane.reload cn L).latency = L.latency := by
  unfold Lane.reload
  split
  · exact ⟨rfl, rfl, rfl, rfl⟩
  · exact ⟨rfl, rfl, rfl, rfl⟩

theorem startedLane_self (s : State) (ln : LaneId) (L : Lane) :
    (startedLane s ln ln L).views.get ln = .rejoining ∧ (startedLane s ln ln L).rejoin = {} ∧
    (startedLane s ln ln L).switches = [] ∧ (startedLane s ln ln L).journal = [] ∧
    (startedLane s ln ln L).latency = L.latency ∧ (startedLane s ln ln L).image = L.image := by
  obtain ⟨himage, hsw, hj, hlat⟩ := reload_frame (s.lane s.lead).cn L.openAll
  unfold startedLane
  rw [if_pos rfl]
  exact ⟨Tri_get_set_self _ _ _, rfl, hsw, hj, hlat, himage⟩

theorem startedLane_ne (s : State) {ln m : LaneId} (L : Lane) (h : m ≠ ln) :
    startedLane s ln m L = { L with views := L.views.set ln .rejoining } := if_neg h

theorem lane_rejoinStarted (s : State) (ln m : LaneId) :
    SameButHeld (startedLane s ln m (s.lane m)) ((rejoinStarted s ln).lane m) := by
  refine raiseLane_of (holdFree_sameButHeld _) ln .info .rejoinStart [ln.num] ?_
  rw [lane_mapLanes]
  exact SameButHeld.refl _

section
variable {s : State} {ln : LaneId}

theorem laneState_rejoinStarted_self (s : State) (ln : LaneId) : (rejoinStarted s ln).laneState ln = .rejoining := by
  obtain ⟨es, n, h⟩ := lane_rejoinStarted s ln ln
  unfold State.laneState
  rw [h]
  exact (startedLane_self s ln _).1

theorem laneState_rejoinStarted_ne {m : LaneId} (h : m ≠ ln) :
    (rejoinStarted s ln).laneState m = s.laneState m := by
  obtain ⟨es, n, hl⟩ := lane_rejoinStarted s ln m
  unfold State.laneState
  rw [hl, startedLane_ne s _ h]
  exact Tri_get_set_ne _ _ h

theorem view_rejoinStarted (s : State) (ln m : LaneId) : ((rejoinStarted s ln).lane m).views.get ln = .rejoining := by
  by_cases hm : m = ln
  · subst hm
    exact laneState_rejoinStarted_self s m
  · obtain ⟨es, n, hl⟩ := lane_rejoinStarted s ln m
    rw [hl, startedLane_ne s _ hm]
    exact Tri_get_set_self _ _ _

theorem image_rejoinStarted (s : State) (ln m : LaneId) : ((rejoinStarted s ln).lane m).image = (s.lane m).image := by
  obtain ⟨es, n, hl⟩ := lane_rejoinStarted s ln m
  rw [hl]
  by_cases hm : m = ln
  · subst hm
    exact (startedLane_self s m _).2.2.2.2.2
  · rw [startedLane_ne s _ hm]

/-- A lane that starts to rejoin from outside the vote leaves the lanes IN-VOTE as they are. -/
theorem voters_rejoinStarted (h : s.laneState ln ≠ .inVote) : (rejoinStarted s ln).voters = s.voters := by
  refine List.filter_congr fun m _ => ?_
  unfold State.votes
  by_cases hm : m = ln
  · subst hm
    rw [laneState_rejoinStarted_self]
    simp [h]
  · rw [laneState_rejoinStarted_ne hm]

theorem rejoinOk_rejoinStarted (hv : s.laneState ln ≠ .inVote) (h2 : s.voters.length = 2)
    (hr : runsCycle s.module = true)
    (himg : ∀ v, s.votes v = true → imageId (s.lane v).image = imageId (s.lane ln).image)
    (hlinks : s.linksUp ln = true) : (rejoinStarted s ln).rejoinOk ln = true := by
  have hup : (rejoinStarted s ln).linksUp ln = true := by
    have hc : (rejoinStarted s ln).clxOk = s.clxOk := clxOk_raiseLane _ _ _ _ _
    unfold State.linksUp
    rw [hc]
    exact hlinks
  have hmod : (rejoinStarted s ln).module = s.module := module_raiseLane _ _ _ _ _
  unfold State.rejoinOk
  rw [voters_rejoinStarted hv, hup, hmod, hr, h2]
  simp only [decide_true, Bool.true_and, Bool.and_true, List.all_eq_true, decide_eq_true_eq]
  intro v hvote
  rw [image_rejoinStarted, image_rejoinStarted]
  exact himg v ((voters_iff s v).1 hvote)

end

/-- What R217 asks for a lane that starts to rejoin. -/
def Rejoins (s u : State) (ln : LaneId) : Prop :=
  u.laneState ln = .rejoining ∧ (u.lane ln).rejoin = {} ∧ (u.lane ln).switches = [] ∧ (u.lane ln).journal = [] ∧
  (∀ m, m ≠ ln → u.laneState m = s.laneState m) ∧ ∀ m, (u.lane m).views.get ln = .rejoining

theorem rejoins_settle {s u : State} {ln : LaneId} (h : Rejoins s u ln) : Rejoins s u.settle ln := by
  obtain ⟨hstate, hrej, hsw, hj, hothers, hviews⟩ := h
  obtain ⟨es, n, hl⟩ := lane_settle_held u ln
  refine ⟨(laneState_settle u ln).trans hstate, ?_, ?_, ?_, fun m hm => (laneState_settle u m).trans (hothers m hm),
    fun m => settle_of (holdFree_view ln _) (hviews m)⟩
  · rw [hl]; exact hrej
  · rw [hl]; exact hsw
  · rw [hl]; exact hj

/-- A lane outside the vote whose conditions hold rejoins, with the latencies its links showed. -/
theorem startRejoin_rejoins {s : State} {ln : LaneId} {trips : Trips} (hv : s.laneState ln ≠ .inVote)
    (h2 : s.voters.length = 2) (hr : runsCycle s.module = true)
    (himg : ∀ v, s.votes v = true → imageId (s.lane v).image = imageId (s.lane ln).image)
    (hcal : Calibrates s ln trips) :
    Rejoins s ((s.calibrate ln trips).startRejoin ln) ln ∧
      ∀ m l, linkOf ln m = some l →
        (((s.calibrate ln trips).startRejoin ln).lane ln).latency.get m = ((trips.link l).sum / 128 : Nat) := by
  have hlane := lane_calibrate hcal
  have hstate : ∀ m, (s.calibrate ln trips).laneState m = s.laneState m := fun m => by
    unfold State.laneState
    rw [hlane]
    split
    · next hm => subst hm; rfl
    · rfl
  have himage : ∀ m, ((s.calibrate ln trips).lane m).image = (s.lane m).image := fun m => by
    rw [hlane]
    split
    · next hm => subst hm; rfl
    · rfl
  have hvoters := voters_of_laneState hstate
  have hmod : (s.calibrate ln trips).module = s.module := by
    obtain ⟨c, hc, -⟩ := calibrate_ok hcal
    rw [hc]
    rfl
  have hok : (rejoinStarted (s.calibrate ln trips) ln).rejoinOk ln = true :=
    rejoinOk_rejoinStarted (by rwa [hstate]) (by rwa [hvoters]) (by rwa [hmod])
      (fun v hvote => by rw [himage, himage]; exact himg v (by rwa [← votes_of_voters hvoters]))
      (linksUp_calibrate hcal)
  rw [startRejoin_eq, if_pos hok]
  obtain ⟨es, n, hl⟩ := lane_rejoinStarted (s.calibrate ln trips) ln ln
  obtain ⟨-, hrej, hsw, hj, hlat, -⟩ := startedLane_self (s.calibrate ln trips) ln ((s.calibrate ln trips).lane ln)
  refine ⟨⟨laneState_rejoinStarted_self _ ln, ?_, ?_, ?_, fun m hm => ?_, view_rejoinStarted _ ln⟩, fun m l hlink => ?_⟩
  · rw [hl]; exact hrej
  · rw [hl]; exact hsw
  · rw [hl]; exact hj
  · rw [laneState_rejoinStarted_ne hm, hstate]
  · have hlat' : ((rejoinStarted (s.calibrate ln trips) ln).lane ln).latency =
        (Lane.calibrated ln trips (s.lane ln)).latency := by
      rw [hl]
      exact hlat.trans (by rw [hlane, if_pos rfl])
    rw [hlat']
    exact latency_calibrated hcal _ hlink

/-! ### The commands of a rejoin -/

/-- The start of a rejoin in a state whose lanes, module and marks are those of `s`. -/
theorem rejoins_fin {s t : State} {ln : LaneId} {trips : Trips} (hstate : ∀ m, t.laneState m = s.laneState m)
    (himage : ∀ m, (t.lane m).image = (s.lane m).image) (hmod : t.module = s.module)
    (hmark : ∀ k, t.marked k = s.marked k) (hout : s.laneState ln = .outFault) (h2 : s.voters.length = 2)
    (hr : runsCycle s.module = true)
    (himg : ∀ v, s.votes v = true → imageId (s.lane v).image = imageId (s.lane ln).image)
    (hcal : Calibrates s ln trips) :
    Rejoins s ((t.calibrate ln trips).startRejoin ln).settle ln ∧ ∀ m l, linkOf ln m = some l →
      (((t.calibrate ln trips).startRejoin ln).settle.lane ln).latency.get m = ((trips.link l).sum / 128 : Nat) := by
  have hvoters := voters_of_laneState hstate
  have hcal' : Calibrates t ln trips := fun m l hl => ⟨(hcal m l hl).1, (hmark _).trans (hcal m l hl).2⟩
  obtain ⟨hrejoins, hlat⟩ := startRejoin_rejoins (s := t) (ln := ln) (trips := trips) (by rw [hstate, hout]; decide)
    (by rwa [hvoters]) (by rwa [hmod])
    (fun v hvote => by rw [himage, himage]; exact himg v (by rwa [← votes_of_voters hvoters])) hcal'
  obtain ⟨hself, hrej, hsw, hj, hothers, hviews⟩ := rejoins_settle hrejoins
  refine ⟨⟨hself, hrej, hsw, hj, fun m hm => (hothers m hm).trans (hstate m), hviews⟩, fun m l hl => ?_⟩
  obtain ⟨es, n, hlane⟩ := lane_settle_held ((t.calibrate ln trips).startRejoin ln) ln
  rw [hlane]
  exact hlat m l hl

theorem laneRestart_eq {s : State} {ln : LaneId} {f t : Nat} (trips : Trips) (hout : s.laneState ln = .outFault)
    (hf : (s.lane ln).faultAt = some f) (ht : f + 1000000000 ≤ t) (hmay : (s.touch t).mayRestart ln f = true) :
    exec (.laneRestart ln t trips) s =
      fin ((((s.touch t).updLane ln (fun L => { L with faultAt := none })).calibrate ln trips).startRejoin ln) := by
  have hout' : (s.touch t).laneState ln = .outFault := hout
  have hf' : ((s.touch t).lane ln).faultAt = some f := hf
  show execLaneRestart ln t trips s = _
  simp only [execLaneRestart, hout', hf', if_pos ht, if_pos hmay]

theorem laneState_of_lanes {s t : State} (h : t.lanes = s.lanes) (m : LaneId) : t.laneState m = s.laneState m := by
  unfold State.laneState State.lane
  rw [h]

theorem lane_of_lanes {s t : State} (h : t.lanes = s.lanes) (m : LaneId) : t.lane m = s.lane m := by
  unfold State.lane
  rw [h]

/-- The state in which a commanded rejoin starts differs from the one before in records alone. -/
theorem commanded_frame (s : State) (sess : Nat) (e : EventName) (x : List Int) :
    ((s.keepAlive sess).logChange sess e x).lanes = s.lanes ∧ ((s.keepAlive sess).logChange sess e x).module = s.module ∧
    ((s.keepAlive sess).logChange sess e x).bist = s.bist := by
  obtain ⟨a, h⟩ := keepAlive_eq s sess
  rw [h]
  exact ⟨lanes_logChange _ _ _ _, module_raise _ _ _ _ _, bist_raise _ _ _ _ _⟩

theorem rejoinCommand_eq {s : State} {ln : LaneId} {sess : Nat} (trips : Trips) (hm : s.maintainer sess = true)
    (hout : s.laneState ln = .outFault) (h2 : s.voters.length = 2) (hr : runsCycle s.module = true) :
    exec (.rejoinCommand sess ln trips) s =
      fin ((((s.keepAlive sess).logChange sess .rejoinStart [ln.num]).calibrate ln trips).startRejoin ln) := by
  obtain ⟨a, h⟩ := keepAlive_eq s sess
  have hguard : (s.keepAlive sess).laneState ln = .outFault ∧ 2 ≤ (s.keepAlive sess).voters.length ∧
      (s.keepAlive sess).module ≠ .halt := by
    rw [h]
    refine ⟨hout, le_of_eq h2.symm, fun hh => ?_⟩
    rw [show s.module = .halt from hh] at hr
    cases hr
  exact (if_pos hm).trans (if_pos hguard)

/-! ### The transfer (R218) -/

section
variable {s : State} {ln : LaneId}

theorem rejoinChunk_eq {chunk : List (Nat × Int)} (hst : s.laneState ln = .rejoining)
    (hsend : ∀ v ∈ s.voters, (s.lane v).sendsState = true) (hk : (s.lane ln).rejoin.chunks < 64)
    (hcn : (s.lane ln).rejoin.chunkCn ≠ some (s.lane s.lead).cn) :
    exec (.rejoinChunkRx ln chunk) s =
      let L1 := (s.lane ln).putAll (chunk ++ (s.lane s.lead).updatesBefore (s.lane ln).rejoin.chunks)
      if crc64 (wordBytes chunk) ≠ crc64 (wordBytes ((s.lane s.checker).chunkWords (s.lane ln).rejoin.chunks)) ∨
          (s.lane ln).readOnlyBad chunk then fin (s.excludeAgreed ln .rejoin)
      else fin (s.putLane ln { L1 with rejoin := { L1.rejoin with
        chunks := (s.lane ln).rejoin.chunks + 1, chunkCn := some (s.lane s.lead).cn } }) := by
  have hmay : s.chunkMay ln = true := by
    unfold State.chunkMay
    simp only [Bool.and_eq_true, decide_eq_true_eq]
    exact ⟨⟨⟨hst, hk⟩, List.all_eq_true.2 hsend⟩, hcn⟩
  exact if_pos hmay

theorem rejoinFrames_eq {frames : List (Nat × Int)} (hst : s.laneState ln = .rejoining)
    (hsend : ∀ v ∈ s.voters, (s.lane v).sendsState = true) (hk : (s.lane ln).rejoin.chunks = 64)
    (hd : (s.lane ln).rejoin.framesDone = false) (hcn : (s.lane ln).rejoin.chunkCn = some (s.lane s.lead).cn) :
    exec (.rejoinFrameStateRx ln frames) s =
      if crc64 (wordBytes frames) = crc64 (wordBytes (s.lane s.checker).frameState) then
        fin (s.putLane ln (Lane.takeFrom (s.lane s.lead) (s.lane ln) frames))
      else fin (s.excludeAgreed ln .rejoin) :=
  if_pos ⟨hst, hk, by rw [hd]; rfl, List.all_eq_true.2 hsend, hcn⟩

theorem excluded_rejoin (hst : s.laneState ln = .rejoining) (ht : s.testing = false) :
    ∃ u, fin (s.excludeAgreed ln .rejoin) = .next u ∧ leftVote u ln .rejoin :=
  leftVote_fin (laneOut_excludeAgreed .rejoin ht (by rw [hst]; rfl))

/-! ### The end of a rejoin (R219, R220) -/

/-- Every lane as it stands once `ln` has come into the vote. -/
theorem lane_intoVote (s : State) (ln m : LaneId) :
    ((s.intoVote ln).lane m).views = (s.lane m).views.set ln .inVote ∧
    (m = ln → ((s.intoVote ln).lane m).cause = .none) := by
  unfold State.intoVote
  extract_lets s1
  have h1 : (s1.lane m).views = (s.lane m).views.set ln .inVote ∧ (m = ln → (s1.lane m).cause = .none) := by
    simp only [s1, lane_mapLanes]
    split
    · exact ⟨rfl, fun _ => rfl⟩
    · next hm => exact ⟨rfl, fun h => absurd h hm⟩
  rw [lane_mapLanes]
  split
  · exact h1
  · exact h1

theorem rejoinComplete_votes (hst : s.laneState ln = .rejoining) (h3 : 3 ≤ (s.lane ln).rejoin.matching)
    (hr : runsCycle s.module = true) :
    ∃ u, exec (.rejoinComplete ln) s = .next u ∧ u.laneState ln = .inVote ∧ (u.lane ln).cause = .none ∧
      (∀ m, (u.lane m).views.get ln = .inVote) ∧ (∀ m, m ≠ ln → u.laneState m = s.laneState m) := by
  have hrun : exec (.rejoinComplete ln) s =
      fin (((s.intoVote ln).raiseLane ln .info .rejoinDone [ln.num]).endTest ln).noteCons := if_pos ⟨hst, h3, hr⟩
  have hlane : ∀ m, SameButHeld ((s.intoVote ln).lane m)
      ((((s.intoVote ln).raiseLane ln .info .rejoinDone [ln.num]).endTest ln).noteCons.settle.lane m) := fun m => by
    refine settle_of (holdFree_sameButHeld _) ?_
    have hend := lane_endTest ((s.intoVote ln).raiseLane ln .info .rejoinDone [ln.num]) ln m
    exact hend.symm ▸ raiseLane_of (holdFree_sameButHeld _) ln .info .rejoinDone [ln.num] (SameButHeld.refl _)
  have hview : ∀ m k, ((((s.intoVote ln).raiseLane ln .info .rejoinDone [ln.num]).endTest ln).noteCons.settle.lane
      m).views.get k = ((s.lane m).views.set ln .inVote).get k := fun m k => by
    obtain ⟨es, n, hl⟩ := hlane m
    rw [hl]
    exact congrArg (fun V => V.get k) (lane_intoVote s ln m).1
  refine ⟨_, hrun, ?_, ?_, fun m => ?_, fun m hm => ?_⟩
  · exact (hview ln ln).trans (Tri_get_set_self _ _ _)
  · obtain ⟨es, n, hl⟩ := hlane ln
    rw [hl]
    exact (lane_intoVote s ln ln).2 rfl
  · exact (hview m ln).trans (Tri_get_set_self _ _ _)
  · exact (hview m m).trans (Tri_get_set_ne _ _ hm)

theorem rejoinFailure_leaves (hst : s.laneState ln = .rejoining) (ht : s.testing = false)
    (hfail : s.rejoinOk ln = false ∨ 16 ≤ (s.lane ln).rejoin.shadow ∧ (s.lane ln).rejoin.matching < 3) :
    ∃ u, exec (.rejoinFailure ln) s = .next u ∧ leftVote u ln .rejoin := by
  have hguard : s.laneState ln = .rejoining ∧
      ((!s.rejoinOk ln) = true ∨ (16 ≤ (s.lane ln).rejoin.shadow ∧ (s.lane ln).rejoin.matching < 3)) :=
    ⟨hst, hfail.imp_left fun h => by rw [h]; rfl⟩
  rw [show exec (.rejoinFailure ln) s = fin ((s.raiseLane ln .fault .rejoinFailed [ln.num]).excludeAgreed ln .rejoin)
    from if_pos hguard]
  exact excluded_rejoin ((laneState_raiseLane s ln _ _ _ ln).trans hst)
    ((testing_of_bist (bist_raiseLane s _ _ _ _)).trans ht)

end

/-- Settles O17: the start of a rejoin, its transfer, and its end at a lane IN-VOTE or back OUT-FAULT. -/
theorem rejoinOfLane : Obligations.RejoinOfLane := by
  refine ⟨⟨fun s ln f t sess trips => ?_, fun s ln hst ht => ⟨fun h3 hr => rejoinComplete_votes hst h3 hr,
    fun hfail => rejoinFailure_leaves hst ht hfail⟩⟩, fun s ln chunk frames => ?_⟩
  · intro rejoins hout h2 hr himg hcal
    refine ⟨fun hf ht hmay => ?_, fun hm => ?_⟩
    · have hlane : ∀ m, (((s.touch t).updLane ln (fun L => { L with faultAt := none })).lane m).views = (s.lane m).views ∧
          (((s.touch t).updLane ln (fun L => { L with faultAt := none })).lane m).image = (s.lane m).image := fun m => by
        by_cases h : m = ln
        · subst h
          rw [lane_updLane_self]
          exact ⟨rfl, rfl⟩
        · rw [lane_updLane_ne _ _ h]
          exact ⟨rfl, rfl⟩
      obtain ⟨hrejoins, hlat⟩ := rejoins_fin (s := s)
        (t := (s.touch t).updLane ln (fun L => { L with faultAt := none })) (ln := ln) (trips := trips)
        (fun m => congrArg (fun V => V.get m) (hlane m).1) (fun m => (hlane m).2) rfl (fun _ => rfl) hout h2 hr himg hcal
      exact ⟨_, laneRestart_eq trips hout hf ht hmay, hrejoins, hlat⟩
    · obtain ⟨hlanes, hmod, hbist⟩ := commanded_frame s sess .rejoinStart [ln.num]
      obtain ⟨hrejoins, -⟩ := rejoins_fin (s := s) (t := (s.keepAlive sess).logChange sess .rejoinStart [ln.num]) (ln := ln)
        (trips := trips) (laneState_of_lanes hlanes) (fun m => congrArg Lane.image (lane_of_lanes hlanes m)) hmod
        (fun k => by unfold State.marked; rw [hbist]) hout h2 hr himg hcal
      exact ⟨_, rejoinCommand_eq trips hm hout h2 hr, hrejoins⟩
  · intro L donor k same sameF L1 hst ht hsend
    refine ⟨fun hk hcn => ⟨fun hsame hread => ?_, fun hbad => ?_⟩, fun hk hd hcn => ⟨fun hsame => ?_, fun hdiff => ?_⟩⟩
    · rw [rejoinChunk_eq hst hsend hk hcn]
      exact if_neg (not_or.2 ⟨not_not.2 hsame, by simp [show (s.lane ln).readOnlyBad chunk = false from hread]⟩)
    · rw [rejoinChunk_eq hst hsend hk hcn]
      dsimp only
      rw [if_pos hbad]
      exact excluded_rejoin hst ht
    · rw [rejoinFrames_eq hst hsend hk hd hcn]
      exact if_pos hsame
    · rw [rejoinFrames_eq hst hsend hk hd hcn, if_neg hdiff]
      exact excluded_rejoin hst ht

end Sys2Proof.RejoinRules
end

section
/-! ## The rotating lane test, and the loss of a lane's clock (R222, R223, R475) -/

namespace Sys2Proof.RejoinRules

open Sys2Proof Sys2Proof.Machine Sys2Proof.Laws Sys2Proof.SvcUp Sys2Proof.VoteRules Sys2Proof.AgreeRules
open Sys2Proof.ConsRules
open Sys2Proof.VoteFlag (foldl_preserves)

/-! ### The test's record -/

/-- At the end of a command no more of the test's record changes than since when three lanes vote. -/
theorem rot_settle (s : State) : ∃ t, s.settle.rot = { s.rot with threeSince := t } := by
  unfold State.settle
  dsimp only
  split
  · exact ⟨_, rfl⟩
  · rw [rot_raiseModule]
    exact ⟨_, rfl⟩

theorem rot_raiseLaneAll (s : State) (ln : LaneId) (es : List (LogClass × EventName × List Int)) :
    (s.raiseLaneAll ln es).rot = s.rot :=
  foldl_preserves State.rot (fun t (e : LogClass × EventName × List Int) => t.raiseLane ln e.1 e.2.1 e.2.2)
    (fun t _ => rot_raiseLane t ln _ _ _) es s

theorem rot_seenByVoters (s : State) (src : LaneId) : (s.seenByVoters src).rot = s.rot :=
  foldl_preserves State.rot _ (fun t m => by split <;> rfl) _ s

/-- The test of a lane that leaves the vote ends (R222). -/
theorem active_excludeAgreed {s : State} {ln : LaneId} (c : Cause) (ht : s.testing = false)
    (he : excludable (s.laneState ln) = true) (ha : s.rot.active = some ln) : (s.excludeAgreed ln c).rot.active = none := by
  have hend : ((((s.updLane ln (Lane.leave ln c s.now)).raiseLane ln .fault .exclusion
      [ln.num, causeCode c]).endTest ln)).rot.active = none := by
    unfold State.endTest
    rw [rot_raiseLane, rot_updLane, if_pos ha]
  unfold State.excludeAgreed
  rw [rot_seenByVoters, exclude_eq c ht he]
  exact hend

/-! ### The start of the test -/

theorem turn_of_votes {s : State} (h : s.votes s.rot.next = true) : s.turn = s.rot.next := by
  unfold State.turn
  simp [h]

theorem turn_passed_over {s : State} (h : s.votes s.rot.next = false) (hn : s.votes (nextLane s.rot.next) = true) :
    s.turn = nextLane s.rot.next := by
  unfold State.turn
  simp [h, hn]

/-- The state at which the start of the test is judged: a lane out of the vote is passed over. -/
def atTurn (s : State) : State :=
  if s.testDue && runsCycle s.module then { s with rot := { s.rot with next := s.turn } } else s

theorem testMayStart_atTurn (s : State) : (atTurn s).testMayStart = s.testMayStart := by
  unfold atTurn
  split <;> rfl

/-- The state once the test of a lane has started. -/
def testStarted (s : State) (ln : LaneId) : State :=
  let s1 := (s.takeOut ln .rotate).raiseLane ln .info .rotatingTest [ln.num]
  { s1 with rot := { s1.rot with active := some ln, step := 1, started := s1.now, deferNs := 0 } }

theorem rotatingTestStart_eq (s : State) (t : Nat) : exec (.rotatingTestStart t) s =
    if (atTurn (s.touch t)).testMayStart then fin (testStarted (atTurn (s.touch t)) (atTurn (s.touch t)).rot.next)
    else fin (atTurn (s.touch t)) := rfl

theorem three_of_mayStart {s : State} (h : s.testMayStart = true) : s.voters.length = 3 := by
  unfold State.testMayStart at h
  simp only [Bool.and_eq_true, decide_eq_true_eq] at h
  obtain ⟨⟨⟨⟨⟨⟨⟨⟨-, -⟩, h3⟩, -⟩, -⟩, -⟩, -⟩, -⟩, -⟩ := h
  exact h3

theorem atTurn_next {s : State} (h : s.testMayStart = true) : (atTurn s).rot.next = s.rot.next := by
  unfold atTurn
  split
  · exact turn_of_votes ((votes_iff s _).2 (inVote_of_three (three_of_mayStart h) _))
  · rfl

theorem atTurn_frame (s : State) : (atTurn s).lanes = s.lanes ∧ (atTurn s).now = s.now ∧
    (atTurn s).rot.active = s.rot.active := by
  unfold atTurn
  split <;> exact ⟨rfl, rfl, rfl⟩

/-- What a lane holds once `ln` has been taken out of the vote for a test. -/
theorem lane_takeOut_self (s : State) (ln : LaneId) (c : Cause) : ((s.takeOut ln c).lane ln).views.get ln = .outTest ∧
    ((s.takeOut ln c).lane ln).cause = c ∧ ((s.takeOut ln c).lane ln).switches = [] := by
  unfold State.takeOut
  rw [lane_mapLanes, if_pos rfl]
  exact ⟨Tri_get_set_self _ _ _, rfl, rfl⟩

theorem lane_takeOut_ne (s : State) {ln m : LaneId} (c : Cause) (h : m ≠ ln) :
    ((s.takeOut ln c).lane m).views = (s.lane m).views.set ln .outTest := by
  unfold State.takeOut
  rw [lane_mapLanes, if_neg h]

theorem lane_testStarted (s : State) (ln m : LaneId) :
    SameButHeld ((s.takeOut ln .rotate).lane m) ((testStarted s ln).settle.lane m) :=
  settle_of (holdFree_sameButHeld _)
    (raiseLane_of (holdFree_sameButHeld _) ln .info .rotatingTest [ln.num] (SameButHeld.refl _))

/-- The test takes its lane out of the vote. -/
theorem testStarted_spec (s : State) (ln : LaneId) :
    let u := (testStarted s ln).settle
    u.laneState ln = .outTest ∧ (u.lane ln).cause = .rotate ∧ (u.lane ln).switches = [] ∧ u.rot.active = some ln ∧
      u.rot.step = 1 ∧ u.rot.started = s.now ∧
      ∀ m, m ≠ ln → u.laneState m = s.laneState m ∧ (u.lane m).views.get ln = .outTest := by
  intro u
  obtain ⟨hview, hcause, hsw⟩ := lane_takeOut_self s ln .rotate
  obtain ⟨es, n, hlane⟩ := lane_testStarted s ln ln
  obtain ⟨since, hrot⟩ := rot_settle (testStarted s ln)
  refine ⟨?_, ?_, ?_, ?_, ?_, ?_, fun m hm => ?_⟩
  · exact (congrArg (fun L : Lane => L.views.get ln) hlane).trans hview
  · exact (congrArg Lane.cause hlane).trans hcause
  · exact (congrArg Lane.switches hlane).trans hsw
  · exact congrArg RotTest.active hrot
  · exact congrArg RotTest.step hrot
  · exact (congrArg RotTest.started hrot).trans (now_raiseLane _ _ _ _ _)
  · obtain ⟨es', n', hother⟩ := lane_testStarted s ln m
    have hviews := congrArg (fun L : Lane => L.views) hother
    have htaken := hviews.trans (lane_takeOut_ne s .rotate hm)
    exact ⟨(congrArg (fun V => V.get m) htaken).trans (Tri_get_set_ne _ _ hm),
      (congrArg (fun V => V.get ln) htaken).trans (Tri_get_set_self _ _ _)⟩

theorem testStart_takes {s : State} {t : Nat} (h : (s.touch t).testMayStart = true) :
    ∃ u, exec (.rotatingTestStart t) s = .next u ∧ u.laneState s.rot.next = .outTest ∧
      (u.lane s.rot.next).cause = .rotate ∧ (u.lane s.rot.next).switches = [] ∧ u.rot.active = some s.rot.next ∧
      u.rot.step = 1 ∧ u.rot.started = max s.now t ∧
      ∀ m, m ≠ s.rot.next → u.laneState m = s.laneState m ∧ (u.lane m).views.get s.rot.next = .outTest := by
  have hnext : (atTurn (s.touch t)).rot.next = s.rot.next := atTurn_next h
  obtain ⟨hlanes, hnow, -⟩ := atTurn_frame (s.touch t)
  have hrun := rotatingTestStart_eq s t
  rw [testMayStart_atTurn, if_pos h, hnext] at hrun
  obtain ⟨hview, hcause, hsw, hactive, hstep, hstarted, hothers⟩ := testStarted_spec (atTurn (s.touch t)) s.rot.next
  exact ⟨_, hrun, hview, hcause, hsw, hactive, hstep, hstarted.trans hnow, fun m hm =>
    ⟨(hothers m hm).1.trans (laneState_of_lanes (s := s) hlanes m), (hothers m hm).2⟩⟩

theorem next_atTurn {s : State} (hdue : s.testDue = true) (hr : runsCycle s.module = true) :
    (atTurn s).rot.next = s.turn := by
  unfold atTurn
  rw [hdue, hr, if_pos (show (true && true) = true from rfl)]

/-- A lane that is not IN-VOTE when its turn comes is passed over. -/
theorem passedOver_settles {a s : State} (hlanes : a.lanes = s.lanes) (hactive : a.rot.active = s.rot.active)
    (hturn : a.rot.next = s.turn) :
    a.settle.rot.active = s.rot.active ∧ (s.votes s.rot.next = true → a.settle.rot.next = s.rot.next) ∧
      (s.votes s.rot.next = false → s.votes (nextLane s.rot.next) = true → a.settle.rot.next = nextLane s.rot.next) ∧
      ∀ m, a.settle.laneState m = s.laneState m := by
  obtain ⟨since, hrot⟩ := rot_settle a
  have hnext : a.settle.rot.next = s.turn := by rw [hrot, hturn]
  refine ⟨by rw [hrot, hactive], fun hv => ?_, fun hv hn => ?_, fun m => ?_⟩
  · rw [hnext, turn_of_votes hv]
  · rw [hnext, turn_passed_over hv hn]
  · rw [laneState_settle, laneState_of_lanes hlanes]

theorem testStart_passes {s : State} {t : Nat} (hno : (s.touch t).testMayStart = false) :
    exec (.rotatingTestStart t) s = .next (atTurn (s.touch t)).settle := by
  rw [rotatingTestStart_eq, testMayStart_atTurn, hno, if_neg Bool.false_ne_true]
  rfl

/-! ### Its steps -/

section
variable {s : State} {ln : LaneId} {r : TestReading}

/-- The state once the readings of a step are logged. -/
def stepLogged (s : State) (ln : LaneId) (r : TestReading) : State :=
  (if s.rot.step = 6 then s.logMids ln r.mids else s).raiseLane ln
    (if s.stepPasses ln r then .info else .fault) .testStep
    [((s.rot.step : Nat) : Int), if s.stepPasses ln r then 1 else 0]

/-- The state once a step has passed. -/
def stepPassed (s : State) (ln : LaneId) (r : TestReading) : State :=
  { stepLogged s ln r with rot := { (stepLogged s ln r).rot with step := (stepLogged s ln r).rot.step + 1 } }

theorem testStepEnd_eq (ha : s.rot.active = some ln) (ho : s.laneState ln = .outTest) :
    exec (.testStepEnd ln r) s =
      if !s.stepPasses ln r then fin ((stepLogged s ln r).excludeAgreed ln .test)
      else if s.rot.step < 7 then fin (stepPassed s ln r)
      else fin (((stepPassed s ln r).calibrate ln r.trips).startRejoin ln) := if_pos ⟨ha, ho⟩

theorem logMids_frame (s : State) (me : LaneId) (xs : List MidTest) :
    (s.logMids me xs).rot = s.rot ∧ outer (s.logMids me xs) = outer s := by
  unfold State.logMids
  exact ⟨foldl_preserves State.rot _ (fun t m => rot_raiseLaneAll t m _) _ s,
    foldl_preserves outer _ (fun t m => outer_raiseLaneAll t m _) _ s⟩

theorem foldl_of {α β : Type} {Q : β → Prop} (f : β → α → β) (hf : ∀ b a, Q b → Q (f b a)) (xs : List α) {b : β}
    (h : Q b) : Q (xs.foldl f b) := by
  induction xs generalizing b with
  | nil => exact h
  | cons x xs ih => exact ih (hf b x h)

theorem logMids_of {P : Lane → Prop} (hP : HoldFree P) {m : LaneId} (me : LaneId) (xs : List MidTest)
    (h : P (s.lane m)) : P ((s.logMids me xs).lane m) :=
  foldl_of (Q := fun t : State => P (t.lane m)) _ (fun _ k ht => raiseLaneAll_of hP k _ ht) _ h

theorem stepLogged_of {P : Lane → Prop} (hP : HoldFree P) {m : LaneId} (h : P (s.lane m)) :
    P ((stepLogged s ln r).lane m) := by
  unfold stepLogged
  refine raiseLane_of hP _ _ _ _ ?_
  split
  · exact logMids_of hP _ _ h
  · exact h

theorem stepLogged_frame (s : State) (ln : LaneId) (r : TestReading) :
    (stepLogged s ln r).rot = s.rot ∧ outer (stepLogged s ln r) = outer s := by
  obtain ⟨hrot, hout⟩ := logMids_frame s ln r.mids
  unfold stepLogged
  rw [rot_raiseLane, outer_raiseLane]
  split
  · exact ⟨hrot, hout⟩
  · exact ⟨rfl, rfl⟩

theorem laneState_stepLogged (m : LaneId) : (stepLogged s ln r).laneState m = s.laneState m :=
  stepLogged_of (holdFree_view m _) rfl

theorem image_stepLogged (m : LaneId) : ((stepLogged s ln r).lane m).image = (s.lane m).image :=
  stepLogged_of (P := fun L => L.image = (s.lane m).image) (fun L e h => by
    unfold Lane.hold
    split <;> exact h) rfl

/-- A lane that fails its test leaves with cause TEST, and the test ends. -/
theorem test_excludes {t : State} (ha : t.rot.active = some ln) (ho : t.laneState ln = .outTest)
    (ht : t.testing = false) :
    ∃ u, fin (t.excludeAgreed ln .test) = .next u ∧ leftVote u ln .test ∧ u.rot.active = none := by
  have he : excludable (t.laneState ln) = true := by rw [ho]; rfl
  obtain ⟨since, hrot⟩ := rot_settle (t.excludeAgreed ln .test)
  refine ⟨_, rfl, leftVote_settle (laneOut_excludeAgreed .test ht he), ?_⟩
  rw [hrot]
  exact active_excludeAgreed .test ht he ha

end

theorem testTimeout_eq {s : State} {ln : LaneId} {t : Nat} (ha : s.rot.active = some ln)
    (ht : s.rot.started + 120000000000 ≤ t) :
    exec (.rotatingTestTimeout t) s = fin ((s.touch t).excludeAgreed ln .test) := by
  have ha' : (s.touch t).rot.active = some ln := ha
  have ht' : (s.touch t).rot.started + 120000000000 ≤ (s.touch t).now := le_trans ht (le_max_right _ _)
  show execRotatingTestTimeout t s = _
  simp only [execRotatingTestTimeout, ha', if_pos ht']

/-- A Maintainer defers the test: no lane changes. -/
theorem deferTest_defers {s : State} {sess ns : Nat} (hm : s.maintainer sess = true) (hns : ns ≤ s.testInterval) :
    ∃ u, exec (.deferTest sess ns) s = .next u ∧ u.rot.deferNs = ns ∧ u.lanes = s.lanes := by
  obtain ⟨a, h⟩ := keepAlive_eq s sess
  have hns' : ns ≤ (s.keepAlive sess).testInterval := by rw [h]; exact hns
  have hlanes := (commanded_frame s sess .testDeferred [((ns : Nat) : Int)]).1
  exact ⟨_, (if_pos hm).trans (if_pos hns'), rfl, hlanes⟩

/-- Settles O18: the start of a test and the turn it passes over, the end of each step, the time-out, the deferral, and
the loss of a clock. -/
theorem rotatingTestAndClockLoss : Obligations.RotatingTestAndClockLoss := by
  intro s ln t sess ns r
  refine ⟨fun h => testStart_takes h, fun hdue hr hno => ?_, fun ha ho ht => ⟨fun hpass hstep => ?_,
    fun hpass hstep h2 hr himg hcal => ?_, fun hfail => ?_, fun htime => ?_⟩, fun hm hns => ?_, fun hv hr ht => ?_⟩
  · obtain ⟨hlanes, -, hactive⟩ := atTurn_frame (s.touch t)
    exact ⟨_, testStart_passes hno, passedOver_settles (s := s) hlanes hactive (next_atTurn hdue hr)⟩
  · obtain ⟨since, hrot⟩ := rot_settle (stepPassed s ln r)
    have hrun := testStepEnd_eq (r := r) ha ho
    rw [hpass, if_neg (by decide), if_pos hstep] at hrun
    refine ⟨_, hrun, ?_, ?_⟩
    · rw [hrot]
      exact congrArg (fun x : RotTest => x.step + 1) (stepLogged_frame s ln r).1
    · exact (laneState_settle _ ln).trans ((laneState_stepLogged ln).trans ho)
  · obtain ⟨-, hout⟩ := stepLogged_frame s ln r
    have hlogged : ∀ m, (stepPassed s ln r).laneState m = s.laneState m := fun m => laneState_stepLogged m
    have hvoters := voters_of_laneState hlogged
    have himage : ∀ m, ((stepPassed s ln r).lane m).image = (s.lane m).image := fun m => image_stepLogged m
    have hmod : (stepPassed s ln r).module = s.module := module_of_outer hout
    have hcal' : Calibrates (stepPassed s ln r) ln r.trips := fun m l hl => ⟨(hcal m l hl).1, by
      have hb : (stepPassed s ln r).bist = s.bist := bist_of_outer hout
      unfold State.marked
      rw [hb]
      exact (hcal m l hl).2⟩
    obtain ⟨hrejoins, -⟩ := startRejoin_rejoins (s := stepPassed s ln r) (ln := ln) (trips := r.trips)
      (by rw [hlogged, ho]; decide) (by rwa [hvoters]) (by rwa [hmod])
      (fun v hvote => by rw [himage, himage]; exact himg v (by rwa [← votes_of_voters hvoters])) hcal'
    obtain ⟨hself, -, hsw, -⟩ := rejoins_settle hrejoins
    have hrun := testStepEnd_eq (r := r) ha ho
    rw [hpass, if_neg (by decide), if_neg (Nat.not_lt.2 hstep)] at hrun
    exact ⟨_, hrun, hself, hsw⟩
  · obtain ⟨hrot, hout⟩ := stepLogged_frame s ln r
    rw [testStepEnd_eq ha ho, hfail, if_pos (by decide)]
    exact test_excludes (by rw [hrot, ha]) ((laneState_stepLogged ln).trans ho) ((testing_of_outer hout).trans ht)
  · rw [testTimeout_eq ha htime]
    exact test_excludes (by exact ha) (by exact ho) (by exact ht)
  · exact deferTest_defers hm hns
  · rw [show exec (.pllLockLoss ln) s = fin ((s.raiseLane ln .fault .pllLockLoss [ln.num]).exclude ln .clock)
      from if_pos hr]
    refine leftVote_fin (laneOut_exclude .clock ((testing_of_bist (bist_raiseLane s _ _ _ _)).trans ht) ?_)
    rw [laneState_raiseLane]
    exact excludable_inVote ((votes_iff s ln).1 hv)

end Sys2Proof.RejoinRules
end

section
/-! ## The plane tick (R31, R231, R232) -/

namespace Sys2Proof.PlaneRules

open Sys2Proof Sys2Proof.Machine Sys2Proof.Laws
open Sys2Proof.VoteFlag (foldl_preserves)

/-! ### Plane chips of the module -/

@[simp] theorem plane_putPlane_self (s : State) (pl : PlaneId) (p : Plane) : (s.putPlane pl p).plane pl = p :=
  Duo_get_set_self _ _ _

@[simp] theorem plane_putPlane_other (s : State) (pl : PlaneId) (p : Plane) :
    (s.putPlane pl p).plane pl.other = s.plane pl.other :=
  Duo_get_set_ne _ _ (by cases pl <;> decide)

@[simp] theorem lanes_putPlane (s : State) (pl : PlaneId) (p : Plane) : (s.putPlane pl p).lanes = s.lanes := rfl

theorem plane_of_planes {s t : State} (h : t.planes = s.planes) (pl : PlaneId) : t.plane pl = s.plane pl := by
  unfold State.plane
  rw [h]

@[simp] theorem plane_raise (s : State) (c : LogClass) (n : EventName) (d : Die) (x : List Int) (pl : PlaneId) :
    (s.raise c n d x).plane pl = s.plane pl := plane_of_planes (planes_raise _ _ _ _ _) pl

theorem logDrift_frame (s : State) (pl : PlaneId) (c : Nat) (b : Bool) :
    (s.logDrift pl c b).planes = s.planes ∧ (s.logDrift pl c b).lanes = s.lanes := by
  unfold State.logDrift
  dsimp only
  split
  · exact ⟨rfl, rfl⟩
  · exact ⟨planes_raise _ _ _ _ _, lanes_raise _ _ _ _ _⟩

@[simp] theorem plane_logDrift (s : State) (pl q : PlaneId) (c : Nat) (b : Bool) :
    (s.logDrift pl c b).plane q = s.plane q := plane_of_planes (logDrift_frame s pl c b).1 q

@[simp] theorem lanes_logDrift (s : State) (pl : PlaneId) (c : Nat) (b : Bool) :
    (s.logDrift pl c b).lanes = s.lanes := (logDrift_frame s pl c b).2

/-! ### The tick of one plane -/

/-- What a chip keeps of its controllers is all that the end of a cycle changes beside what it clears. -/
theorem nextCycle_frame (p : Plane) (sched : List (Nat × CtrlCfg)) : ∃ c g, p.nextCycle sched = { p with
    ctrls := c, segs := g, syncs := [], sentDown := [], fwd := [], slotSeen := [], relayOut := [], store := []
    sawDownlinkPrev := p.sawDownlink, sawDownlink := false } := by
  have hfold : ∃ c, sched.foldl (fun (q : Plane) (e : Nat × CtrlCfg) =>
      q.updCtrl e.1 (fun c => c.endCycle (p.slotSeen.contains (slotKey e.2.segment e.2.slot))
        (decide (Tbl.get [] p.fwd (slotKey e.2.segment e.2.slot) ≠ [])))) p = { p with ctrls := c } := by
    suffices h : ∀ q : Plane, (∃ c, q = { p with ctrls := c }) → ∃ c, sched.foldl (fun (q : Plane) (e : Nat × CtrlCfg) =>
        q.updCtrl e.1 (fun c => c.endCycle (p.slotSeen.contains (slotKey e.2.segment e.2.slot))
          (decide (Tbl.get [] p.fwd (slotKey e.2.segment e.2.slot) ≠ [])))) q = { p with ctrls := c } from h p ⟨_, rfl⟩
    induction sched with
    | nil => exact fun q hq => hq
    | cons e es ih =>
      rintro q ⟨c, rfl⟩
      exact ih _ ⟨_, rfl⟩
  obtain ⟨c, hc⟩ := hfold
  unfold Plane.nextCycle
  dsimp only
  rw [hc]
  exact ⟨_, _, rfl⟩

theorem countInterval_frame (p : Plane) (was now : Bool) :
    p.countInterval was now = { p with intervals := (p.countInterval was now).intervals } := by
  unfold Plane.countInterval
  split <;> rfl

theorem countInterval_length (p : Plane) (was now : Bool) :
    (p.countInterval was now).intervals.length ≤ p.intervals.length + 1 := by
  unfold Plane.countInterval
  split
  · simp
  · simp; omega
  · omega

/-- The plane at the tick, before its interval is counted. -/
def atTick (s : State) (pl : PlaneId) (set : List LaneId) (cn : U32) (t : Nat) : Plane :=
  let p := s.plane pl
  let q := p.nextCycle s.schedule
  { q with
    curSet := set, prevSet := if p.running then p.curSet else [], strobes := []
    lastInterval := if p.running then p.lastTick.map (fun l => clkq l t) else none
    lastTick := some t, cn := cn, running := true, farTick := none, farCoast := false
    segs := Tbl.ofList {} (q.segs.map (fun (g : Nat × Seg) =>
      (g.1, { g.2 with lineAnswered := g.2.lineAnswered && s.partnerStandby }))) }

/-- The plane as the tick sets it. -/
def ticked (s : State) (pl : PlaneId) (set : List LaneId) (cn : U32) (t : Nat) : Plane :=
  { ((atTick s pl set cn t).countInterval true (atTick s pl set cn t).stepOf).trim s.tc with
    stepNow := (atTick s pl set cn t).stepOf }

/-- The state once the tick is set and the drifts are logged. -/
def tickLogged (s : State) (pl : PlaneId) (set : List LaneId) (cn : U32) (t : Nat) : State :=
  s.schedule.foldl (fun (u : State) (e : Nat × CtrlCfg) => u.logDrift pl e.1 ((s.plane pl).ctrl e.1).drift)
    (s.putPlane pl (ticked s pl set cn t))

theorem planeTick_eq (s : State) (pl : PlaneId) (set : List LaneId) (cn : U32) (t : Nat) :
    s.planeTick pl set cn t =
      if planeClockBad s.tc (ticked s pl set cn t).intervals then
        ((tickLogged s pl set cn t).updPlane pl (fun p => { p with running := false, stop := .clock })).raise
          .fault .planeClock pl.die []
      else ((tickLogged s pl set cn t).sendSync pl).sendStatus pl false := rfl

section
variable (s : State) (pl : PlaneId) (set : List LaneId) (cn : U32) (t : Nat)

theorem ticked_fields : (ticked s pl set cn t).cn = cn ∧ (ticked s pl set cn t).lastTick = some t ∧
    (ticked s pl set cn t).curSet = set ∧ (ticked s pl set cn t).strobes = [] ∧
    (ticked s pl set cn t).running = true := by
  unfold ticked Plane.trim
  rw [countInterval_frame]
  exact ⟨rfl, rfl, rfl, rfl, rfl⟩

theorem ticked_intervals : (ticked s pl set cn t).intervals.length ≤ (s.plane pl).intervals.length + 1 := by
  have h := countInterval_length (atTick s pl set cn t) true (atTick s pl set cn t).stepOf
  obtain ⟨c, g, hc⟩ := nextCycle_frame (s.plane pl) s.schedule
  have hq := congrArg Plane.intervals hc
  have hi : (atTick s pl set cn t).intervals = (s.plane pl).intervals := Eq.trans hq rfl
  rw [hi] at h
  exact h

theorem tickLogged_frame : (tickLogged s pl set cn t).plane pl = ticked s pl set cn t ∧
    (tickLogged s pl set cn t).plane pl.other = s.plane pl.other ∧ (tickLogged s pl set cn t).lanes = s.lanes := by
  have hp : ∀ q, (tickLogged s pl set cn t).plane q = (s.putPlane pl (ticked s pl set cn t)).plane q := fun q =>
    foldl_preserves (fun u : State => u.plane q) _ (fun u e => plane_logDrift u pl q _ _) _ _
  refine ⟨?_, ?_, ?_⟩
  · rw [hp, plane_putPlane_self]
  · rw [hp, plane_putPlane_other]
  · exact foldl_preserves State.lanes _ (fun u e => lanes_logDrift u pl _ _) _ _

theorem sendSync_frame (u : State) : (∃ x y, (u.sendSync pl).plane pl = { u.plane pl with syncs := x, coldNext := y }) ∧
    (u.sendSync pl).plane pl.other = u.plane pl.other ∧ (u.sendSync pl).lanes = u.lanes := by
  unfold State.sendSync
  dsimp only
  split
  · rw [plane_putPlane_self, plane_putPlane_other]
    exact ⟨⟨_, _, rfl⟩, rfl, rfl⟩
  · exact ⟨⟨_, _, rfl⟩, rfl, rfl⟩

theorem sendStatus_frame (u : State) (d : Bool) :
    (u.sendStatus pl d).planes = u.planes ∧ (u.sendStatus pl d).lanes = u.lanes := by
  unfold State.sendStatus
  split <;> exact ⟨rfl, rfl⟩

/-- What a plane tick leaves of the module: the plane, with its CN, and nothing of the lanes or the other plane. -/
theorem planeTick_spec : let u := s.planeTick pl set cn t
    (u.plane pl).cn = cn ∧ (u.plane pl).lastTick = some t ∧ (u.plane pl).curSet = set ∧ (u.plane pl).strobes = [] ∧
      ((s.plane pl).intervals.length < 15 → (u.plane pl).running = true) ∧
      ((u.plane pl).running = false → (u.plane pl).stop = .clock) ∧ u.lanes = s.lanes ∧
      u.plane pl.other = s.plane pl.other := by
  intro u
  obtain ⟨hcn, hlast, hset, hstrobes, hrun⟩ := ticked_fields s pl set cn t
  obtain ⟨hself, hother, hlanes⟩ := tickLogged_frame s pl set cn t
  have hu : u = s.planeTick pl set cn t := rfl
  rw [planeTick_eq] at hu
  by_cases hbad : planeClockBad s.tc (ticked s pl set cn t).intervals = true
  · have hlen : (ticked s pl set cn t).intervals.length = 16 := by
      simp only [planeClockBad, Bool.and_eq_true, decide_eq_true_eq] at hbad
      exact hbad.1
    have hint := ticked_intervals s pl set cn t
    rw [if_pos hbad] at hu
    have hp : u.plane pl = { ticked s pl set cn t with running := false, stop := .clock } := by
      rw [hu, plane_raise, State.updPlane, plane_putPlane_self, hself]
    have ho : u.plane pl.other = s.plane pl.other := by
      rw [hu, plane_raise, State.updPlane, plane_putPlane_other, hother]
    have hl : u.lanes = s.lanes := by rw [hu, lanes_raise]; exact hlanes
    rw [hp]
    exact ⟨hcn, hlast, hset, hstrobes, fun h => by omega, fun _ => rfl, hl, ho⟩
  · rw [if_neg hbad] at hu
    obtain ⟨⟨x, y, hsync⟩, hsyncOther, hsyncLanes⟩ := sendSync_frame pl (tickLogged s pl set cn t)
    obtain ⟨hstatus, hstatusLanes⟩ := sendStatus_frame pl ((tickLogged s pl set cn t).sendSync pl) false
    have hp : u.plane pl = { ticked s pl set cn t with syncs := x, coldNext := y } := by
      rw [hu, plane_of_planes hstatus, hsync, hself]
    have ho : u.plane pl.other = s.plane pl.other := by
      rw [hu, plane_of_planes hstatus, hsyncOther, hother]
    have hl : u.lanes = s.lanes := by rw [hu, hstatusLanes, hsyncLanes, hlanes]
    rw [hp]
    exact ⟨hcn, hlast, hset, hstrobes, fun _ => hrun, fun h => by simp [hrun] at h, hl, ho⟩

end

/-! ### Strobes -/

section
variable {s : State} {pl : PlaneId} {ln : LaneId} {t : Nat} {cn : U32}

/-- The strobes a plane holds for a tick once a lane's strobe has come. -/
def strobesWith (s : State) (pl : PlaneId) (ln : LaneId) (cn : U32) : List LaneId :=
  ((s.plane pl).strobes.filter (fun m => decide (m ≠ ln) && decide ((s.lane m).strobeCn = some cn) && s.votes m)) ++ [ln]

/-- R31: a strobe of a lane IN-VOTE for a tick that the plane has not had. -/
theorem tickStrobe_eq (hon : s.planeOn pl = true) (hr : runsCycle s.module = true) (hv : s.votes ln = true)
    (hcn : (s.lane ln).strobeCn = some cn) (hnew : ¬ ((s.plane pl).running = true ∧ (s.plane pl).cn = cn))
    (hmay : (s.touch t).mayStart pl cn = true) :
    exec (.tickStrobeRx pl ln t) s =
      if (strobesWith s pl ln cn).length < 2 then
        ok ((s.touch t).putPlane pl { s.plane pl with strobes := strobesWith s pl ln cn })
      else if s.handedOver then fin ((s.touch t).enterStandby ((s.touch t).pair.clm + 1) .none)
      else ok ((s.touch t).planeTick pl (strobesWith s pl ln cn) cn t) := by
  have hguard : ((s.touch t).planeOn pl && runsCycle (s.touch t).module && (s.touch t).votes ln) = true := by
    show (s.planeOn pl && runsCycle s.module && s.votes ln) = true
    rw [hon, hr, hv]
    rfl
  have hcn' : ((s.touch t).lane ln).strobeCn = some cn := hcn
  have hnew' : ¬ (((s.touch t).plane pl).running = true ∧ ((s.touch t).plane pl).cn = cn) := hnew
  show execTickStrobeRx pl ln t s = _
  simp only [execTickStrobeRx, hguard, hcn', if_neg hnew', hmay, if_true]
  rfl

end

/-- A plane that falls silent. -/
def silenced (s : State) (pl : PlaneId) : Plane :=
  { (s.plane pl).nextCycle s.schedule with
    running := false, stop := .noTick, strobes := [], lastInterval := none, rings := ⟨[], [], []⟩ }

theorem planeNoTick_silences {s : State} {pl : PlaneId} (hon : s.planeOn pl = true) (hrun : (s.plane pl).running = true)
    (hlen : (s.plane pl).strobes.length < 2) :
    ∃ u, exec (.planeNoTick pl) s = .next u ∧ (u.plane pl).running = false ∧ (u.plane pl).stop = .noTick ∧
      u.lanes = s.lanes ∧ u.plane pl.other = s.plane pl.other := by
  have hguard : (s.planeOn pl && (s.plane pl).running && decide ((s.plane pl).strobes.length < 2)) = true := by
    rw [hon, hrun, decide_eq_true hlen]
    rfl
  obtain ⟨hplanes, hlanes⟩ : ((s.putPlane pl (silenced s pl)).raise .fault .planeNoTick pl.die []).planes =
      (s.putPlane pl (silenced s pl)).planes ∧
      ((s.putPlane pl (silenced s pl)).raise .fault .planeNoTick pl.die []).lanes = s.lanes :=
    ⟨planes_raise _ _ _ _ _, lanes_raise _ _ _ _ _⟩
  have silent : ∀ u : State, u.planes = (s.putPlane pl (silenced s pl)).planes → u.lanes = s.lanes →
      (u.plane pl).running = false ∧ (u.plane pl).stop = .noTick ∧ u.lanes = s.lanes ∧
        u.plane pl.other = s.plane pl.other := fun u hp hl => by
    rw [plane_of_planes hp, plane_of_planes hp, plane_putPlane_self, plane_putPlane_other]
    exact ⟨rfl, rfl, hl, rfl⟩
  refine ⟨_, if_pos hguard, ?_⟩
  split
  · obtain ⟨hstatus, hstatusLanes⟩ :=
      sendStatus_frame pl ((s.putPlane pl (silenced s pl)).raise .fault .planeNoTick pl.die []) true
    exact silent _ (hstatus.trans hplanes) (hstatusLanes.trans hlanes)
  · exact silent _ hplanes hlanes

/-- Settles O20: the first strobe is held, the second ticks the plane, and a plane without a second falls silent. -/
theorem planeTickFromStrobes : Obligations.PlaneTickFromStrobes := by
  intro s pl ln m t cn p hon
  refine ⟨fun hr hv hcn hnew hmay => ⟨fun hst => ?_, fun hst hm hvm hcm hno => ?_⟩, fun hrun hlen => ?_⟩
  · have hone : strobesWith s pl ln cn = [ln] := by
      unfold strobesWith
      rw [show (s.plane pl).strobes = [] from hst]
      rfl
    rw [tickStrobe_eq hon hr hv hcn hnew hmay, hone, if_pos (by simp)]
    rfl
  · have htwo : strobesWith s pl ln cn = [m, ln] := by
      unfold strobesWith
      rw [show (s.plane pl).strobes = [m] from hst]
      simp [hm, hvm, hcm]
    rw [tickStrobe_eq hon hr hv hcn hnew hmay, htwo, if_neg (by simp), hno, if_neg Bool.false_ne_true]
    exact ⟨_, rfl, planeTick_spec (s.touch t) pl [m, ln] cn t⟩
  · exact planeNoTick_silences hon hrun hlen

end Sys2Proof.PlaneRules
end

section
/-! ## The receive guardian, BAR, unknown delays, and downlink slots (R213, R241, R245, R247, R248, R284) -/

namespace Sys2Proof.PlaneRules

open Sys2Proof Sys2Proof.Machine Sys2Proof.Laws
open Sys2Proof.VoteFlag (foldl_preserves)

/-! ### What the chip keeps of a controller -/

@[simp] theorem ctrl_updCtrl_self (p : Plane) (c : Nat) (f : PCtrl → PCtrl) : (p.updCtrl c f).ctrl c = f (p.ctrl c) :=
  Tbl_get_upd_self _ _ _ _

theorem judgeDrift_counts (c : PCtrl) : c.judgeDrift.early = c.early ∧ c.judgeDrift.late = c.late ∧
    c.judgeDrift.second = c.second ∧ c.judgeDrift.wrongSlot = c.wrongSlot := by
  unfold PCtrl.judgeDrift
  (repeat' split) <;> exact ⟨rfl, rfl, rfl, rfl⟩

/-- An arrival changes no count of the guardian. -/
theorem slot_counts (c : PCtrl) (e : Option Int) : (c.slot e).early = c.early ∧ (c.slot e).late = c.late ∧
    (c.slot e).second = c.second ∧ (c.slot e).wrongSlot = c.wrongSlot := judgeDrift_counts _

/-! ### The guardian -/

section
variable (s : State) (pl : PlaneId) (seg slot : Nat) (e : Int) (frame : List Byte)

/-- The plane once the arrival in a slot is noted (R247). -/
def arrived : Plane :=
  let p := s.plane pl
  let k := slotKey seg slot
  let p1 := { p with slotSeen := if p.slotSeen.contains k then p.slotSeen else k :: p.slotSeen }
  if !p.slotSeen.contains k && decide (s.slotCtrl seg slot = some (beAt frame 4 2 % 4096)) then
    p1.updCtrl ((s.slotCtrl seg slot).getD (beAt frame 4 2 % 4096)) (fun x => x.slot (some e))
  else p1

theorem arrived_frame : ∃ c, arrived s pl seg slot e frame = { s.plane pl with
    ctrls := c
    slotSeen := if (s.plane pl).slotSeen.contains (slotKey seg slot) then (s.plane pl).slotSeen
                else slotKey seg slot :: (s.plane pl).slotSeen } := by
  unfold arrived
  dsimp only
  split
  · exact ⟨_, rfl⟩
  · exact ⟨_, rfl⟩

theorem arrived_counts {c : Nat} (hc : s.slotCtrl seg slot = some c) :
    ((arrived s pl seg slot e frame).ctrl c).early = ((s.plane pl).ctrl c).early ∧
    ((arrived s pl seg slot e frame).ctrl c).late = ((s.plane pl).ctrl c).late ∧
    ((arrived s pl seg slot e frame).ctrl c).second = ((s.plane pl).ctrl c).second ∧
    ((arrived s pl seg slot e frame).ctrl c).wrongSlot = ((s.plane pl).ctrl c).wrongSlot := by
  unfold arrived
  dsimp only
  rw [hc, Option.getD_some]
  split
  · rw [ctrl_updCtrl_self]
    exact slot_counts _ _
  · exact ⟨rfl, rfl, rfl, rfl⟩

/-- The state once a frame that the guardian discards is counted. -/
def discarded (c n : Nat) : State :=
  ((s.putPlane pl ((arrived s pl seg slot e frame).updCtrl c (fun x => x.countCause n))).raise .info .guardianCount
    pl.die [((c : Nat) : Int), ((n : Nat) : Int)]).logDrift pl c ((s.plane pl).ctrl c).drift

theorem plane_discarded (c n : Nat) : (discarded s pl seg slot e frame c n).plane pl =
    (arrived s pl seg slot e frame).updCtrl c (fun x => x.countCause n) := by
  unfold discarded
  rw [plane_logDrift, plane_raise, plane_putPlane_self]

theorem lanes_discarded (c n : Nat) : (discarded s pl seg slot e frame c n).lanes = s.lanes := by
  unfold discarded
  rw [lanes_logDrift, lanes_raise, lanes_putPlane]

/-- A discarded frame is forwarded nowhere, and reaches no ring. -/
theorem discarded_frame (c n : Nat) : ((discarded s pl seg slot e frame c n).plane pl).fwd = (s.plane pl).fwd ∧
    ((discarded s pl seg slot e frame c n).plane pl).rings = (s.plane pl).rings := by
  obtain ⟨x, hx⟩ := arrived_frame s pl seg slot e frame
  rw [plane_discarded, hx]
  exact ⟨rfl, rfl⟩

theorem ctrl_discarded (c n : Nat) : ((discarded s pl seg slot e frame c n).plane pl).ctrl c =
    ((arrived s pl seg slot e frame).ctrl c).countCause n := by
  rw [plane_discarded, ctrl_updCtrl_self]

/-- The state once a frame of its own slot is noted and logged. -/
def noted (c : Nat) : State :=
  (s.putPlane pl (arrived s pl seg slot e frame)).logDrift pl c ((s.plane pl).ctrl c).drift

theorem noted_frame (c : Nat) : (noted s pl seg slot e frame c).plane pl = arrived s pl seg slot e frame ∧
    (noted s pl seg slot e frame c).lanes = s.lanes := by
  unfold noted
  rw [plane_logDrift, plane_putPlane_self, lanes_logDrift, lanes_putPlane]
  exact ⟨rfl, rfl⟩

/-- The state once the frame stands in the forward buffer. -/
def forwarded (c : Nat) : State :=
  (noted s pl seg slot e frame c).updPlane pl (fun q => { q with
    fwd := Tbl.set [] q.fwd (slotKey seg slot) frame
    relayOut := if decide (s.module = .standby) && (q.seg seg).feed then
      Tbl.set [] q.relayOut (slotKey seg slot) frame else q.relayOut })

variable {s pl seg slot e frame}

theorem guard_discards {c n : Nat} (hc : s.slotCtrl seg slot = some c)
    (hn : guardianCause e ((s.plane pl).slotSeen.contains (slotKey seg slot)) (some c) seg slot frame = some n) :
    s.guard pl seg slot e frame = discarded s pl seg slot e frame c n := by
  unfold State.guard
  dsimp only
  rw [hc, hn]
  unfold discarded arrived
  rw [hc]
  rfl

theorem guard_takes {c : Nat} (hc : s.slotCtrl seg slot = some c)
    (hn : guardianCause e ((s.plane pl).slotSeen.contains (slotKey seg slot)) (some c) seg slot frame = none)
    (hb : ((s.plane pl).ctrl c).barred = false) :
    s.guard pl seg slot e frame = (forwarded s pl seg slot e frame c).forwardUp pl c
      { frame := frame, cn := (s.plane pl).cn, e := e, relay := false, accepted := true } := by
  unfold State.guard
  dsimp only
  rw [hc, hn]
  unfold forwarded noted arrived
  rw [hc]
  exact if_neg (by simp [hb])

end

/-! ### Forwarding rings -/

/-- A record reaches the ring of one lane, or meets it full (R284, R285). -/
def toRing (pl : PlaneId) (c : Nat) (r : UpRec) (u : State) (ln : LaneId) : State :=
  let p := u.plane pl
  if !u.forwardsTo ln then u
  else if (p.rings.get ln).length < forwardDepth then
    u.putPlane pl { p with rings := p.rings.set ln (p.rings.get ln ++ [r]) }
  else (u.putPlane pl (p.updCtrl c (fun x => { x with overflow := x.overflow + 1 }))).raise
    .warn .overflow pl.die [((c : Nat) : Int)]

theorem forwardUp_eq (s : State) (pl : PlaneId) (c : Nat) (r : UpRec) : s.forwardUp pl c r =
    if !(s.plane pl).running then s else LaneId.all.foldl (toRing pl c r) s := rfl

section
variable (pl : PlaneId) (c : Nat) (r : UpRec) (u : State)

theorem toRing_frame (m : LaneId) : (toRing pl c r u m).lanes = u.lanes ∧
    ((toRing pl c r u m).plane pl).fwd = (u.plane pl).fwd ∧
    ((toRing pl c r u m).plane pl).slotSeen = (u.plane pl).slotSeen ∧
    ∀ ln, ln ≠ m → ((toRing pl c r u m).plane pl).rings.get ln = (u.plane pl).rings.get ln := by
  unfold toRing
  dsimp only
  split
  · exact ⟨rfl, rfl, rfl, fun _ _ => rfl⟩
  · split
    · rw [plane_putPlane_self]
      exact ⟨rfl, rfl, rfl, fun ln h => Tri_get_set_ne _ _ h⟩
    · rw [plane_raise, plane_putPlane_self]
      exact ⟨lanes_raise _ _ _ _ _, rfl, rfl, fun _ _ => rfl⟩

theorem toRing_self {m : LaneId} (hf : u.forwardsTo m = true) (hroom : ((u.plane pl).rings.get m).length < 16) :
    ((toRing pl c r u m).plane pl).rings.get m = (u.plane pl).rings.get m ++ [r] := by
  unfold toRing
  dsimp only
  rw [hf, if_neg (by decide), if_pos (show ((u.plane pl).rings.get m).length < forwardDepth from hroom), plane_putPlane_self]
  exact Tri_get_set_self _ _ _

theorem forwardsTo_of_lanes {s t : State} (h : t.lanes = s.lanes) (m : LaneId) : t.forwardsTo m = s.forwardsTo m := by
  unfold State.forwardsTo State.laneState State.lane
  rw [h]

/-- Every lane but those forwarded to keeps its ring; each of these with room gets the record. -/
theorem rings_foldl (xs : List LaneId) (hnd : xs.Nodup) : (xs.foldl (toRing pl c r) u).lanes = u.lanes ∧
    ((xs.foldl (toRing pl c r) u).plane pl).fwd = (u.plane pl).fwd ∧
    ((xs.foldl (toRing pl c r) u).plane pl).slotSeen = (u.plane pl).slotSeen ∧
    (∀ ln, ln ∉ xs → ((xs.foldl (toRing pl c r) u).plane pl).rings.get ln = (u.plane pl).rings.get ln) ∧
    (∀ ln ∈ xs, u.forwardsTo ln = true → ((u.plane pl).rings.get ln).length < 16 →
      ((xs.foldl (toRing pl c r) u).plane pl).rings.get ln = (u.plane pl).rings.get ln ++ [r]) := by
  induction xs generalizing u with
  | nil => exact ⟨rfl, rfl, rfl, fun _ _ => rfl, fun _ h => absurd h (List.not_mem_nil)⟩
  | cons m xs ih =>
    obtain ⟨hm, hnd⟩ := List.nodup_cons.1 hnd
    obtain ⟨hl, hfwd, hseen, hkept⟩ := toRing_frame pl c r u m
    obtain ⟨hl', hfwd', hseen', hkept', hgets'⟩ := ih (toRing pl c r u m) hnd
    rw [List.foldl_cons]
    refine ⟨hl'.trans hl, hfwd'.trans hfwd, hseen'.trans hseen, fun ln hln => ?_, fun ln hln hf hroom => ?_⟩
    · obtain ⟨hne, hnot⟩ := not_or.1 (fun h => hln (List.mem_cons.2 h))
      exact (hkept' ln hnot).trans (hkept ln hne)
    · by_cases hlm : ln = m
      · subst hlm
        rw [hkept' ln hm, toRing_self pl c r u hf hroom]
      · have hin : ln ∈ xs := (List.mem_cons.1 hln).resolve_left hlm
        rw [hgets' ln hin (by rwa [forwardsTo_of_lanes hl]) (by rwa [hkept ln hlm]), hkept ln hlm]

/-- What forwarding leaves of the plane and the lanes (R284). -/
theorem forwardUp_spec : (u.forwardUp pl c r).lanes = u.lanes ∧
    ((u.forwardUp pl c r).plane pl).fwd = (u.plane pl).fwd ∧
    ((u.forwardUp pl c r).plane pl).slotSeen = (u.plane pl).slotSeen ∧
    ((u.plane pl).running = true → ∀ ln, u.forwardsTo ln = true → ((u.plane pl).rings.get ln).length < 16 →
      ((u.forwardUp pl c r).plane pl).rings.get ln = (u.plane pl).rings.get ln ++ [r]) := by
  rw [forwardUp_eq]
  cases hrun : (u.plane pl).running
  · exact ⟨rfl, rfl, rfl, fun h => absurd h (by decide)⟩
  · obtain ⟨hl, hfwd, hseen, -, hgets⟩ := rings_foldl pl c r u LaneId.all (by decide)
    exact ⟨hl, hfwd, hseen, fun _ ln => hgets ln (by cases ln <;> decide)⟩

end

/-! ### Frames in a slot -/

section
variable {s : State} {pl : PlaneId} {seg slot c t : Nat} {frame f : List Byte}

/-- A frame with another EtherType or a bad FCS is discarded first (R228). -/
theorem guardian_damaged (hopen : qlOpen frame = none) : exec (.uplinkGuardian pl seg slot t frame) s = .next (s.touch t) := by
  show execUplinkGuardian pl seg slot t frame s = _
  unfold execUplinkGuardian
  dsimp only
  rw [hopen]
  split
  · contradiction
  · rfl

theorem guardian_eq (hon : s.planeOn pl = true) (hlive : (s.plane pl).live = true) (hseg : s.segConfigured seg = true)
    (hopen : qlOpen frame = some f) (hm : s.module ≠ .standby ∨ beAt f 1 1 ≠ 0x10) :
    exec (.uplinkGuardian pl seg slot t frame) s =
      .next ((s.touch t).guard pl seg slot (((s.plane pl).timeAt t : Int) - (upSlotNs slot : Nat)) f) := by
  have hguard : ((s.touch t).planeOn pl && ((s.touch t).plane pl).live && (s.touch t).segConfigured seg) = true := by
    show (s.planeOn pl && (s.plane pl).live && s.segConfigured seg) = true
    rw [hon, hlive, hseg]
    rfl
  have hown : ¬ ((decide ((s.touch t).module = .standby) && decide (beAt f 1 1 = 0x10)) = true) := by
    show ¬ ((decide (s.module = .standby) && decide (beAt f 1 1 = 0x10)) = true)
    simpa [imp_iff_not_or] using hm
  show execUplinkGuardian pl seg slot t frame s = _
  unfold execUplinkGuardian
  dsimp only
  rw [hguard, hopen]
  exact if_neg hown

end

/-! ### The cause of a discard (R284) -/

section
variable {e : Int} {b : Bool} {own : Option Nat} {seg slot c : Nat} {f : List Byte}

theorem cause_early (h : e < -200) : guardianCause e b own seg slot f = some 0 := if_pos h

theorem cause_late (h : 600 < e) : guardianCause e b own seg slot f = some 1 := by
  unfold guardianCause
  rw [if_neg (by omega), if_pos h]

theorem cause_second (h1 : -200 ≤ e) (h2 : e ≤ 600) : guardianCause e true own seg slot f = some 2 := by
  unfold guardianCause
  rw [if_neg (by omega), if_neg (by omega), if_pos rfl]

/-- The frame names the controller, the segment and the slot that it stands in. -/
def RightSlot (c seg slot : Nat) (f : List Byte) : Prop :=
  c = beAt f 4 2 % 4096 ∧ beAt f 2 1 % 8 = seg ∧ beAt f 6 2 % 512 = slot

theorem cause_wrong (h1 : -200 ≤ e) (h2 : e ≤ 600) (h : ¬ RightSlot c seg slot f) :
    guardianCause e false (some c) seg slot f = some 3 := by
  unfold guardianCause
  rw [if_neg (by omega), if_neg (by omega), if_neg (by decide), if_pos]
  by_contra hno
  simp only [not_or, not_not, ne_eq, Option.some.injEq] at hno
  exact h hno

theorem cause_none (h1 : -200 ≤ e) (h2 : e ≤ 600) (h : RightSlot c seg slot f) :
    guardianCause e false (some c) seg slot f = none := by
  obtain ⟨hc, hseg, hslot⟩ := h
  unfold guardianCause
  rw [if_neg (by omega), if_neg (by omega), if_neg (by decide), if_neg]
  simp [← hc, hseg, hslot]

end

/-- A frame that the guardian takes stands in the forward buffer, its slot is seen, and each lane with room has it. -/
theorem taken_spec {s : State} {pl : PlaneId} {seg slot c : Nat} {e : Int} {frame : List Byte}
    (hnew : slotKey seg slot ∉ (s.plane pl).slotSeen) (r : UpRec) :
    let u := (forwarded s pl seg slot e frame c).forwardUp pl c r
    u.lanes = s.lanes ∧ (u.plane pl).fwd = Tbl.set [] (s.plane pl).fwd (slotKey seg slot) frame ∧
    (u.plane pl).slotSeen = slotKey seg slot :: (s.plane pl).slotSeen ∧
    ((s.plane pl).running = true → ∀ ln, s.forwardsTo ln = true → ((s.plane pl).rings.get ln).length < 16 →
      (u.plane pl).rings.get ln = (s.plane pl).rings.get ln ++ [r]) := by
  obtain ⟨x, hx⟩ := arrived_frame s pl seg slot e frame
  obtain ⟨hplane, hlanes⟩ := noted_frame s pl seg slot e frame c
  have hfor : ∃ y, (forwarded s pl seg slot e frame c).plane pl = { s.plane pl with
      ctrls := x, slotSeen := slotKey seg slot :: (s.plane pl).slotSeen
      fwd := Tbl.set [] (s.plane pl).fwd (slotKey seg slot) frame, relayOut := y } := by
    unfold forwarded State.updPlane
    rw [plane_putPlane_self, hplane, hx, if_neg (by simpa using hnew)]
    exact ⟨_, rfl⟩
  obtain ⟨y, hy⟩ := hfor
  have hfl : (forwarded s pl seg slot e frame c).lanes = s.lanes := hlanes
  obtain ⟨hl, hfwd, hslots, hrings⟩ := forwardUp_spec pl c r (forwarded s pl seg slot e frame c)
  rw [hy] at hfwd hslots hrings
  exact ⟨hl.trans hfl, hfwd, hslots, fun hrun ln hf => hrings hrun ln (by rwa [forwardsTo_of_lanes hfl])⟩

/-! ### BAR and unknown delays (R245, R248) -/

theorem ctrl_updSeg (p : Plane) (n : Nat) (f : Seg → Seg) (c : Nat) : (p.updSeg n f).ctrl c = p.ctrl c := rfl

theorem seg_updSeg_self (p : Plane) (n : Nat) (f : Seg → Seg) : (p.updSeg n f).seg n = f (p.seg n) :=
  Tbl_get_upd_self _ _ _ _

section
variable {s : State} {pl : PlaneId} {c n : Nat} {cfg : CtrlCfg}

/-- The plane once a controller is barred: the chip sends BAR and knows no delay of it. -/
def barredPlane (s : State) (pl : PlaneId) (c : Nat) (cfg : CtrlCfg) : Plane :=
  ((s.plane pl).updCtrl c (fun c => { c with barred := true, knownNear := false, knownFar := false, sinceDset := none })).updSeg
    cfg.segment (fun g => { g with sent := g.sent ++ [s.timing pl cfg.segment (.bar c)] })

theorem barred_eq (hon : s.planeOn pl = true) (hlive : (s.plane pl).live = true) (hdrift : ((s.plane pl).ctrl c).drift = true)
    (hsince : ((s.plane pl).ctrl c).sinceDset = some n) (hn : 16 ≤ n) (hcfg : s.ctrlCfg c = some cfg) :
    exec (.barred pl c) s = .next ((s.putPlane pl (barredPlane s pl c cfg)).raise .fault .barred pl.die [((c : Nat) : Int)]) := by
  show execBarred pl c s = _
  unfold execBarred
  dsimp only
  rw [hon, hlive, hdrift, hsince, hcfg]
  exact if_pos hn

theorem ctrl_barredPlane : (barredPlane s pl c cfg).ctrl c =
    { (s.plane pl).ctrl c with barred := true, knownNear := false, knownFar := false, sinceDset := none } := by
  unfold barredPlane
  rw [ctrl_updSeg, ctrl_updCtrl_self]

theorem sent_barredPlane : ((barredPlane s pl c cfg).seg cfg.segment).sent =
    ((s.plane pl).seg cfg.segment).sent ++ [s.timing pl cfg.segment (.bar c)] := by
  unfold barredPlane
  rw [seg_updSeg_self]
  rfl

theorem delayUnknown_eq (hon : s.planeOn pl = true) (hlive : (s.plane pl).live = true)
    (hmiss : 16 ≤ ((s.plane pl).ctrl c).missing) : exec (.delayUnknown pl c) s =
      .next (s.putPlane pl ((s.plane pl).updCtrl c (fun c =>
        if s.module = .standby then { c with knownFar := false } else { c with knownNear := false }))) :=
  if_pos (by simp [hon, hlive, hmiss])

end

/-- Settles O21: what the guardian takes and what it discards, then BAR and the unknown delay. -/
theorem receiveGuardian : Obligations.ReceiveGuardian := by
  unfold Obligations.ReceiveGuardian
  refine ⟨?_, ?_⟩
  · intro s pl seg slot c t frame f p k e right hon hlive hseg hctrl
    refine ⟨guardian_damaged, fun hopen hm => ?_⟩
    have hexec := guardian_eq (slot := slot) (t := t) hon hlive hseg hopen hm
    have hcounts := arrived_counts (s.touch t) pl seg slot e f hctrl
    obtain ⟨hearly, hlate, hsecond, hwrong⟩ := hcounts
    have hdiscard : ∀ n, guardianCause e (p.slotSeen.contains k) (some c) seg slot f = some n →
        exec (.uplinkGuardian pl seg slot t frame) s = .next (discarded (s.touch t) pl seg slot e f c n) := fun n hn =>
      hexec.trans (congrArg _ (guard_discards hctrl hn))
    have hframe := discarded_frame (s.touch t) pl seg slot e f c
    have hlanes := lanes_discarded (s.touch t) pl seg slot e f c
    have hcount := ctrl_discarded (s.touch t) pl seg slot e f c
    refine ⟨fun h1 h2 hnew hright hbar => ?_, fun h => ?_, fun h => ?_, fun h1 h2 hold => ?_, fun h1 h2 hnew hright => ?_⟩
    · have hcause : guardianCause e (p.slotSeen.contains k) (some c) seg slot f = none := by
        rw [show p.slotSeen.contains k = false by simpa using hnew]
        exact cause_none h1 h2 hright
      obtain ⟨hl, hfwd, hslots, hrings⟩ := taken_spec (s := s.touch t) (frame := f) (e := e) (c := c) hnew
        ⟨f, p.cn, e, false, true⟩
      exact ⟨_, hexec.trans (congrArg _ (guard_takes hctrl hcause hbar)), hfwd, hslots, hrings, hl⟩
    · exact ⟨_, hdiscard 0 (cause_early h), (hframe 0).1, (congrArg PCtrl.early (hcount 0)).trans (congrArg (· + 1) hearly),
        (hframe 0).2, hlanes 0⟩
    · exact ⟨_, hdiscard 1 (cause_late h), (hframe 1).1, (congrArg PCtrl.late (hcount 1)).trans (congrArg (· + 1) hlate),
        (hframe 1).2, hlanes 1⟩
    · have hcause : guardianCause e (p.slotSeen.contains k) (some c) seg slot f = some 2 := by
        rw [show p.slotSeen.contains k = true by simpa using hold]
        exact cause_second h1 h2
      exact ⟨_, hdiscard 2 hcause, (hframe 2).1, (congrArg PCtrl.second (hcount 2)).trans (congrArg (· + 1) hsecond),
        (hframe 2).2, hlanes 2⟩
    · have hcause : guardianCause e (p.slotSeen.contains k) (some c) seg slot f = some 3 := by
        rw [show p.slotSeen.contains k = false by simpa using hnew]
        exact cause_wrong h1 h2 hright
      exact ⟨_, hdiscard 3 hcause, (hframe 3).1, (congrArg PCtrl.wrongSlot (hcount 3)).trans (congrArg (· + 1) hwrong),
        (hframe 3).2, hlanes 3⟩
  · intro s pl c n cfg p hon hlive
    refine ⟨fun hdrift hsince hn hcfg => ⟨_, barred_eq hon hlive hdrift hsince hn hcfg, ?_⟩,
      fun hmiss => ⟨_, delayUnknown_eq hon hlive hmiss, ?_⟩⟩
    · rw [plane_raise, plane_raise, plane_putPlane_self, plane_putPlane_other, lanes_raise, lanes_putPlane, ctrl_barredPlane,
        sent_barredPlane]
      exact ⟨rfl, rfl, rfl, rfl, rfl, rfl⟩
    · rw [plane_putPlane_self, ctrl_updCtrl_self, lanes_putPlane]
      exact ⟨fun h => by rw [if_pos h], fun h => by rw [if_neg h], rfl⟩

/-! ### Downlink slots (R213, R258) -/

section
variable {s : State} {pl : PlaneId} {ln : LaneId} {seg slot c : Nat} {body code tel : List Byte}

/-- The store entry of a slot once it keeps the body of a lane. -/
def storeEntry (s : State) (pl : PlaneId) (ln : LaneId) (seg slot : Nat) (body code : List Byte) : StoreEntry :=
  let e := Tbl.get {} (s.plane pl).store (slotKey seg slot)
  { e with bodies := (e.bodies.filter (fun b => decide (b.1 ≠ ln))) ++ [(ln, body, code)] }

/-- What the chip relays once it keeps the body of a lane (R258). -/
def relayed (s : State) (pl : PlaneId) (ln : LaneId) (seg slot : Nat) (body code : List Byte) : Tbl (List Byte) :=
  match s.partnerFeeds pl seg && s.pair.holder, Tbl.get [] (s.plane pl).relayOut (slotKey seg slot),
    (storeEntry s pl ln seg slot body code).telegram pl with
  | true, [], some t => Tbl.set [] (s.plane pl).relayOut (slotKey seg slot) t
  | _, _, _ => (s.plane pl).relayOut

theorem laneBodyRx_eq (hon : s.planeOn pl = true) (hlive : (s.plane pl).live = true) (hnet : commandsNet s.module = true)
    (hv : s.votes ln = true) : exec (.laneBodyRx pl ln seg slot body code) s = .next (s.putPlane pl { s.plane pl with
      store := Tbl.set {} (s.plane pl).store (slotKey seg slot) (storeEntry s pl ln seg slot body code)
      relayOut := relayed s pl ln seg slot body code }) :=
  if_pos (by simp [hon, hlive, hnet, hv])

theorem relayed_none (h : s.partnerFeeds pl seg = false ∨ s.pair.holder = false ∨
    (storeEntry s pl ln seg slot body code).telegram pl = none) : relayed s pl ln seg slot body code = (s.plane pl).relayOut := by
  unfold relayed
  split
  case h_1 hfeeds hempty htel =>
    simp only [Bool.and_eq_true] at hfeeds
    rcases h with h | h | h <;> simp_all
  · rfl

theorem relayed_some (hfeeds : s.partnerFeeds pl seg = true) (hholder : s.pair.holder = true)
    (htel : (storeEntry s pl ln seg slot body code).telegram pl = some tel)
    (hempty : Tbl.get [] (s.plane pl).relayOut (slotKey seg slot) = []) :
    relayed s pl ln seg slot body code = Tbl.set [] (s.plane pl).relayOut (slotKey seg slot) tel := by
  unfold relayed
  rw [hfeeds, hholder, htel, hempty]
  rfl

/-- A slot that opens with a pair of identical bodies sends its telegram. -/
theorem downlinkSlotOpen_sends (hon : s.planeOn pl = true) (hlive : (s.plane pl).live = true)
    (hnet : commandsNet s.module = true) (hsend : (s.plane pl).sending = true) (hc : s.slotCtrl seg slot = some c)
    (htel : (Tbl.get {} (s.plane pl).store (slotKey seg slot)).telegram pl = some tel) :
    exec (.downlinkSlotOpen pl seg slot) s = .next (s.putPlane pl { s.plane pl with
      store := Tbl.set {} (s.plane pl).store (slotKey seg slot) {}
      sentDown := Tbl.set [] (s.plane pl).sentDown (slotKey seg slot) (qlFrame (moduleMac s.pair.unitB) tel) }) := by
  show execDownlinkSlotOpen pl seg slot s = _
  unfold execDownlinkSlotOpen
  dsimp only
  rw [hon, hlive, hnet, hsend, hc, htel]
  rfl

/-- A slot that opens without such a pair stays empty and is counted. -/
theorem downlinkSlotOpen_counts (hon : s.planeOn pl = true) (hlive : (s.plane pl).live = true)
    (hnet : commandsNet s.module = true) (hsend : (s.plane pl).sending = true) (hc : s.slotCtrl seg slot = some c)
    (htel : (Tbl.get {} (s.plane pl).store (slotKey seg slot)).telegram pl = none) :
    ∃ u, exec (.downlinkSlotOpen pl seg slot) s = .next u ∧ (u.plane pl).sentDown = (s.plane pl).sentDown ∧
      ((u.plane pl).ctrl c).signLate = ((s.plane pl).ctrl c).signLate + 1 ∧ u.lanes = s.lanes := by
  refine ⟨(s.putPlane pl ({ s.plane pl with store := Tbl.set {} (s.plane pl).store (slotKey seg slot) {} }.updCtrl c
      (fun x => { x with signLate := x.signLate + 1 }))).raise .warn .signLate pl.die [((c : Nat) : Int)], ?_, ?_, ?_, ?_⟩
  · show execDownlinkSlotOpen pl seg slot s = _
    unfold execDownlinkSlotOpen
    dsimp only
    rw [hon, hlive, hnet, hsend, hc, htel]
    rfl
  · rw [plane_raise, plane_putPlane_self]
    rfl
  · rw [plane_raise, plane_putPlane_self, ctrl_updCtrl_self]
    rfl
  · rw [lanes_raise, lanes_putPlane]

end

theorem findSome?_three {α β : Type} (f : α → Option β) (p q r : α) :
    [p, q, r].findSome? f = (f p).or ((f q).or (f r)) := by
  rw [List.findSome?_cons, List.findSome?_cons, List.findSome?_cons, List.findSome?_nil]
  cases f p
  · cases f q
    · cases f r <;> rfl
    · rfl
  · rfl

/-- Settles O22: the body of a lane, the slot that opens, and the pair that a telegram is made of. -/
theorem downlinkSlots : Obligations.DownlinkSlots := by
  unfold Obligations.DownlinkSlots
  refine ⟨?_, ?_⟩
  · intro s pl ln seg slot c body code tel p k e e1 hon hlive hnet
    refine ⟨fun hv => ⟨fun h => ?_, fun hfeeds hholder htel hempty => ?_⟩, fun hsend hc =>
      ⟨downlinkSlotOpen_sends hon hlive hnet hsend hc, downlinkSlotOpen_counts hon hlive hnet hsend hc⟩⟩
    · rw [laneBodyRx_eq hon hlive hnet hv, relayed_none h]
      rfl
    · rw [laneBodyRx_eq hon hlive hnet hv, relayed_some hfeeds hholder htel hempty]
      rfl
  · intro e pl a b c ha hb hc
    have htel : e.telegram pl =
        ((if a.1 = b.1 then some (withPlane a.1 pl.bit ++ a.2 ++ b.2) else none).or
        ((if a.1 = c.1 then some (withPlane a.1 pl.bit ++ a.2 ++ c.2) else none).or
        (if b.1 = c.1 then some (withPlane b.1 pl.bit ++ b.2 ++ c.2) else none))) := by
      unfold StoreEntry.telegram
      rw [findSome?_three, ha, hb, hc]
    rw [htel]
    refine ⟨fun h => ?_, fun hab hac => ?_, fun hab hac hbc => ?_, fun hab hac hbc => ?_⟩
    · rw [if_pos h, Option.some_or]
    · rw [if_neg hab, if_pos hac, Option.none_or, Option.some_or]
    · rw [if_neg hab, if_neg hac, if_pos hbc, Option.none_or, Option.none_or]
    · rw [if_neg hab, if_neg hac, if_neg hbc, Option.none_or, Option.none_or]

end Sys2Proof.PlaneRules
end

section
/-! ## The start of Quayline and the loss of a claim (R253-R255, R386, R387) -/

namespace Sys2Proof.ModuleRules

open Sys2Proof Sys2Proof.Machine Sys2Proof.Laws Sys2Proof.SvcUp Sys2Proof.VoteRules Sys2Proof.ConsRules
open Sys2Proof.RejoinRules Sys2Proof.PlaneRules

/-! ### What the flags and changes of module state leave -/

/-- Settling changes, beside the lanes, the log and the rotating test, only the flag LANES_2OF2. -/
theorem outer_settle (s : State) : outer s.settle = { outer s with lanes2of2 := s.settle.lanes2of2 } := by
  unfold State.settle
  dsimp only
  split
  · rfl
  · have h := outer_raiseModule s .info .lanes2of2 [if decide (s.voters.length = 2) then 1 else 0]
    exact congrArg (fun t : State => { t with lanes2of2 := decide (s.voters.length = 2) }) h

theorem planes_settle (s : State) : s.settle.planes = s.planes := by
  have h := congrArg State.planes (outer_settle s)
  exact h

theorem pairOf_settle (s : State) : s.settle.pair = s.pair := by
  have h := congrArg State.pair (outer_settle s)
  exact h

theorem planes_of_outer {s t : State} (h : outer t = outer s) : t.planes = s.planes := by
  have h' := congrArg State.planes h
  exact h'

theorem pair_of_outer {s t : State} (h : outer t = outer s) : t.pair = s.pair := by
  have h' := congrArg State.pair h
  exact h'

@[simp] theorem get_map (d : Duo α) (f : α → β) (q : PlaneId) : (d.map f).get q = f (d.get q) := by cases q <;> rfl

/-- No Pilot session stands or is due, and no planned shutdown (R114, R439). -/
def Calm (s : State) : Prop := s.pilot = none ∧ s.pilotDue = false ∧ s.bist.shutdownDue = false

theorem calm_setModule {s : State} (h : Calm s) (m : ModState) : Calm (s.setModule m) := by
  obtain ⟨hp, hd, hb⟩ := h
  have hpilot := congrArg State.pilot (outer_setModule s m)
  have hdue := congrArg State.pilotDue (outer_setModule s m)
  have hbist := congrArg State.bist (outer_setModule s m)
  exact ⟨hpilot.trans hp, hdue.trans hd, (congrArg (·.shutdownDue) hbist).trans hb⟩

theorem calm_of_outer {s t : State} (h : outer t = outer s) (hc : Calm s) : Calm t := by
  obtain ⟨hp, hd, hb⟩ := hc
  exact ⟨(pilot_of_outer h).trans hp, (pilotDue_of_outer h).trans hd, (congrArg (·.shutdownDue) (bist_of_outer h)).trans hb⟩

theorem checkPilot_calm {s : State} (h : Calm s) : s.checkPilot = s := by
  obtain ⟨hp, hd, -⟩ := h
  exact if_neg (by rw [hp, hd]; simp)

theorem shutdownGoesOn_calm {s : State} (h : s.bist.shutdownDue = false) : s.shutdownGoesOn = s :=
  if_neg (by rw [h]; decide)

/-- CLOSED, as the module enters it without a session or a shutdown. -/
theorem closeModule_calm {s : State} (h : Calm s) : s.closeModule = { s.setModule .closed with
    pair := { s.pair with holder := false, listenUntil := none, transferNext := false, rollbackHold := false }
    planes := s.planes.map (fun p => { p with sending := false, coldNext := false })
    uplink := { s.uplink with launchHeld := [] } } := by
  have hc := calm_setModule h .closed
  have hpair := congrArg State.pair (outer_setModule s .closed)
  have hplanes := congrArg State.planes (outer_setModule s .closed)
  have huplink := congrArg State.uplink (outer_setModule s .closed)
  unfold State.closeModule
  dsimp only
  rw [checkPilot_calm hc]
  obtain ⟨-, -, hb⟩ := hc
  rw [shutdownGoesOn_calm, show (s.setModule .closed).pair = s.pair from hpair,
    show (s.setModule .closed).planes = s.planes from hplanes, show (s.setModule .closed).uplink = s.uplink from huplink]
  exact hb

/-- STANDBY, as the module enters it without a session or a shutdown. -/
theorem enterStandby_calm {s : State} (h : Calm s) (clm : U32) (c : CopyState) :
    (s.enterStandby clm c).module = .standby ∧ (s.enterStandby clm c).pair.clm = clm ∧
    (s.enterStandby clm c).pair.holder = false ∧ (s.enterStandby clm c).pair.copy = c ∧
    (s.enterStandby clm c).pair.variantP = s.pair.variantP ∧ (s.enterStandby clm c).pair.status = s.pair.status ∧
    ∀ q, ((s.enterStandby clm c).plane q).sending = false ∧ ((s.enterStandby clm c).plane q).running = false := by
  have hc := calm_setModule h .standby
  have hpair := congrArg State.pair (outer_setModule s .standby)
  have hcalm : Calm ((s.setModule .standby).setClaim clm) := hc
  unfold State.enterStandby
  dsimp only
  rw [checkPilot_calm hcalm]
  obtain ⟨-, -, hb⟩ := hcalm
  rw [shutdownGoesOn_calm (by exact hb)]
  refine ⟨module_setModule s .standby, rfl, rfl, rfl, congrArg (·.variantP) hpair, congrArg (·.status) hpair, fun q => ?_⟩
  unfold State.plane
  rw [get_map]
  exact ⟨rfl, rfl⟩

/-! ### A crossing -/

section
variable {s : State} {pl : PlaneId} {seg t listen : Nat} {frame : List Byte} {f : SyncOut}

theorem listenEnd_eq (hnet : commandsNet s.module = true) (hl : s.pair.listenUntil = some listen) (hle : listen ≤ t) :
    exec (.quaylineListenEnd t) s = .next { s.touch t with
      pair := { s.pair with listenUntil := none, holder := true, syncFrom := none }
      planes := s.planes.map (fun p => { p with sending := true, coldNext := true }) } := by
  have hnow : listen ≤ max s.now t := le_trans hle (le_max_right _ _)
  have hl' : (s.touch t).pair.listenUntil = some listen := hl
  show execQuaylineListenEnd t s = _
  unfold execQuaylineListenEnd
  dsimp only
  rw [hl']
  exact if_pos ⟨hnow, hnet⟩

theorem moduleSync_discards (h : directSync frame = none) :
    exec (.moduleSyncRx pl seg frame t) s = .next (s.touch t).settle := by
  show execModuleSyncRx pl seg frame t s = _
  unfold execModuleSyncRx
  dsimp only
  rw [h]
  split
  · contradiction
  · rfl

/-- What the module does with another module's direct sync while it commands (R254). -/
def crossed (s : State) (f : SyncOut) : State :=
  match s.rankOf f.unitB f.clm with
  | .wins => ((s.raiseModule .fault .crossing [(f.clm.toNat : Int), (f.cn.toNat : Int)]).stopQuayline).loseClaim f.clm
  | .loses => s.raiseModule .warn .crossing [(f.clm.toNat : Int), (f.cn.toNat : Int)]
  | .same => (s.stopQuayline).closePair .unitClash

theorem moduleSync_eq (hnet : commandsNet s.module = true) (hon : s.planeOn pl = true) (h : directSync frame = some f) :
    exec (.moduleSyncRx pl seg frame t) s = .next (crossed (s.touch t) f).settle := by
  have hon' : (s.touch t).planeOn pl = true := hon
  have hst : ¬ (s.touch t).module = .standby := by
    intro hst
    rw [show s.module = .standby from hst] at hnet
    contradiction
  have hnet' : commandsNet (s.touch t).module = true := hnet
  show execModuleSyncRx pl seg frame t s = _
  unfold execModuleSyncRx crossed
  dsimp only
  rw [h, hon']
  dsimp only
  rw [if_neg hst, if_pos hnet']
  cases (s.touch t).rankOf f.unitB f.clm <;> rfl

theorem sending_stopQuayline (s : State) (q : PlaneId) : (s.stopQuayline.plane q).sending = false := by
  unfold State.plane State.stopQuayline
  rw [get_map]

variable (hup : s.uplink.up = true)
include hup

/-- A single module that meets a later claim stops its Quayline and commands on. -/
theorem crossed_wins_single (hr : s.rankOf f.unitB f.clm = .wins) (hv : s.pair.variantP = false) :
    (∀ q, ((crossed s f).settle.plane q).sending = false) ∧ (crossed s f).settle.lanes = s.lanes ∧
    (crossed s f).settle.module = s.module := by
  have hout := outer_raiseModule s .fault .crossing [(f.clm.toNat : Int), (f.cn.toNat : Int)]
  have hvar := (congrArg Pair.variantP (pair_of_outer hout)).trans hv
  have hmod := module_of_outer hout
  have heq : crossed s f = (s.raiseModule .fault .crossing [(f.clm.toNat : Int), (f.cn.toNat : Int)]).stopQuayline := by
    unfold crossed
    rw [hr]
    refine if_neg ?_
    rintro ⟨hp, -⟩
    exact absurd (hvar.symm.trans hp) (by decide)
  rw [heq]
  refine ⟨fun q => ?_, ?_, ?_⟩
  · rw [plane_of_planes (planes_settle _), sending_stopQuayline]
  · refine (lanes_settle ?_).trans (lanes_raiseModule hup _ _ _)
    exact (congrArg Uplink.up (uplink_of_outer hout)).trans hup
  · exact (module_settle _).trans hmod

omit hup in
/-- A paired module that meets a later claim goes to STANDBY with the claim before it (R386). -/
theorem crossed_wins_pair (hr : s.rankOf f.unitB f.clm = .wins) (hv : s.pair.variantP = true)
    (hnet : commandsNet s.module = true) (hc : Calm s) :
    (∀ q, ((crossed s f).settle.plane q).sending = false) ∧ (crossed s f).settle.module = .standby ∧
    (crossed s f).settle.pair.clm = f.clm - 1 ∧ (crossed s f).settle.pair.holder = false := by
  let t := (s.raiseModule .fault .crossing [(f.clm.toNat : Int), (f.cn.toNat : Int)]).stopQuayline
  have hout := outer_raiseModule s .fault .crossing [(f.clm.toNat : Int), (f.cn.toNat : Int)]
  have hcalm : Calm t := by
    have h := calm_of_outer hout hc
    exact h
  have hvar := (congrArg Pair.variantP (pair_of_outer hout)).trans hv
  have hmod := module_of_outer hout
  have heq : crossed s f = (t.raiseModule .fault .claimLost [f.clm.toNat]).enterStandby (f.clm - 1) (.resync 0) := by
    unfold crossed
    rw [hr]
    refine if_pos ⟨hvar, ?_⟩
    rw [show t.module = s.module from hmod, hnet]
  obtain ⟨hmod, hclm, hhold, -, -, -, hsend⟩ :=
    enterStandby_calm (calm_of_outer (outer_raiseModule t .fault .claimLost [f.clm.toNat]) hcalm) (f.clm - 1) (.resync 0)
  rw [heq, module_settle, pairOf_settle]
  exact ⟨fun q => by rw [plane_of_planes (planes_settle _)]; exact (hsend q).1, hmod, hclm, hhold⟩

theorem crossed_loses (hr : s.rankOf f.unitB f.clm = .loses) : (crossed s f).settle.planes = s.planes ∧
    (crossed s f).settle.lanes = s.lanes ∧ (crossed s f).settle.module = s.module := by
  have hout := outer_raiseModule s .warn .crossing [(f.clm.toNat : Int), (f.cn.toNat : Int)]
  have heq : crossed s f = s.raiseModule .warn .crossing [(f.clm.toNat : Int), (f.cn.toNat : Int)] := by
    unfold crossed
    rw [hr]
  rw [heq, planes_settle, module_settle]
  refine ⟨planes_of_outer hout, (lanes_settle ?_).trans (lanes_raiseModule hup _ _ _), module_of_outer hout⟩
  exact (congrArg Uplink.up (uplink_of_outer hout)).trans hup

omit hup in
/-- An equal claim of an equal unit takes the module to CLOSED (R387). -/
theorem crossed_same (hr : s.rankOf f.unitB f.clm = .same) (hc : Calm s) : (crossed s f).settle.module = .closed ∧
    ∀ q, ((crossed s f).settle.plane q).sending = false := by
  have hcalm : Calm (s.stopQuayline.raiseModule .fault .unitClash []) :=
    calm_of_outer (outer_raiseModule s.stopQuayline .fault .unitClash []) hc
  have heq : crossed s f = (s.stopQuayline.raiseModule .fault .unitClash []).closeModule := by
    unfold crossed
    rw [hr]
    rfl
  rw [heq, closeModule_calm hcalm, module_settle]
  refine ⟨module_setModule _ _, fun q => ?_⟩
  rw [plane_of_planes (planes_settle _)]
  unfold State.plane
  rw [get_map]

end

/-- Settles O23: the end of listening, and each rank of another module's claim. -/
theorem quaylineStartAndCrossing : Obligations.QuaylineStartAndCrossing := by
  unfold Obligations.QuaylineStartAndCrossing
  intro s pl seg t listen frame f calm hnet hup
  have hup' : (s.touch t).uplink.up = true := hup
  refine ⟨fun hl hle => ⟨_, listenEnd_eq hnet hl hle, rfl, rfl, fun q => ?_, rfl⟩, fun hon => ⟨moduleSync_discards, fun h => ?_⟩⟩
  · unfold State.plane
    rw [get_map]
    exact ⟨rfl, rfl⟩
  · have hexec := moduleSync_eq (seg := seg) (t := t) hnet hon h
    exact ⟨fun hr hv => ⟨_, hexec, crossed_wins_single hup' hr hv⟩,
      fun hr hv hc => ⟨_, hexec, crossed_wins_pair hr hv hnet hc⟩,
      fun hr => ⟨_, hexec, crossed_loses hup' hr⟩,
      fun hr hc => ⟨_, hexec, crossed_same hr hc⟩⟩

end Sys2Proof.ModuleRules
end

section
/-! ## Q-DYN: windows, delay measurement, line windows and non-cyclic frames (R236, R243, R246, R256, R283) -/

namespace Sys2Proof.PlaneRules

open Sys2Proof Sys2Proof.Machine Sys2Proof.Laws

/-! ### Tables and segments -/

/-- The value entered last at a key stands. -/
theorem insert_insert {α : Type} (t : Tbl α) (k : Nat) (v w : α) : Tbl.insert (Tbl.insert t k v) k w = Tbl.insert t k w := by
  induction t with
  | nil => simp [Tbl.insert]
  | cons e r ih =>
    obtain ⟨j, x⟩ := e
    unfold Tbl.insert
    by_cases hlt : k < j
    · simp [hlt, Tbl.insert]
    · by_cases heq : k = j
      · simp [heq, Tbl.insert]
      · simp [hlt, heq, Tbl.insert, ih]

theorem set_set {α : Type} [DecidableEq α] (d : α) (t : Tbl α) (k : Nat) {v w : α} (hv : v ≠ d) (hw : w ≠ d) :
    Tbl.set d (Tbl.set d t k v) k w = Tbl.set d t k w := by
  unfold Tbl.set
  rw [if_neg hv, if_neg hw, if_neg hw, insert_insert]

theorem upd_congr {α : Type} [DecidableEq α] (d : α) (t : Tbl α) (k : Nat) {f g : α → α}
    (h : f (Tbl.get d t k) = g (Tbl.get d t k)) : Tbl.upd d t k f = Tbl.upd d t k g := by
  unfold Tbl.upd
  rw [h]

theorem updSeg_congr (p : Plane) (n : Nat) {f g : Seg → Seg} (h : f (p.seg n) = g (p.seg n)) : p.updSeg n f = p.updSeg n g :=
  congrArg (fun t => { p with segs := t }) (upd_congr _ _ _ h)

/-- A frame is sent on a segment, then the segment takes note of it: one change of the segment. -/
theorem send_updSeg (p : Plane) (n : Nat) (f : List Byte) (g : Seg → Seg) (hg : ∀ x, (g x).sent = x.sent) :
    (p.send n f).updSeg n g = p.updSeg n (fun x => g { x with sent := x.sent ++ [f] }) := by
  have hsent : ∀ x : Seg, x.sent ++ [f] ≠ [] := fun x => List.append_ne_nil_of_right_ne_nil _ (List.cons_ne_nil _ _)
  have hv : { p.seg n with sent := (p.seg n).sent ++ [f] } ≠ ({} : Seg) := fun h =>
    hsent _ (congrArg Seg.sent h)
  have hw : g { p.seg n with sent := (p.seg n).sent ++ [f] } ≠ ({} : Seg) := fun h =>
    hsent (p.seg n) ((hg _).symm.trans (congrArg Seg.sent h))
  have hget : Tbl.get {} (p.updSeg n (fun x => { x with sent := x.sent ++ [f] })).segs n =
      { p.seg n with sent := (p.seg n).sent ++ [f] } := seg_updSeg_self p n _
  unfold Plane.send
  refine congrArg (fun t => { p with segs := t }) ?_
  unfold Tbl.upd
  rw [hget]
  exact set_set {} p.segs n hv hw

theorem putPlane_plane (s : State) (pl : PlaneId) : s.putPlane pl (s.plane pl) = s := by cases pl <;> rfl

theorem seg_send (p : Plane) (n : Nat) (f : List Byte) : (p.send n f).seg n = { p.seg n with sent := (p.seg n).sent ++ [f] } :=
  seg_updSeg_self p n _

/-! ### The start of a window -/

/-- What a segment that closes its open request keeps. -/
def SegKept (g h : Seg) : Prop := h.sent = g.sent ∧ h.dsetFar = g.dsetFar ∧ h.dsetNear = g.dsetNear ∧ h.dL = g.dL ∧
  h.lineCn = g.lineCn ∧ h.lineAnswered = g.lineAnswered

theorem segKept_closeReq (g : Seg) : SegKept g g.closeReq := by
  unfold Seg.closeReq
  cases g.openReq with
  | none => exact ⟨rfl, rfl, rfl, rfl, rfl, rfl⟩
  | some r =>
    dsimp only
    split <;> exact ⟨rfl, rfl, rfl, rfl, rfl, rfl⟩

/-- The state once the request that the window before held is over. -/
def closedReq (s : State) (pl : PlaneId) (seg win : Nat) : State :=
  if s.lineWindow (s.plane pl) seg && decide (2 ≤ win) && ((s.plane pl).seg seg).openReq.any (fun r => r.mod) then s
  else s.putPlane pl ((s.plane pl).updSeg seg Seg.closeReq)

/-- The window itself, once that request is over. -/
def inWindow (u : State) (pl : PlaneId) (seg win t : Nat) : State :=
  match u.windowEnd (u.plane pl) seg win with
  | some far => u.putPlane pl (u.sendDset pl (u.plane pl) seg far)
  | none => if u.freeWindow (u.plane pl) seg win then u.useFree pl seg t else u

theorem openWindow_eq (s : State) (pl : PlaneId) (seg win t : Nat) :
    s.openWindow pl seg win t = inWindow (closedReq s pl seg win) pl seg win t := rfl

theorem closedReq_frame (s : State) (pl : PlaneId) (seg win : Nat) : ∃ g,
    closedReq s pl seg win = s.putPlane pl { s.plane pl with segs := g } ∧ SegKept ((s.plane pl).seg seg) (Tbl.get {} g seg) := by
  unfold closedReq
  split
  · exact ⟨(s.plane pl).segs, (putPlane_plane s pl).symm, rfl, rfl, rfl, rfl, rfl, rfl⟩
  · refine ⟨((s.plane pl).updSeg seg Seg.closeReq).segs, rfl, ?_⟩
    rw [show Tbl.get {} ((s.plane pl).updSeg seg Seg.closeReq).segs seg = ((s.plane pl).seg seg).closeReq from
      seg_updSeg_self _ _ _]
    exact segKept_closeReq _

section
variable {s : State} {pl : PlaneId} {seg : Nat} {g : Tbl Seg} (h : SegKept ((s.plane pl).seg seg) (Tbl.get {} g seg))
include h

theorem lineWindow_closed : (s.putPlane pl { s.plane pl with segs := g }).lineWindow { s.plane pl with segs := g } seg =
    s.lineWindow (s.plane pl) seg := by
  obtain ⟨-, -, -, hdL, hcn, hans⟩ := h
  unfold State.lineWindow Plane.seg
  dsimp only
  rw [hdL, hcn, hans]
  rfl

theorem windowEnd_closed (win : Nat) : (s.putPlane pl { s.plane pl with segs := g }).windowEnd { s.plane pl with segs := g }
    seg win = s.windowEnd (s.plane pl) seg win := by
  unfold State.windowEnd
  dsimp only
  rw [lineWindow_closed h]
  rfl

theorem freeWindow_closed (win : Nat) : (s.putPlane pl { s.plane pl with segs := g }).freeWindow { s.plane pl with segs := g }
    seg win = s.freeWindow (s.plane pl) seg win := by
  unfold State.freeWindow
  rw [lineWindow_closed h, windowEnd_closed h]
  rfl

end

/-! ### What a window sends -/

section
variable {s : State} {pl : PlaneId} {seg win t c q d : Nat} {far : Bool}

theorem seg_updCtrl (p : Plane) (c n : Nat) (f : PCtrl → PCtrl) : (p.updCtrl c f).seg n = p.seg n := rfl

theorem sent_sendDset (u : State) {p : Plane}
    (h : (if far then (p.seg seg).dsetFar else (p.seg seg).dsetNear) = some (c, q, d)) :
    ((u.sendDset pl p seg far).seg seg).sent = (p.seg seg).sent ++ [u.timing pl seg (.dset far c q d)] := by
  have hsent : (((p.send seg (u.timing pl seg (.dset far c q d))).updSeg seg (fun g =>
      if far then { g with dsetFar := none } else { g with dsetNear := none })).seg seg).sent =
      (p.seg seg).sent ++ [u.timing pl seg (.dset far c q d)] := by
    rw [seg_updSeg_self, seg_send]
    split <;> rfl
  unfold State.sendDset
  dsimp only
  rw [h]
  cases far
  · exact (congrArg Seg.sent (seg_updCtrl _ _ _ _)).trans hsent
  · exact hsent

/-- A window that measures sends the DSET that waits for it. -/
theorem openWindow_dset (hend : s.windowEnd (s.plane pl) seg win = some far)
    (hdset : (if far then ((s.plane pl).seg seg).dsetFar else ((s.plane pl).seg seg).dsetNear) = some (c, q, d)) :
    (((s.openWindow pl seg win t).plane pl).seg seg).sent =
      ((s.plane pl).seg seg).sent ++ [s.timing pl seg (.dset far c q d)] := by
  obtain ⟨g, heq, hkept⟩ := closedReq_frame s pl seg win
  have hend' := windowEnd_closed hkept win
  obtain ⟨hsent, hfar, hnear, -⟩ := hkept
  rw [openWindow_eq, heq]
  unfold inWindow
  rw [plane_putPlane_self, hend', hend]
  dsimp only
  rw [plane_putPlane_self, sent_sendDset (c := c) (q := q) (d := d)]
  · exact congrArg (· ++ [s.timing pl seg (.dset far c q d)]) hsent
  · unfold Plane.seg
    dsimp only
    rw [hfar, hnear]
    exact hdset

/-- A free window is used for what is due on the segment. -/
theorem openWindow_free (hend : s.windowEnd (s.plane pl) seg win = none) (hfree : s.freeWindow (s.plane pl) seg win = true) :
    ∃ g, s.openWindow pl seg win t = (s.putPlane pl { s.plane pl with segs := g }).useFree pl seg t ∧
      SegKept ((s.plane pl).seg seg) (Tbl.get {} g seg) := by
  obtain ⟨g, heq, hkept⟩ := closedReq_frame s pl seg win
  refine ⟨g, ?_, hkept⟩
  rw [openWindow_eq, heq]
  unfold inWindow
  rw [plane_putPlane_self, windowEnd_closed hkept, hend]
  exact if_pos ((freeWindow_closed hkept win).trans hfree)

theorem openWindow_note (hend : s.windowEnd (s.plane pl) seg win = none) (hfree : s.freeWindow (s.plane pl) seg win = true)
    (hdue : s.noteDue (s.plane pl) seg = some c) : (((s.openWindow pl seg win t).plane pl).seg seg).sent =
      ((s.plane pl).seg seg).sent ++ [s.timing pl seg (.dnote c ((s.plane pl).ctrl c).mean ((s.plane pl).ctrl c).beyond)] := by
  obtain ⟨g, heq, hsent, -⟩ := openWindow_free (t := t) hend hfree
  have hdue' : (s.putPlane pl { s.plane pl with segs := g }).noteDue { s.plane pl with segs := g } seg = some c := hdue
  rw [heq]
  unfold State.useFree
  dsimp only
  rw [plane_putPlane_self, hdue']
  dsimp only
  rw [plane_putPlane_self, seg_send]
  exact congrArg (· ++ [s.timing pl seg (.dnote c ((s.plane pl).ctrl c).mean ((s.plane pl).ctrl c).beyond)]) hsent

theorem takeRequest_frame {x : Nat × List Byte} {s1 : State} (h : s.takeRequest pl seg = some (x, s1)) :
    s1 = { s with uplink := { s.uplink with ncQueue := s.uplink.ncQueue.set pl ((s.uplink.ncQueue.get pl).erase x) } } := by
  unfold State.takeRequest at h
  dsimp only at h
  split at h
  · contradiction
  · obtain ⟨rfl, rfl⟩ := Prod.mk.inj (Option.some.inj h)
    rfl

theorem openWindow_request {cfg : CtrlCfg} {x : Nat × List Byte} {s1 : State}
    (hend : s.windowEnd (s.plane pl) seg win = none) (hfree : s.freeWindow (s.plane pl) seg win = true)
    (hdue : s.noteDue (s.plane pl) seg = none) (htake : s.takeRequest pl seg = some (x, s1))
    (hcfg : s.ctrlCfg x.1 = some cfg) :
    (((s.openWindow pl seg win t).plane pl).seg seg).sent =
      ((s.plane pl).seg seg).sent ++ [s.requestFrame pl (s.plane pl).cn x.1 cfg x.2] ∧
    (s.openWindow pl seg win t).uplink.ncQueue.get pl = (s.uplink.ncQueue.get pl).erase x := by
  obtain ⟨g, heq, hsent, -⟩ := openWindow_free (t := t) hend hfree
  have hdue' : (s.putPlane pl { s.plane pl with segs := g }).noteDue { s.plane pl with segs := g } seg = none := hdue
  have htake' : (s.putPlane pl { s.plane pl with segs := g }).takeRequest pl seg =
      some (x, s1.putPlane pl { s.plane pl with segs := g }) := by
    rw [takeRequest_frame htake]
    unfold State.takeRequest at htake ⊢
    dsimp only at htake ⊢
    split at htake
    · contradiction
    · next r hr =>
      obtain ⟨hx, -⟩ := Prod.mk.inj (Option.some.inj htake)
      have hr' : List.find? (fun r => ((s.putPlane pl { s.plane pl with segs := g }).segCtrls seg).contains r.1)
          ((s.putPlane pl { s.plane pl with segs := g }).uplink.ncQueue.get pl) = some r := hr
      rw [hr', ← hx]
      rfl
  have hcfg' : (s.putPlane pl { s.plane pl with segs := g }).ctrlCfg x.1 = some cfg := hcfg
  have hsend : s.openWindow pl seg win t =
      (s1.putPlane pl { s.plane pl with segs := g }).updPlane pl (fun p =>
        { p.send seg ((s.putPlane pl { s.plane pl with segs := g }).requestFrame pl p.cn x.1 cfg x.2) with
          ncOpen := Tbl.set none p.ncOpen x.1 (some (x.2.getD 0 0, t + windowNs false)) }) := by
    rw [heq]
    unfold State.useFree
    dsimp only
    rw [plane_putPlane_self, hdue']
    dsimp only
    unfold State.sendRequest
    rw [htake']
    dsimp only
    rw [hcfg']
  rw [hsend]
  unfold State.updPlane
  rw [plane_putPlane_self, plane_putPlane_self]
  refine ⟨(congrArg Seg.sent (seg_send _ seg _)).trans
    (congrArg (· ++ [s.requestFrame pl (s.plane pl).cn x.1 cfg x.2]) hsent), ?_⟩
  rw [takeRequest_frame htake]
  exact Duo_get_set_self _ _ _

end

/-! ### Measurement -/

section
variable {s : State} {pl : PlaneId} {seg win c t1 t4 turn : Nat} {far inTurn : Bool} {r : OpenReq} {f : List Byte}

theorem dreqSend_eq (hon : s.planeOn pl = true) (hlive : (s.plane pl).live = true)
    (hport : (s.ports pl).contains seg = true) (hline : ¬ (s.module = .standby ∧ win = 1 ∧ s.lineWindow (s.plane pl) seg = true))
    (hend : s.windowEnd (s.plane pl) seg win = some far) (hnext : s.measureNext (s.plane pl) seg far = some (c, inTurn)) :
    exec (.dreqSend pl seg win t1) s =
      .next ((s.touch t1).putPlane pl ((s.touch t1).sendDreq pl (s.plane pl) seg c t1 far inTurn)) := by
  have hguard : ((s.touch t1).planeOn pl && ((s.touch t1).plane pl).live && ((s.touch t1).ports pl).contains seg) = true := by
    show (s.planeOn pl && (s.plane pl).live && (s.ports pl).contains seg) = true
    rw [hon, hlive, hport]
    rfl
  have hend' : (s.touch t1).windowEnd ((s.touch t1).plane pl) seg win = some far := hend
  have hnext' : (s.touch t1).measureNext ((s.touch t1).plane pl) seg far = some (c, inTurn) := hnext
  show execDreqSend pl seg win t1 s = _
  unfold execDreqSend
  dsimp only
  rw [if_pos hguard]
  refine (if_neg hline).trans ?_
  rw [hend']
  dsimp only
  rw [hnext']
  rfl

/-- The request of a measurement opens it, and a pick in its turn moves the turn on (R246). -/
theorem seg_sendDreq (p : Plane) : let g := (s.sendDreq pl p seg c t1 far inTurn).seg seg
    g.openReq = some ⟨c, far, false, ((p.seg seg).seq + 1) % 256, t1, t1 + 118000⟩ ∧
    g.sent = (p.seg seg).sent ++ [s.timing pl seg (.dreq far false c (((p.seg seg).seq + 1) % 256))] ∧
    (if inTurn then (if far then g.turnFar else g.turnNear) = s.slotOf c + 1
     else g.turnFar = (p.seg seg).turnFar ∧ g.turnNear = (p.seg seg).turnNear) := by
  dsimp only
  unfold State.sendDreq
  dsimp only
  rw [seg_updSeg_self, seg_send]
  cases inTurn
  · exact ⟨rfl, rfl, rfl, rfl⟩
  · cases far <;> exact ⟨rfl, rfl, rfl⟩

/-- A response to the request that a segment holds, as it is judged (R243). -/
theorem drespRx_eq (hon : s.planeOn pl = true) (hlive : (s.plane pl).live = true)
    (hr : ((s.plane pl).seg seg).openReq = some r) (hmod : r.mod = false)
    (hf : timingOf f = some ((pl.bit, seg), .dresp r.far false r.ctrl r.seq turn)) :
    exec (.drespRx pl seg f t4) s = if t4 ≤ r.until_ then
      if 1000 ≤ turn ∧ turn ≤ 4000 ∧ r.t1 + turn ≤ t4 then
        .next ((s.touch t4).putPlane pl ((s.plane pl).measured seg r (delayOf r.t1 t4 turn)))
      else .next ((s.touch t4).putPlane pl ((s.plane pl).updSeg seg Seg.closeReq))
      else .next (s.touch t4) := by
  have hon' : (s.touch t4).planeOn pl = true := hon
  have hlive' : ((s.touch t4).plane pl).live = true := hlive
  have hr' : (((s.touch t4).plane pl).seg seg).openReq = some r := hr
  show execDrespRx pl seg f t4 s = _
  unfold execDrespRx
  dsimp only
  rw [hon', hlive', hr', hf]
  by_cases hle : t4 ≤ r.until_ <;> simp [hmod, hle] <;> rfl

theorem closeReq_of {g : Seg} (hr : g.openReq = some r) (hmod : r.mod = false) : g.closeReq = g.defer r.ctrl := by
  unfold Seg.closeReq
  rw [hr]
  exact if_neg (by rw [hmod]; decide)

theorem measured_spec (p : Plane) {d : Nat} (hmod : r.mod = false) :
    ((p.measured seg r d).ctrl r.ctrl).known r.far = true ∧ ((p.measured seg r d).ctrl r.ctrl).barred = false ∧
    (if r.far then ((p.measured seg r d).seg seg).dsetFar else ((p.measured seg r d).seg seg).dsetNear) =
      some (r.ctrl, r.seq, d) := by
  have hseg : (p.measured seg r d).seg seg =
      (let g1 : Seg := { p.seg seg with openReq := none, deferred := (p.seg seg).deferred.filter (fun x => decide (x ≠ r.ctrl)) }
       if r.far then { g1 with dsetFar := some (r.ctrl, r.seq, d) } else { g1 with dsetNear := some (r.ctrl, r.seq, d) }) := by
    unfold Plane.measured
    rw [hmod, if_neg (by decide)]
    dsimp only
    rw [seg_updCtrl, seg_updSeg_self]
  have hctrl : (p.measured seg r d).ctrl r.ctrl = (let c := p.ctrl r.ctrl
      let c1 : PCtrl := { c with barred := false, missing := 0, measured := c.measured || !r.far }
      if r.far then { c1 with knownFar := true } else { c1 with knownNear := true }) := by
    unfold Plane.measured
    rw [hmod, if_neg (by decide)]
    exact ctrl_updCtrl_self _ _ _
  rw [hseg, hctrl]
  cases hfar : r.far <;> exact ⟨rfl, rfl, rfl⟩

end

/-! ### Line requests and non-cyclic frames -/

section
variable {s : State} {pl : PlaneId} {seg seq turn c t end_ : Nat} {far : Bool} {payload frame f : List Byte} {code : Byte}

theorem lineDreq_eq (hon : s.planeOn pl = true) (hlive : (s.plane pl).live = true) (hsend : (s.plane pl).sending = true)
    (hnet : commandsNet s.module = true) (hline : s.lineWindow (s.plane pl) seg = true)
    (hf : timingOf frame = some ((pl.bit, seg), .dreq far true c seq)) :
    exec (.lineDreqRx pl seg frame turn) s = .next (s.putPlane pl ((s.plane pl).updSeg seg (fun g =>
      { g with sent := g.sent ++ [s.timing pl seg (.dresp true true 0 seq turn)], lineAnswered := true
               lineCn := some (s.plane pl).cn }))) := by
  show execLineDreqRx pl seg frame turn s = _
  unfold execLineDreqRx
  dsimp only
  rw [hon, hlive, hsend, hnet, hline, hf]
  refine (if_pos rfl).trans ?_
  exact congrArg (fun q => Host.Outcome.next (s.putPlane pl q)) (send_updSeg (s.plane pl) seg _
    (fun g => { g with lineAnswered := true, lineCn := some (s.plane pl).cn }) (fun _ => rfl))

theorem ncRequestQueue_eq (hnet : s.netOn = true) (hp : ncSendable payload = true)
    (hlen : (s.uplink.ncQueue.get pl).length < 256) :
    exec (.ncRequestQueue pl c payload) s = .next { s with uplink := { s.uplink with
      ncQueue := s.uplink.ncQueue.set pl (s.uplink.ncQueue.get pl ++ [(c, payload)]) } } := by
  refine (if_pos (show (s.netOn && ncSendable payload) = true by rw [hnet, hp]; rfl)).trans ?_
  exact if_pos hlen

theorem ncResponse_taken (hnet : s.netOn = true) (hon : s.planeOn pl = true) (hrun : (s.plane pl).running = true)
    (hopen : qlOpen frame = some f) (hc : ctrlOf f = c)
    (hreq : Tbl.get none (s.plane pl).ncOpen c = some (code, end_))
    (hown : beAt f 0 1 = 1 ∧ beAt f 1 1 = 0x13 ∧ lineOf f = (pl.bit, seg) ∧ f.getD 32 0 = code ∧ t ≤ end_ ∧
      (!((s.plane pl).ctrl c).barred) = true)
    (hroom : s.uplink.ncResponses.length < 512) :
    exec (.ncResponseRx pl seg frame t) s = .next
      { (s.touch t).putPlane pl { s.plane pl with ncOpen := Tbl.set none (s.plane pl).ncOpen c none } with
        uplink := { s.uplink with ncResponses := s.uplink.ncResponses ++ [(c, f)] } } := by
  have hguard : ((s.touch t).netOn && (s.touch t).planeOn pl && ((s.touch t).plane pl).running) = true := by
    show (s.netOn && s.planeOn pl && (s.plane pl).running) = true
    rw [hnet, hon, hrun]
    rfl
  have hreq' : Tbl.get none ((s.touch t).plane pl).ncOpen (ctrlOf f) = some (code, end_) := by
    rw [hc]
    exact hreq
  show execNcResponseRx pl seg frame t s = _
  unfold execNcResponseRx
  dsimp only
  rw [hguard, hopen]
  dsimp only
  rw [hreq']
  dsimp only
  rw [hc]
  refine (if_pos hown).trans ?_
  exact congrArg _ (if_pos hroom)

end

/-- Settles O24: what a window sends, the measurement with its results, then line requests and non-cyclic frames. -/
theorem delayMeasurementAndLine : Obligations.DelayMeasurementAndLine := by
  unfold Obligations.DelayMeasurementAndLine
  refine ⟨?_, ?_⟩
  · intro s pl seg win c q d t t1 t4 turn far inTurn r f cfg x s1 p p0 hon hlive
    refine ⟨if_pos (show (s.planeOn pl && (s.plane pl).live) = true by rw [hon, show (s.plane pl).live = true from hlive]; rfl),
      openWindow_dset, fun hend hfree => ⟨openWindow_note hend hfree, openWindow_request hend hfree⟩,
      fun hport hline hend hnext => ?_, fun hr hmod => ⟨fun hf => ?_, ?_⟩⟩
    · obtain ⟨hopen, hsent, hturn⟩ :=
        seg_sendDreq (s := s.touch t1) (pl := pl) (seg := seg) (c := c) (t1 := t1) (far := far) (inTurn := inTurn) p
      refine ⟨_, dreqSend_eq hon hlive hport hline hend hnext, ?_⟩
      rw [plane_putPlane_self]
      exact ⟨hopen, hsent, hturn, rfl⟩
    · have hexec := drespRx_eq (t4 := t4) hon hlive hr hmod hf
      refine ⟨fun h1 h2 h3 h4 => ?_, fun hturn hle => ?_, fun hlate => ?_⟩
      · obtain ⟨hknown, hbar, hdset⟩ := measured_spec (seg := seg) (d := delayOf r.t1 t4 turn) p hmod
        refine ⟨_, hexec.trans ((if_pos h4).trans (if_pos ⟨h1, h2, h3⟩)), ?_⟩
        rw [plane_putPlane_self]
        exact ⟨hknown, hbar, hdset, rfl⟩
      · rw [hexec, if_pos hle, if_neg (by omega), updSeg_congr p seg (g := fun g => g.defer r.ctrl) (closeReq_of hr hmod)]
        rfl
      · exact hexec.trans (if_neg (by omega))
    · show Host.Outcome.next (s.putPlane pl (p.updSeg seg Seg.closeReq)) = _
      rw [updSeg_congr p seg (g := fun g => g.defer r.ctrl) (closeReq_of hr hmod)]
  · intro s pl seg seq turn c t end_ far payload frame f code p
    refine ⟨lineDreq_eq, ncRequestQueue_eq,
      fun hnet hon hrun hopen hc hreq h0 h1 hline hcode hle hbar hroom =>
        ⟨_, ncResponse_taken hnet hon hrun hopen hc hreq
          ⟨h0, h1, hline, hcode, hle, by rw [show ((s.plane pl).ctrl c).barred = false from hbar]; rfl⟩ hroom, rfl, ?_, rfl⟩⟩
    have hplane := plane_putPlane_self (s.touch t) pl
      { s.plane pl with ncOpen := Tbl.set none (s.plane pl).ncOpen c none }
    exact (congrArg (fun q : Plane => Tbl.get none q.ncOpen c) hplane).trans
      (Tbl_get_set_self none (s.plane pl).ncOpen c none)

end Sys2Proof.PlaneRules
end

section
/-! ## Far time, far-end feed, the relay and loss of signal (R257-R260) -/

namespace Sys2Proof.PlaneRules

open Sys2Proof Sys2Proof.Machine Sys2Proof.Laws Sys2Proof.ModuleRules

/-! ### The far tick -/

section
variable {s : State} {pl : PlaneId} {seg trx t last : Nat} {f : SyncOut}

theorem atFarTick_fields (p : Plane) (sched : List (Nat × CtrlCfg)) (x : Nat) (clm cn : U32) (tc : Nat) (coast : Bool) :
    let q := p.atFarTick sched x clm cn tc coast
    q.farTick = some x ∧ q.farCn = cn ∧ q.farClm = clm ∧ q.farTc = tc ∧ q.farCoast = coast := ⟨rfl, rfl, rfl, rfl, rfl⟩

/-- The state once the chip has taken a far tick, sent its frames and reported. -/
def farTicked (u : State) (pl : PlaneId) (q : Plane) : State := ((u.putPlane pl q).farSends pl).sendStatus pl false

/-- While the module stands by, a far tick leaves the plane as derived, but for the FAR sync frames. -/
theorem farTicked_frame {u : State} (hst : u.module = .standby) (q : Plane) :
    (∃ x, (farTicked u pl q).plane pl = { q with syncs := x }) ∧ (farTicked u pl q).lanes = u.lanes := by
  have hst' : (u.putPlane pl q).module = .standby := hst
  obtain ⟨hplanes, hlanes⟩ := sendStatus_frame (pl := pl) ((u.putPlane pl q).farSends pl) false
  have hsends : ∃ x, (u.putPlane pl q).farSends pl = (u.putPlane pl q).putPlane pl { q with syncs := x } := by
    unfold State.farSends
    dsimp only
    rw [if_pos hst', plane_putPlane_self]
    exact ⟨_, rfl⟩
  obtain ⟨x, hx⟩ := hsends
  refine ⟨⟨x, ?_⟩, ?_⟩
  · exact (plane_of_planes hplanes pl).trans (by rw [hx, plane_putPlane_self])
  · exact hlanes.trans (by rw [hx]; rfl)

section
variable (hon : s.planeOn pl = true) (hst : s.module = .standby)
include hon hst

theorem farTick_guard : ((s.touch t).planeOn pl && (decide ((s.touch t).module = .standby) ||
    ((s.touch t).pair.syncFrom.isSome && !((s.touch t).plane pl).running))) = true := by
  show (s.planeOn pl && (decide (s.module = .standby) || (s.pair.syncFrom.isSome && !(s.plane pl).running))) = true
  rw [hon, hst]
  rfl

theorem farTick_heard (h : (s.plane pl).heardSync = some (seg, trx, f)) : exec (.farTick pl t) s =
    .next (farTicked (s.touch t) pl ((s.plane pl).atFarTick s.schedule (farTickAt ((s.plane pl).seg seg) trx) f.clm f.cn f.tc false)) := by
  have h' : ((s.touch t).plane pl).heardSync = some (seg, trx, f) := h
  show execFarTick pl t s = _
  unfold execFarTick
  dsimp only
  rw [if_pos (farTick_guard hon hst), h']
  rfl

theorem farTick_coasted (h : (s.plane pl).heardSync = none) (hlast : (s.plane pl).farTick = some last) :
    exec (.farTick pl t) s = .next (farTicked (s.touch t) pl ((s.plane pl).atFarTick s.schedule
      (last + (s.plane pl).farPeriod) (s.plane pl).farClm ((s.plane pl).farCn + 1) (s.plane pl).farTc true)) := by
  have h' : ((s.touch t).plane pl).heardSync = none := h
  have hlast' : ((s.touch t).plane pl).farTick = some last := hlast
  show execFarTick pl t s = _
  unfold execFarTick
  dsimp only
  rw [if_pos (farTick_guard hon hst), h', hlast']
  rfl

end

theorem farPeriod_nominal {p : Plane} (h : p.farIntervals = []) : p.farPeriod = tcNs p.farTc := by
  unfold Plane.farPeriod
  rw [h]
  rfl

end

/-! ### Far-end feed -/

section
variable {s : State} {pl : PlaneId} {seg slot c t at_ : Nat} {hd : HawserHead} {frame : List Byte} {lost : Bool}

theorem feedStart_eq (hon : s.planeOn pl = true) (hst : s.module = .standby) (htick : (s.plane pl).farTick.isSome = true)
    (hcfg : s.segConfigured seg = true) (hdirect : ((s.plane pl).seg seg).directSeen = false)
    (hnext : ((s.plane pl).seg seg).feedNext = false) : exec (.farEndFeedStart pl seg) s =
      if 4 ≤ (s.plane pl).fed.length ∧ (!((s.plane pl).seg seg).feed) = true then
        .next (s.raise .warn .feedLimit pl.die [((seg : Nat) : Int)])
      else .next (((s.putPlane pl ((s.plane pl).updSeg seg (fun g => { g with feedNext := true, directRun := 0 }))).raise
        .warn .feedStart pl.die [((seg : Nat) : Int)]).sendStatus pl false) :=
  if_pos (by simp [hon, hst, htick, hcfg, hdirect, hnext])

theorem feedStop_eq (hon : s.planeOn pl = true) (hst : s.module = .standby) (hnext : ((s.plane pl).seg seg).feedNext = true)
    (hrun : 16 ≤ ((s.plane pl).seg seg).directRun + (if ((s.plane pl).seg seg).directSeen then 1 else 0)) :
    exec (.farEndFeedStop pl seg) s = .next ((s.putPlane pl ((s.plane pl).updSeg seg (fun g =>
      { g with feedNext := false }))).raise .info .feedStop pl.die [((seg : Nat) : Int)]) :=
  if_pos (by simp [hon, hst, hnext, hrun])

/-! ### The relay -/

theorem relayRx_down (htakes : hawserTakes 0x33 hd = true) (hon : s.planeOn pl = true) (hlive : (s.plane pl).live = true)
    (hvar : s.pair.variantP = true) (hc : s.slotCtrl seg slot = some c) (hst : s.module = .standby)
    (hfeed : ((s.plane pl).seg seg).feed = true) (hroom : (s.plane pl).relayStore.length < 64) :
    exec (.relayRx pl true seg slot hd frame t) s = .next ((s.touch t).putPlane pl { s.plane pl with
      relayStore := Tbl.set none (s.plane pl).relayStore (slotKey seg slot) (some (frame, t)) }) := by
  have hguard : (hawserTakes 0x33 hd && (s.touch t).planeOn pl && ((s.touch t).plane pl).live &&
      (s.touch t).pair.variantP) = true := by
    show (hawserTakes 0x33 hd && s.planeOn pl && (s.plane pl).live && s.pair.variantP) = true
    rw [htakes, hon, hlive, hvar]
    rfl
  have hc' : (s.touch t).slotCtrl seg slot = some c := hc
  show execRelayRx pl true seg slot hd frame t s = _
  unfold execRelayRx
  dsimp only
  rw [hguard, hc']
  dsimp only
  refine (if_pos rfl).trans ((if_pos ⟨hst, hfeed⟩).trans ?_)
  exact if_pos (Or.inl hroom)

theorem relayRx_up (htakes : hawserTakes 0x33 hd = true) (hon : s.planeOn pl = true) (hlive : (s.plane pl).live = true)
    (hvar : s.pair.variantP = true) (hc : s.slotCtrl seg slot = some c) (hnet : commandsNet s.module = true)
    (hholder : s.pair.holder = true) (hnew : slotKey seg slot ∉ (s.plane pl).slotSeen)
    (hempty : Tbl.get [] (s.plane pl).fwd (slotKey seg slot) = []) (hbar : ((s.plane pl).ctrl c).barred = false) :
    exec (.relayRx pl false seg slot hd frame t) s = .next (((s.touch t).putPlane pl { s.plane pl with
      fwd := Tbl.set [] (s.plane pl).fwd (slotKey seg slot) frame }).forwardUp pl c
        { frame := frame, cn := (s.plane pl).cn, e := 0, relay := true, accepted := true }) := by
  have hguard : (hawserTakes 0x33 hd && (s.touch t).planeOn pl && ((s.touch t).plane pl).live &&
      (s.touch t).pair.variantP) = true := by
    show (hawserTakes 0x33 hd && s.planeOn pl && (s.plane pl).live && s.pair.variantP) = true
    rw [htakes, hon, hlive, hvar]
    rfl
  have hc' : (s.touch t).slotCtrl seg slot = some c := hc
  have hcond : commandsNet s.module = true ∧ s.pair.holder = true ∧
      (!(s.plane pl).slotSeen.contains (slotKey seg slot)) = true ∧
      Tbl.get [] (s.plane pl).fwd (slotKey seg slot) = [] ∧ (!((s.plane pl).ctrl c).barred) = true :=
    ⟨hnet, hholder, by simpa using hnew, hempty, by rw [hbar]; rfl⟩
  show execRelayRx pl false seg slot hd frame t s = _
  unfold execRelayRx
  dsimp only
  rw [hguard, hc']
  dsimp only
  exact (if_neg (by decide)).trans (if_pos hcond)

/-- What a relayed uplink leaves (R258): the forward buffer holds it, and each lane with room its record. -/
theorem relayedUp_spec (r : UpRec) : let u := ((s.touch t).putPlane pl { s.plane pl with
      fwd := Tbl.set [] (s.plane pl).fwd (slotKey seg slot) frame }).forwardUp pl c r
    (u.plane pl).fwd = Tbl.set [] (s.plane pl).fwd (slotKey seg slot) frame ∧
    ((s.plane pl).running = true → ∀ ln, s.forwardsTo ln = true → ((s.plane pl).rings.get ln).length < 16 →
      (u.plane pl).rings.get ln = (s.plane pl).rings.get ln ++ [r]) ∧ u.lanes = s.lanes := by
  obtain ⟨hl, hfwd, -, hrings⟩ := forwardUp_spec pl c r ((s.touch t).putPlane pl { s.plane pl with
    fwd := Tbl.set [] (s.plane pl).fwd (slotKey seg slot) frame })
  rw [plane_putPlane_self] at hfwd hrings
  exact ⟨hfwd, hrings, hl⟩

theorem relaySlotOpen_eq (hon : s.planeOn pl = true) (hst : s.module = .standby)
    (hfeed : ((s.plane pl).seg seg).feed = true) (hc : s.slotCtrl seg slot = some c)
    (hheld : Tbl.get none (s.plane pl).relayStore (slotKey seg slot) = some (frame, at_)) :
    exec (.relaySlotOpen pl seg slot t) s = if at_ + 2000 ≤ t then
      .next ((s.touch t).putPlane pl { s.plane pl with
        relayStore := Tbl.set none (s.plane pl).relayStore (slotKey seg slot) none
        sentDown := Tbl.set [] (s.plane pl).sentDown (slotKey seg slot) (qlFrame (moduleMac s.pair.unitB) frame) })
      else .next (((s.touch t).putPlane pl { s.plane pl with
        relayStore := Tbl.set none (s.plane pl).relayStore (slotKey seg slot) none
        relayLate := (s.plane pl).relayLate + 1 }).raise .warn .relayLate pl.die [((c : Nat) : Int)]) := by
  have hguard : ((s.touch t).planeOn pl && decide ((s.touch t).module = .standby) && (((s.touch t).plane pl).seg seg).feed) = true := by
    show (s.planeOn pl && decide (s.module = .standby) && ((s.plane pl).seg seg).feed) = true
    rw [hon, hst, hfeed]
    rfl
  have hc' : (s.touch t).slotCtrl seg slot = some c := hc
  have hheld' : Tbl.get none ((s.touch t).plane pl).relayStore (slotKey seg slot) = some (frame, at_) := hheld
  show execRelaySlotOpen pl seg slot t s = _
  unfold execRelaySlotOpen
  dsimp only
  rw [hguard, hc', hheld']
  rfl

theorem lossOfSignal_eq (hon : s.planeOn pl = true) (hlost : ((s.plane pl).seg seg).lost ≠ lost) :
    exec (.lossOfSignal pl seg lost) s = .next ((s.putPlane pl ((s.plane pl).updSeg seg (fun g => { g with lost := lost }))).raise
      (if lost then .warn else .info) (if lost then .lossOfSignal else .signalReturn) pl.die [((seg : Nat) : Int)]) :=
  if_pos (by simp [hon, bne_iff_ne, hlost])

end

/-- Settles O25: the far tick, the feed of a far end, the relay of both directions and a line's signal. -/
theorem farTickFeedAndRelay : Obligations.FarTickFeedAndRelay := by
  unfold Obligations.FarTickFeedAndRelay
  refine ⟨?_, ?_⟩
  · intro s pl seg trx t last f p hon hst
    have hst' : (s.touch t).module = .standby := hst
    refine ⟨fun h => ?_, fun h hlast => ?_⟩
    · obtain ⟨⟨x, hx⟩, hl⟩ := farTicked_frame (pl := pl) hst' ((s.plane pl).atFarTick s.schedule
        (farTickAt ((s.plane pl).seg seg) trx) f.clm f.cn f.tc false)
      refine ⟨_, farTick_heard hon hst h, ?_⟩
      rw [hx]
      exact ⟨rfl, rfl, rfl, rfl, rfl, hl⟩
    · obtain ⟨⟨x, hx⟩, hl⟩ := farTicked_frame (pl := pl) hst' ((s.plane pl).atFarTick s.schedule
        (last + (s.plane pl).farPeriod) (s.plane pl).farClm ((s.plane pl).farCn + 1) (s.plane pl).farTc true)
      refine ⟨_, farTick_coasted hon hst h hlast, ?_⟩
      rw [hx]
      exact ⟨rfl, farPeriod_nominal, rfl, rfl, rfl, hl⟩
  · intro s pl seg slot c t at_ hd frame lost p g k hon
    refine ⟨fun hst => ⟨fun htick hcfg hdirect hnext => ⟨fun hfew => ?_, fun hmany hfeed => ?_⟩, fun hnext hrun => ?_,
      fun hc hfeed => ⟨fun htakes hlive hvar hroom => relayRx_down htakes hon hlive hvar hc hst hfeed hroom,
        fun hheld hdue => ?_, fun hheld hlate => ?_⟩⟩,
      fun htakes hlive hvar hc hnet hholder hnew hempty hbar =>
        ⟨_, relayRx_up htakes hon hlive hvar hc hnet hholder hnew hempty hbar, relayedUp_spec _⟩,
      fun hlost => ⟨_, lossOfSignal_eq hon hlost, ?_, ?_⟩⟩
    · obtain ⟨hplanes, hlanes⟩ := sendStatus_frame (pl := pl) ((s.putPlane pl (p.updSeg seg (fun g =>
        { g with feedNext := true, directRun := 0 }))).raise .warn .feedStart pl.die [((seg : Nat) : Int)]) false
      refine ⟨_, (feedStart_eq hon hst htick hcfg hdirect hnext).trans (if_neg (fun h => absurd hfew (Nat.not_lt.2 h.1))), ?_⟩
      rw [plane_of_planes hplanes, plane_raise, plane_putPlane_self, seg_updSeg_self, hlanes, lanes_raise]
      refine ⟨rfl, rfl, rfl, fun hvar => ?_⟩
      have hvar' : ((s.putPlane pl (p.updSeg seg (fun g => { g with feedNext := true, directRun := 0 }))).raise
          .warn .feedStart pl.die [((seg : Nat) : Int)]).pair.variantP = true := by
        rw [pair_raise]
        exact hvar
      unfold State.sendStatus
      rw [if_pos hvar']
      exact congrArg Option.isSome (Duo_get_set_self _ _ _)
    · refine ⟨_, (feedStart_eq hon hst htick hcfg hdirect hnext).trans (if_pos ⟨hmany, ?_⟩), planes_raise _ _ _ _ _,
        lanes_raise _ _ _ _ _⟩
      rw [show ((s.plane pl).seg seg).feed = false from hfeed]
      rfl
    · refine ⟨_, feedStop_eq hon hst hnext hrun, ?_⟩
      rw [plane_raise, plane_putPlane_self, seg_updSeg_self, lanes_raise]
      exact ⟨rfl, rfl⟩
    · rw [relaySlotOpen_eq hon hst hfeed hc hheld]
      exact if_pos hdue
    · refine ⟨_, (relaySlotOpen_eq hon hst hfeed hc hheld).trans (if_neg (by omega)), ?_⟩
      rw [plane_raise, plane_putPlane_self, lanes_raise]
      exact ⟨rfl, rfl, rfl⟩
    · rw [plane_raise, plane_putPlane_self, seg_updSeg_self]
    · rw [lanes_raise]
      rfl

end Sys2Proof.PlaneRules
end

section
/-! ## Controllers: forwarding, class A time and the launch (R226, R237-R239, R245, R250, R251, R258) -/

namespace Sys2Proof.CtrlRules

open Sys2Proof Sys2Proof.Machine Sys2Proof.Laws

/-! ### Access -/

@[simp] theorem ctrl_putCtrl_self (s : State) (c : Nat) (x : Ctrl) : (s.putCtrl c x).ctrl c = x := Tbl_get_set_self _ _ _ _

theorem ctrl_putCtrl_ne (s : State) {c d : Nat} (x : Ctrl) (h : d ≠ c) : (s.putCtrl c x).ctrl d = s.ctrl d :=
  Tbl_get_set_ne _ _ _ h

@[simp] theorem lanes_putCtrl (s : State) (c : Nat) (x : Ctrl) : (s.putCtrl c x).lanes = s.lanes := rfl

/-- Replacing a controller leaves the others, and the lanes. -/
theorem putCtrl_others (s : State) (c : Nat) (x : Ctrl) :
    (∀ d, d ≠ c → (s.putCtrl c x).ctrl d = s.ctrl d) ∧ (s.putCtrl c x).lanes = s.lanes :=
  ⟨fun _ hd => ctrl_putCtrl_ne s x hd, rfl⟩

@[simp] theorem cplane_putPlane_self (x : Ctrl) (pl : PlaneId) (p : CPlane) : (x.putPlane pl p).plane pl = p :=
  Duo_get_set_self _ _ _

@[simp] theorem cplane_putPlane_other (x : Ctrl) (pl : PlaneId) (p : CPlane) :
    (x.putPlane pl p).plane pl.other = x.plane pl.other := Duo_get_set_ne _ _ (by cases pl <;> decide)

@[simp] theorem cplane_updPlane_self (x : Ctrl) (pl : PlaneId) (f : CPlane → CPlane) :
    (x.updPlane pl f).plane pl = f (x.plane pl) := Duo_get_set_self _ _ _

@[simp] theorem cplane_updPlane_other (x : Ctrl) (pl : PlaneId) (f : CPlane → CPlane) :
    (x.updPlane pl f).plane pl.other = x.plane pl.other := cplane_putPlane_other _ _ _

/-- A frame forwarded changes only what left by the other port (R226). -/
@[simp] theorem cplane_forward (x : Ctrl) (pl : PlaneId) (port : Nat) (frame : List Byte) :
    (x.forward pl port frame).plane pl = { x.plane pl with out := Tbl.set [] (x.plane pl).out (1 - port) frame } :=
  cplane_updPlane_self _ _ _

@[simp] theorem cplane_forward_other (x : Ctrl) (pl : PlaneId) (port : Nat) (frame : List Byte) :
    (x.forward pl port frame).plane pl.other = x.plane pl.other := cplane_updPlane_other _ _ _

/-! ### What each event forwards -/

/-- A controller has forwarded a frame out of the other port of a plane. -/
def Forwarded (x y : Ctrl) (pl : PlaneId) (port : Nat) (frame : List Byte) : Prop :=
  (y.plane pl).out = Tbl.set [] (x.plane pl).out (1 - port) frame

section
variable {x y : Ctrl} {pl : PlaneId} {port : Nat} {frame : List Byte}

theorem forwarded_forward (x : Ctrl) (pl : PlaneId) (port : Nat) (frame : List Byte) :
    Forwarded x (x.forward pl port frame) pl port frame := by
  unfold Forwarded
  rw [cplane_forward]

theorem forwarded_updPlane (h : Forwarded x y pl port frame) {f : CPlane → CPlane} (hf : ∀ p, (f p).out = p.out) (q : PlaneId) :
    Forwarded x (y.updPlane q f) pl port frame := by
  unfold Forwarded at h ⊢
  by_cases hq : q = pl
  · subst hq
    rw [cplane_updPlane_self, hf, h]
  · rw [show (y.updPlane q f).plane pl = y.plane pl from Duo_get_set_ne _ _ (Ne.symm hq), h]

theorem forwarded_putPlane (h : Forwarded x y pl port frame) {p : CPlane} (hp : p.out = (y.plane pl).out) :
    Forwarded x (y.putPlane pl p) pl port frame := by
  unfold Forwarded at h ⊢
  rw [cplane_putPlane_self, hp, h]

theorem forwarded_timeGone (h : Forwarded x y pl port frame) : Forwarded x y.timeGone pl port frame := by
  unfold Ctrl.timeGone
  split <;> exact h

theorem out_take (p : CPlane) (a b : Bool) (f g : ATime → ATime) : (p.take a b f g).out = p.out := rfl

end

section
variable (s : State) (c : Nat) (pl : PlaneId) (port t tb turn : Nat) (frame data : List Byte) (e1 e2 : ChanFault)

theorem syncRx_forwards : ∃ y, exec (.controllerSyncRx c pl port frame t tb) s = .next (s.putCtrl c y) ∧
    Forwarded (s.ctrl c) y pl port frame := by
  have hfwd := forwarded_forward (s.ctrl c) pl port frame
  show ∃ y, execControllerSyncRx c pl port frame t tb s = _ ∧ _
  unfold execControllerSyncRx
  dsimp only
  split
  · exact ⟨_, rfl, forwarded_updPlane hfwd (fun p => out_take p _ _ _ _) pl⟩
  · exact ⟨_, rfl, hfwd⟩

theorem dreqRx_forwards : ∃ y, exec (.controllerDreqRx c pl port frame turn tb) s = .next (s.putCtrl c y) ∧
    Forwarded (s.ctrl c) y pl port frame := by
  have hfwd := forwarded_forward (s.ctrl c) pl port frame
  show ∃ y, execControllerDreqRx c pl port frame turn tb s = _ ∧ _
  unfold execControllerDreqRx
  dsimp only
  split
  · split
    · exact ⟨_, rfl, forwarded_putPlane hfwd rfl⟩
    · exact ⟨_, rfl, hfwd⟩
  · exact ⟨_, rfl, hfwd⟩

theorem dsetRx_forwards : ∃ y, exec (.controllerDsetRx c pl port frame) s = .next (s.putCtrl c y) ∧
    Forwarded (s.ctrl c) y pl port frame := by
  have hfwd := forwarded_forward (s.ctrl c) pl port frame
  show ∃ y, execControllerDsetRx c pl port frame s = _ ∧ _
  unfold execControllerDsetRx
  dsimp only
  split
  · exact ⟨_, rfl, forwarded_updPlane hfwd (fun p => out_take p _ _ _ _) pl⟩
  · exact ⟨_, rfl, hfwd⟩

theorem dnoteRx_forwards : ∃ y, exec (.controllerDnoteRx c pl port frame) s = .next (s.putCtrl c y) ∧
    Forwarded (s.ctrl c) y pl port frame := by
  have hfwd := forwarded_forward (s.ctrl c) pl port frame
  show ∃ y, execControllerDnoteRx c pl port frame s = _ ∧ _
  unfold execControllerDnoteRx
  dsimp only
  split
  · split
    · exact ⟨_, rfl, forwarded_putPlane hfwd rfl⟩
    · exact ⟨_, rfl, hfwd⟩
  · exact ⟨_, rfl, hfwd⟩

theorem barRx_forwards : ∃ y, exec (.controllerBarRx c pl port frame) s = .next (s.putCtrl c y) ∧
    Forwarded (s.ctrl c) y pl port frame := by
  have hfwd := forwarded_forward (s.ctrl c) pl port frame
  show ∃ y, execControllerBarRx c pl port frame s = _ ∧ _
  unfold execControllerBarRx
  dsimp only
  split
  · split
    · exact ⟨_, rfl, forwarded_timeGone (forwarded_putPlane hfwd rfl)⟩
    · exact ⟨_, rfl, forwarded_putPlane hfwd rfl⟩
  · exact ⟨_, rfl, hfwd⟩

theorem ncAnswer_forwards {serve : Ctrl → List Byte → Option (List Byte × Ctrl)}
    (hserve : ∀ y f d z, serve y f = some (d, z) → Forwarded (s.ctrl c) y pl port frame → Forwarded (s.ctrl c) z pl port frame) :
    ∃ y, s.ncAnswer c pl port frame t turn serve = s.putCtrl c y ∧ Forwarded (s.ctrl c) y pl port frame := by
  have hfwd := forwarded_forward (s.ctrl c) pl port frame
  unfold State.ncAnswer
  dsimp only
  split
  · exact ⟨_, rfl, hfwd⟩
  · split
    · exact ⟨_, rfl, hfwd⟩
    · next f hf d y hy =>
      have hout : Forwarded (s.ctrl c) y pl port frame := hserve _ _ _ _ hy hfwd
      split
      · exact ⟨_, rfl, hout⟩
      · exact ⟨_, rfl, hout⟩

theorem ident_forwards : ∃ y, exec (.ident c pl port frame t turn) s = .next (s.putCtrl c y) ∧
    Forwarded (s.ctrl c) y pl port frame := by
  obtain ⟨y, heq, hy⟩ := ncAnswer_forwards s c pl port t turn frame (serve := fun x f => if serviceOf f = 1 then
    some (x.identData (((s.ctrlCfg c).map (fun (c : CtrlCfg) => c.map)).getD 0), x) else none) (fun y f d z hz hfwd => by
      split at hz
      · exact (Prod.mk.inj (Option.some.inj hz)).2 ▸ hfwd
      · contradiction)
  exact ⟨y, congrArg _ heq, hy⟩

theorem counters_forwards : ∃ y, exec (.counters c pl port frame t turn) s = .next (s.putCtrl c y) ∧
    Forwarded (s.ctrl c) y pl port frame := by
  obtain ⟨y, heq, hy⟩ := ncAnswer_forwards s c pl port t turn frame (serve := fun x f => if serviceOf f = 2 then
    some ([2] ++ (List.range 13).flatMap (fun n => beBytes 4 (Tbl.get 0 (x.plane (planeNamed f)).counts n).toNat), x)
    else none) (fun y f d z hz hfwd => by
      split at hz
      · exact (Prod.mk.inj (Option.some.inj hz)).2 ▸ hfwd
      · contradiction)
  exact ⟨y, congrArg _ heq, hy⟩

theorem clrcnt_forwards : ∃ y, exec (.clrcnt c pl port frame t turn) s = .next (s.putCtrl c y) ∧
    Forwarded (s.ctrl c) y pl port frame := by
  obtain ⟨y, heq, hy⟩ := ncAnswer_forwards s c pl port t turn frame (serve := fun x f => if serviceOf f = 3 then
    some ([3], x.updPlane (planeNamed f) (fun p => { p with counts := [] })) else none) (fun y f d z hz hfwd => by
      split at hz
      · exact (Prod.mk.inj (Option.some.inj hz)).2 ▸ forwarded_updPlane hfwd (f := fun p => { p with counts := [] }) (fun _ => rfl) _
      · contradiction)
  exact ⟨y, congrArg _ heq, hy⟩

theorem ncDesigner_forwards : ∃ y, exec (.ncDesigner c pl port frame data t turn) s = .next (s.putCtrl c y) ∧
    Forwarded (s.ctrl c) y pl port frame := by
  obtain ⟨y, heq, hy⟩ := ncAnswer_forwards s c pl port t turn frame (serve := fun x f =>
    if serviceOf f = 0 ∨ 3 < serviceOf f then
      some (if 128 ≤ serviceOf f then beBytes 1 (serviceOf f) ++ data.take 127 else [0], x)
    else none) (fun y f d z hz hfwd => by
      split at hz
      · exact (Prod.mk.inj (Option.some.inj hz)).2 ▸ hfwd
      · contradiction)
  exact ⟨y, congrArg _ heq, hy⟩

end

/-! ### Downlink copies: what is counted and what is kept -/

theorem cplane_count (x : Ctrl) (pl : PlaneId) (n : Nat) : (x.count pl n).plane pl = (x.plane pl).count n :=
  cplane_putPlane_self _ _ _

section
variable {x y : Ctrl} {pl : PlaneId} {port : Nat} {frame : List Byte}

theorem forwarded_count (h : Forwarded x y pl port frame) (n : Nat) : Forwarded x (y.count pl n) pl port frame :=
  forwarded_updPlane h (f := fun p => p.count n) (fun _ => rfl) pl

theorem forwarded_takeDown (h : Forwarded x y pl port frame) (f : List Byte) (m clm : U32) (b : Bool) :
    Forwarded x (y.takeDown pl f m clm b) pl port frame := by
  unfold Ctrl.takeDown
  split
  · exact h
  · split
    · exact h
    · split
      · exact forwarded_count h 11
      · split
        · exact forwarded_count h 12
        · exact h

theorem forwarded_authentic (h : Forwarded x y pl port frame) (f : List Byte) :
    Forwarded x (y.authentic pl f) pl port frame := by
  unfold Ctrl.authentic
  dsimp only
  split
  · refine forwarded_takeDown ?_ f _ _ _
    exact h
  · exact forwarded_count h 10

theorem forwarded_down (h : Forwarded x y pl port frame) (man : Manifest) (c : Nat) (cfg : CtrlCfg) (t : Nat)
    (e1 e2 : ChanFault) (fr : List Byte) : Forwarded x (y.down man c cfg pl port t e1 e2 fr) pl port frame := by
  unfold Ctrl.down
  dsimp only
  split
  · exact forwarded_count h 0
  · split
    · exact forwarded_count h _
    · split
      · exact forwarded_count h 8
      · split
        · exact forwarded_count h 8
        · split
          · exact forwarded_count h 9
          · exact forwarded_authentic h _

end

theorem downlinkRx_forwards (s : State) (c : Nat) (pl : PlaneId) (port t : Nat) (frame : List Byte) (e1 e2 : ChanFault) :
    ∃ y, exec (.controllerDownlinkRx c pl port frame t e1 e2) s = .next (s.putCtrl c y) ∧
      Forwarded (s.ctrl c) y pl port frame := by
  have hfwd := forwarded_forward (s.ctrl c) pl port frame
  show ∃ y, execControllerDownlinkRx c pl port frame t e1 e2 s = _ ∧ _
  unfold execControllerDownlinkRx
  dsimp only
  split
  · exact ⟨_, rfl, forwarded_down hfwd _ _ _ _ _ _ _⟩
  · exact ⟨_, rfl, hfwd⟩

end Sys2Proof.CtrlRules
end

section
/-! ## A controller's class A time and the launch of its telegram (R237-R239, R245, R250, R251) -/

namespace Sys2Proof.CtrlRules

open Sys2Proof Sys2Proof.Machine Sys2Proof.Laws

/-! ### Sync frames in one timekeeper -/

section
variable (p : ATime) (port : Nat) (f : SyncOut) (t : Nat)

theorem tryJoin_frame : ∃ j q, p.tryJoin = { p with joined := j, silent := q } := by
  unfold ATime.tryJoin
  split
  · exact ⟨_, _, rfl⟩
  · exact ⟨p.joined, p.silent, rfl⟩

theorem tryJoin_joined (hfull : p.fullCycle = true) (hd : p.dNear.isSome = true) : p.tryJoin.joined = true := by
  unfold ATime.tryJoin
  rw [if_pos (by rw [hfull, hd]; rfl)]

theorem tryJoin_none (hd : p.dNear = none) : p.tryJoin = p := if_neg (by rw [hd]; simp)

/-- The timekeeper whose rate a valid sync frame sets (R237). -/
def rated : ATime := { p with intervals := p.nextIntervals port f t, tc := f.tc }

/-- What a valid sync frame sets (R237). -/
theorem takeSync_fields (same : Bool) : let r := p.takeSync port f same t
    r.tick = some (t - (rated p port f t).span (((rated p port f t).delay port).getD 0 + 1000)) ∧ r.m = some f.cn ∧
    r.coasts = 0 ∧ r.lastSync = some t ∧ r.onFar = f.far ∧ r.nearPort = p.nearPort ∧ r.dNear = p.dNear ∧ r.dFar = p.dFar := by
  unfold ATime.takeSync
  dsimp only
  obtain ⟨j, q, h⟩ := tryJoin_frame (ATime.mk (some (t - (rated p port f t).span (((rated p port f t).delay port).getD 0 + 1000)))
    (some t) port (some f.cn) 0 f.tc (p.nextIntervals port f t) f.far ((rated p port f t).delay port).isNone p.source
    p.lastDirect (if !f.far then some f.cn
      else if p.source.any (fun o => decide (o.1 = f.clm)) then p.directCn else none)
    (p.fullCycle || (!f.far && same && decide (p.directCn = some (f.cn - 1)))) false p.nearPort p.dNear p.dFar p.candNear
    p.candFar p.joined p.silent)
  unfold rated at h ⊢
  rw [h]
  exact ⟨rfl, rfl, rfl, rfl, rfl, rfl, rfl, rfl⟩

theorem nearPort_setNear : (p.setNear port).nearPort = port := by
  unfold ATime.setNear
  split
  · next h => exact h.symm
  · rfl

variable {p port f t}

theorem direct_valid {p0 : ATime} (h0 : (if f.cold then p.cold else p).setNear port = p0)
    (hvalid : p0.syncValid port f t = true) : p.direct port f t =
      { p0 with source := some (syncSource port f), lastDirect := some t }.takeSync port f
        (decide (p.source = some (syncSource port f)) && !f.cold) t := by
  subst h0
  exact if_pos hvalid

/-- A direct sync frame that is valid is taken at the port it came by (R261). -/
theorem sync_direct (hfar : f.far = false) (hcold : f.cold = false) (hcross : p.crosses (f.clm, f.unitB, port) t = false)
    (hvalid : (p.setNear port).syncValid port f t = true) : ∃ same,
    p.sync port f t =
      { p.setNear port with source := some (syncSource port f), lastDirect := some t }.takeSync port f same t := by
  have hcross' : p.crosses (syncSource port f) t = false := hcross
  unfold ATime.sync
  rw [hfar, if_neg (by decide), hcross', if_neg (by decide)]
  exact ⟨_, direct_valid (by rw [hcold]; rfl) hvalid⟩

theorem sync_far (hfar : f.far = true) (hvalid : p.syncValid port f t = true) :
    p.sync port f t = p.takeSync port f false t := by
  unfold ATime.sync
  rw [if_pos hfar, if_pos hvalid]

theorem sync_crossed (hfar : f.far = false) (hcross : p.crosses (f.clm, f.unitB, port) t = true) :
    p.sync port f t = { p.dropTime with crossing := true } := by
  have hcross' : p.crosses (syncSource port f) t = true := hcross
  unfold ATime.sync
  rw [hfar, if_neg (by decide), if_pos hcross']

/-- A COLD sync takes the delays and the time, and the timekeeper starts again with the frame (R245, R255). -/
theorem sync_cold (hfar : f.far = false) (hcold : f.cold = true) (hcross : p.crosses (f.clm, f.unitB, port) t = false) :
    (p.sync port f t).dNear = none ∧ (p.sync port f t).dFar = none ∧ (p.sync port f t).joined = false ∧
    (p.sync port f t).m = some f.cn := by
  have hcross' : p.crosses (syncSource port f) t = false := hcross
  have hkept : (p.cold.setNear port).dNear = none ∧ (p.cold.setNear port).dFar = none ∧
      (p.cold.setNear port).joined = false ∧ (p.cold.setNear port).m = none := by
    unfold ATime.setNear
    split <;> exact ⟨rfl, rfl, rfl, rfl⟩
  obtain ⟨hnear, hfarD, hjoined, hm⟩ := hkept
  have hvalid : (p.cold.setNear port).syncValid port f t = true := by
    unfold ATime.syncValid
    rw [hm]
  have heq : p.sync port f t = { p.cold.setNear port with source := some (syncSource port f), lastDirect := some t }.takeSync
      port f false t := by
    unfold ATime.sync
    rw [hfar, if_neg (by decide), hcross', if_neg (by decide), direct_valid (by rw [hcold]; rfl) hvalid, hcold,
      Bool.not_true, Bool.and_false]
  rw [heq]
  obtain ⟨-, hm', -, -, -, -, hn', hf'⟩ := takeSync_fields { p.cold.setNear port with
    source := some (syncSource port f), lastDirect := some t } port f t false
  refine ⟨hn'.trans hnear, hf'.trans hfarD, ?_, hm'⟩
  unfold ATime.takeSync
  dsimp only
  rw [tryJoin_none _ (by exact hnear)]
  exact hjoined

theorem losesTime_direct (hfar : f.far = false) : p.losesTime port f t = (f.cold || p.crosses (f.clm, f.unitB, port) t) := by
  unfold ATime.losesTime syncSource
  rw [hfar]
  rfl

theorem losesTime_far (hfar : f.far = true) : p.losesTime port f t = false := by
  unfold ATime.losesTime
  rw [hfar]
  rfl

end

/-! ### The objects once a plane's time has gone -/

/-- A value of the restrictive mark that follows the loss of a plane's time: set where the other plane gives none (R38). -/
def Falls (x : Ctrl) (pl : PlaneId) (b : Bool) : Prop :=
  ((x.plane pl.other).main.m = none → b = true) ∧ ((x.plane pl.other).main.m ≠ none → b = x.restrictive)

theorem m_of_dropped {x : Ctrl} {pl : PlaneId} (h : (x.plane pl).main.m = none) : x.m = (x.plane pl.other).main.m := by
  unfold Ctrl.m
  cases pl
  · rw [show x.planes.a.main.m = none from h]
    exact Option.none_or
  · rw [show x.planes.b.main.m = none from h]
    exact Option.or_none

theorem falls_timeGone {x y : Ctrl} {pl : PlaneId} (h : (y.plane pl).main.m = none)
    (hother : y.plane pl.other = x.plane pl.other) (hr : y.restrictive = x.restrictive) :
    Falls x pl y.timeGone.restrictive := by
  unfold Falls Ctrl.timeGone
  rw [m_of_dropped h, hother]
  refine ⟨fun hm => ?_, fun hm => ?_⟩
  · rw [hm]
    rfl
  · rw [if_neg (by simpa using hm), hr]

theorem planes_timeGone (x : Ctrl) : x.timeGone.planes = x.planes := by
  unfold Ctrl.timeGone
  split <;> rfl

theorem cplane_timeGone (x : Ctrl) (pl : PlaneId) : x.timeGone.plane pl = x.plane pl := by
  unfold Ctrl.plane
  rw [planes_timeGone]

/-! ### Sync frames, coasting and loss of sync at a controller -/

section
variable {s : State} {c : Nat} {pl : PlaneId} {port t tb k : Nat} {m : U32} {frame : List Byte} {f : SyncOut} {cfg : CtrlCfg}

/-- The restrictive mark after a sync frame of the own line. -/
def syncRestricts (x : Ctrl) (pl : PlaneId) (port : Nat) (f : SyncOut) (t : Nat) : Bool :=
  if (x.plane pl).main.losesTime port f t then (x.updPlane pl (fun p => { p with main := p.main.dropTime })).timeGone.restrictive
  else x.restrictive

theorem onLine_own (hcfg : s.ctrlCfg c = some cfg) : s.onLine c pl (pl.bit, cfg.segment) = true := by
  unfold State.onLine
  rw [hcfg]
  simp

theorem syncRx_eq (hcfg : s.ctrlCfg c = some cfg) (hf : timingOf frame = some ((pl.bit, cfg.segment), .sync f)) :
    ∃ y, exec (.controllerSyncRx c pl port frame t tb) s = .next (s.putCtrl c y) ∧
      (y.plane pl).main = ((s.ctrl c).plane pl).main.sync port f t ∧
      y.restrictive = syncRestricts ((s.ctrl c).forward pl port frame) pl port f t := by
  refine ⟨{ ((s.ctrl c).forward pl port frame).updPlane pl (fun p => p.take (s.onLine c pl (pl.bit, cfg.segment))
      (((s.ctrl c).forward pl port frame).guardLine pl (pl.bit, cfg.segment)) (fun a => a.sync port f t) (fun a => a.sync port f tb)) with
      restrictive := syncRestricts ((s.ctrl c).forward pl port frame) pl port f t }, ?_, ?_, rfl⟩
  · show execControllerSyncRx c pl port frame t tb s = _
    unfold execControllerSyncRx syncRestricts
    dsimp only
    rw [hf]
    dsimp only
    rw [onLine_own hcfg, Bool.true_and]
    cases (((s.ctrl c).forward pl port frame).plane pl).main.losesTime port f t <;> rfl
  · have hplane := cplane_updPlane_self ((s.ctrl c).forward pl port frame) pl (fun p => p.take (s.onLine c pl (pl.bit, cfg.segment))
      (((s.ctrl c).forward pl port frame).guardLine pl (pl.bit, cfg.segment)) (fun a => a.sync port f t) (fun a => a.sync port f tb))
    refine (congrArg CPlane.main hplane).trans ?_
    rw [cplane_forward, onLine_own hcfg]
    rfl

theorem syncRestricts_kept (h : ((s.ctrl c).plane pl).main.losesTime port f t = false) :
    syncRestricts ((s.ctrl c).forward pl port frame) pl port f t = (s.ctrl c).restrictive := by
  unfold syncRestricts
  rw [cplane_forward]
  exact if_neg (by rw [h]; decide)

theorem syncRestricts_falls (h : ((s.ctrl c).plane pl).main.losesTime port f t = true) :
    Falls (s.ctrl c) pl (syncRestricts ((s.ctrl c).forward pl port frame) pl port f t) := by
  have hlost : (((s.ctrl c).forward pl port frame).plane pl).main.losesTime port f t = true := by
    rw [cplane_forward]
    exact h
  unfold syncRestricts
  rw [if_pos hlost]
  exact falls_timeGone (by rw [cplane_updPlane_self]; rfl) (by rw [cplane_updPlane_other, cplane_forward_other]) rfl

theorem coast_eq (htick : ((s.ctrl c).plane pl).main.tick = some k) (hm : ((s.ctrl c).plane pl).main.m = some m)
    (hdue : k + ((s.ctrl c).plane pl).main.period ≤ t) :
    ((s.ctrl c).plane pl).main.coast t = { ((s.ctrl c).plane pl).main with
      tick := some (k + ((s.ctrl c).plane pl).main.period), m := some (m + 1)
      coasts := ((s.ctrl c).plane pl).main.coasts + 1 } := by
  unfold ATime.coast
  rw [htick, hm]
  exact if_pos hdue

/-- 1.0 s without a valid sync frame takes the main timing's time and delays (R245). -/
theorem syncLoss_eq (hlast : ((s.ctrl c).plane pl).main.lastSync = some k) (hdue : k + 1000000000 ≤ t) :
    ∃ y, exec (.controllerSyncLoss c pl t tb) s = .next (s.putCtrl c y) ∧
      (y.plane pl).main = ((s.ctrl c).plane pl).main.cold ∧ Falls (s.ctrl c) pl y.restrictive := by
  have hlost : ((s.ctrl c).plane pl).main.syncLost t = true := by
    unfold ATime.syncLost
    rw [hlast]
    exact decide_eq_true hdue
  let y := (s.ctrl c).putPlane pl (((s.ctrl c).plane pl).take true (((s.ctrl c).plane pl).guard.syncLost tb) ATime.cold ATime.cold)
  have hmain : (y.plane pl).main = ((s.ctrl c).plane pl).main.cold := congrArg CPlane.main (cplane_putPlane_self _ _ _)
  refine ⟨y.timeGone, ?_, ?_, ?_⟩
  · show execControllerSyncLoss c pl t tb s = _
    unfold execControllerSyncLoss State.updController
    dsimp only
    rw [hlost]
    rfl
  · rw [cplane_timeGone]
    exact hmain
  · exact falls_timeGone (congrArg ATime.m hmain) (cplane_putPlane_other _ _ _) rfl

end

/-! ### The launch -/

section
variable {x : Ctrl} {p : CPlane} {slot k kg d dg : Nat} {far : Bool} {L : LaunchAt} {frame : List Byte} {place : Nat × Nat × Nat}

theorem guardCopy_some (hplace : x.stored = some place) (hk : p.guard.tick = some kg)
    (hd : p.guard.endDelay far = some dg) (hfault : x.guardFault = false) (hen : p.guard.enables (L.guard + 1616) = true)
    (hw : within 100 L.guard (p.guard.launchAt kg place.2.1 dg) = true) : x.guardCopy p.guard far L frame =
      some (cutFrame frame L.bytes L.guard (p.guard.launchAt kg place.2.1 dg)) := by
  have hen' : p.guard.enables (L.guard + frameNs) = true := hen
  unfold Ctrl.guardCopy
  rw [hplace, hk, hd]
  dsimp only
  rw [hfault, hen', hw]
  rfl

theorem guardCopy_fault (h : x.guardFault = true) (g : ATime) : x.guardCopy g far L frame = none := by
  unfold Ctrl.guardCopy
  rw [h]
  split <;> rfl

theorem copy_some (hk : p.main.tick = some k) (hd : p.main.endDelay far = some d)
    (hmay : p.main.mayLaunch (L.start + 1616) = true) (hw : within 8 L.start (p.main.launchAt k slot d) = true) :
    x.copy p slot far L frame = x.guardCopy p.guard far L frame := by
  have hmay' : p.main.mayLaunch (L.start + frameNs) = true := hmay
  unfold Ctrl.copy
  rw [hk, hd]
  exact if_pos (by rw [hmay', hw]; rfl)

/-- A copy of an end whose delay is not held, of a timekeeper that may not launch, or behind a failed Breakwater stays
in. -/
theorem copy_none (h : p.main.endDelay far = none ∨ p.main.joined = false ∨ p.main.silent = true ∨ p.main.noDelay = true ∨
    x.guardFault = true) : x.copy p slot far L frame = none := by
  unfold Ctrl.copy
  split
  · next k d hk hd =>
    split
    · next hcond =>
      obtain ⟨hmay, -⟩ := Bool.and_eq_true_iff.1 hcond
      simp only [ATime.mayLaunch, Bool.and_eq_true, Bool.not_eq_true'] at hmay
      obtain ⟨⟨⟨hj, hs⟩, hn⟩, -⟩ := hmay
      rcases h with h | h | h | h | h
      · exact absurd (h.symm.trans hd) (by simp)
      · exact absurd (h.symm.trans hj) (by decide)
      · exact absurd (h.symm.trans hs) (by decide)
      · exact absurd (h.symm.trans hn) (by decide)
      · exact guardCopy_fault h _
    · rfl
  · rfl

/-- With no interval held the launch instant lies at the nominal rate (R238). -/
theorem launchAt_nominal {a : ATime} (hiv : a.intervals = []) (htc : 0 < a.tc) (tick slot d : Nat) :
    a.launchAt tick slot d = tick + (100000 + 2500 * slot - d) := by
  have hperiod : a.period = tcNs a.tc := by
    unfold ATime.period
    rw [hiv]
    rfl
  have hpos : 0 < tcNs a.tc := Nat.mul_pos htc (by decide)
  unfold ATime.launchAt ATime.span
  rw [hperiod, Nat.mul_div_cancel _ hpos]
  rfl

/-- A controller with what the launch finds of its Breakwater. -/
def launching (x : Ctrl) (fails : Bool) : Ctrl := { x with guardFault := x.guardFault || fails }

/-- The plane of a controller after a launch (R238, R250). -/
theorem launch_eq {s : State} {c : Nat} {pl : PlaneId} {near far : LaunchAt} {inputs : List Byte} {fails : Bool} {man : Manifest}
    {cfg : CtrlCfg} {m : U32} (hman : s.man = some man) (hcfg : s.ctrlCfg c = some cfg)
    (hm : ((s.ctrl c).plane pl).main.m = some m) : ∃ y, exec (.controllerLaunch c pl near far inputs fails) s = .next (s.putCtrl c y) ∧
      let x := launching (s.ctrl c) fails
      let frame := qlFrame (controllerMac c) ((s.ctrl c).uplink man c cfg pl m inputs)
      let a := x.copy ((s.ctrl c).plane pl) cfg.slot false near frame
      let b := x.copy ((s.ctrl c).plane pl) cfg.slot true far frame
      y.plane pl = { (s.ctrl c).plane pl with
        sent := if a.isSome ∨ b.isSome then some ((s.ctrl c).uplink man c cfg pl m inputs) else none, sentNear := a, sentFar := b } := by
  have hm' : ((launching (s.ctrl c) fails).plane pl).main.m = some m := hm
  refine ⟨_, ?_, cplane_putPlane_self (launching (s.ctrl c) fails) pl _⟩
  show execControllerLaunch c pl near far inputs fails s = _
  unfold execControllerLaunch
  dsimp only
  rw [hman, hcfg]
  unfold launching at hm' ⊢
  rw [hm']
  rfl

end

/-- A controller's event that leaves a frame by the other port leaves the module as it was. -/
theorem forwards_frame {s : State} {c : Nat} {pl : PlaneId} {port : Nat} {frame : List Byte} {i : Instr}
    (h : ∃ y, exec i s = .next (s.putCtrl c y) ∧ Forwarded (s.ctrl c) y pl port frame) : ∃ u, exec i s = .next u ∧
    ((u.ctrl c).plane pl).out = Tbl.set [] ((s.ctrl c).plane pl).out (1 - port) frame ∧
    (∀ d, d ≠ c → u.ctrl d = s.ctrl d) ∧ u.lanes = s.lanes ∧ u.planes = s.planes := by
  obtain ⟨y, hexec, hout⟩ := h
  obtain ⟨hne, hlanes⟩ := putCtrl_others s c y
  refine ⟨_, hexec, ?_, hne, hlanes, rfl⟩
  rw [ctrl_putCtrl_self]
  exact hout

/-- Settles O26: sync frames, coasting and their loss, what each frame forwards, and the launch of both copies. -/
theorem controllerTimeAndLaunch : Obligations.ControllerTimeAndLaunch := by
  unfold Obligations.ControllerTimeAndLaunch
  refine ⟨?_, ?_, ?_⟩
  · intro s c pl port t tb k m frame f cfg x p p0 q now takes falls lost others
    refine ⟨fun hcfg hf => ?_, fun htick hm hdue => ?_, fun hlast hdue => ?_⟩
    · obtain ⟨y, hexec, hmain, hrestr⟩ := syncRx_eq (port := port) (t := t) (tb := tb) (frame := frame) hcfg hf
      have hnow : now (s.putCtrl c y) = p.sync port f t := by
        show (((s.putCtrl c y).ctrl c).plane pl).main = _
        rw [ctrl_putCtrl_self, hmain]
      have hmark : ((s.putCtrl c y).ctrl c).restrictive =
          syncRestricts ((s.ctrl c).forward pl port frame) pl port f t := by
        rw [ctrl_putCtrl_self, hrestr]
      have hothers : others (s.putCtrl c y) := putCtrl_others s c y
      refine ⟨fun hfar hcold hcross hvalid => ⟨_, hexec, ?_, ?_, ?_, hothers⟩, fun hfar hvalid => ⟨_, hexec, ?_, ?_, ?_, hothers⟩,
        fun hfar hcross => ⟨_, hexec, ?_, ?_, hothers⟩, fun hfar hcold hcross => ⟨_, hexec, ?_⟩⟩
      · obtain ⟨same, hsync⟩ := sync_direct hfar hcold hcross hvalid
        obtain ⟨h1, h2, h3, h4, -⟩ := takeSync_fields { p0 with source := some (syncSource port f), lastDirect := some t }
          port f t same
        show (now (s.putCtrl c y)).tick = _ ∧ _
        rw [hnow, hsync]
        exact ⟨h1, h2, h3, h4⟩
      · obtain ⟨same, hsync⟩ := sync_direct hfar hcold hcross hvalid
        obtain ⟨-, -, -, -, -, hport, -⟩ := takeSync_fields { p0 with
          source := some (syncSource port f), lastDirect := some t } port f t same
        rw [hnow, hsync]
        exact hport.trans (nearPort_setNear p port)
      · rw [hmark]
        exact syncRestricts_kept (by rw [losesTime_direct hfar, hcold, show p.crosses _ t = false from hcross]; rfl)
      · obtain ⟨h1, h2, h3, h4, -⟩ := takeSync_fields p port f t false
        show (now (s.putCtrl c y)).tick = _ ∧ _
        rw [hnow, sync_far hfar hvalid]
        exact ⟨h1, h2, h3, h4⟩
      · obtain ⟨-, -, -, -, hon, -⟩ := takeSync_fields p port f t false
        rw [hnow, sync_far hfar hvalid, hon, hfar]
      · rw [hmark]
        exact syncRestricts_kept (losesTime_far hfar)
      · have hfalls := syncRestricts_falls (frame := frame) (show p.losesTime port f t = true by
          rw [losesTime_direct hfar, hcross, Bool.or_true])
        show (now (s.putCtrl c y)).tick = none ∧ (now (s.putCtrl c y)).m = none ∧ (now (s.putCtrl c y)).joined = false ∧
          (now (s.putCtrl c y)).silent = true ∧ Falls x pl ((s.putCtrl c y).ctrl c).restrictive
        rw [hnow, hmark, sync_crossed hfar hcross]
        exact ⟨rfl, rfl, rfl, rfl, hfalls⟩
      · rw [hnow, sync_crossed hfar hcross]
        rfl
      · obtain ⟨hn, hf', hj, hm'⟩ := sync_cold (p := p) hfar hcold hcross
        have hfalls := syncRestricts_falls (frame := frame) (show p.losesTime port f t = true by
          rw [losesTime_direct hfar, hcold, Bool.true_or])
        show (now (s.putCtrl c y)).dNear = none ∧ (now (s.putCtrl c y)).dFar = none ∧
          (now (s.putCtrl c y)).joined = false ∧ (now (s.putCtrl c y)).m = some f.cn ∧
          Falls x pl ((s.putCtrl c y).ctrl c).restrictive ∧ _
        rw [hnow, hmark]
        exact ⟨hn, hf', hj, hm', hfalls, hothers⟩
    · refine ⟨s.putCtrl c (x.updPlane pl (fun p => p.take true true (fun a => a.coast t) (fun a => a.coast tb))), rfl, ?_, ?_,
        putCtrl_others s c _⟩
      · show (((s.putCtrl c _).ctrl c).plane pl).main = _
        rw [ctrl_putCtrl_self, cplane_updPlane_self]
        exact coast_eq htick hm hdue
      · rw [ctrl_putCtrl_self]
        rfl
    · obtain ⟨y, hexec, hmain, hfalls⟩ := syncLoss_eq (tb := tb) hlast hdue
      refine ⟨_, hexec, ?_⟩
      show ((now (s.putCtrl c y)).tick = none ∧ (now (s.putCtrl c y)).m = none ∧ (now (s.putCtrl c y)).joined = false ∧
        (now (s.putCtrl c y)).silent = true ∧ Falls x pl ((s.putCtrl c y).ctrl c).restrictive) ∧
        (now (s.putCtrl c y)).dNear = none ∧ (now (s.putCtrl c y)).dFar = none ∧ others (s.putCtrl c y)
      have hnow : now (s.putCtrl c y) = p.cold := by
        show (((s.putCtrl c y).ctrl c).plane pl).main = _
        rw [ctrl_putCtrl_self, hmain]
      rw [hnow, ctrl_putCtrl_self]
      exact ⟨⟨rfl, rfl, rfl, rfl, hfalls⟩, rfl, rfl, putCtrl_others s c y⟩
  · intro s c pl port t tb turn frame data e1 e2 i hi
    simp only [List.mem_cons, List.not_mem_nil, or_false] at hi
    rcases hi with rfl | rfl | rfl | rfl | rfl | rfl | rfl | rfl | rfl | rfl
    · exact forwards_frame (syncRx_forwards s c pl port t tb frame)
    · exact forwards_frame (downlinkRx_forwards s c pl port t frame e1 e2)
    · exact forwards_frame (dreqRx_forwards s c pl port tb turn frame)
    · exact forwards_frame (dsetRx_forwards s c pl port frame)
    · exact forwards_frame (dnoteRx_forwards s c pl port frame)
    · exact forwards_frame (barRx_forwards s c pl port frame)
    · exact forwards_frame (ident_forwards s c pl port t turn frame)
    · exact forwards_frame (counters_forwards s c pl port t turn frame)
    · exact forwards_frame (clrcnt_forwards s c pl port t turn frame)
    · exact forwards_frame (ncDesigner_forwards s c pl port t turn frame data)
  · intro s c pl at_ inputs man cfg m end_ fails k kg d dg place x p L tele due copy hman hcfg hm
    refine ⟨fun hk hd hmay hw hplace hkg hdg hfault hen hwg => ?_, fun hbad => ?_,
      fun hiv htc => launchAt_nominal hiv htc k cfg.slot d⟩
    · obtain ⟨y, hexec, hplane⟩ := launch_eq (near := at_ false) (far := at_ true) (inputs := inputs) (fails := false) hman hcfg hm
      have hfault' : (launching x false).guardFault = false := by
        show (x.guardFault || false) = false
        rw [hfault]
        rfl
      have hcopy : (launching x false).copy p cfg.slot end_ (at_ end_) (qlFrame (controllerMac c) tele) =
          some (cutFrame (qlFrame (controllerMac c) tele) L.bytes L.guard due) :=
        (copy_some hk hd hmay hw).trans (guardCopy_some (x := launching x false) hplace hkg hdg hfault' hen hwg)
      refine ⟨_, hexec, ?_, ?_, putCtrl_others s c y⟩
      · rw [ctrl_putCtrl_self, hplane]
        refine if_pos ?_
        cases end_
        · exact Or.inl (congrArg Option.isSome hcopy)
        · exact Or.inr (congrArg Option.isSome hcopy)
      · show (if end_ then _ else _) = _
        rw [ctrl_putCtrl_self, hplane]
        cases end_ <;> exact hcopy
    · obtain ⟨y, hexec, hplane⟩ := launch_eq (near := at_ false) (far := at_ true) (inputs := inputs) (fails := fails) hman hcfg hm
      have hcopy : (launching x fails).copy p cfg.slot end_ (at_ end_) (qlFrame (controllerMac c) tele) = none := by
        refine copy_none ?_
        show _ ∨ _ ∨ _ ∨ _ ∨ (x.guardFault || fails) = true
        simpa only [Bool.or_eq_true] using hbad
      refine ⟨_, hexec, ?_, (putCtrl_others s c y).2⟩
      show (if end_ then _ else _) = _
      rw [ctrl_putCtrl_self, hplane]
      cases end_ <;> exact hcopy

end Sys2Proof.CtrlRules
end

section
/-! ## A controller's downlinks, restarts and services (R243, R244, R247, R248, R264, R267, R270-R275, R282) -/

namespace Sys2Proof.CtrlRules

open Sys2Proof Sys2Proof.Machine Sys2Proof.Laws

/-! ### A downlink copy (R270-R273) -/

section
variable {x : Ctrl} {man : Manifest} {c : Nat} {cfg : CtrlCfg} {pl : PlaneId} {port t n : Nat} {e1 e2 : ChanFault}
  {frame f : List Byte}

theorem down_damaged (h : qlOpen frame = none) : x.down man c cfg pl port t e1 e2 frame = x.count pl 0 := by
  unfold Ctrl.down
  rw [h]

theorem down_cause (h : qlOpen frame = some f) (hn : downCause x (x.plane pl).main man c cfg pl port t f = some n) :
    x.down man c cfg pl port t e1 e2 frame = x.count pl n := by
  unfold Ctrl.down
  rw [h]
  dsimp only
  rw [hn]

/-- A copy that passes steps 1 to 8 is judged by both channels, then by its age (R271, R272). -/
theorem down_judged (h : qlOpen frame = some f) (hn : downCause x (x.plane pl).main man c cfg pl port t f = none) :
    x.down man c cfg pl port t e1 e2 frame =
      if verdicts x.chan1 e1 f ≠ verdicts x.chan2 e2 f then (x.count pl 8).restart
      else if verdicts x.chan1 e1 f ≠ (true, true) then x.count pl 8
      else if beAt f 16 1 % 16 < beAt f 16 1 / 16 then x.count pl 9
      else x.authentic pl f := by
  unfold Ctrl.down
  rw [h]
  dsimp only
  rw [hn]

/-- The claim record once a pair has arrived. -/
def noted (x : Ctrl) (pl : PlaneId) (f : List Byte) : Ctrl :=
  { x with claims := recordClaim x.claims (BitVec.ofNat 32 (beAt f 8 4), bitAt f 25) ((x.plane pl).main.m.getD 0) }

theorem authentic_filtered (h : claimPass x.claims (BitVec.ofNat 32 (beAt f 8 4), bitAt f 25) ((x.plane pl).main.m.getD 0) = false) :
    x.authentic pl f = (noted x pl f).count pl 10 := if_neg (by rw [h]; decide)

theorem authentic_passes (h : claimPass x.claims (BitVec.ofNat 32 (beAt f 8 4), bitAt f 25) ((x.plane pl).main.m.getD 0) = true) :
    x.authentic pl f =
      (noted x pl f).takeDown pl f ((x.plane pl).main.m.getD 0) (BitVec.ofNat 32 (beAt f 8 4)) (bitAt f 25) := if_pos h

variable {m clm : U32} {unitB : Bool} {a : Applied}

/-- The first copy of a cycle is applied (R273). -/
theorem takeDown_applies (h : ∀ a, x.applied = some a → a.cn ≠ m) : x.takeDown pl f m clm unitB = x.applyDown f m clm unitB := by
  unfold Ctrl.takeDown
  cases ha : x.applied with
  | none => rfl
  | some a => exact if_pos (h a ha)

theorem takeDown_twin (h : x.applied = some a) (hcn : a.cn = m) (hb : downBytes a.frame = downBytes f) :
    x.takeDown pl f m clm unitB = x.count pl 11 := by
  unfold Ctrl.takeDown
  rw [h]
  exact (if_neg (by simp [hcn])).trans (if_pos hb)

theorem takeDown_diverges (h : x.applied = some a) (hcn : a.cn = m) (hb : downBytes a.frame ≠ downBytes f)
    (hu : (a.clm, a.unitB) = (clm, unitB)) : x.takeDown pl f m clm unitB =
      { x.count pl 12 with restrictive := true, applied := some { a with age := a.age + 1 } } := by
  unfold Ctrl.takeDown
  rw [h]
  exact (if_neg (by simp [hcn])).trans ((if_neg hb).trans (if_pos hu))

/-- A count of a plane's causes grows by one. -/
theorem counts_count (x : Ctrl) (pl : PlaneId) (n : Nat) :
    Tbl.get 0 ((x.count pl n).plane pl).counts n = Tbl.get 0 (x.plane pl).counts n + 1 := by
  rw [cplane_count]
  exact Tbl_get_upd_self 0 (x.plane pl).counts n (· + 1)

end

theorem downlinkRx_eq {s : State} {c : Nat} {pl : PlaneId} {port t : Nat} {frame : List Byte} {man : Manifest} {cfg : CtrlCfg}
    {e1 e2 : ChanFault} (hman : s.man = some man) (hcfg : s.ctrlCfg c = some cfg) :
    exec (.controllerDownlinkRx c pl port frame t e1 e2) s =
      .next (s.putCtrl c (((s.ctrl c).forward pl port frame).down man c cfg pl port t e1 e2 frame)) := by
  show execControllerDownlinkRx c pl port frame t e1 e2 s = _
  unfold execControllerDownlinkRx
  dsimp only
  rw [hman, hcfg]
  rfl

/-! ### Delay services (R243, R244, R247, R248) -/

section
variable {s : State} {c : Nat} {pl : PlaneId} {port seq turn tb slot d old count : Nat} {far : Bool} {mean : Int}
  {frame : List Byte} {cfg : CtrlCfg}

theorem guardMine_own (x : Ctrl) (hx : x.stored = some (cfg.segment, slot, c)) :
    (x.forward pl port frame).guardMine pl (pl.bit, cfg.segment) c = true := by
  have hstored : (x.forward pl port frame).stored = some (cfg.segment, slot, c) := hx
  unfold Ctrl.guardMine Ctrl.guardLine
  rw [hstored]
  simp

theorem dreqRx_eq (hcfg : s.ctrlCfg c = some cfg) (hx : (s.ctrl c).stored = some (cfg.segment, slot, c))
    (hf : timingOf frame = some ((pl.bit, cfg.segment), .dreq far false c seq)) :
    exec (.controllerDreqRx c pl port frame turn tb) s =
      if ((s.ctrl c).plane pl).main.fullCycle = true ∧ 1000 ≤ turn ∧ turn ≤ 4000 ∧ (!(s.ctrl c).guardFault) = true ∧
          ((s.ctrl c).plane pl).guard.fullCycle = true ∧ 1000 ≤ tb ∧ tb ≤ 4000 then
        .next (s.putCtrl c (((s.ctrl c).forward pl port frame).updPlane pl (fun p => { p with
          dresp := some (port, timingFrame (controllerMac c) pl cfg.segment (.dresp far false c seq turn)) })))
      else .next (s.putCtrl c ((s.ctrl c).forward pl port frame)) := by
  have hmine := guardMine_own (pl := pl) (port := port) (frame := frame) (s.ctrl c) hx
  show execControllerDreqRx c pl port frame turn tb s = _
  unfold execControllerDreqRx
  dsimp only
  rw [hf]
  dsimp only
  rw [onLine_own hcfg, hmine]
  unfold Ctrl.updPlane
  rw [cplane_forward]
  simp only [true_and]
  rfl

/-- The delay held and the candidate after a delivered delay (R244). -/
theorem adoptDelay_takes {cur cand : Option Nat} (h : cur = none ∨ cur = some old ∧ old ≤ d + 24 ∧ d ≤ old + 24 ∨
    cur = some old ∧ (∃ k, cand = some k ∧ k ≤ d + 24 ∧ d ≤ k + 24)) : (adoptDelay cur cand d).1 = some d := by
  have hnear : ∀ {k : Nat}, k ≤ d + 24 → d ≤ k + 24 → within 24 k d = true := fun h1 h2 => by
    unfold within
    rw [decide_eq_true h1, decide_eq_true h2]
    rfl
  unfold adoptDelay
  rcases h with rfl | ⟨rfl, h1, h2⟩ | ⟨rfl, k, rfl, h1, h2⟩
  · rfl
  · exact congrArg Prod.fst (if_pos (hnear h1 h2))
  · dsimp only
    split
    · rfl
    · rw [if_pos (hnear h1 h2)]

theorem adoptDelay_holds (h : ¬ (old ≤ d + 24 ∧ d ≤ old + 24)) : adoptDelay (some old) none d = (some old, some d) := by
  unfold adoptDelay within
  refine if_neg ?_
  rw [Bool.and_eq_true, decide_eq_true_eq, decide_eq_true_eq]
  exact h

theorem dsetRx_eq (hcfg : s.ctrlCfg c = some cfg) (hx : (s.ctrl c).stored = some (cfg.segment, slot, c))
    (hf : timingOf frame = some ((pl.bit, cfg.segment), .dset far c seq d)) : ∃ y,
    exec (.controllerDsetRx c pl port frame) s = .next (s.putCtrl c y) ∧
      (y.plane pl).main = ((s.ctrl c).plane pl).main.adopt far d ∧
      (y.plane pl).guard = ((s.ctrl c).plane pl).guard.adopt far d := by
  have hmine := guardMine_own (pl := pl) (port := port) (frame := frame) (s.ctrl c) hx
  refine ⟨((s.ctrl c).forward pl port frame).updPlane pl (fun p => p.take true true (fun a => a.adopt far d)
    (fun a => a.adopt far d)), ?_, ?_, ?_⟩
  · show execControllerDsetRx c pl port frame s = _
    unfold execControllerDsetRx
    dsimp only
    rw [hf]
    dsimp only
    rw [onLine_own hcfg, hmine, decide_eq_true rfl]
    rfl
  · rw [cplane_updPlane_self, cplane_forward]
    rfl
  · rw [cplane_updPlane_self, cplane_forward]
    rfl

/-- What adopting a delay leaves: both delays by the rule, the full cycle, and the plane joined where it can be. -/
theorem adopt_fields (p : ATime) : let r := adoptDelay (p.endDelay far) (if far then p.candFar else p.candNear) d
    (p.adopt far d).endDelay far = r.1 ∧ (p.adopt far d).endDelay (!far) = p.endDelay (!far) ∧
    (if far then (p.adopt far d).candFar else (p.adopt far d).candNear) = r.2 ∧
    (p.fullCycle = true → (p.adopt far d).dNear.isSome = true → (p.adopt far d).joined = true) := by
  cases far
  · obtain ⟨j, q, h⟩ := tryJoin_frame { p with
      dNear := (adoptDelay p.dNear p.candNear d).1, candNear := (adoptDelay p.dNear p.candNear d).2 }
    have heq : p.adopt false d = { p with
      dNear := (adoptDelay p.dNear p.candNear d).1, candNear := (adoptDelay p.dNear p.candNear d).2, joined := j, silent := q } := h
    refine ⟨?_, ?_, ?_, fun hfull hd => tryJoin_joined _ hfull ?_⟩
    · rw [heq]; rfl
    · rw [heq]; rfl
    · rw [heq]; rfl
    · rw [heq] at hd
      exact hd
  · obtain ⟨j, q, h⟩ := tryJoin_frame { p with
      dFar := (adoptDelay p.dFar p.candFar d).1, candFar := (adoptDelay p.dFar p.candFar d).2 }
    have heq : p.adopt true d = { p with
      dFar := (adoptDelay p.dFar p.candFar d).1, candFar := (adoptDelay p.dFar p.candFar d).2, joined := j, silent := q } := h
    refine ⟨?_, ?_, ?_, fun hfull hd => tryJoin_joined _ hfull ?_⟩
    · rw [heq]; rfl
    · rw [heq]; rfl
    · rw [heq]; rfl
    · rw [heq] at hd
      exact hd

theorem dnoteRx_eq (hcfg : s.ctrlCfg c = some cfg) (hf : timingOf frame = some ((pl.bit, cfg.segment), .dnote c mean count)) :
    exec (.controllerDnoteRx c pl port frame) s = .next (s.putCtrl c (((s.ctrl c).forward pl port frame).updPlane pl (fun p =>
      { p with driftNote := some (mean, count) }))) := by
  show execControllerDnoteRx c pl port frame s = _
  unfold execControllerDnoteRx
  dsimp only
  rw [hf]
  dsimp only
  rw [if_pos ⟨onLine_own hcfg, rfl⟩]
  rfl

/-- A BAR takes the delays and the time of the plane (R248). -/
theorem barRx_eq (hcfg : s.ctrlCfg c = some cfg) (hf : timingOf frame = some ((pl.bit, cfg.segment), .bar c)) : ∃ y,
    exec (.controllerBarRx c pl port frame) s = .next (s.putCtrl c y) ∧
      (y.plane pl).main = ((s.ctrl c).plane pl).main.cold ∧ Falls (s.ctrl c) pl y.restrictive := by
  let g := ((s.ctrl c).forward pl port frame).guardMine pl (pl.bit, cfg.segment) c
  let z := ((s.ctrl c).forward pl port frame).updPlane pl (fun p => p.take true g ATime.cold ATime.cold)
  have hz : (z.plane pl).main = ((s.ctrl c).plane pl).main.cold := by
    rw [cplane_updPlane_self, cplane_forward]
    rfl
  refine ⟨z.timeGone, ?_, ?_, falls_timeGone ?_ ?_ rfl⟩
  · show execControllerBarRx c pl port frame s = _
    unfold execControllerBarRx
    dsimp only
    rw [hf]
    dsimp only
    rw [onLine_own hcfg, decide_eq_true rfl]
    rfl
  · rw [cplane_timeGone, hz]
  · rw [hz]
    rfl
  · rw [cplane_updPlane_other, cplane_forward_other]

end

/-! ### Non-cyclic services (R282) -/

section
variable {s : State} {c : Nat} {pl : PlaneId} {port t turn : Nat} {frame f : List Byte}

theorem ncAnswer_serves {serve : Ctrl → List Byte → Option (List Byte × Ctrl)} {r : List Byte} {y : Ctrl}
    (hreq : s.requestOf c pl frame = some f) (hserve : serve ((s.ctrl c).forward pl port frame) f = some (r, y))
    (hlets : y.lets pl f t turn = true) (hresp : y.responses = (s.ctrl c).responses) :
    s.ncAnswer c pl port frame t turn serve = s.putCtrl c { y with
      responses := (s.ctrl c).responses ++ [(pl, port, s.responseFrame c pl f r)] } := by
  unfold State.ncAnswer
  dsimp only
  rw [hreq]
  dsimp only
  rw [hserve]
  dsimp only
  rw [if_pos hlets, hresp]

theorem lets_forward (x : Ctrl) : (x.forward pl port frame).lets pl f t turn = x.lets pl f t turn := by
  unfold Ctrl.lets
  rw [cplane_forward]
  rfl

theorem lets_cleared (x : Ctrl) (q : PlaneId) :
    (x.updPlane q (fun p => { p with counts := [] })).lets pl f t turn = x.lets pl f t turn := by
  have hplane : ((x.updPlane q (fun p => { p with counts := [] })).plane pl).main = (x.plane pl).main ∧
      ((x.updPlane q (fun p => { p with counts := [] })).plane pl).guard = (x.plane pl).guard := by
    cases pl <;> cases q <;> exact ⟨rfl, rfl⟩
  obtain ⟨hmain, hguard⟩ := hplane
  unfold Ctrl.lets
  dsimp only
  rw [hmain, hguard]
  rfl

theorem counts_forward (x : Ctrl) (q : PlaneId) : ((x.forward pl port frame).plane q).counts = (x.plane q).counts := by
  cases pl <;> cases q <;> rfl

end

/-- Settles O27: the steps of Table 9.6 for a downlink copy, then age, RST and a restart. -/
theorem controllerDownlinks : Obligations.ControllerDownlinks := by
  unfold Obligations.ControllerDownlinks
  refine ⟨?_, ?_⟩
  · intro s c pl port t n frame f man cfg e1 e2 x p m clm age limit v1 v2 i counted kept hman hcfg
    let fx := x.forward pl port frame
    have hexec := downlinkRx_eq (pl := pl) (port := port) (t := t) (frame := frame) (e1 := e1) (e2 := e2) hman hcfg
    have hplane : fx.plane pl = { x.plane pl with out := Tbl.set [] (x.plane pl).out (1 - port) frame } := cplane_forward _ _ _ _
    have hnext : ∀ {y : Ctrl}, fx.down man c cfg pl port t e1 e2 frame = y → exec i s = .next (s.putCtrl c y) :=
      fun h => hexec.trans (by rw [h])
    have hcounted : ∀ (y z : Ctrl) (n : Nat), (z.plane pl) = (y.count pl n).plane pl → (y.plane pl).counts = (x.plane pl).counts →
        counted (s.putCtrl c z) n := fun y z n hz hy => by
      obtain ⟨hne, hl⟩ := putCtrl_others s c z
      refine ⟨hl, hne, ?_⟩
      rw [ctrl_putCtrl_self, hz, counts_count, hy]
    have hfx : (fx.plane pl).counts = (x.plane pl).counts := by rw [hplane]
    have hkept : ∀ z : Ctrl, z.applied = x.applied → z.restrictive = x.restrictive → kept (s.putCtrl c z) := fun z h1 h2 => by
      refine ⟨?_, ?_⟩
      · rw [ctrl_putCtrl_self, h1]
      · rw [ctrl_putCtrl_self, h2]
    have hcause : ∀ r, downCause x p man c cfg pl port t f = r → downCause fx (fx.plane pl).main man c cfg pl port t f = r :=
      fun r h => by
        rw [hplane]
        exact h
    refine ⟨fun hopen => ⟨_, hnext (down_damaged hopen), hcounted fx _ 0 rfl hfx, hkept _ rfl rfl⟩,
      fun hopen hn => ⟨_, hnext (down_cause hopen (hcause _ hn)), hcounted fx _ n rfl hfx, hkept _ rfl rfl⟩,
      fun hopen hn => ?_⟩
    have hjudged := down_judged (e1 := e1) (e2 := e2) hopen (hcause _ hn)
    refine ⟨fun hv => ?_, fun hv hbad => ?_, fun hv1 hv2 hage => ?_, fun hv1 hv2 hage => ?_⟩
    · refine ⟨_, hnext (hjudged.trans (if_pos hv)), hcounted fx _ 8 rfl hfx, ?_⟩
      rw [ctrl_putCtrl_self]
      exact ⟨rfl, rfl, rfl⟩
    · exact ⟨_, hnext (hjudged.trans ((if_neg (not_not.2 hv)).trans (if_pos hbad))), hcounted fx _ 8 rfl hfx, hkept _ rfl rfl⟩
    · have hsame : ¬ verdicts x.chan1 e1 f ≠ verdicts x.chan2 e2 f := not_not.2 (hv1.trans hv2.symm)
      exact ⟨_, hnext (hjudged.trans ((if_neg hsame).trans ((if_neg (not_not.2 hv1)).trans (if_pos hage)))),
        hcounted fx _ 9 rfl hfx, hkept _ rfl rfl⟩
    · have hsame : ¬ verdicts x.chan1 e1 f ≠ verdicts x.chan2 e2 f := not_not.2 (hv1.trans hv2.symm)
      have hauth : fx.down man c cfg pl port t e1 e2 frame = fx.authentic pl f :=
        hjudged.trans ((if_neg hsame).trans ((if_neg (not_not.2 hv1)).trans (if_neg (Nat.not_lt.2 hage))))
      have hm : (fx.plane pl).main.m.getD 0 = m := by rw [hplane]
      have hpass : ∀ b, claimPass x.claims (clm, bitAt f 25) m = b →
          claimPass fx.claims (BitVec.ofNat 32 (beAt f 8 4), bitAt f 25) ((fx.plane pl).main.m.getD 0) = b := fun b h => by
        rw [hm]
        exact h
      refine ⟨fun hno => ?_, fun hyes => ⟨fun hnew => ?_, fun a ha hcn hb => ?_, fun a ha hcn hb hu => ?_⟩⟩
      · exact ⟨_, hnext (hauth.trans (authentic_filtered (hpass _ hno))), hcounted (noted fx pl f) _ 10 rfl hfx, hkept _ rfl rfl⟩
      · have htake := hauth.trans ((authentic_passes (hpass _ hyes)).trans
          (takeDown_applies (x := noted fx pl f) (by rw [hm]; exact hnew)))
        refine ⟨_, hnext htake, ?_⟩
        rw [ctrl_putCtrl_self, hm]
        exact ⟨rfl, rfl, rfl, rfl, rfl⟩
      · have htake := hauth.trans ((authentic_passes (hpass _ hyes)).trans
          (takeDown_twin (x := noted fx pl f) ha (hcn.trans hm.symm) hb))
        exact ⟨_, hnext htake, hcounted (noted fx pl f) _ 11 rfl hfx, hkept _ rfl rfl⟩
      · have htake := hauth.trans ((authentic_passes (hpass _ hyes)).trans
          (takeDown_diverges (x := noted fx pl f) ha (hcn.trans hm.symm) hb hu))
        refine ⟨_, hnext htake, hcounted (noted fx pl f) _ 12 rfl hfx, ?_⟩
        rw [ctrl_putCtrl_self]
  · intro s c a m load place x
    refine ⟨fun ha hm hlim => ?_, fun hrun => ?_, ?_⟩
    · show execControllerAgeExpiry c s = _
      unfold execControllerAgeExpiry
      dsimp only
      rw [show (s.ctrl c).applied = some a from ha, show (s.ctrl c).m = some m from hm]
      exact congrArg _ (if_pos hlim)
    · exact congrArg _ (if_pos hrun)
    · refine ⟨s.putCtrl c (match load with
        | some k => ({ x.restart with stored := place.or x.stored } : Ctrl).loadKeys k
        | none => { x.restart with stored := place.or x.stored }), rfl, ?_⟩
      rw [ctrl_putCtrl_self]
      cases load with
      | none => exact ⟨rfl, rfl, rfl, rfl, rfl, rfl, fun _ => ⟨rfl, rfl⟩, fun k hk => by contradiction, rfl⟩
      | some k =>
        refine ⟨rfl, rfl, rfl, rfl, rfl, rfl, fun h => by contradiction, fun k' hk => ?_, rfl⟩
        obtain rfl := Option.some.inj hk
        exact ⟨rfl, rfl⟩

/-- Settles O28: delay requests, delays, drift notes and BAR, then each non-cyclic service. -/
theorem controllerServices : Obligations.ControllerServices := by
  unfold Obligations.ControllerServices
  refine ⟨?_, ?_⟩
  · intro s c pl port seq turn tb slot d old count far mean frame cfg x fx p line cand now hcfg hx
    refine ⟨fun hf => ⟨fun h1 h2 h3 h4 h5 h6 h7 => ?_, fun hbad => ?_⟩, fun hf => ?_, dnoteRx_eq hcfg, fun hf => ?_⟩
    · refine (dreqRx_eq hcfg hx hf).trans (if_pos ⟨h1, h4, h5, ?_, h2, h6, h7⟩)
      rw [show (s.ctrl c).guardFault = false from h3]
      rfl
    · refine (dreqRx_eq hcfg hx hf).trans (if_neg ?_)
      rintro ⟨h1, h4, h5, h3, h2, -, -⟩
      rcases hbad with h | h | h | h | h
      · exact absurd (h.symm.trans h1) (by decide)
      · exact absurd (h.symm.trans h2) (by decide)
      · rw [show (s.ctrl c).guardFault = true from h] at h3
        contradiction
      · omega
      · omega
    · obtain ⟨y, hexec, hmain, hguard⟩ := dsetRx_eq (port := port) hcfg hx hf
      have hnow : now (s.putCtrl c y) = p.adopt far d := by
        show (((s.putCtrl c y).ctrl c).plane pl).main = _
        rw [ctrl_putCtrl_self, hmain]
      obtain ⟨hd, hother, hcand, hjoin⟩ := adopt_fields (far := far) (d := d) p
      refine ⟨fun h => ⟨_, hexec, ?_⟩, fun hcur hfar hnone => ⟨_, hexec, ?_⟩⟩
      · rw [hnow, ctrl_putCtrl_self]
        exact ⟨hd.trans (adoptDelay_takes h), hother, hjoin, hguard, rfl⟩
      · have hr : adoptDelay (p.endDelay far) (if far then p.candFar else p.candNear) d = (some old, some d) := by
          rw [hcur, show (if far then p.candFar else p.candNear) = none from hnone]
          exact adoptDelay_holds hfar
        rw [hnow]
        exact ⟨hd.trans (congrArg Prod.fst hr), hcand.trans (congrArg Prod.snd hr), rfl⟩
    · obtain ⟨y, hexec, hmain, hfalls, -⟩ := barRx_eq (port := port) hcfg hf
      have hnow : now (s.putCtrl c y) = p.cold := by
        show (((s.putCtrl c y).ctrl c).plane pl).main = _
        rw [ctrl_putCtrl_self, hmain]
      refine ⟨_, hexec, ?_⟩
      rw [hnow, ctrl_putCtrl_self]
      exact ⟨rfl, rfl, rfl, rfl, rfl, hfalls, rfl⟩
  · intro s c pl port t turn frame f data cfg x fx which said hreq hlets
    have hlets' : fx.lets pl f t turn = true := (lets_forward x).trans hlets
    refine ⟨fun hcfg h1 => ?_, fun h2 => ?_, fun h3 => ?_, fun h128 => ?_, fun hno => ?_⟩
    · refine congrArg _ (ncAnswer_serves hreq ?_ hlets' rfl)
      rw [hcfg]
      exact if_pos h1
    · refine congrArg _ (ncAnswer_serves hreq ((if_pos h2).trans ?_) hlets' rfl)
      rw [counts_forward]
    · exact congrArg _ (ncAnswer_serves hreq (if_pos h3) ((lets_cleared fx which).trans hlets') rfl)
    · refine congrArg _ (ncAnswer_serves hreq ((if_pos (Or.inr (by omega))).trans ?_) hlets' rfl)
      rw [if_pos h128]
    · refine congrArg _ (ncAnswer_serves hreq ((if_pos (hno.imp_right And.left)).trans ?_) hlets' rfl)
      rw [if_neg (by omega)]

end Sys2Proof.CtrlRules
end

section
/-! ## Uplink telegrams and safe-link copies in a lane (R277, R278, R284, R285, R297-R299) -/

namespace Sys2Proof.ReceiveRules

open Sys2Proof Sys2Proof.Machine Sys2Proof.Laws Sys2Proof.VoteRules

/-! ### Uplink telegrams (R277, R285) -/

section
variable {s : State} {ln : LaneId} {pl : PlaneId} {r : UpRec} {rest : List UpRec} {m : Manifest} {k : Nat}

/-- The state once the record at the front of the lane's ring is taken. -/
def tookRecord (s : State) (ln : LaneId) (pl : PlaneId) (rest : List UpRec) : State :=
  { s with planes := s.planes.set pl { s.planes.get pl with rings := (s.planes.get pl).rings.set ln rest } }

/-- The lane once its receive ring holds the record. -/
def received (s : State) (ln : LaneId) (pl : PlaneId) (r : UpRec) : Lane :=
  { s.lane ln with rx := (s.lane ln).rx.set pl (r :: (s.lane ln).rx.get pl) }

theorem telegramRx_eq (hrun : (s.planes.get pl).running = true) (hring : (s.planes.get pl).rings.get ln = r :: rest)
    (him : (s.lane ln).image = some m) (hv : s.laneState ln = .inVote ∨ s.laneState ln = .rejoining) :
    exec (.uplinkTelegramRx ln pl) s = match ((s.lane ln).takeUp ln m pl r).2 with
      | none => .next ((tookRecord s ln pl rest).putLane ln ((s.lane ln).takeUp ln m pl r).1)
      | some k => .next (((tookRecord s ln pl rest).putLane ln ((s.lane ln).takeUp ln m pl r).1).raiseLane ln .warn .uplinkCount
          [(ctrlOf r.frame : Nat), if pl.bit then 1 else 0, (k : Nat)]) := by
  have hv' : (s.lane ln).views.get ln = .inVote ∨ (s.lane ln).views.get ln = .rejoining := hv
  show execUplinkTelegramRx ln pl s = _
  unfold execUplinkTelegramRx
  dsimp only
  split
  · next r' rest' hrun' hring' =>
    obtain ⟨rfl, rfl⟩ := List.cons.inj (hring.symm.trans hring')
    split
    · next m' him' hv' =>
      obtain rfl := Option.some.inj (him.symm.trans him')
      rfl
    · next m' him' hv' =>
      obtain rfl := Option.some.inj (him.symm.trans him')
      rfl
    · next h1 h2 => exact (hv'.elim (h1 m him) (h2 m him)).elim
  · next h => exact (h r rest hrun hring).elim

theorem telegramRx_idle (hrun : (s.planes.get pl).running = false) : exec (.uplinkTelegramRx ln pl) s = .next s := by
  show execUplinkTelegramRx ln pl s = _
  unfold execUplinkTelegramRx
  dsimp only
  rw [hrun]
  rfl

theorem takeUp_valid {L : Lane} (hroom : (L.rx.get pl).length < 4096) (hc : uplinkCause ln L m pl r.cn r.frame = none) :
    L.takeUp ln m pl r = ({ L with
      rx := L.rx.set pl (r :: L.rx.get pl)
      upA := if pl = .a then Tbl.set [] L.upA (ctrlOf r.frame) r.frame else L.upA
      upB := if pl = .b then Tbl.set [] L.upB (ctrlOf r.frame) r.frame else L.upB }, none) := by
  unfold Lane.takeUp
  dsimp only
  rw [if_neg (show ¬ receiveDepth ≤ (L.rx.get pl).length from Nat.not_le.2 hroom), hc]
  cases pl <;> rfl

theorem takeUp_bad {L : Lane} (hroom : (L.rx.get pl).length < 4096) (hc : uplinkCause ln L m pl r.cn r.frame = some k) :
    L.takeUp ln m pl r =
      (({ L with rx := L.rx.set pl (r :: L.rx.get pl) } : Lane).countUp (ctrlOf r.frame) pl k, some k) := by
  unfold Lane.takeUp
  dsimp only
  rw [if_neg (show ¬ receiveDepth ≤ (L.rx.get pl).length from Nat.not_le.2 hroom), hc]

theorem takeUp_full {L : Lane} (hfull : 4096 ≤ (L.rx.get pl).length) :
    L.takeUp ln m pl r = (L.countUp (ctrlOf r.frame) pl 11, some 11) := if_pos hfull

/-- The place of a cause among the counts of a lane. -/
def upPlace (c : Nat) (pl : PlaneId) (k : Nat) : Nat := (c * 2 + if pl.bit then 1 else 0) * 16 + k

/-- A lane that has counted a cause and holds no new copy. -/
def Counted (L : Lane) (c : Nat) (pl : PlaneId) (k : Nat) (rx : Duo (List UpRec)) (M : Lane) : Prop :=
  M.upA = L.upA ∧ M.upB = L.upB ∧
  Tbl.get 0 M.upCounts (upPlace c pl k) = Tbl.get 0 L.upCounts (upPlace c pl k) + 1 ∧ M.views = L.views ∧ M.rx = rx

theorem holdFree_counted (L : Lane) (c : Nat) (pl : PlaneId) (k : Nat) (rx : Duo (List UpRec)) :
    HoldFree (Counted L c pl k rx) := by
  rintro M e ⟨ha, hb, hc, hv, hr⟩
  unfold Lane.hold
  split <;> exact ⟨ha, hb, hc, hv, hr⟩

theorem counted_countUp (L M : Lane) (c k : Nat) (hM : ∃ rx, M = { L with rx := rx }) :
    Counted L c pl k M.rx (M.countUp c pl k) := by
  obtain ⟨rx, rfl⟩ := hM
  exact ⟨rfl, rfl, Tbl_get_upd_self 0 L.upCounts (upPlace c pl k) (· + 1), rfl, rfl⟩

/-- A record that is discarded under a cause is counted, and reaches no one. -/
theorem counted_spec {L M : Lane} {c : Nat} {rx : Duo (List UpRec)} (h : Counted L c pl k rx M) (x : List Int) :
    let u := ((tookRecord s ln pl rest).putLane ln M).raiseLane ln .warn .uplinkCount x
    u.planes = (tookRecord s ln pl rest).planes ∧ Counted L c pl k rx (u.lane ln) ∧ ∀ n, n ≠ ln → u.lane n = s.lane n := by
  refine ⟨planes_raiseLane _ _ _ _ _, raiseLane_of (holdFree_counted L c pl k rx) ln _ _ _ ?_, fun n hn => ?_⟩
  · rw [lane_putLane_self]
    exact h
  · rw [lane_raiseLane_ne _ _ _ _ hn, lane_putLane_ne _ _ hn]
    rfl

/-- What a valid copy has been checked for (Table 9.7). -/
theorem uplinkCause_none {L : Lane} {cn : U32} {t : List Byte} (h : uplinkCause ln L m pl cn t = none) :
    cn = L.cn ∧ L.phase = .idle ∧ beAt t 0 1 = 1 ∧ beAt t 1 1 = 0x11 ∧ bitAt t 16 = pl.bit ∧
    beAt t 12 4 = L.cn.toNat ∧ beAt t 24 8 = m.hdr.site.toNat ∧ t.length = 176 ∧ tagAt t 160 = 1 ∧ tagAt t 168 = 2 ∧
    ∃ prev, upCodeOk m.body ln prev t (beAt t 4 2 % 4096) 160 1 = true ∧
      upCodeOk m.body ln prev t (beAt t 4 2 % 4096) 168 2 = true := by
  unfold uplinkCause at h
  dsimp only at h
  split at h
  · contradiction
  next hcycle =>
  split at h
  · contradiction
  next htype =>
  split at h
  · contradiction
  split at h
  · contradiction
  split at h
  · contradiction
  next prev hprev =>
  split at h
  · contradiction
  next hsite =>
  split at h
  · contradiction
  next hform =>
  split at h
  · contradiction
  next hcn =>
  split at h
  · contradiction
  next htag =>
  split at h
  next hcode =>
    simp only [not_or, not_not, ne_eq] at hcycle htype hsite hform hcn htag
    obtain ⟨h1, h2⟩ := hcycle
    obtain ⟨h3, h4, h5⟩ := htype
    obtain ⟨hs, -⟩ := hsite
    obtain ⟨-, -, -, -, hlen⟩ := hform
    obtain ⟨t1, t2⟩ := htag
    obtain ⟨c1, c2⟩ := Bool.and_eq_true_iff.1 hcode
    exact ⟨h1, h2, h3, h4, h5, hcn, hs, hlen, t1, t2, prev, c1, c2⟩
  · contradiction

end

/-- Settles O31: the record at the front of the ring, what a valid copy has passed, and the two planes compared. -/
theorem uplinkTelegramAcceptance : Obligations.UplinkTelegramAcceptance := by
  unfold Obligations.UplinkTelegramAcceptance
  intro s ln pl r rest a b m k L P s1 t c place counted
  refine ⟨fun hrun hring him hv => ⟨fun hroom hc => ?_, fun hroom hc => ?_, fun hfull => ?_⟩, telegramRx_idle,
    uplinkCause_none, fun ha hb => ⟨fun hab => ?_, fun hab => ?_⟩, fun ha => ⟨?_, ?_⟩⟩
  · rw [telegramRx_eq hrun hring him hv, takeUp_valid hroom hc]
    rfl
  · obtain ⟨hplanes, ⟨hA, hB, hcnt, hvw, hrx⟩, hne⟩ := counted_spec (s := s) (ln := ln) (rest := rest)
      (counted_countUp (pl := pl) L { L with rx := L.rx.set pl (r :: L.rx.get pl) } c k ⟨_, rfl⟩)
      [(ctrlOf r.frame : Nat), if pl.bit then 1 else 0, (k : Nat)]
    refine ⟨_, ?_, ⟨hplanes, hA, hB, hcnt, hvw, hne⟩, hrx⟩
    rw [telegramRx_eq hrun hring him hv, takeUp_bad hroom hc]
    rfl
  · obtain ⟨hplanes, ⟨hA, hB, hcnt, hvw, hrx⟩, hne⟩ := counted_spec (s := s) (ln := ln) (rest := rest)
      (counted_countUp (pl := pl) L L c 11 ⟨L.rx, rfl⟩) [(ctrlOf r.frame : Nat), if pl.bit then 1 else 0, (11 : Nat)]
    refine ⟨_, ?_, ⟨hplanes, hA, hB, hcnt, hvw, hne⟩, hrx⟩
    rw [telegramRx_eq hrun hring him hv, takeUp_full hfull]
    rfl
  · unfold planeCompare
    dsimp only
    rw [if_neg (fun h => ha h.1), if_neg hb, if_neg ha, if_pos hab]
  · unfold planeCompare
    dsimp only
    rw [if_neg (fun h => ha h.1), if_neg hb, if_neg ha, if_neg hab]
  · unfold planeCompare
    dsimp only
    rw [if_neg (fun h => ha h.1), if_pos rfl]
  · unfold planeCompare
    dsimp only
    rw [if_neg (fun h => ha h.2), if_neg ha, if_pos rfl]

/-! ### Safe-link copies (R297-R299) -/

section
variable {s : State} {ln : LaneId} {bcn : U32} {x : SlCopy} {rest : List (U32 × SlCopy)} {m : Manifest} {k : Nat}

theorem copyCheck_eq (hin : (s.lane ln).slIn = (bcn, x) :: rest) (hcn : later bcn (s.lane ln).cn = false)
    (him : (s.lane ln).image = some m) (hv : s.laneState ln = .inVote ∨ s.laneState ln = .rejoining) :
    exec (.safeLinkCopyCheck ln) s = .next ((s.putLane ln { s.lane ln with slIn := rest }).checkCopy ln m bcn x) := by
  have hv' : (s.lane ln).views.get ln = .inVote ∨ (s.lane ln).views.get ln = .rejoining := hv
  show execSafeLinkCopyCheck ln s = _
  unfold execSafeLinkCopyCheck
  dsimp only
  rw [hin]
  dsimp only
  rw [hcn, if_neg (by decide), him]
  rcases hv' with h | h <;> rw [h] <;> rfl

theorem copyCheck_waits (hin : (s.lane ln).slIn = (bcn, x) :: rest) (hcn : later bcn (s.lane ln).cn = true) :
    exec (.safeLinkCopyCheck ln) s = .next s := by
  show execSafeLinkCopyCheck ln s = _
  unfold execSafeLinkCopyCheck
  dsimp only
  rw [hin]
  exact if_pos hcn

/-- A lane that has dropped a copy. -/
def Dropped (L : Lane) (rest : List (U32 × SlCopy)) (M : Lane) : Prop :=
  M.slIn = rest ∧ M.slValid = L.slValid ∧ M.views = L.views ∧ M.sup = L.sup

/-- A lane that has dropped a copy and counted its cause. -/
def DroppedAt (L : Lane) (rest : List (U32 × SlCopy)) (i : Nat) (M : Lane) : Prop :=
  Dropped L rest M ∧ Tbl.get 0 M.slCounts i = Tbl.get 0 L.slCounts i + 1

theorem holdFree_dropped (L : Lane) (rest : List (U32 × SlCopy)) : HoldFree (Dropped L rest) := by
  rintro M e ⟨h1, h2, h3, h4⟩
  unfold Lane.hold
  split <;> exact ⟨h1, h2, h3, h4⟩

theorem holdFree_droppedAt (L : Lane) (rest : List (U32 × SlCopy)) (i : Nat) : HoldFree (DroppedAt L rest i) := by
  rintro M e ⟨h, hc⟩
  refine ⟨holdFree_dropped L rest M e h, ?_⟩
  unfold Lane.hold
  split <;> exact hc

theorem droppedAt_countSl (L : Lane) (conn k : Nat) :
    DroppedAt L rest (conn * 16 + k) (({ L with slIn := rest } : Lane).countSl conn k) :=
  ⟨⟨rfl, rfl, rfl, rfl⟩, Tbl_get_upd_self 0 L.slCounts (conn * 16 + k) (· + 1)⟩

/-- The state once the copy has left the queue of the lane. -/
def tookCopy (s : State) (ln : LaneId) (rest : List (U32 × SlCopy)) : State := s.putLane ln { s.lane ln with slIn := rest }

theorem lane_tookCopy : (tookCopy s ln rest).lane ln = { s.lane ln with slIn := rest } := lane_putLane_self _ _ _

theorem slCause_tookCopy : slCause ln ((tookCopy s ln rest).lane ln) m (decide ((tookCopy s ln rest).module = .test)) bcn x.srcIp
    x.port x.pdu = slCause ln (s.lane ln) m (decide (s.module = .test)) bcn x.srcIp x.port x.pdu := by
  rw [lane_tookCopy]
  rfl

theorem putLane_putLane (u : State) (n : LaneId) (A B : Lane) : (u.putLane n A).putLane n B = u.putLane n B := by
  cases n <;> rfl

theorem checkCopy_valid (h : slCause ln (s.lane ln) m (decide (s.module = .test)) bcn x.srcIp x.port x.pdu = none) :
    (tookCopy s ln rest).checkCopy ln m bcn x =
      s.putLane ln { s.lane ln with slIn := rest, slValid := (s.lane ln).slValid ++ [(x.lanB, x.pdu)] } := by
  unfold State.checkCopy
  dsimp only
  rw [slCause_tookCopy, h, lane_tookCopy]
  exact putLane_putLane _ _ _ _

theorem checkCopy_counts (hk : k ≠ 0)
    (h : slCause ln (s.lane ln) m (decide (s.module = .test)) bcn x.srcIp x.port x.pdu = some k) :
    (tookCopy s ln rest).checkCopy ln m bcn x = ((tookCopy s ln rest).putLane ln
      (({ s.lane ln with slIn := rest } : Lane).countSl (slConn x.pdu) k)).raiseLane ln .warn .slCheck [slConn x.pdu, k] := by
  unfold State.checkCopy
  dsimp only
  rw [slCause_tookCopy, h, lane_tookCopy]
  cases k with
  | zero => contradiction
  | succ k => rfl

/-- The copy is that of the message accepted last, byte for byte. -/
def sameTwin (L : Lane) (p : List Byte) : Bool :=
  match Tbl.get none (L.connC (slConn p)).seqs (slMsg p) with
  | none => true
  | some q => decide (q.2 = slDigest p)

/-- A copy of the message accepted last drops, with LAN_DIFF at the most (R300). -/
theorem checkCopy_twin (h : slCause ln (s.lane ln) m (decide (s.module = .test)) bcn x.srcIp x.port x.pdu = some 0) :
    (tookCopy s ln rest).checkCopy ln m bcn x =
      if sameTwin ({ s.lane ln with slIn := rest } : Lane) x.pdu then tookCopy s ln rest
      else ((tookCopy s ln rest).putLane ln (({ s.lane ln with slIn := rest } : Lane).countSl (slConn x.pdu) 12)).raiseLane ln
        .warn .lanDiff [slConn x.pdu, slMsg x.pdu] := by
  unfold State.checkCopy
  dsimp only
  rw [slCause_tookCopy, h, lane_tookCopy]
  rfl

theorem dropped_raised {P : Lane → Prop} (hP : HoldFree P) {M : Lane} (h : P M) (n : EventName) (y : List Int) :
    P ((((tookCopy s ln rest).putLane ln M).raiseLane ln .warn n y).lane ln) ∧
    ∀ j, j ≠ ln → (((tookCopy s ln rest).putLane ln M).raiseLane ln .warn n y).lane j = s.lane j := by
  refine ⟨raiseLane_of hP ln _ _ _ (by rw [lane_putLane_self]; exact h), fun j hj => ?_⟩
  unfold tookCopy
  rw [lane_raiseLane_ne _ _ _ _ hj, lane_putLane_ne _ _ hj, lane_putLane_ne _ _ hj]

/-- The EPOCH of a message lies before that of the peer (step 8). -/
def slEarly (r : Conn) (p : List Byte) : Bool :=
  match r.peerEpoch with
  | none => false
  | some e => !notEarlier (slEpoch p) e

/-- What the SEQ of a message says against the last one accepted (step 9). -/
def slStale (r : Conn) (p : List Byte) : Option Nat :=
  match if r.peerEpoch = some (slEpoch p) then Tbl.get none r.seqs (slMsg p) else none with
  | none => none
  | some q => if slSeq p = q.1 then some 0 else if later (slSeq p) q.1 then none else some 9

theorem slFresh_eq (L : Lane) (c : ConnCfg) (j : Nat) (p : List Byte) : slFresh L c j p =
    if slEarly (L.connC j) p then some 8
    else match slStale (L.connC j) p with
      | some k => some k
      | none =>
        if slHello p then none
        else if slEchoEpoch p ≠ L.epoch ∨ (L.slNow - slEcho p).toInt < 0 ∨ L.slNow - slEcho p < slHold p then some 10
        else if (c.tmax * 10 : Nat) < ageBound (L.slNow - slEcho p).toNat (slHold p).toNat then some 11
        else none := rfl

/-- What steps 8 to 11 of Table 10.2 have checked (R297, R299). -/
theorem slFresh_none {L : Lane} {c : ConnCfg} {j : Nat} {p : List Byte} (h : slFresh L c j p = none) :
    (∀ e, (L.connC j).peerEpoch = some e → 0 ≤ sdiff (slEpoch p) e) ∧
    (∀ q, (L.connC j).peerEpoch = some (slEpoch p) → Tbl.get none (L.connC j).seqs (slMsg p) = some q →
      later (slSeq p) q.1 = true) ∧
    (slHello p = false → slEchoEpoch p = L.epoch ∧ 0 ≤ (L.slNow - slEcho p).toInt ∧
      ageBound (L.slNow - slEcho p).toNat (slHold p).toNat ≤ (c.tmax * 10 : Nat)) := by
  rw [slFresh_eq] at h
  split at h
  · contradiction
  next hearly =>
  split at h
  · contradiction
  next hstale =>
  refine ⟨fun e he => ?_, fun q he hq => ?_, fun hhello => ?_⟩
  · unfold slEarly at hearly
    rw [he] at hearly
    simpa [notEarlier] using hearly
  · unfold slStale at hstale
    rw [if_pos he, hq] at hstale
    dsimp only at hstale
    split at hstale
    · contradiction
    · split at hstale
      next hl => exact hl
      · contradiction
  · rw [hhello, if_neg (by decide)] at h
    split at h
    · contradiction
    next hecho =>
    split at h
    · contradiction
    next hage =>
    simp only [not_or, not_not, ne_eq, not_lt] at hecho hage
    obtain ⟨h1, h2, -⟩ := hecho
    exact ⟨h1, h2, hage⟩

/-- What a kept copy has been checked for (Table 10.2). -/
theorem slCause_none {L : Lane} {test : Bool} {ip : U32} {port : Nat} {p : List Byte}
    (h : slCause ln L m test bcn ip port p = none) :
    bcn = L.cn ∧ L.phase = .idle ∧ beAt p 0 1 = 1 ∧ beAt p 1 1 = 0x20 ∧ p.length = 196 ∧
    (slTest p = true → test = true) ∧ tagAt p 176 ≠ 0 ∧ tagAt p 176 < tagAt p 186 ∧
    ∃ c g, ConnOf m (slConn p) = some c ∧ inMsg c (slMsg p) = some g ∧ c.peerIp = ip ∧ c.port = port ∧
      slLength p = g.len ∧ beAt p 40 8 = c.peerSite.toNat ∧ slFresh L c (slConn p) p = none := by
  unfold slCause at h
  dsimp only at h
  split at h
  · contradiction
  next hcycle =>
  split at h
  · contradiction
  next htype =>
  split at h
  · contradiction
  next c hconn =>
  split at h
  · contradiction
  next g hmsg =>
  split at h
  · contradiction
  next haddr =>
  split at h
  · contradiction
  split at h
  · contradiction
  next hsite =>
  split at h
  · contradiction
  next hform =>
  split at h
  · contradiction
  next htag =>
  split at h
  · contradiction
  simp only [not_or, not_not, ne_eq, not_and, Bool.not_eq_true] at hcycle htype haddr hsite hform htag
  obtain ⟨h1, h2⟩ := hcycle
  obtain ⟨-, h3, h4⟩ := htype
  obtain ⟨h5, h6⟩ := haddr
  obtain ⟨h7, -, h8, h9⟩ := hform
  obtain ⟨h10, h11, -⟩ := htag
  exact ⟨h1, h2, h3, h4, h8, fun ht => by simpa using h9 ht, h10, Nat.not_le.1 h11, c, g, hconn, hmsg, h5, h6, h7, hsite, h⟩

end

/-- Settles O32: the oldest copy of a lane, kept or dropped under its cause, and what a kept copy has passed. -/
theorem safeLinkCopyAcceptance : Obligations.SafeLinkCopyAcceptance := by
  unfold Obligations.SafeLinkCopyAcceptance
  intro s ln bcn x rest k m L p r i dropped
  refine ⟨fun hin hcn him hv => ⟨fun hr => ?_, fun hr hk => ?_, fun hr => ?_⟩, copyCheck_waits, fun hr => ?_⟩
  · exact (copyCheck_eq hin hcn him hv).trans (congrArg _ (checkCopy_valid hr))
  · obtain ⟨⟨⟨h1, h2, h3, h4⟩, hc⟩, hne⟩ := dropped_raised (s := s) (ln := ln) (rest := rest)
      (holdFree_droppedAt L rest i) (droppedAt_countSl (rest := rest) L (slConn p) k) .slCheck [slConn p, k]
    exact ⟨_, (copyCheck_eq hin hcn him hv).trans (congrArg _ (checkCopy_counts hk hr)), ⟨h1, h2, h3, h4, hne⟩, hc⟩
  · have htwin := checkCopy_twin (rest := rest) hr
    by_cases hsame : sameTwin ({ s.lane ln with slIn := rest } : Lane) x.pdu = true
    · refine ⟨_, (copyCheck_eq hin hcn him hv).trans (congrArg _ (htwin.trans (if_pos hsame))), ?_⟩
      show ((tookCopy s ln rest).lane ln).slIn = rest ∧ _
      rw [lane_tookCopy]
      exact ⟨rfl, rfl, rfl, rfl, fun n hn => lane_putLane_ne _ _ hn⟩
    · obtain ⟨⟨h1, h2, h3, h4⟩, hne⟩ := dropped_raised (s := s) (ln := ln) (rest := rest) (holdFree_dropped L rest)
        (droppedAt_countSl (rest := rest) L (slConn p) 12).1 .lanDiff [slConn p, slMsg p]
      exact ⟨_, (copyCheck_eq hin hcn him hv).trans (congrArg _ (htwin.trans (if_neg hsame))), h1, h2, h3, h4, hne⟩
  · obtain ⟨h1, h2, h3, h4, h5, h6, h7, h8, c, g, hconn, hmsg, hip, hport, hlen, hsite, hfresh⟩ := slCause_none hr
    obtain ⟨he, hq, hecho⟩ := slFresh_none hfresh
    exact ⟨h1, h2, h3, h4, h5, fun ht => of_decide_eq_true (h6 ht), h7, h8, c, g, hconn, hmsg, hip, hport, hlen, hsite,
      he, hq, hecho⟩

end Sys2Proof.ReceiveRules
end

section
/-! ## A commit of the route engine (R180, R182) -/

namespace Sys2Proof.RouteCommit

open Sys2Proof Sys2Proof.Machine Sys2Proof.Laws Sys2Proof.TallyResults

/-! ### Writes of some words of one copy -/

/-- A lane that differs from another in words of one copy alone, all of which meet a condition, and in the engine's record. -/
def Wrote (p : Pass) (K : Nat → Prop) (L M : Lane) : Prop :=
  (∀ q k, q ≠ p ∨ ¬ K k → M.word q k = L.word q k) ∧
  M.views = L.views ∧ M.switches = L.switches ∧ M.sigs = L.sigs ∧ M.cn = L.cn

section
variable {p : Pass} {K J : Nat → Prop} {L M N : Lane}

theorem Wrote.refl (p : Pass) (K : Nat → Prop) (L : Lane) : Wrote p K L L := ⟨fun _ _ _ => rfl, rfl, rfl, rfl, rfl⟩

theorem Wrote.trans (h : Wrote p K L M) (h' : Wrote p K M N) : Wrote p K L N := by
  obtain ⟨hw, hv, hs, hg, hc⟩ := h
  obtain ⟨hw', hv', hs', hg', hc'⟩ := h'
  exact ⟨fun q k hk => (hw' q k hk).trans (hw q k hk), hv'.trans hv, hs'.trans hs, hg'.trans hg, hc'.trans hc⟩

theorem Wrote.mono (h : Wrote p J L M) (hJ : ∀ k, J k → K k) : Wrote p K L M := by
  obtain ⟨hw, hrest⟩ := h
  exact ⟨fun q k hk => hw q k (hk.imp_right (mt (hJ k))), hrest⟩

/-- A word that has not been written reads as before. -/
theorem Wrote.plainIn (h : Wrote p K L M) {k : Nat} (hk : ¬ K k) : M.plainIn p k = L.plainIn p k := by
  obtain ⟨hw, -, -, hg, hc⟩ := h
  unfold Lane.plainIn Lane.decode Lane.sig
  rw [hw p k (Or.inr hk), hg, hc]

/-- Writes in a row, each of which changes such words alone. -/
theorem wrote_foldlM {α : Type} {f : Lane → α → Except TFault Lane} (xs : List α)
    (hf : ∀ x ∈ xs, ∀ L M, f L x = .ok M → Wrote p K L M) (h : xs.foldlM f L = .ok M) : Wrote p K L M := by
  induction xs generalizing L with
  | nil =>
    obtain rfl := Except.ok.inj h
    exact Wrote.refl p K L
  | cons x xs ih =>
    rw [List.foldlM_cons] at h
    cases hx : f L x with
    | error e =>
      rw [hx] at h
      contradiction
    | ok L1 =>
      rw [hx] at h
      exact (hf x List.mem_cons_self L L1 hx).trans (ih (fun y hy => hf y (List.mem_cons_of_mem _ hy)) h)

end

/-! ### One write of the engine -/

section
variable {p : Pass} {clk off key : Nat} {x : Int} {L M : Lane}

theorem storeBy_store {owner req : Nat} (h : L.storeBy p owner req clk off key x = .ok M) :
    M = L.store p key (encodeWord p x (L.sig key).b 0) req (clk + off) := by
  unfold Lane.storeBy at h
  cases hr : L.ready p off [key] with
  | error e =>
    rw [hr] at h
    contradiction
  | ok u =>
    rw [hr] at h
    cases ho : L.storeOk p owner off 1 [key] with
    | error e =>
      rw [ho] at h
      contradiction
    | ok u' =>
      rw [ho] at h
      exact (Except.ok.inj h).symm

theorem engWrite_cases (h : engWrite p clk off key x L = .ok M) : L.plainIn p key = x ∧ M = L ∨
    ∃ r, M = { L.store p key (encodeWord p x (L.sig key).b 0) 4 (clk + off) with route := r } := by
  unfold engWrite at h
  split at h
  · next hx => exact Or.inl ⟨hx, (Except.ok.inj h).symm⟩
  · cases hs : L.storeBy p 4 4 clk off key x with
    | error e =>
      rw [hs] at h
      contradiction
    | ok L1 =>
      rw [hs] at h
      obtain rfl := storeBy_store hs
      exact Or.inr ⟨_, (Except.ok.inj h).symm⟩

theorem views_store (c : Coded) (req t : Nat) : (L.store p key c req t).views = L.views ∧
    (L.store p key c req t).switches = L.switches ∧ (L.store p key c req t).sigs = L.sigs ∧ (L.store p key c req t).cn = L.cn := by
  cases p <;> exact ⟨rfl, rfl, rfl, rfl⟩

theorem engWrite_wrote (h : engWrite p clk off key x L = .ok M) : Wrote p (· = key) L M := by
  rcases engWrite_cases h with ⟨-, rfl⟩ | ⟨r, rfl⟩
  · exact Wrote.refl _ _ _
  · exact ⟨fun q k hk => word_store_ne L p key _ 4 (clk + off) hk, views_store _ _ _⟩

/-- A word held undated reads as the plain value that it codes. -/
theorem plainIn_store {req t : Nat} (hx : inS32 x = true) (hd : dOf key L.cn = 0) :
    (L.store p key (encodeWord p x (L.sig key).b 0) req t).plainIn p key = x := by
  have hrange := (inS32_iff x).1 hx
  have hA := multA_pos p
  have hcode := encodeWord_toInt p x (L.sig key).b 0 (by omega) (by decide)
  have hcheck : checkWord p (encodeWord p x (L.sig key).b 0) (L.sig key).b 0 = .ok x := by
    have hr : multA p * x + ((L.sig key).b.toNat : Int) + 0 - (L.sig key).b.toNat - 0 = multA p * x := by ring
    unfold checkWord checkInt
    dsimp only
    rw [hcode, hr, Int.mul_emod_right, Int.mul_ediv_cancel_left _ (ne_of_gt hA), hx]
    rfl
  obtain ⟨-, -, -, hcn⟩ := views_store (L := L) (p := p) (key := key) (encodeWord p x (L.sig key).b 0) req t
  unfold Lane.plainIn Lane.decode
  rw [word_store_self, sig_store, hcn, hd, hcheck]

theorem engWrite_plain (h : engWrite p clk off key x L = .ok M) (hx : inS32 x = true) (hd : dOf key L.cn = 0) :
    M.plainIn p key = x := by
  rcases engWrite_cases h with ⟨hsame, rfl⟩ | ⟨r, rfl⟩
  · exact hsame
  · exact plainIn_store hx hd

end

/-! ### The sweep of the entries -/

theorem commitEntry_wrote {p : Pass} {s n : Nat} {ov : Overlay} {e : Entry} {L M : Lane} (h : commitEntry p s n ov L e = .ok M) :
    Wrote p (fun k => ∃ x, (k, x) ∈ ov) L M := by
  unfold commitEntry at h
  refine wrote_foldlM e.lines (fun l _ A B hl => ?_) h
  refine wrote_foldlM (commitWords e.kind) (fun i _ C D hi => ?_) hl
  split at hi
  · next o ho => exact (engWrite_wrote hi).mono (fun k hk => ⟨o.2, hk ▸ List.mem_of_find?_eq_some ho⟩)
  · obtain rfl := Except.ok.inj hi
    exact Wrote.refl _ _ _

/-! ### Keys of the route line and the entry signal -/

theorem dOf_keyRoute {r w : Nat} (cn : U32) (hr : r < 8192) (hw : w < 8) : dOf (keyRoute r w) cn = 0 := by
  have hsp : spaceOf (keyRoute r w) = some .t := by
    have hq : keyRoute r w / 524288 = 2 := by
      show (2 * 524288 + (8 * r + w)) / 524288 = 2
      omega
    simp [spaceOf, hq]
  unfold dOf
  rw [hsp]
  rfl

theorem dOf_keyE {id w : Nat} (cn : U32) (hid : id < 16384) (hw : w < 16) : dOf (keyE id w) cn = 0 := by
  have hsp : spaceOf (keyE id w) = some .e := by
    have hq : keyE id w / 524288 = 1 := by
      show (1 * 524288 + (16 * id + w)) / 524288 = 1
      omega
    simp [spaceOf, hq]
  unfold dOf
  rw [hsp]
  rfl

theorem keyRoute_eq (r w : Nat) : keyRoute r w = 1048576 + (8 * r + w) := rfl

theorem keyE_eq (id w : Nat) : keyE id w = 524288 + (16 * id + w) := rfl

/-- The writes of a commit, one after the other. -/
theorem commit_steps {p : Pass} {start : Nat} {v : RouteView} {d : Decision} {L M : Lane} (h : commit p start v d L = .ok M) :
    ∃ L1 L2 L3 L4 L5 L6, v.entries.foldlM (commitEntry p start v.entries.length d.ov) L = .ok L1 ∧
      engWrite p start (13 + 4 * v.entries.length) (keyRoute v.r 0) d.state L1 = .ok L2 ∧
      engWrite p start (13 + 4 * v.entries.length) (keyRoute v.r 5) d.out L2 = .ok L3 ∧
      engWrite p start (13 + 4 * v.entries.length) (keyRoute v.r 6) d.progress L3 = .ok L4 ∧
      engWrite p start (13 + 4 * v.entries.length) (keyRoute v.r 7) d.time L4 = .ok L5 ∧
      engWrite p start (13 + 4 * v.entries.length + 2) (keyE v.sig.id 9) (ofBool d.permit) L5 = .ok L6 ∧
      engWrite p start (13 + 4 * v.entries.length + 2) (keyE v.sig.id 10) d.route L6 = .ok M := by
  unfold commit at h
  simp only [bind, Except.bind] at h
  split at h
  · contradiction
  next L1 h1 =>
  split at h
  · contradiction
  next L2 h2 =>
  split at h
  · contradiction
  next L3 h3 =>
  split at h
  · contradiction
  next L4 h4 =>
  split at h
  · contradiction
  next L5 h5 =>
  split at h
  · contradiction
  next L6 h6 =>
  exact ⟨L1, L2, L3, L4, L5, L6, h1, h2, h3, h4, h5, h6, h⟩

/-- Settles O30: the six words read as decided, and every other write is one of the overlay. -/
theorem commitWritesDecision : Obligations.CommitWritesDecision := by
  unfold Obligations.CommitWritesDecision
  intro p start v d L M h hstate hout hprog htime hroute hr hid
  obtain ⟨L1, L2, L3, L4, L5, L6, h1, h2, h3, h4, h5, h6, h7⟩ := commit_steps h
  have hsweep : Wrote p (fun k => ∃ x, (k, x) ∈ d.ov) L L1 := wrote_foldlM _ (fun _ _ _ _ he => commitEntry_wrote he) h1
  have w2 := engWrite_wrote h2
  have w3 := engWrite_wrote h3
  have w4 := engWrite_wrote h4
  have w5 := engWrite_wrote h5
  have w6 := engWrite_wrote h6
  have w7 := engWrite_wrote h7
  have hpermit : inS32 (ofBool d.permit) = true := by cases d.permit <;> decide
  have e2 := engWrite_plain h2 hstate (dOf_keyRoute _ hr (by decide))
  have e3 := engWrite_plain h3 hout (dOf_keyRoute _ hr (by decide))
  have e4 := engWrite_plain h4 hprog (dOf_keyRoute _ hr (by decide))
  have e5 := engWrite_plain h5 htime (dOf_keyRoute _ hr (by decide))
  have e6 := engWrite_plain h6 hpermit (dOf_keyE _ hid (by decide))
  have e7 := engWrite_plain h7 hroute (dOf_keyE _ hid (by decide))
  let K : Nat → Prop := fun k => (∃ x, (k, x) ∈ d.ov) ∨
    k ∈ [keyRoute v.r 0, keyRoute v.r 5, keyRoute v.r 6, keyRoute v.r 7, keyE v.sig.id 9, keyE v.sig.id 10]
  have hall : Wrote p K L M := by
    refine (((((((hsweep.mono ?_).trans (w2.mono ?_)).trans (w3.mono ?_)).trans (w4.mono ?_)).trans (w5.mono ?_)).trans
      (w6.mono ?_)).trans (w7.mono ?_))
    · exact fun k hk => Or.inl hk
    all_goals
      intro k hk
      exact Or.inr (by simp [hk])
  obtain ⟨hw, hv, hs, hg, hc⟩ := hall
  simp only [keyRoute_eq, keyE_eq] at *
  refine ⟨?_, ?_, ?_, ?_, ?_, e7, fun key hkey hov => hw p key (Or.inr ?_), fun q key hq => hw q key (Or.inl hq), hv, hs, hg, hc⟩
  · rw [w7.plainIn (by omega), w6.plainIn (by omega), w5.plainIn (by omega), w4.plainIn (by omega), w3.plainIn (by omega), e2]
  · rw [w7.plainIn (by omega), w6.plainIn (by omega), w5.plainIn (by omega), w4.plainIn (by omega), e3]
  · rw [w7.plainIn (by omega), w6.plainIn (by omega), w5.plainIn (by omega), e4]
  · rw [w7.plainIn (by omega), w6.plainIn (by omega), e5]
  · rw [w7.plainIn (by omega), e6]
  · rintro (⟨x, hx⟩ | hk)
    · exact hov x hx
    · exact hkey hk

end Sys2Proof.RouteCommit
end

section
/-! ## What a frame on an uplink changes at SVC (R287-R289) -/

namespace Sys2Proof.NetRules

open Sys2Proof Sys2Proof.Machine Sys2Proof.Laws
open Sys2Proof.VoteFlag (foldl_preserves)

/-! ### Frames that leave -/

/-- A state that has sent frames: its ports and its PRP sequence number have moved on, and nothing else. -/
def Sent (s u : State) : Prop := ∃ p q, u = s.updUplink (fun U => { U with ports := p, prpSeq := q })

section
variable {s u v : State}

theorem Sent.refl (s : State) : Sent s s := ⟨s.uplink.ports, s.uplink.prpSeq, rfl⟩

theorem Sent.trans (h : Sent s u) (h' : Sent u v) : Sent s v := by
  obtain ⟨p, q, rfl⟩ := h
  obtain ⟨p', q', rfl⟩ := h'
  exact ⟨p', q', rfl⟩

theorem sent_foldl {α : Type} (f : State → α → State) (hf : ∀ t a, Sent t (f t a)) (xs : List α) (s : State) :
    Sent s (xs.foldl f s) := by
  induction xs generalizing s with
  | nil => exact Sent.refl s
  | cons x xs ih => exact (hf s x).trans (ih (f s x))

end

theorem sent_putPort (s : State) (k : Nat) (f : List Byte) (port : Nat) : Sent s (s.putPort k f port) := by
  unfold State.putPort
  split
  · exact ⟨_, s.uplink.prpSeq, rfl⟩
  · exact Sent.refl s

theorem sent_sendOn (s : State) (b : Bool) (dst : U48) (k : Nat) (f : List Byte) : Sent s (s.sendOn b dst k f) :=
  sent_foldl _ (fun t p => sent_putPort t k f p) _ s

theorem sent_sendPrp (s : State) (dst : Bool → U48) (k et : Nat) (p : List Byte) : Sent s (s.sendPrp dst k et p) := by
  have hone : ∀ (t : State) (b : Bool), Sent t (t.sendOn b (dst b) k
      (netFrame (dst b) t.uplink.mac t.vlan et (withRct t.uplink.prpSeq b p))) := fun t b => sent_sendOn t b (dst b) k _
  exact ((hone s false).trans (hone _ true)).trans ⟨_, _, rfl⟩

theorem sent_sendPdu (s : State) (key : Nat) (pdu : List Byte) : Sent (s.updUplink (fun u => { u with
    sent := (key, pdu) :: u.sent.filter (fun e => decide (e.1 ≠ key)) })) (s.sendPdu key pdu) := by
  unfold State.sendPdu
  dsimp only
  split
  · exact sent_sendPrp _ _ _ _ _
  · exact Sent.refl _

/-! ### Frames that arrive -/

/-- What a frame that the module takes leaves of the uplink state: all but what it counts, answers and learns. -/
def ownless (u : Uplink) : Uplink :=
  { u with ports := [], prpSeq := 0, taken := 0, answered := 0, discarded := [], twins := 0, echoTimes := [], copies := [], macs := [] }

/-- What a frame that arrives leaves of the uplink state: all but the stations, addresses and counts of the ports. -/
def netless (u : Uplink) : Uplink := { ownless u with seen := [], nodes := [] }

/-- A state that has changed its uplink state behind a mask, and the count of PTP messages ignored. -/
def KeptBut (mask : Uplink → Uplink) (s u : State) : Prop :=
  ∃ U n, u = { s with uplink := U, ptp := { s.ptp with ignored := n } } ∧ mask U = mask s.uplink

/-- A state that has taken a frame of its own. -/
abbrev OwnKept (s u : State) : Prop := KeptBut ownless s u

/-- A state that has taken a frame at its ports. -/
abbrev NetKept (s u : State) : Prop := KeptBut netless s u

section
variable {mask : Uplink → Uplink} {s u v : State}

theorem KeptBut.refl (mask : Uplink → Uplink) (s : State) : KeptBut mask s s := ⟨s.uplink, s.ptp.ignored, rfl, rfl⟩

theorem KeptBut.trans (h : KeptBut mask s u) (h' : KeptBut mask u v) : KeptBut mask s v := by
  obtain ⟨U, n, rfl, hU⟩ := h
  obtain ⟨V, m, rfl, hV⟩ := h'
  exact ⟨V, m, rfl, hV.trans hU⟩

theorem KeptBut.netKept (h : OwnKept s u) : NetKept s u := by
  obtain ⟨U, n, rfl, hU⟩ := h
  exact ⟨U, n, rfl, congrArg (fun w : Uplink => { w with seen := [], nodes := [] }) hU⟩

theorem Sent.ownKept (h : Sent s u) : OwnKept s u := by
  obtain ⟨p, q, rfl⟩ := h
  exact ⟨_, s.ptp.ignored, rfl, rfl⟩

theorem keptBut_updUplink (f : Uplink → Uplink) (hf : mask (f s.uplink) = mask s.uplink) : KeptBut mask s (s.updUplink f) :=
  ⟨f s.uplink, s.ptp.ignored, rfl, hf⟩

end

theorem ownKept_takeArp (s : State) (b : Bool) (e : NetFrame) : OwnKept s (s.takeArp b e) := by
  unfold State.takeArp
  split
  · dsimp only
    split
    · exact ((keptBut_updUplink _ rfl).trans (sent_sendPrp _ _ _ _ _).ownKept).trans (keptBut_updUplink _ rfl)
    · exact keptBut_updUplink _ rfl
  · exact KeptBut.refl _ s

theorem ownKept_takeEcho (s : State) (e : NetFrame) : OwnKept s (s.takeEcho e) := by
  unfold State.takeEcho
  split
  · dsimp only
    split
    · exact (sent_sendPrp _ _ _ _ _).ownKept.trans (keptBut_updUplink _ rfl)
    · exact keptBut_updUplink _ rfl
  · exact KeptBut.refl _ s

theorem ownKept_takeNet (s : State) (b : Bool) (e : NetFrame) : OwnKept s (s.takeNet b e) := by
  have htaken : OwnKept s (s.updUplink (fun u => { u with taken := u.taken + 1 })) := keptBut_updUplink _ rfl
  have hdiscard : ∀ k, OwnKept s (s.updUplink (fun u => u.discard k)) := fun k => keptBut_updUplink _ rfl
  unfold State.takeNet
  dsimp only
  cases s.netKind e with
  | arp => exact htaken.trans (ownKept_takeArp _ b e)
  | icmpEcho => exact htaken.trans (ownKept_takeEcho _ e)
  | prpSupervision => exact htaken
  | ptp =>
    dsimp only
    split
    · exact ⟨s.uplink, _, rfl, rfl⟩
    · exact htaken
  | safeLink => exact htaken
  | tcp => exact hdiscard _
  | udpOther => exact hdiscard _
  | icmpOther => exact hdiscard _
  | ipOther => exact hdiscard _
  | vlanOther => exact hdiscard _
  | damaged => exact hdiscard _
  | other => exact hdiscard _

theorem ownKept_keepCopy (s : State) (b : Bool) (e : NetFrame) : OwnKept s (s.keepCopy b e) := by
  unfold State.keepCopy
  split
  · exact KeptBut.refl _ s
  · exact keptBut_updUplink _ rfl

theorem ownKept_ownNet (s : State) (b : Bool) (e : NetFrame) : OwnKept s (s.ownNet b e) := by
  unfold State.ownNet
  dsimp only
  split
  · exact ownKept_takeNet s b e
  · split
    · exact keptBut_updUplink _ rfl
    · exact (ownKept_takeNet s b e).trans (ownKept_keepCopy _ b e)

theorem netKept_learn (s : State) (port : Nat) (e : NetFrame) : NetKept s (s.learn port e) := keptBut_updUplink _ rfl

theorem netKept_bridge (s : State) (port : Nat) (f : List Byte) : NetKept s (s.bridge port f) := by
  unfold State.bridge
  split
  · exact keptBut_updUplink _ rfl
  · next e he =>
    have hpass : NetKept s (if e.dst ≠ s.uplink.mac ∧ netPasses e then
        (s.learn port e).putPort (netClass e) f (otherPort port) else s.learn port e) := by
      split
      · exact (netKept_learn s port e).trans (sent_putPort _ _ _ _).ownKept.netKept
      · exact netKept_learn s port e
    dsimp only
    split
    · exact hpass.trans ((ownKept_ownNet _ _ _).netKept)
    · exact hpass

/-! ### What the frame that arrives leaves as it was -/

section
variable {s u : State} (h : NetKept s u)
include h

theorem held_netKept : u.uplink.held = s.uplink.held ∧ u.uplink.standbyRx = s.uplink.standbyRx ∧
    u.uplink.slDrop = s.uplink.slDrop ∧ u.uplink.linkAccepted = s.uplink.linkAccepted ∧
    u.uplink.up = s.uplink.up ∧ u.batchNow = s.batchNow ∧ u.lanes = s.lanes ∧ u.module = s.module ∧ u.man = s.man := by
  obtain ⟨U, n, rfl, hU⟩ := h
  have h1 := congrArg Uplink.held hU
  have h2 := congrArg Uplink.standbyRx hU
  have h3 := congrArg Uplink.slDrop hU
  have h4 := congrArg Uplink.linkAccepted hU
  have h5 := congrArg Uplink.up hU
  have h6 : U.cycleStart = s.uplink.cycleStart := by
    have h := congrArg Uplink.cycleStart hU
    exact h
  have h7 : U.cutoffPassed = s.uplink.cutoffPassed := by
    have h := congrArg Uplink.cutoffPassed hU
    exact h
  have h8 : U.cn = s.uplink.cn := by
    have h := congrArg Uplink.cn hU
    exact h
  refine ⟨h1, h2, h3, h4, h5, ?_, rfl, rfl, rfl⟩
  unfold State.batchNow
  dsimp only
  rw [h6, h7, h8]

end

/-! ### Safe-link copies (R298) -/

theorem ipKind_safeLink {s : State} {p : List Byte} (h : s.ipKind p = .safeLink) {k : IpPacket} {d : Nat × List Byte}
    (hk : ipOpen p = some k) (hd : udpOpen k = some d) : s.slPort d.1 = true := by
  unfold State.ipKind at h
  rw [hk] at h
  dsimp only at h
  split at h
  · contradiction
  split at h
  · contradiction
  split at h
  · split at h <;> contradiction
  split at h
  · rw [hd] at h
    dsimp only at h
    split at h
    next hport => exact hport.1
    · contradiction
  · contradiction

theorem netKind_safeLink {s : State} {e : NetFrame} (h : s.netKind e = .safeLink) : s.ipKind e.body = .safeLink := by
  unfold State.netKind at h
  split at h
  · contradiction
  split at h
  · contradiction
  split at h
  · contradiction
  split at h
  · contradiction
  split at h
  · exact h
  · contradiction

/-- What a safe-link copy that a frame brings is (R298). -/
theorem copyIn_spec {s : State} {port : Nat} {f : List Byte} {c : SlCopy} (h : s.copyIn port f = some c) :
    c.lanB = lanOfPort port ∧ c.arrived = s.now ∧ s.slPort c.port = true ∧
    ∃ e, netOpen f = some e ∧ s.toModule e = true ∧ s.netKind e = .safeLink := by
  unfold State.copyIn at h
  split at h
  · contradiction
  next e he =>
  split at h
  next hkind =>
    obtain ⟨hto, hkind⟩ := hkind
    split at h
    · contradiction
    next k hk =>
    obtain ⟨d, hd, rfl⟩ := Option.map_eq_some_iff.1 h
    exact ⟨rfl, rfl, ipKind_safeLink (netKind_safeLink hkind) hk hd, e, he, hto, hkind⟩
  · contradiction

end Sys2Proof.NetRules
end

section
/-! ## Batches of safe-link copies and the sending of safe-link messages (R200, R214, R291, R298, R305, R314, R377) -/

namespace Sys2Proof.NetRules

open Sys2Proof Sys2Proof.Machine Sys2Proof.Laws Sys2Proof.RejoinRules
open Sys2Proof.VoteFlag (foldl_preserves)

/-! ### The cycle start (R298) -/

section
variable {s : State} {ln : LaneId} {t port t0 : Nat} {f : List Byte} {c : SlCopy}

/-- The state once the first notice of a cycle has come. -/
def cycleStarted (s : State) (ln : LaneId) (t : Nat) : State :=
  let s0 := s.touch t
  let starts := keepStarts s0.tc t s0.uplink.notices
  let s1 := s0.updUplink (fun u => { u with cycleStart := some t, cn := (s.lane ln).cn, cutoffPassed := false, notices := starts })
  let s2 : State := { s1 with power := { s1.power with svcClock := !svcClockBad s0.tc starts } }
  if svcClockBad s0.tc starts && s0.power.svcClock then s2.raise .warn .svcClock .svc [] else s2

theorem cycleStartNotice_first (hup : s.uplink.up = true) (hrun : runsCycle s.module = true)
    (hact : (s.lane ln).active ln = true) (hnew : s.uplink.cycleStart = none ∨ s.uplink.cn ≠ (s.lane ln).cn) :
    exec (.cycleStartNotice ln t) s = .next (cycleStarted s ln t) :=
  if_pos ⟨hup, hrun, hact, hnew.imp_left (fun h => Option.isNone_iff_eq_none.2 h)⟩

theorem cycleStartNotice_later (hset : s.uplink.cycleStart.isSome = true) (hcn : s.uplink.cn = (s.lane ln).cn) :
    exec (.cycleStartNotice ln t) s = .next (s.touch t) := by
  refine if_neg ?_
  rintro ⟨-, -, -, hnone | hne⟩
  · rw [Option.isNone_iff_eq_none] at hnone
    rw [show s.uplink.cycleStart = none from hnone] at hset
    contradiction
  · exact hne hcn

theorem cycleStarted_frame : (cycleStarted s ln t).uplink.cycleStart = some t ∧ (cycleStarted s ln t).uplink.cn = (s.lane ln).cn ∧
    (cycleStarted s ln t).uplink.cutoffPassed = false ∧ (cycleStarted s ln t).uplink.held = s.uplink.held ∧
    (cycleStarted s ln t).lanes = s.lanes := by
  unfold cycleStarted
  dsimp only
  split
  · rw [uplink_raise, lanes_raise]
    exact ⟨rfl, rfl, rfl, rfl, rfl⟩
  · exact ⟨rfl, rfl, rfl, rfl, rfl⟩

/-! ### A copy at SVC (R298, R377) -/

theorem slFrameRx_eq (hnet : s.netOn = true) (hport : s.portUp port = true) (hc : (s.touch t).copyIn port f = some c) :
    exec (.safeLinkFrameRx port f t) s = .next (((s.touch t).bridge port f).takeSafeLink c) := by
  refine (if_pos ⟨hnet, hport, by rw [hc]; rfl⟩).trans ?_
  unfold State.netRx
  rw [hc]
  rfl

theorem takeSafeLink_standby {u : State} (h : u.module = .standby) :
    u.takeSafeLink c = u.updUplink (fun v => { v with standbyRx := v.standbyRx + 1 }) := if_pos h

/-- The copy as SVC holds it. -/
def heldCopy (u : State) (c : SlCopy) (sent : Option U32) : HeldCopy := ⟨c, tmaxOf u.man c.port c.pdu, sent⟩

/-- SVC once it holds a copy of the batch that runs. -/
def holdingNow (u : State) (c : SlCopy) : State :=
  u.updUplink (fun v => { v with held := v.held ++ [heldCopy u c (some u.batchNow)] })

theorem takeSafeLink_now {u : State} (h : u.module ≠ .standby) (hroom : u.uplink.held.length < 512) : u.takeSafeLink c =
    (holdingNow u c).forwardCopy u.batchNow c := by
  have hhold : u.uplink.holdCopy (heldCopy u c (some u.batchNow)) =
      { u.uplink with held := u.uplink.held ++ [heldCopy u c (some u.batchNow)] } := if_pos (by omega)
  unfold State.takeSafeLink
  dsimp only
  rw [if_neg h, if_neg (by omega), decide_eq_true hroom]
  exact congrArg (fun v => State.forwardCopy { u with uplink := v } u.batchNow c) hhold

theorem takeSafeLink_later {u : State} (h : u.module ≠ .standby) (hfull : 512 ≤ u.uplink.held.length)
    (hroom : u.uplink.held.length < 2048) :
    u.takeSafeLink c = u.updUplink (fun v => { v with held := v.held ++ [heldCopy u c none] }) := by
  have hhold : u.uplink.holdCopy (heldCopy u c none) = { u.uplink with held := u.uplink.held ++ [heldCopy u c none] } :=
    if_pos hroom
  unfold State.takeSafeLink
  dsimp only
  rw [if_neg h, if_neg (by omega), decide_eq_false (by omega)]
  exact congrArg (fun v => { u with uplink := v }) hhold

theorem takeSafeLink_drops {u : State} (h : u.module ≠ .standby) (hfull : 2048 ≤ u.uplink.held.length) : u.takeSafeLink c =
    (u.updUplink (fun v => { v with held := v.held.drop 1 ++ [heldCopy u c none], slDrop := v.slDrop + 1 })).raise
      .warn .slDrop .svc [] := by
  have hhold : u.uplink.holdCopy (heldCopy u c none) =
      { u.uplink with held := u.uplink.held.drop 1 ++ [heldCopy u c none], slDrop := u.uplink.slDrop + 1 } :=
    if_neg (by omega)
  unfold State.takeSafeLink
  dsimp only
  rw [if_neg h, if_pos hfull, decide_eq_false (by omega)]
  exact congrArg (fun v => State.raise { u with uplink := v } .warn .slDrop .svc []) hhold

/-! ### Lanes that take copies -/

@[simp] theorem uplink_forwardCopy (u : State) (cn : U32) (c : SlCopy) : (u.forwardCopy cn c).uplink = u.uplink := by
  unfold State.forwardCopy
  split <;> rfl

theorem forwardCopy_refused {u : State} (h : u.uplink.linkAccepted = false) (cn : U32) (c : SlCopy) :
    u.forwardCopy cn c = u := if_neg (by rw [h]; decide)

theorem lane_forwardCopy {u : State} (h : u.uplink.linkAccepted = true)
    (hv : u.laneState ln = .inVote ∨ u.laneState ln = .rejoining) (cn : U32) :
    (u.forwardCopy cn c).lane ln = { u.lane ln with slIn := (u.lane ln).slIn ++ [(cn, c)] } := by
  unfold State.forwardCopy
  rw [if_pos h, lane_mapLanes]
  exact if_pos hv

/-- The copies that a lane in the vote, or one that rejoins, takes one after the other. -/
theorem lane_forwardAll (cn : U32) (cs : List HeldCopy) {u : State} (h : u.uplink.linkAccepted = true)
    (hv : u.laneState ln = .inVote ∨ u.laneState ln = .rejoining) :
    (cs.foldl (fun s c => s.forwardCopy cn c.toSlCopy) u).lane ln =
      { u.lane ln with slIn := (u.lane ln).slIn ++ cs.map (fun c => (cn, c.toSlCopy)) } := by
  induction cs generalizing u with
  | nil => simp
  | cons c cs ih =>
    have hlane := lane_forwardCopy (c := c.toSlCopy) h hv cn
    have hstate : (u.forwardCopy cn c.toSlCopy).laneState ln = u.laneState ln := by
      unfold State.laneState
      rw [hlane]
    rw [List.foldl_cons, ih (by rw [uplink_forwardCopy, h]) (by rw [hstate]; exact hv), hlane]
    simp

theorem lanes_forwardAll_refused (cn : U32) (cs : List HeldCopy) {u : State} (h : u.uplink.linkAccepted = false) :
    cs.foldl (fun s c => s.forwardCopy cn c.toSlCopy) u = u := by
  induction cs with
  | nil => rfl
  | cons c cs ih => rw [List.foldl_cons, forwardCopy_refused h, ih]

theorem uplink_forwardAll (cn : U32) (cs : List HeldCopy) (u : State) :
    (cs.foldl (fun s c => s.forwardCopy cn c.toSlCopy) u).uplink = u.uplink :=
  foldl_preserves State.uplink _ (fun b (a : HeldCopy) => uplink_forwardCopy b cn a.toSlCopy) cs u

/-! ### The cut-off (R298) -/

/-- SVC once it has closed the batch of a cycle. -/
def batchClosed (s : State) (t0 : Nat) : State := s.updUplink (fun u => { u with
  batch := s.batchOf t0, batchCn := some s.uplink.cn, cutoffPassed := true
  held := u.held.map (fun c => if (s.batchOf t0).contains c then { c with sentIn := some s.uplink.cn } else c) })

/-- The copies of the batch that have not yet gone to the lanes in it. -/
def batchDue (s : State) (t0 : Nat) : List HeldCopy := (s.batchOf t0).filter (fun c => decide (c.sentIn ≠ some s.uplink.cn))

/-- The state once the copies of a batch have gone to the lanes. -/
def batchGiven (s : State) (t0 : Nat) : State :=
  (batchDue s t0).foldl (fun u c => u.forwardCopy s.uplink.cn c.toSlCopy) (batchClosed s t0)

theorem batchClose_eq (hnet : s.netOn = true) (hstart : s.uplink.cycleStart = some t0) (hcut : s.uplink.cutoffPassed = false) :
    exec .batchClose s = .next (if s.uplink.linkAccepted then
      (batchGiven s t0).mapLanes (fun ln L => Lane.takeBatch ln s.uplink.cn (s.uplink.cmds.take 16) L) else batchGiven s t0) := by
  show execBatchClose s = _
  unfold execBatchClose
  rw [hstart]
  exact if_pos ⟨hnet, by rw [hcut]; rfl⟩

theorem batchClose_uplink (x : Bool) (g : LaneId → Lane → Lane) :
    (if x then (batchGiven s t0).mapLanes g else batchGiven s t0).uplink = (batchClosed s t0).uplink := by
  have h : (batchGiven s t0).uplink = (batchClosed s t0).uplink := uplink_forwardAll _ _ _
  split <;> exact h

theorem lane_batchGiven (hacc : s.uplink.linkAccepted = true) (hv : s.laneState ln = .inVote ∨ s.laneState ln = .rejoining) :
    (batchGiven s t0).lane ln = { s.lane ln with
      slIn := (s.lane ln).slIn ++ (batchDue s t0).map (fun c => (s.uplink.cn, c.toSlCopy)) } :=
  lane_forwardAll (u := batchClosed s t0) s.uplink.cn (batchDue s t0) hacc hv

/-- A lane of the cycle takes the end of its batch in time, or counts it late (R199). -/
theorem takeBatch_of {cn : U32} {cmds : List SentCmd} {L : Lane} (hv : L.views.get ln = .inVote ∨ L.views.get ln = .rejoining)
    (hcn : L.cn = cn) : Lane.takeBatch ln cn cmds L =
      if L.phase = .idle then { L with batch := some cmds } else { L with late := L.late + 1 } := if_pos ⟨hv, hcn⟩

theorem batchOf_spec : (s.batchOf t0).length ≤ 512 ∧ ∀ c ∈ s.batchOf t0, c ∈ s.uplink.held ∧
    c.arrived ≤ t0 + 1400000 ∧ s.now < c.arrived + c.tmaxNs := by
  refine ⟨List.length_take_le _ _, fun c hc => ?_⟩
  obtain ⟨hmem, hok⟩ := List.mem_filter.1 (List.mem_of_mem_take hc)
  obtain ⟨h1, h2⟩ := Bool.and_eq_true_iff.1 hok
  exact ⟨hmem, of_decide_eq_true h1, of_decide_eq_true h2⟩

end

/-! ### Sending (R214, R305) -/

/-- What SVC keeps of the messages it sent last. -/
theorem sendPdu_frame (s : State) (key : Nat) (pdu : List Byte) :
    (s.sendPdu key pdu).uplink.sent = (key, pdu) :: s.uplink.sent.filter (fun e => decide (e.1 ≠ key)) ∧
    (s.sendPdu key pdu).uplink.launchHeld = s.uplink.launchHeld ∧
    (s.sendPdu key pdu).uplink.slReplaced = s.uplink.slReplaced ∧ (s.sendPdu key pdu).lanes = s.lanes := by
  obtain ⟨p, q, h⟩ := sent_sendPdu s key pdu
  rw [h]
  exact ⟨rfl, rfl, rfl, rfl⟩

/-- Sends in a row leave what is held, and the lanes. -/
theorem sendAll_frame (hs : List HeldLaunch) (s : State) :
    (hs.foldl (fun u h => u.sendPdu h.key h.pdu) s).uplink.launchHeld = s.uplink.launchHeld ∧
    (hs.foldl (fun u h => u.sendPdu h.key h.pdu) s).lanes = s.lanes :=
  ⟨foldl_preserves (fun u : State => u.uplink.launchHeld) _ (fun u (h : HeldLaunch) => (sendPdu_frame u h.key h.pdu).2.1) hs s,
    foldl_preserves State.lanes _ (fun u (h : HeldLaunch) => (sendPdu_frame u h.key h.pdu).2.2.2) hs s⟩

/-- A message number of which a PDU has been sent. -/
def HasSent (s : State) (key : Nat) : Prop := ∃ q, (key, q) ∈ s.uplink.sent

theorem hasSent_sendPdu_self (s : State) (key : Nat) (pdu : List Byte) : HasSent (s.sendPdu key pdu) key :=
  ⟨pdu, by rw [(sendPdu_frame s key pdu).1]; exact List.mem_cons_self⟩

theorem hasSent_sendPdu {s : State} {k : Nat} (h : HasSent s k) (key : Nat) (pdu : List Byte) : HasSent (s.sendPdu key pdu) k := by
  obtain ⟨q, hq⟩ := h
  by_cases hk : k = key
  · subst hk
    exact hasSent_sendPdu_self s k pdu
  · refine ⟨q, ?_⟩
    rw [(sendPdu_frame s key pdu).1]
    exact List.mem_cons_of_mem _ (List.mem_filter.2 ⟨hq, decide_eq_true hk⟩)

theorem hasSent_sendAll (hs : List HeldLaunch) (s : State) (k : Nat) (h : HasSent s k ∨ ∃ e ∈ hs, e.key = k) :
    HasSent (hs.foldl (fun u e => u.sendPdu e.key e.pdu) s) k := by
  induction hs generalizing s with
  | nil => exact h.resolve_right (by simp)
  | cons e hs ih =>
    refine ih (s.sendPdu e.key e.pdu) ?_
    rcases h with h | ⟨e', he', hk⟩
    · exact Or.inl (hasSent_sendPdu h _ _)
    · rcases List.mem_cons.1 he' with rfl | he'
      · exact Or.inl (hk ▸ hasSent_sendPdu_self s e'.key e'.pdu)
      · exact Or.inr ⟨e', he', hk⟩

theorem mem_insertSeq (h x : HeldLaunch) (xs : List HeldLaunch) : x ∈ insertSeq h xs ↔ x = h ∨ x ∈ xs := by
  induction xs with
  | nil => simp [insertSeq]
  | cons y ys ih =>
    unfold insertSeq
    split
    · exact List.mem_cons
    · rw [List.mem_cons, ih, List.mem_cons]
      exact or_left_comm

theorem mem_sorted (x : HeldLaunch) (xs : List HeldLaunch) : x ∈ xs.foldr insertSeq [] ↔ x ∈ xs := by
  induction xs with
  | nil => simp
  | cons y ys ih => rw [List.foldr_cons, mem_insertSeq, ih, List.mem_cons]

/-- What a launch leaves: the messages chosen are sent, the others stay held (R314). -/
theorem launch_spec (s : State) (p : HeldLaunch → Bool) :
    (s.launch p).uplink.launchHeld = s.uplink.launchHeld.filter (fun h => !p h) ∧ (s.launch p).lanes = s.lanes ∧
    ∀ h ∈ s.uplink.launchHeld, p h = true → HasSent (s.launch p) h.key := by
  obtain ⟨hheld, hlanes⟩ := sendAll_frame ((s.uplink.launchHeld.filter p).foldr insertSeq [])
    (s.updUplink (fun u => { u with launchHeld := u.launchHeld.filter (fun h => !p h) }))
  exact ⟨hheld, hlanes, fun h hh hp => hasSent_sendAll _ _ _ (Or.inr ⟨h, (mem_sorted h _).2 (List.mem_filter.2 ⟨hh, hp⟩), rfl⟩)⟩

section
variable {s : State} {conn msg t : Nat} {o : OutMsg} {pdu : List Byte} {l : Nat × Nat}

/-- The message counts as sent. -/
def marked (s : State) (key : Nat) (o : OutMsg) : State :=
  s.updUplink (fun u => { u with out := Tbl.set none u.out key (some { o with sent := true }) })

theorem slSend_now (hnet : s.netOn = true) (hmod : commandsNet s.module = true)
    (ho : Tbl.get none s.uplink.out (conn * 512 + msg) = some o) (hsent : o.sent = false) (hpdu : o.pdu = some pdu)
    (hl : s.launchOf conn = none ∨ s.ptp.locked = false) :
    exec (.safeLinkSend conn msg) s = .next ((marked s (conn * 512 + msg) o).sendPdu (conn * 512 + msg) pdu) := by
  show execSafeLinkSend conn msg s = _
  unfold execSafeLinkSend
  dsimp only
  rw [show (s.netOn && commandsNet s.module) = true by rw [hnet, hmod]; rfl, ho]
  dsimp only
  rw [hsent, hpdu]
  dsimp only
  rcases hl with hl | hl
  · rw [hl]
    rfl
  · rw [hl]
    split
    · contradiction
    · rfl

/-- The state once the message is held for its launch, and those whose instant has passed have left (R314). -/
def heldForLaunch (s : State) (key : Nat) (o : OutMsg) (pdu : List Byte) (l : Nat × Nat) : State :=
  ((marked s key o).launch (marked s key o).launchDue).updUplink (fun u =>
    u.holdLaunch ⟨key, pdu, nextLaunch (s.ptp.advance s.now).full l⟩)

theorem slSend_held (hnet : s.netOn = true) (hmod : commandsNet s.module = true)
    (ho : Tbl.get none s.uplink.out (conn * 512 + msg) = some o) (hsent : o.sent = false) (hpdu : o.pdu = some pdu)
    (hl : s.launchOf conn = some l) (hlock : s.ptp.locked = true) : exec (.safeLinkSend conn msg) s =
      .next (if (heldForLaunch s (conn * 512 + msg) o pdu l).uplink.slReplaced ≠ s.uplink.slReplaced then
        (heldForLaunch s (conn * 512 + msg) o pdu l).raise .info .slReplaced .svc [((conn : Nat) : Int), ((msg : Nat) : Int)]
        else heldForLaunch s (conn * 512 + msg) o pdu l) := by
  show execSafeLinkSend conn msg s = _
  unfold execSafeLinkSend
  dsimp only
  rw [show (s.netOn && commandsNet s.module) = true by rw [hnet, hmod]; rfl, ho]
  dsimp only
  rw [hsent, hpdu]
  dsimp only
  rw [hl, hlock]
  unfold heldForLaunch marked
  rfl

theorem slUnsigned_eq (hnet : s.netOn = true) (hmod : commandsNet s.module = true)
    (ho : Tbl.get none s.uplink.out (conn * 512 + msg) = some o) (hsent : o.sent = false) (hpdu : o.pdu = none) :
    exec (.slUnsigned conn msg) s = .next ((s.updUplink (fun u => { u with
      out := Tbl.set none u.out (conn * 512 + msg) none, slUnsigned := u.slUnsigned + 1 })).raise
        .warn .slUnsigned .svc [((conn : Nat) : Int), ((msg : Nat) : Int)]) := by
  show execSlUnsigned conn msg s = _
  unfold execSlUnsigned
  dsimp only
  rw [hnet, hmod, ho]
  exact if_pos (by rw [hsent, hpdu]; rfl)

/-- A PDU carries one body with the codes of two lanes that gave it (R214). -/
theorem pdu_pair (h : o.pdu = some pdu) : ∃ x y body cx cy, x ≠ y ∧ o.part x = some (body, cx) ∧ o.part y = some (body, cy) ∧
    pdu = body ++ cx ++ cy := by
  unfold OutMsg.pdu at h
  obtain ⟨⟨x, y⟩, hxy, hp⟩ := List.exists_of_findSome?_eq_some h
  have hne : x ≠ y := by
    simp only [List.mem_cons, List.not_mem_nil, or_false, Prod.mk.injEq] at hxy
    rcases hxy with ⟨rfl, rfl⟩ | ⟨rfl, rfl⟩ | ⟨rfl, rfl⟩ <;> decide
  dsimp only at hp
  split at hp
  next a b ha hb =>
    split at hp
    next hab =>
      obtain rfl := Option.some.inj hp
      exact ⟨x, y, a.1, a.2, b.2, hne, ha, by rw [hab]; exact hb, rfl⟩
    · contradiction
  · contradiction

theorem nextLaunch_spec {full : Int} (h : 0 < l.1) : ∃ n : Nat, n < l.1 ∧ nextLaunch full l = BitVec.ofInt 48 (full + n) ∧
    (full + n) % (l.1 : Int) = (l.2 : Int) % (l.1 : Int) := by
  have hpos : (0 : Int) < l.1 := Int.natCast_pos.2 h
  have h0 := Int.emod_nonneg ((l.2 : Int) - full) (ne_of_gt hpos)
  have hlt := Int.emod_lt_of_pos ((l.2 : Int) - full) hpos
  have hcast : ((((l.2 : Int) - full) % (l.1 : Int)).toNat : Int) = ((l.2 : Int) - full) % (l.1 : Int) := Int.toNat_of_nonneg h0
  refine ⟨(((l.2 : Int) - full) % (l.1 : Int)).toNat, by omega, ?_, ?_⟩
  · rw [hcast]
    rfl
  · rw [hcast, Int.add_emod, Int.emod_emod, ← Int.add_emod, add_sub_cancel]

end

/-! ### Lengths on the wire (R291) -/

theorem padTo_length (n : Nat) (bs : List Byte) : (padTo n bs).length = max n bs.length := by
  unfold padTo
  rw [List.length_append, List.length_replicate]
  omega

theorem leBytes_length (n v : Nat) : (leBytes n v).length = n := by
  induction n generalizing v with
  | zero => rfl
  | succ n ih => simp [leBytes, ih]

theorem udpPacket_length (src dst : U32) (port : Nat) (data : List Byte) : (udpPacket src dst port data).length = 28 + data.length := by
  unfold udpPacket ipPacket
  dsimp only
  simp only [List.length_append, beBytes_length]
  omega

theorem withRct_length (seq : Nat) (b : Bool) (p : List Byte) : (withRct seq b p).length = max 40 p.length + 6 := by
  unfold withRct
  dsimp only
  simp only [List.length_append, beBytes_length, padTo_length]

theorem netFrame_length (dst src : U48) (vlan : Option Nat) (et : Nat) (p : List Byte) :
    (netFrame dst src vlan et p).length = 18 + (if vlan.isSome then 4 else 0) + max 46 p.length := by
  unfold netFrame frameFcs
  cases vlan <;> simp only [List.length_append, beBytes_length, leBytes_length, padTo_length, List.length_nil,
    Option.isSome_none, Option.isSome_some, if_true, Bool.false_eq_true, if_false] <;> omega

/-- Settles O33: the cycle start, the copies and their cut-off, then sending at once, held, in time or not at all. -/
theorem safeLinkBatchAndSending : Obligations.SafeLinkBatchAndSending := by
  unfold Obligations.SafeLinkBatchAndSending
  refine ⟨?_, ?_⟩
  · intro s ln t port t0 f c s0 held L takes due given
    refine ⟨fun hup hrun hact => ⟨fun hnew => ⟨_, cycleStartNotice_first hup hrun hact hnew, cycleStarted_frame⟩,
      cycleStartNotice_later⟩, fun hnet hport hc => ?_, fun hnet hstart hcut => ?_, batchOf_spec, fun hnet => if_pos hnet⟩
    · obtain ⟨hlan, harr, hsl, -⟩ := copyIn_spec hc
      obtain ⟨hheld, hrx, hdrop, hacc, -, hnow, hlanes, hmod, hman⟩ := held_netKept (netKept_bridge s0 port f)
      have hexec := slFrameRx_eq hnet hport hc
      have hcopy : ∀ x, heldCopy (s0.bridge port f) c x = held x := fun x => by
        unfold heldCopy
        rw [hman]
        rfl
      have hheld' : (s0.bridge port f).uplink.held = s.uplink.held := hheld
      have hmod' : (s0.bridge port f).module = s.module := hmod
      have hlane : (s0.bridge port f).lane ln = L := lane_of_lanes hlanes ln
      refine ⟨hlan, harr, hsl, _, hexec, fun hst => ?_, fun hst hroom => ?_, fun hst hfull hroom => ?_, fun hst hfull => ?_⟩
      · rw [takeSafeLink_standby (hmod'.trans hst)]
        exact ⟨congrArg (· + 1) hrx, hheld, hlanes⟩
      · rw [takeSafeLink_now (by rw [hmod']; exact hst) (by rw [hheld']; exact hroom)]
        refine ⟨?_, fun ha hv => ?_⟩
        · rw [uplink_forwardCopy]
          unfold holdingNow
          rw [hcopy]
          exact congrArg₂ (fun a b => a ++ [held (some b)]) hheld hnow
        · have hlane' : (holdingNow (s0.bridge port f) c).lane ln = L := hlane
          have hv' : (holdingNow (s0.bridge port f) c).laneState ln = .inVote ∨
              (holdingNow (s0.bridge port f) c).laneState ln = .rejoining := by
            unfold State.laneState
            rw [hlane']
            exact hv
          exact (lane_forwardCopy (u := holdingNow (s0.bridge port f) c) (hacc.trans ha) hv' _).trans (by rw [hlane', hnow])
      · rw [takeSafeLink_later (by rw [hmod']; exact hst) (by rw [hheld']; exact hfull) (by rw [hheld']; exact hroom), hcopy]
        exact ⟨congrArg (· ++ [held none]) hheld, hlanes⟩
      · rw [takeSafeLink_drops (by rw [hmod']; exact hst) (by rw [hheld']; exact hfull), uplink_raise, lanes_raise, hcopy]
        exact ⟨congrArg (fun h : List HeldCopy => h.drop 1 ++ [held none]) hheld, congrArg (· + 1) hdrop, hlanes⟩
    · refine ⟨_, batchClose_eq hnet hstart hcut, ?_⟩
      rw [batchClose_uplink]
      refine ⟨rfl, rfl, rfl, fun hno => ?_, fun hyes hv hcn => ?_⟩
      · rw [hno, if_neg (by decide)]
        have hsame : batchGiven s t0 = batchClosed s t0 := lanes_forwardAll_refused _ _ hno
        rw [hsame]
        rfl
      · have hgiven : given = (batchDue s t0).map (fun c => (s.uplink.cn, c.toSlCopy)) := if_pos hyes
        rw [if_pos hyes, lane_mapLanes, lane_batchGiven hyes hv, takeBatch_of (by exact hv) (by exact hcn), hgiven]
        exact ⟨fun hph => if_pos hph, fun hph => if_neg hph⟩
  · intro s conn msg t o pdu l own ip port seq lanB dst src full key mk hnet hmod
    refine ⟨fun ho hsent => ⟨fun hpdu hl => ?_, fun hpdu hl hlock => ?_, fun hpdu => ?_⟩, pdu_pair, nextLaunch_spec, ?_, fun hlen => ?_⟩
    · obtain ⟨hs, -, -, hlanes⟩ := sendPdu_frame mk key pdu
      exact ⟨slSend_now hnet hmod ho hsent hpdu hl, hs, hlanes⟩
    · refine ⟨_, slSend_held hnet hmod ho hsent hpdu hl hlock, ?_⟩
      obtain ⟨hheld, hlanes, hdue⟩ := launch_spec (marked s key o) (marked s key o).launchDue
      have hframe : ∀ v : State, v.uplink = (heldForLaunch s key o pdu l).uplink → v.lanes = (heldForLaunch s key o pdu l).lanes →
          v.uplink.launchHeld = (s.uplink.launchHeld.filter (fun h => !s.launchDue h)).filter (fun h => decide (h.key ≠ key)) ++
            [⟨key, pdu, nextLaunch (s.ptp.advance s.now).full l⟩] ∧
          (∀ h ∈ s.uplink.launchHeld, s.launchDue h = true → ∃ q, (h.key, q) ∈ v.uplink.sent) ∧ v.lanes = s.lanes :=
        fun v hv hvl => by
          rw [hv, hvl]
          refine ⟨?_, hdue, hlanes⟩
          exact congrArg (fun hs : List HeldLaunch => hs.filter (fun h => decide (h.key ≠ key)) ++
            [⟨key, pdu, nextLaunch (s.ptp.advance s.now).full l⟩]) hheld
      split
      · exact hframe _ (uplink_raise _ _ _ _ _) (lanes_raise _ _ _ _ _)
      · exact hframe _ rfl rfl
    · refine ⟨_, slUnsigned_eq hnet hmod ho hsent hpdu, ?_⟩
      rw [uplink_raise, lanes_raise]
      exact ⟨Tbl_get_set_self none s.uplink.out key none, rfl, rfl, rfl⟩
    · obtain ⟨hheld, hlanes, hdue⟩ := launch_spec (s.touch t) (fun h => decide (h.key / 512 = conn) && (s.touch t).launchDue h)
      exact ⟨_, if_pos ⟨hnet, hmod⟩, hlanes, hheld,
        fun h hh hk hd => hdue h hh (by rw [decide_eq_true hk, hd]; rfl)⟩
    · rw [netFrame_length, netFrame_length, withRct_length, udpPacket_length, hlen]
      exact ⟨rfl, rfl⟩

end Sys2Proof.NetRules
end

section
/-! ## The uplink ports, and what a restart of SVC leaves as it is (R287-R289, R403, R431) -/

namespace Sys2Proof.NetRules

open Sys2Proof Sys2Proof.Machine Sys2Proof.Laws Sys2Proof.SvcUp Sys2Proof.VoteRules Sys2Proof.ConsRules Sys2Proof.ModuleRules
open Sys2Proof.VoteFlag (foldl_preserves)

/-! ### The bridge -/

/-- A frame that has gone through the bridge as far as the module's own interface (R289). -/
def passed (s : State) (port : Nat) (f : List Byte) (e : NetFrame) : State :=
  if e.dst ≠ s.uplink.mac ∧ netPasses e then (s.learn port e).putPort (netClass e) f (otherPort port) else s.learn port e

section
variable {s : State} {port : Nat} {f : List Byte} {e : NetFrame}

theorem sent_passed (s : State) (port : Nat) (f : List Byte) (e : NetFrame) :
    Sent (s.learn port e) (passed s port f e) := by
  unfold passed
  split
  · exact sent_putPort _ _ _ _
  · exact Sent.refl _

theorem bridge_open (he : netOpen f = some e) : s.bridge port f =
    if s.toModule e then (passed s port f e).ownNet (lanOfPort port) e else passed s port f e := by
  unfold State.bridge
  rw [he] <;> rfl

theorem netRx_plain (h : s.copyIn port f = none) : s.netRx port f = s.bridge port f := by
  unfold State.netRx
  rw [h] <;> rfl

theorem copyIn_none (he : netOpen f = some e) (h : s.toModule e = false ∨ s.netKind e ≠ .safeLink) :
    s.copyIn port f = none := by
  by_contra hc
  obtain ⟨c, hc⟩ := Option.ne_none_iff_exists'.1 hc
  obtain ⟨-, -, -, e', he', hto, hkind⟩ := copyIn_spec hc
  rw [he] at he'
  cases he'
  rcases h with h | h
  · rw [h] at hto
    contradiction
  · exact h hkind

theorem netRx_damaged (he : netOpen f = none) : s.netRx port f = s.updUplink (fun u => u.discard .damaged) := by
  have hc : s.copyIn port f = none := by
    unfold State.copyIn
    rw [he] <;> rfl
  rw [netRx_plain hc]
  unfold State.bridge
  rw [he] <;> rfl

theorem ownKept_bridge (he : netOpen f = some e) : OwnKept (s.learn port e) (s.bridge port f) := by
  rw [bridge_open he]
  split
  · exact (sent_passed s port f e).ownKept.trans (ownKept_ownNet _ _ _)
  · exact (sent_passed s port f e).ownKept

end

theorem stations_takeSafeLink (s : State) (c : SlCopy) :
    (s.takeSafeLink c).uplink.seen = s.uplink.seen ∧ (s.takeSafeLink c).uplink.nodes = s.uplink.nodes := by
  have hhold : ∀ (u : Uplink) (h : HeldCopy), (u.holdCopy h).seen = u.seen ∧ (u.holdCopy h).nodes = u.nodes := fun u h => by
    unfold Uplink.holdCopy
    split <;> exact ⟨rfl, rfl⟩
  have hpass : ∀ (now : Bool) (u : State), (if now then u.forwardCopy s.batchNow c else u).uplink = u.uplink := fun now u => by
    split
    · exact uplink_forwardCopy ..
    · rfl
  unfold State.takeSafeLink
  split
  · exact ⟨rfl, rfl⟩
  · dsimp only
    split
    · rw [uplink_of_outer (outer_raise _ _ _ _ _), hpass]
      exact hhold _ _
    · rw [hpass]
      exact hhold _ _

/-- What every frame that is not damaged leaves of its station (R287, R289). -/
theorem stations_netRx {s : State} {port : Nat} {f : List Byte} {e : NetFrame} (he : netOpen f = some e) :
    (s.netRx port f).uplink.seen = (s.learn port e).uplink.seen ∧ (s.netRx port f).uplink.nodes = (s.learn port e).uplink.nodes := by
  have hb : (s.bridge port f).uplink.seen = (s.learn port e).uplink.seen ∧
      (s.bridge port f).uplink.nodes = (s.learn port e).uplink.nodes := by
    obtain ⟨U, n, hU, hkeep⟩ := ownKept_bridge (port := port) (s := s) he
    rw [hU]
    have h1 := congrArg Uplink.seen hkeep
    have h2 := congrArg Uplink.nodes hkeep
    exact ⟨h1, h2⟩
  unfold State.netRx
  dsimp only
  split
  · exact hb
  · exact ⟨(stations_takeSafeLink _ _).1.trans hb.1, (stations_takeSafeLink _ _).2.trans hb.2⟩

/-! ### What the module takes (R288) -/

section
variable {s : State} {b : Bool} {e : NetFrame} {k : UplinkKind}

/-- The kinds that are discarded and counted. -/
def discardedKinds : List UplinkKind := [.tcp, .udpOther, .icmpOther, .ipOther, .vlanOther, .damaged, .other]

theorem takeNet_discards (hk : s.netKind e = k) (hd : k ∈ discardedKinds) :
    s.takeNet b e = s.updUplink (fun u => u.discard k) := by
  unfold State.takeNet
  dsimp only
  rw [hk]
  simp only [discardedKinds, List.mem_cons, List.not_mem_nil, or_false] at hd
  rcases hd with rfl | rfl | rfl | rfl | rfl | rfl | rfl <;> rfl

/-- The state once a frame is counted as taken. -/
def counted (s : State) : State := s.updUplink (fun u => { u with taken := u.taken + 1 })

theorem takeNet_arp (hk : s.netKind e = .arp) : s.takeNet b e = (counted s).takeArp b e := by
  unfold State.takeNet
  dsimp only
  rw [hk] <;> rfl

theorem takeNet_echo (hk : s.netKind e = .icmpEcho) : s.takeNet b e = (counted s).takeEcho e := by
  unfold State.takeNet
  dsimp only
  rw [hk] <;> rfl

theorem takeNet_supervision (hk : s.netKind e = .prpSupervision) : s.takeNet b e = counted s := by
  unfold State.takeNet
  dsimp only
  rw [hk] <;> rfl

theorem taken_takeArp (s : State) (b : Bool) (e : NetFrame) : (s.takeArp b e).uplink.taken = s.uplink.taken := by
  unfold State.takeArp
  split
  · dsimp only
    split
    · next mac _ _ _ _ _ _ =>
      obtain ⟨p, q, hq⟩ := sent_sendPrp _ (fun _ => mac) 2 etherArp _
      rw [hq] <;> rfl
    · rfl
  · rfl

theorem taken_takeEcho (s : State) (e : NetFrame) : (s.takeEcho e).uplink.taken = s.uplink.taken := by
  unfold State.takeEcho
  split
  · dsimp only
    split
    · obtain ⟨p, q, hq⟩ := sent_sendPrp s (fun _ => e.src) 2 etherIpv4 _
      rw [hq] <;> rfl
    · rfl
  · rfl

theorem taken_takeNet (hk : s.netKind e = k) (h : k = .arp ∨ k = .icmpEcho ∨ k = .prpSupervision) :
    (s.takeNet b e).uplink.taken = s.uplink.taken + 1 := by
  rcases h with rfl | rfl | rfl
  · rw [takeNet_arp hk, taken_takeArp] <;> rfl
  · rw [takeNet_echo hk, taken_takeEcho] <;> rfl
  · rw [takeNet_supervision hk] <;> rfl

/-- A request for the module's own address teaches it the sender, and is answered where the module sends (R288). -/
theorem takeArp_request {mac : U48} {ip own : U32} (harp : arpOpen e.body = some (1, mac, ip, own)) (hown : s.ipv4 = some own) :
    Tbl.get none (s.takeArp b e).uplink.macs (macKey b ip) = some mac ∧
    (s.netSends = true → (s.takeArp b e).uplink.answered = s.uplink.answered + 1) := by
  unfold State.takeArp
  rw [harp, hown]
  dsimp only
  split
  · obtain ⟨p, q, hq⟩ := sent_sendPrp (s.updUplink (fun u => { u with macs := Tbl.set none u.macs (macKey b ip) (some mac) }))
      (fun _ => mac) 2 etherArp (arpReply s.uplink.mac own mac ip)
    rw [hq]
    exact ⟨Tbl_get_set_self none s.uplink.macs (macKey b ip) (some mac), fun _ => rfl⟩
  next hno =>
    refine ⟨Tbl_get_set_self none s.uplink.macs (macKey b ip) (some mac), fun hs => absurd ⟨rfl, rfl, hs⟩ hno⟩

/-- An eleventh echo request within a second is not answered (R288). -/
theorem takeEcho_full (h : 10 ≤ (s.uplink.echoTimes.filter (fun t => decide (s.now < t + 1000000000))).length) :
    (s.takeEcho e).uplink.answered = s.uplink.answered := by
  unfold State.takeEcho
  split
  · dsimp only
    split
    next hfew => exact absurd hfew.1 (by omega)
    · rfl
  · rfl

/-- A frame that is neither PTP nor a safe-link copy: the second copy is counted, the first is taken and kept (R287). -/
theorem ownNet_eq (hptp : s.netKind e ≠ .ptp) (hsl : s.netKind e ≠ .safeLink) : s.ownNet b e =
    if s.twin b e then s.updUplink (fun u => { u with twins := u.twins + 1 }) else (s.takeNet b e).keepCopy b e :=
  if_neg (not_or.2 ⟨hptp, hsl⟩)

/-- The uplink state but for the copies kept under PRP. -/
theorem uplink_keepCopy (s : State) (b : Bool) (e : NetFrame) :
    ∃ c, (s.keepCopy b e).uplink = { s.uplink with copies := c } := by
  unfold State.keepCopy
  split
  · exact ⟨s.uplink.copies, rfl⟩
  · exact ⟨_, rfl⟩

end

/-! ### Queues of a port (R289) -/

section
variable {k : Nat} {q r : List (Nat × List Byte)} {x : Nat × List Byte}

theorem firstOf_mem (h : nextOut.firstOf k q = some (x, r)) : x ∈ q ∧ x.1 = k := by
  induction q generalizing r with
  | nil => cases h
  | cons e q ih =>
    unfold nextOut.firstOf at h
    split at h
    next he =>
      cases h
      exact ⟨List.mem_cons_self, he⟩
    · obtain ⟨⟨x', r'⟩, hx, heq⟩ := Option.map_eq_some_iff.1 h
      cases heq
      exact (ih hx).imp_left (List.mem_cons_of_mem e)

theorem firstOf_none (h : nextOut.firstOf k q = none) : ∀ y ∈ q, y.1 ≠ k := by
  induction q with
  | nil => exact fun y hy => absurd hy List.not_mem_nil
  | cons e q ih =>
    unfold nextOut.firstOf at h
    split at h
    · cases h
    next he =>
      exact List.forall_mem_cons.2 ⟨he, ih (Option.map_eq_none_iff.1 h)⟩

/-- The frame that goes next is of the lowest class that waits. -/
theorem nextOut_lowest (h : nextOut q = some (x, r)) : x ∈ q ∧ ∀ y ∈ q, x.1 ≤ y.1 := by
  unfold nextOut at h
  cases h0 : nextOut.firstOf 0 q with
  | some z =>
    rw [h0] at h
    cases h
    obtain ⟨hm, hx⟩ := firstOf_mem h0
    exact ⟨hm, fun y _ => by omega⟩
  | none =>
    have hno0 := firstOf_none h0
    rw [h0] at h
    cases h1 : nextOut.firstOf 1 q with
    | some z =>
      rw [h1] at h
      cases h
      obtain ⟨hm, hx⟩ := firstOf_mem h1
      exact ⟨hm, fun y hy => by have := hno0 y hy; omega⟩
    | none =>
      have hno1 := firstOf_none h1
      rw [h1] at h
      obtain ⟨hm, hx⟩ := firstOf_mem h
      exact ⟨hm, fun y hy => by have := hno0 y hy; have := hno1 y hy; omega⟩

end

/-! ### Loss and recovery of SVC (R403, R431) -/

/-- A lane with the vote, the switches, the coded words and the signatures of another. -/
def SameTally (L M : Lane) : Prop :=
  M.views = L.views ∧ M.switches = L.switches ∧ M.copy1 = L.copy1 ∧ M.copy2 = L.copy2 ∧ M.sigs = L.sigs

theorem holdFree_sameTally (L : Lane) : HoldFree (SameTally L) := by
  intro M e h
  unfold Lane.hold
  split <;> exact h

section
variable {s : State}

theorem sameTally_breakLoad (s : State) (ln : LaneId) : SameTally (s.lane ln) (s.breakLoad.lane ln) := by
  unfold State.breakLoad
  split
  · exact ⟨rfl, rfl, rfl, rfl, rfl⟩
  · show SameTally (s.lane ln) ((s.mapLanes _).lane ln)
    rw [lane_mapLanes]
    split <;> exact ⟨rfl, rfl, rfl, rfl, rfl⟩

theorem image_breakLoad (s : State) (ln : LaneId) : (s.breakLoad.lane ln).image = (s.lane ln).image := by
  unfold State.breakLoad
  split
  · rfl
  · show ((s.mapLanes _).lane ln).image = _
    rw [lane_mapLanes]
    split <;> rfl

theorem frame_breakLoad (s : State) : s.breakLoad.module = s.module ∧ s.breakLoad.access = s.access ∧
    s.breakLoad.change.running = s.change.running := by
  unfold State.breakLoad
  split <;> exact ⟨rfl, rfl, rfl⟩

theorem lead_of_views {u : State} (h : ∀ ln, (u.lane ln).views = (s.lane ln).views) : u.lead = s.lead := by
  have hv : u.voters = s.voters := voters_of_laneState fun m => congrArg (fun V => V.get m) (h m)
  unfold State.lead
  rw [hv]

/-- The manifest that the module runs stays when SVC stops. -/
theorem man_svcDown (s : State) : s.svcDown.man = s.man := by
  have hlead : s.svcDown.lead = s.lead := lead_of_views fun ln => (sameTally_breakLoad s ln).1
  show (s.svcDown.lane s.svcDown.lead).image = (s.lane s.lead).image
  rw [hlead]
  exact image_breakLoad s s.lead

/-- The module with SVC restarted on a firmware revision, before it is judged (R403). -/
def svcRestarted (s : State) (rev : U32) (good : Bool) : State :=
  let s1 := s.svcDown
  { s1 with change := { s1.change with running := s1.comboWith rev }, uplink := { s1.uplink with linkAccepted := good } }

/-- The lanes accept a set that the manifest names, or any where there is none. -/
def accepts (m : Option Manifest) (c : Combo) : Bool :=
  match m with
  | none => true
  | some m => inCombo m.hdr c

theorem svcRestart_eq {rev : U32} (hon : s.svcOn = true) (h : runsCycle s.module = true ∨ s.module = .halt) :
    exec (.svcRestart rev) s =
      let c := s.svcDown.comboWith rev
      let good := accepts s.svcDown.man c
      fin (if good then svcRestarted s rev good else (svcRestarted s rev good).raiseModule .fault .comboUntested
        [(c.lane.toNat : Int), (c.svc.toNat : Int), (c.plane.toNat : Int)]) :=
  if_pos ⟨hon, h⟩

theorem comboWith_svcDown (s : State) (rev : U32) : s.svcDown.comboWith rev = s.comboWith rev := by
  have h : s.svcDown.change.running = s.change.running := (frame_breakLoad s).2.2
  unfold State.comboWith
  rw [h]

/-- What a restart of SVC leaves, whether its firmware set is named or not. -/
theorem svcRestart_spec {rev : U32} (hon : s.svcOn = true) (h : runsCycle s.module = true ∨ s.module = .halt) :
    ∃ u, exec (.svcRestart rev) s = .next u ∧ outer u = { outer (svcRestarted s rev (accepts s.man (s.comboWith rev))) with
      lanes2of2 := u.lanes2of2 } ∧ ∀ ln, SameTally (s.lane ln) (u.lane ln) := by
  rw [svcRestart_eq hon h, man_svcDown, comboWith_svcDown]
  refine ⟨_, rfl, ?_, fun ln => settle_of (holdFree_sameTally _) ?_⟩
  · rw [outer_settle]
    split
    · rfl
    · rw [outer_raiseModule]
  · have hln : SameTally (s.lane ln) ((svcRestarted s rev (accepts s.man (s.comboWith rev))).lane ln) := sameTally_breakLoad s ln
    split
    · exact hln
    · exact raiseModule_of (holdFree_sameTally _) _ _ _ hln

theorem lane_deliver_self (s : State) (ln : LaneId) :
    (s.deliver ln).lane ln = { s.lane ln with heldEvents := [], lostEvents := 0 } :=
  lane_updLane_self s ln (fun L => { L with heldEvents := [], lostEvents := 0 })

theorem lane_deliver_ne {ln m : LaneId} (h : m ≠ ln) : (s.deliver ln).lane m = s.lane m :=
  lane_updLane_ne s (fun L => { L with heldEvents := [], lostEvents := 0 }) h

theorem lane_deliverAll (s : State) (m : LaneId) : s.deliverAll.lane m =
    { s.lane m with heldEvents := [], lostEvents := 0, lateChanges := [] } := by
  have hall : (LaneId.all.foldl State.deliver s).lane m = { s.lane m with heldEvents := [], lostEvents := 0 } := by
    show (((s.deliver .l1).deliver .l2).deliver .l3).lane m = _
    cases m with
    | l1 => rw [lane_deliver_ne (by decide), lane_deliver_ne (by decide), lane_deliver_self]
    | l2 => rw [lane_deliver_ne (by decide), lane_deliver_self, lane_deliver_ne (by decide)]
    | l3 => rw [lane_deliver_self, lane_deliver_ne (by decide), lane_deliver_ne (by decide)]
  show ((LaneId.all.foldl State.deliver s).mapLanes _).lane m = _
  rw [lane_mapLanes, hall]

/-- The state but for its lanes, the logbook, the snapshot network and the Wharf bus. -/
def svcFree (s : State) : State := { outer s with snap := {}, wb := [] }

theorem svcFree_placeWb (s : State) (ch : Nat) (c : WbChan) :
    svcFree (s.placeWb ch c) = svcFree s ∧ (s.placeWb ch c).lanes = s.lanes := by
  have hr : ∀ n x, svcFree ((s.putChan ch c).raise .warn n .svc x) = svcFree s ∧
      ((s.putChan ch c).raise .warn n .svc x).lanes = s.lanes := fun n x =>
    ⟨congrArg (fun t : State => { t with snap := {}, wb := [] }) (outer_raise (s.putChan ch c) .warn n .svc x), lanes_raise ..⟩
  unfold State.placeWb
  dsimp only
  split
  · exact hr _ _
  · split
    · exact hr _ _
    · exact ⟨rfl, rfl⟩

theorem svcFree_configureWb (s : State) (b : ManBody) :
    svcFree (s.configureWb b) = svcFree s ∧ (s.configureWb b).lanes = s.lanes :=
  ⟨foldl_preserves svcFree _ (fun t (e : Nat × WbCfg) => (svcFree_placeWb t e.1 _).1) b.wb _,
    foldl_preserves State.lanes _ (fun t (e : Nat × WbCfg) => (svcFree_placeWb t e.1 _).2) b.wb _⟩

theorem svcFree_deliverAll (s : State) : svcFree s.deliverAll = svcFree s := by
  have h : ∀ (t : State) (ln : LaneId), svcFree (t.deliver ln) = svcFree t := fun _ _ => rfl
  have hall : svcFree (LaneId.all.foldl State.deliver s) = svcFree s := foldl_preserves svcFree _ h LaneId.all s
  have hchanges : ∀ t : State, svcFree t.deliverChanges = svcFree t := fun _ => rfl
  unfold State.deliverAll
  rw [hchanges, hall]

theorem svcFree_stageDeferred (s : State) : svcFree s.stageDeferred = svcFree s ∧ s.stageDeferred.lanes = s.lanes := by
  unfold State.stageDeferred
  split <;> exact ⟨rfl, rfl⟩

/-- SVC as it comes up again. -/
def svcUp (s : State) : State := s.updUplink (fun u => { u with up := true, limited := s.bist.marks.contains .svc })

/-- SVC with its channels of the Wharf bus set up. -/
def svcBack (s : State) : State :=
  match (svcUp s).body with
  | none => svcUp s
  | some b => (svcUp s).configureWb b

theorem svcBack_frame (s : State) : svcFree (svcBack s) = svcFree (svcUp s) ∧ (svcBack s).lanes = s.lanes := by
  unfold svcBack
  split
  · exact ⟨rfl, rfl⟩
  · exact svcFree_configureWb (svcUp s) _

theorem svcRecovery_eq (hon : s.svcOn = true) (hup : s.uplink.up = false) (hacc : s.uplink.linkAccepted = true) :
    exec .svcRecovery s = .next ((svcBack s).deliverAll.stageDeferred) :=
  if_pos ⟨hon, by rw [hup]; rfl, hacc⟩

/-- Once SVC works again the lanes hold no event for it, and nothing else of them has changed (R431). -/
theorem svcRecovery_spec (hon : s.svcOn = true) (hup : s.uplink.up = false) (hacc : s.uplink.linkAccepted = true) :
    ∃ u, exec .svcRecovery s = .next u ∧ svcFree u = svcFree (svcUp s) ∧
      ∀ ln, u.lane ln = { s.lane ln with heldEvents := [], lostEvents := 0, lateChanges := [] } := by
  refine ⟨_, svcRecovery_eq hon hup hacc, ?_, fun ln => ?_⟩
  · exact ((svcFree_stageDeferred (svcBack s).deliverAll).1.trans (svcFree_deliverAll (svcBack s))).trans (svcBack_frame s).1
  · have h1 : (svcBack s).deliverAll.stageDeferred.lane ln = (svcBack s).deliverAll.lane ln :=
      congrArg (fun T => T.get ln) (svcFree_stageDeferred (svcBack s).deliverAll).2
    have h2 : (svcBack s).lane ln = s.lane ln := congrArg (fun T => T.get ln) (svcBack_frame s).2
    rw [h1, lane_deliverAll, h2]

theorem svcRecovery_refused (hacc : s.uplink.linkAccepted = false) : exec .svcRecovery s = .next s :=
  if_neg (fun h => absurd h.2.2 (by rw [hacc]; decide))

end

/-! ### The settled obligation -/

section
variable {s : State} {port t : Nat} {f : List Byte} {e : NetFrame}

theorem uplinkFrameRx_eq (hnet : s.netOn = true) (hport : s.portUp port = true) :
    exec (.uplinkFrameRx port f t) s = .next ((s.touch t).netRx port f) := if_pos ⟨hnet, hport⟩

theorem supervision_eq (hs : s.netSends = true)
    (hdue : ∀ l, s.uplink.lastSupervision = some l → l + 2000000000 ≤ max s.now t) :
    exec (.prpSupervisionSend t) s = .next (((s.touch t).sendPrp (fun _ => prpDestination) 2 etherPrp
      (prpSupervision s.uplink.mac (s.uplink.supervisionSent % 65536))).updUplink (fun u =>
        { u with supervisionSent := u.supervisionSent + 1, lastSupervision := some (max s.now t) })) := by
  refine if_pos ?_
  refine Bool.and_eq_true_iff.2 ⟨hs, ?_⟩
  show (match s.uplink.lastSupervision with
    | none => true
    | some l => decide (l + 2000000000 ≤ max s.now t)) = true
  split
  · rfl
  next l hl => exact decide_eq_true (hdue l hl)

/-- A frame of the module's own that is neither PTP nor a safe-link copy: what its second copy, and what its first, counts. -/
theorem netRx_own (he : netOpen f = some e) (hto : s.toModule e = true) (hptp : s.netKind e ≠ .ptp)
    (hsl : s.netKind e ≠ .safeLink) : s.netRx port f =
      if s.twin (lanOfPort port) e then (passed s port f e).updUplink (fun u => { u with twins := u.twins + 1 })
      else ((passed s port f e).takeNet (lanOfPort port) e).keepCopy (lanOfPort port) e := by
  obtain ⟨p, q, hp⟩ := sent_passed s port f e
  have hkind : (passed s port f e).netKind e = s.netKind e := by rw [hp] <;> rfl
  have htwin : (passed s port f e).twin (lanOfPort port) e = s.twin (lanOfPort port) e := by rw [hp] <;> rfl
  rw [netRx_plain (copyIn_none he (.inr hsl)), bridge_open he, if_pos hto, ownNet_eq (by rwa [hkind]) (by rwa [hkind]), htwin]

theorem learn_nodes (h : e.etherType = etherPrp ∨ e.rct.isSome = true) :
    Tbl.get none (s.learn port e).uplink.nodes e.src.toNat = some s.now := by
  show Tbl.get none (if e.etherType = etherPrp ∨ e.rct.isSome = true then Tbl.set none s.uplink.nodes e.src.toNat (some s.now)
    else s.uplink.nodes) _ = _
  rw [if_pos h]
  exact Tbl_get_set_self none s.uplink.nodes e.src.toNat (some s.now)

theorem ptpOther_of {k : UplinkKind} (h : k = .arp ∨ k = .icmpEcho ∨ k = .prpSupervision ∨ k ∈ discardedKinds) :
    k ≠ .ptp ∧ k ≠ .safeLink := by
  rcases h with rfl | rfl | rfl | h
  · exact ⟨by decide, by decide⟩
  · exact ⟨by decide, by decide⟩
  · exact ⟨by decide, by decide⟩
  · exact ⟨fun hk => absurd (hk ▸ h) (by decide), fun hk => absurd (hk ▸ h) (by decide)⟩

/-- What the first copy of a frame of the module's own leaves in the counts (R287, R288). -/
theorem netRx_first (he : netOpen f = some e) (hto : s.toModule e = true) (htwin : s.twin (lanOfPort port) e = false)
    (hk : s.netKind e = .arp ∨ s.netKind e = .icmpEcho ∨ s.netKind e = .prpSupervision ∨ s.netKind e ∈ discardedKinds) :
    ∃ p q, ∃ U : State, ∃ c, U.uplink = { (s.learn port e).uplink with ports := p, prpSeq := q } ∧ U.netKind e = s.netKind e ∧
      U.ipv4 = s.ipv4 ∧ U.netSends = s.netSends ∧ U.now = s.now ∧
      (s.netRx port f).uplink = { (U.takeNet (lanOfPort port) e).uplink with copies := c } := by
  obtain ⟨hptp, hsl⟩ := ptpOther_of hk
  obtain ⟨p, q, hp⟩ := sent_passed s port f e
  obtain ⟨c, hc⟩ := uplink_keepCopy ((passed s port f e).takeNet (lanOfPort port) e) (lanOfPort port) e
  rw [netRx_own he hto hptp hsl, if_neg (by rw [htwin]; exact Bool.false_ne_true), hc]
  exact ⟨p, q, passed s port f e, c, by rw [hp]; rfl, by rw [hp]; rfl, by rw [hp]; rfl, by rw [hp]; rfl, by rw [hp]; rfl, rfl⟩

end

/-- Settles O34: a frame goes through the bridge before the module counts, learns and answers; SVC's loss and recovery change
no lane but in its events. -/
theorem uplinkPortsAndService : Obligations.UplinkPortsAndService := by
  unfold Obligations.UplinkPortsAndService
  refine ⟨fun s port t f e mac ip own => ?_, fun q r x _ h => nextOut_lowest h, fun s rev => ?_⟩
  · dsimp only
    intro hnet hport
    refine ⟨fun hbad => ⟨_, uplinkFrameRx_eq hnet hport, ?_⟩, fun he => ⟨fun hto => ?_, _, uplinkFrameRx_eq hnet hport, ?_⟩,
      fun hs hdue => supervision_eq hs hdue⟩
    · rw [netRx_damaged hbad]
      exact ⟨Tbl_get_upd_self 0 s.uplink.discarded 11 (· + 1), rfl, rfl⟩
    · have hto' : (s.touch t).toModule e = false := hto
      rw [uplinkFrameRx_eq hnet hport, netRx_plain (copyIn_none he (.inl hto')), bridge_open he,
        if_neg (by rw [hto']; exact Bool.false_ne_true)]
      have hmac : e.dst ≠ s.uplink.mac := by
        intro h
        unfold State.toModule at hto
        rw [h] at hto
        simp at hto
      have hpass : (e.dst ≠ s.uplink.mac ∧ netPasses e = true) = (netPasses e = true) := by
        rw [eq_iff_iff]
        exact ⟨And.right, fun h => ⟨hmac, h⟩⟩
      unfold passed
      show Host.Outcome.next (if e.dst ≠ s.uplink.mac ∧ netPasses e = true then _ else _) = _
      simp only [hpass]
    obtain ⟨hseen, hnodes⟩ := stations_netRx (s := s.touch t) (port := port) he
    refine ⟨?_, fun h => ?_, fun hk => ?_, fun hto htwin hptp hsl => ?_, fun hto htwin => ⟨fun hk => ?_, fun hk => ?_, fun hk harp hown => ?_,
      fun hk hfull => ?_⟩⟩
    · rw [hseen]
      exact Tbl_get_set_self none s.uplink.seen (seenKey port e.src) (some (port, max s.now t))
    · rw [hnodes]
      exact learn_nodes h
    · rw [netRx_plain (copyIn_none he (.inr hk))]
      exact (held_netKept (netKept_bridge (s.touch t) port f)).2.2.2.2.2.2.1
    · rw [netRx_own (s := s.touch t) he hto hptp hsl, if_pos htwin]
      obtain ⟨p, q, hp⟩ := sent_passed (s.touch t) port f e
      rw [hp]
      exact ⟨rfl, rfl, rfl⟩
    · have hk' : (s.touch t).netKind e = .arp ∨ (s.touch t).netKind e = .icmpEcho ∨ (s.touch t).netKind e = .prpSupervision ∨
          (s.touch t).netKind e ∈ discardedKinds := hk.imp_right (Or.imp_right .inl)
      obtain ⟨p, q, U, c, hU, hkU, -, -, -, hu⟩ := netRx_first (s := s.touch t) (port := port) he hto htwin hk'
      rw [hu]
      have htaken := congrArg Uplink.taken hU
      exact (taken_takeNet (k := (s.touch t).netKind e) hkU hk).trans (congrArg (· + 1) htaken)
    · obtain ⟨p, q, U, c, hU, hkU, -, -, -, hu⟩ := netRx_first (s := s.touch t) (port := port) he hto htwin (.inr (.inr (.inr hk)))
      rw [hu, takeNet_discards hkU hk]
      have hdisc : U.uplink.discarded = s.uplink.discarded := by rw [hU]; rfl
      have htaken : U.uplink.taken = s.uplink.taken := by rw [hU]; rfl
      have hans : U.uplink.answered = s.uplink.answered := by rw [hU]; rfl
      refine ⟨?_, htaken, hans⟩
      rw [← hdisc]
      exact Tbl_get_upd_self 0 U.uplink.discarded (kindIdx ((s.touch t).netKind e)) (· + 1)
    · obtain ⟨p, q, U, c, hU, hkU, hip, hsends, -, hu⟩ := netRx_first (s := s.touch t) (port := port) he hto htwin (.inl hk)
      rw [hu, takeNet_arp (hkU.trans hk)]
      obtain ⟨hmac, hans⟩ := takeArp_request (s := counted U) (b := lanOfPort port) harp (hip.trans hown)
      refine ⟨hmac, fun hs => (hans (hsends.trans hs)).trans ?_⟩
      have hans : U.uplink.answered = s.uplink.answered := by rw [hU]; rfl
      exact congrArg (· + 1) hans
    · obtain ⟨p, q, U, c, hU, hkU, -, -, hnow, hu⟩ := netRx_first (s := s.touch t) (port := port) he hto htwin (.inr (.inl hk))
      rw [hu, takeNet_echo (hkU.trans hk)]
      have hrecent : 10 ≤ ((counted U).uplink.echoTimes.filter (fun t => decide ((counted U).now < t + 1000000000))).length := by
        show 10 ≤ (U.uplink.echoTimes.filter (fun t => decide (U.now < t + 1000000000))).length
        rw [hU, hnow]
        exact hfull
      have hans : U.uplink.answered = s.uplink.answered := by rw [hU]; rfl
      exact (takeEcho_full hrecent).trans hans
  · dsimp only
    intro hon
    refine ⟨fun hrun => ?_, fun hup hacc => ?_, fun _ hacc => svcRecovery_refused hacc⟩
    · obtain ⟨u, hu, ho, hlanes⟩ := svcRestart_spec (rev := rev) hon hrun
      have hup := congrArg State.uplink ho
      have hacc := congrArg State.access ho
      have hch := congrArg State.change ho
      have hmod := congrArg State.module ho
      change u.uplink = (svcRestarted s rev (accepts s.man (s.comboWith rev))).uplink at hup
      change u.access = (svcRestarted s rev (accepts s.man (s.comboWith rev))).access at hacc
      change u.change = (svcRestarted s rev (accepts s.man (s.comboWith rev))).change at hch
      change u.module = s.svcDown.module at hmod
      refine ⟨u, hu, by rw [hup]; rfl, by rw [hacc]; rfl, by rw [hup]; rfl, ?_, fun m hm => ?_, hmod.trans (frame_breakLoad s).1, hlanes⟩
      · rw [hch]
        exact comboWith_svcDown s rev
      · rw [hup]
        show accepts s.man (s.comboWith rev) = _
        rw [hm] <;> rfl
    · obtain ⟨u, hu, ho, hlanes⟩ := svcRecovery_spec hon hup hacc
      have hupl : u.uplink = (svcUp s).uplink := by
        have h := congrArg State.uplink ho
        exact h
      have hmod : u.module = s.module := by
        have h := congrArg State.module ho
        exact h
      refine ⟨u, hu, by rw [hupl]; rfl, fun ln => ?_, hmod, fun ln => ?_⟩
      · rw [hlanes]
        exact ⟨rfl, rfl, rfl⟩
      · rw [hlanes]
        exact ⟨rfl, rfl, rfl, rfl, rfl⟩

end Sys2Proof.NetRules
end

section
/-! ## The PTP clock of SVC: its offsets, its master and its peer delays (R307-R313) -/

namespace Sys2Proof.PtpRules

open Sys2Proof Sys2Proof.Machine Sys2Proof.Laws Sys2Proof.NetRules Sys2Proof.ConsRules
open Sys2Proof.VoteFlag (foldl_preserves)

/-! ### Held launches that go -/

section
variable (s : State)

theorem ptp_launch (p : HeldLaunch → Bool) : (s.launch p).ptp = s.ptp := by
  have hsend : ∀ (u : State) (h : HeldLaunch), (u.sendPdu h.key h.pdu).ptp = u.ptp := fun u h => by
    obtain ⟨x, y, hxy⟩ := sent_sendPdu u h.key h.pdu
    rw [hxy] <;> rfl
  exact foldl_preserves State.ptp _ hsend _ _

theorem launch_all : (s.launch (fun _ => true)).ptp = s.ptp ∧ (s.launch (fun _ => true)).lanes = s.lanes ∧
    (s.launch (fun _ => true)).uplink.launchHeld = [] := by
  obtain ⟨hheld, hlanes, -⟩ := launch_spec s (fun _ => true)
  exact ⟨ptp_launch s _, hlanes, hheld.trans (by simp)⟩

theorem freeLaunches_frame : s.freeLaunches.ptp = s.ptp ∧ s.freeLaunches.lanes = s.lanes ∧
    (s.ptp.locked = false → s.freeLaunches.uplink.launchHeld = []) := by
  unfold State.freeLaunches
  split
  next h => exact ⟨rfl, rfl, fun hno => absurd h (by rw [hno]; exact Bool.false_ne_true)⟩
  · obtain ⟨hptp, hlanes, hheld⟩ := launch_all s
    exact ⟨hptp, hlanes, fun _ => hheld⟩

end

/-! ### What an offset does to the clock (R311-R313) -/

/-- A lock state fits an offset: eight in a row within 1 µs lock, one beyond 10 µs unlocks (R311). -/
def LockFits (p : Ptp) (o : Int) (l : Bool) : Prop :=
  (o.natAbs ≤ 1000 → 7 ≤ p.goodSyncs → l = true) ∧ (10000 < o.natAbs → l = false)

theorem judgeLock_spec (p : Ptp) (o : Int) :
    ∃ n l, p.judgeLock o = { p with goodSyncs := n, locked := l } ∧ LockFits p o l := by
  unfold Ptp.judgeLock LockFits
  split
  next h => exact ⟨_, _, rfl, fun _ h7 => by simp [h7], fun hfar => absurd h (by omega)⟩
  next h => exact ⟨_, _, rfl, fun hnear => absurd hnear h, fun hfar => by simp [hfar]⟩

section
variable {s : State} {m : U64} {o : Int}

/-- An offset that the servo takes: the counter stays, INCR follows but in the GX2 mode, and a clock not locked holds no
launch (R311, R313, R314). -/
theorem slew_spec (s : State) (o : Int) : ∃ n l i, (s.slew o).ptp = { s.ptp with goodSyncs := n, locked := l, incr := i } ∧
    LockFits s.ptp o l ∧ (s.ptp.gx2Now = true → i = s.ptp.incr) ∧
    (s.ptp.gx2Now = false → ∃ dev, i = servoIncr s.ptp.slew500Now dev) ∧
    (l = false → (s.slew o).uplink.launchHeld = []) ∧ (s.slew o).lanes = s.lanes := by
  obtain ⟨n, l, hj, hfit⟩ := judgeLock_spec s.ptp o
  unfold State.slew
  rw [hj]
  dsimp only
  split
  next hg =>
    obtain ⟨hptp, hlanes, hheld⟩ := freeLaunches_frame { s with ptp := { s.ptp with goodSyncs := n, locked := l } }
    exact ⟨n, l, s.ptp.incr, hptp, hfit, fun _ => rfl, fun h => absurd hg (by rw [h]; exact Bool.false_ne_true), hheld, hlanes⟩
  next hg =>
    obtain ⟨hptp, hlanes, hheld⟩ := freeLaunches_frame { s with
      ptp := { s.ptp with goodSyncs := n, locked := l, incr := servoIncr s.ptp.slew500Now (Config.servoStep s.draw) }
      draw := s.draw + 1 }
    exact ⟨n, l, servoIncr s.ptp.slew500Now (Config.servoStep s.draw), hptp, hfit, fun h => absurd h hg,
      fun _ => ⟨_, rfl⟩, hheld, hlanes⟩

/-- An offset that is not applied leaves counter and rate (R312). -/
theorem refuseOffset_spec (s : State) (o : Int) (n : Nat) : ∃ g l j, (s.refuseOffset o n).ptp =
      { s.ptp with goodSyncs := g, locked := l, isNew := true, consistent := n, lastOffset := some o, jumpRefused := j } ∧
    (s.ptp.jump o = true → j = true) ∧ (s.refuseOffset o n).lanes = s.lanes := by
  obtain ⟨g, l, hj, -⟩ := judgeLock_spec s.ptp o
  obtain ⟨hptp, hlanes, -⟩ := freeLaunches_frame { s with
    ptp := { s.ptp with goodSyncs := g, locked := l, isNew := true, consistent := n, lastOffset := some o } }
  unfold State.refuseOffset
  rw [hj]
  dsimp only
  split
  · refine ⟨g, l, true, ?_, fun _ => rfl, ?_⟩
    · rw [ptp_raise, hptp]
    · rw [lanes_raise]
      exact hlanes
  next hno => exact ⟨g, l, s.ptp.jumpRefused, hptp, fun h => absurd h hno, hlanes⟩

/-- A step of the clock: every held launch has left, and the rate stays (R312, R315). -/
theorem stepClock_spec (s : State) (o : Int) : (s.stepClock o).ptp.time = s.ptp.time - BitVec.ofInt 48 o ∧
    (s.stepClock o).ptp.isNew = s.ptp.isNew ∧ (s.stepClock o).ptp.incr = s.ptp.incr ∧
    (s.stepClock o).uplink.launchHeld = [] ∧ (s.stepClock o).lanes = s.lanes := by
  obtain ⟨hptp, hlanes, hheld⟩ := launch_all s
  obtain ⟨g, l, hj, -⟩ := judgeLock_spec s.ptp o
  unfold State.stepClock
  dsimp only
  rw [ptp_raise, lanes_raise, uplink_raise, hptp, hj]
  refine ⟨?_, rfl, rfl, hheld, hlanes⟩
  show BitVec.ofInt 48 (s.ptp.wraps * 2 ^ 48 + (s.ptp.time.toNat : Int) - o) = s.ptp.time - BitVec.ofInt 48 o
  apply BitVec.eq_of_toNat_eq
  have htime := s.ptp.time.isLt
  rw [BitVec.toNat_sub, BitVec.toNat_ofInt, BitVec.toNat_ofInt]
  omega

/-- What one offset of the master in use does, by what the clock makes of it (R311-R313). -/
def Judged (p : Ptp) (now : Nat) (o : Int) (s u : State) : Prop :=
  (p.isNew = false ∨ 16 ≤ p.intervals o → p.jump o = false →
    u.ptp.time = p.time ∧ u.ptp.isNew = false ∧ u.ptp.syncAt = now ∧ u.ptp.lastOffset = some o ∧
    (p.gx2Now = true → u.ptp.incr = p.incr) ∧ (p.gx2Now = false → ∃ dev, u.ptp.incr = servoIncr p.slew500Now dev) ∧
    (o.natAbs ≤ 1000 → 7 ≤ p.goodSyncs → u.ptp.locked = true) ∧
    (10000 < o.natAbs → u.ptp.locked = false ∧ u.uplink.launchHeld = []) ∧ u.lanes = s.lanes) ∧
  (p.isNew = false → p.jump o = true → u.ptp.time = p.time ∧ u.ptp.incr = p.incr ∧ u.ptp.jumpRefused = true ∧
    u.ptp.isNew = true ∧ u.lanes = s.lanes) ∧
  (p.isNew = true → p.intervals o < 16 → u.ptp.time = p.time ∧ u.ptp.incr = p.incr ∧ u.ptp.isNew = true ∧
    u.ptp.consistent = p.intervals o ∧ u.ptp.lastOffset = some o ∧ u.lanes = s.lanes) ∧
  (p.isNew = true → 16 ≤ p.intervals o → p.jump o = true → u.ptp.incr = p.incr ∧ u.lanes = s.lanes ∧
    (p.gx2Now = false → u.ptp.time = p.time - BitVec.ofInt 48 o ∧ u.ptp.isNew = false ∧ u.uplink.launchHeld = []))

/-- The clock at an instant, at a Sync of the master in use. -/
def atSync (s : State) : Ptp := { (s.ptp.advance s.now).takeModes with syncAt := s.now }

/-- A state with its clock at a Sync, before the offset counts. -/
def synced (s : State) (isNew : Bool) (c : Nat) (l : Option Int) : State :=
  { s with ptp := { atSync s with isNew := isNew, consistent := c, lastOffset := l } }

/-- What becomes of an offset with the clock in a state (R311-R313). -/
def judge (s : State) (p : Ptp) (o : Int) : State :=
  let s1 : State := { s with ptp := p }
  let n := p.intervals o
  if !p.isNew then
    (if p.jump o then s1.refuseOffset o 0 else { s1 with ptp := { p with lastOffset := some o } }.slew o)
  else if n < 16 then s1.refuseOffset o n
  else
    let s2 : State := { s1 with ptp := { p with isNew := false, consistent := 0, lastOffset := some o } }
    if !p.jump o then s2.slew o
    else if !p.gx2Now then s2.stepClock o
    else if Config.firmwareStep s.draw then { s2 with draw := s.draw + 1 }.stepClock o
    else { s1 with ptp := { p.judgeLock o with consistent := n, lastOffset := some o }, draw := s.draw + 1 }.freeLaunches

theorem ptpOffset_eq (hm : (s.ptp.advance s.now).takeModes.master = some m) : s.ptpOffset m o = judge s (atSync s) o := by
  have hp : (if (atSync s).master = some m then atSync s else (atSync s).newMaster (some m)) = atSync s := if_pos hm
  show judge s (if (atSync s).master = some m then atSync s else (atSync s).newMaster (some m)) o = _
  rw [hp]

section
variable {p : Ptp}

/-- An offset within the threshold that is not of a master still new slews the clock. -/
theorem judge_slews (hnew : p.isNew = false ∨ 16 ≤ p.intervals o) (hj : p.jump o = false) : ∃ c,
    judge s p o = { s with ptp := { p with isNew := false, consistent := c, lastOffset := some o } }.slew o := by
  unfold judge
  dsimp only
  cases hn : p.isNew with
  | false =>
    refine ⟨p.consistent, ?_⟩
    rw [if_pos (by decide), if_neg (by rw [hj]; exact Bool.false_ne_true)]
  | true =>
    have hn16 : 16 ≤ p.intervals o := hnew.resolve_left (by rw [hn]; decide)
    exact ⟨0, by rw [if_neg (by decide), if_neg (by omega), hj, if_pos (by decide)]⟩

theorem judge_refuses (hnew : p.isNew = false) (hj : p.jump o = true) :
    judge s p o = { s with ptp := p }.refuseOffset o 0 := by
  unfold judge
  dsimp only
  rw [hnew, hj] <;> rfl

theorem judge_waits (hnew : p.isNew = true) (hn : p.intervals o < 16) :
    judge s p o = { s with ptp := p }.refuseOffset o (p.intervals o) := by
  unfold judge
  dsimp only
  rw [hnew, if_neg (by decide), if_pos hn]

/-- A consistent offset of a new master beyond the threshold is a step of the clock, which the GX2 mode leaves to the
firmware. -/
theorem judge_steps (hnew : p.isNew = true) (hn : 16 ≤ p.intervals o) (hj : p.jump o = true) :
    (judge s p o).ptp.incr = p.incr ∧ (judge s p o).lanes = s.lanes ∧
    (p.gx2Now = false → (judge s p o).ptp.time = p.time - BitVec.ofInt 48 o ∧ (judge s p o).ptp.isNew = false ∧
      (judge s p o).uplink.launchHeld = []) := by
  unfold judge
  dsimp only
  rw [hnew, if_neg (by decide), if_neg (by omega), hj, if_neg (by decide)]
  split
  · obtain ⟨h1, h2, h3, h4, h5⟩ := stepClock_spec { s with
      ptp := { p with isNew := false, consistent := 0, lastOffset := some o } } o
    exact ⟨h3, h5, fun _ => ⟨h1, h2, h4⟩⟩
  next hg =>
    have hgx : p.gx2Now = true := by simpa using hg
    split
    · obtain ⟨h1, h2, h3, h4, h5⟩ := stepClock_spec { s with
        ptp := { p with isNew := false, consistent := 0, lastOffset := some o }, draw := s.draw + 1 } o
      exact ⟨h3, h5, fun _ => ⟨h1, h2, h4⟩⟩
    · obtain ⟨g, l, hl, -⟩ := judgeLock_spec p o
      rw [hl]
      obtain ⟨hptp, hlanes, -⟩ := freeLaunches_frame { s with
        ptp := { p with goodSyncs := g, locked := l, consistent := p.intervals o, lastOffset := some o }, draw := s.draw + 1 }
      refine ⟨?_, hlanes, fun h => absurd hgx (by rw [h]; exact Bool.false_ne_true)⟩
      have h := congrArg Ptp.incr hptp
      exact h

end

theorem judged_ptpOffset (hm : (s.ptp.advance s.now).takeModes.master = some m) :
    Judged (s.ptp.advance s.now).takeModes s.now o s (s.ptpOffset m o) := by
  rw [ptpOffset_eq hm]
  refine ⟨fun hnew hj => ?_, fun hnew hj => ?_, fun hnew hn => ?_, fun hnew hn hj => judge_steps (p := atSync s) hnew hn hj⟩
  · obtain ⟨c, hc⟩ := judge_slews (s := s) (p := atSync s) hnew hj
    obtain ⟨g, l, i, hptp, ⟨hlock, hunlock⟩, hgx, hservo, hheld, hlanes⟩ := slew_spec { s with
      ptp := { atSync s with isNew := false, consistent := c, lastOffset := some o } } o
    rw [hc, hptp]
    exact ⟨rfl, rfl, rfl, rfl, hgx, hservo, hlock, fun hfar => ⟨hunlock hfar, hheld (hunlock hfar)⟩, hlanes⟩
  · obtain ⟨g, l, j, hptp, hjump, hlanes⟩ := refuseOffset_spec { s with ptp := atSync s } o 0
    rw [judge_refuses (p := atSync s) hnew hj, hptp]
    exact ⟨rfl, rfl, hjump hj, rfl, hlanes⟩
  · obtain ⟨g, l, j, hptp, -, hlanes⟩ := refuseOffset_spec { s with ptp := atSync s } o ((atSync s).intervals o)
    rw [judge_waits (p := atSync s) hnew hn, hptp]
    exact ⟨rfl, rfl, rfl, rfl, rfl, hlanes⟩

end

/-! ### The best master (R308) -/

theorem keyLt_irrefl (x : List Nat) : keyLt x x = false := by
  induction x with
  | nil => rfl
  | cons a x ih => simp [keyLt, ih]

theorem keyLt_trans : ∀ {x y z : List Nat}, keyLt x y = true → keyLt y z = true → keyLt x z = true
  | [], [], _, h, _ => by simp [keyLt] at h
  | [], _ :: _, [], _, h => by simp [keyLt] at h
  | [], _ :: _, _ :: _, _, _ => rfl
  | _ :: _, [], _, h, _ => by simp [keyLt] at h
  | _ :: _, _ :: _, [], _, h => by simp [keyLt] at h
  | a :: x, b :: y, c :: z, h, h' => by
    simp only [keyLt, Bool.or_eq_true, Bool.and_eq_true, decide_eq_true_eq] at h h' ⊢
    rcases h with h | ⟨rfl, h⟩
    · rcases h' with h' | ⟨rfl, -⟩
      · exact .inl (h.trans h')
      · exact .inl h
    · exact h'.imp_right (And.imp_right (keyLt_trans h))

/-- A master is the best of a list: one of it, and none of it comes before. -/
def IsBest (b : Option PtpAnnounce) (fs : List Foreign) : Prop :=
  match b with
  | none => fs = []
  | some a => (∃ g ∈ fs, g.ann = a) ∧ ∀ f ∈ fs, keyLt (annKey f.ann) (annKey a) = false

theorem isBest_better {o : Option PtpAnnounce} {fs : List Foreign} (h : IsBest o fs) (f : Foreign) :
    IsBest (betterMaster o f.ann) (fs ++ [f]) := by
  unfold betterMaster
  cases o with
  | none =>
    cases (h : fs = [])
    exact ⟨⟨f, by simp, rfl⟩, fun g hg => by
      rw [List.nil_append, List.mem_singleton] at hg
      rw [hg, keyLt_irrefl]⟩
  | some b =>
    obtain ⟨⟨g, hg, hgb⟩, hall⟩ := h
    dsimp only
    split
    next hlt =>
      refine ⟨⟨f, by simp, rfl⟩, fun g hg => ?_⟩
      rcases List.mem_append.1 hg with hg | hg
      · by_contra hno
        have hgf : keyLt (annKey g.ann) (annKey f.ann) = true := by simpa using hno
        exact absurd (keyLt_trans hgf hlt) (by rw [hall g hg]; exact Bool.false_ne_true)
      · rw [List.mem_singleton.1 hg, keyLt_irrefl]
    next hno =>
      refine ⟨⟨g, List.mem_append_left _ hg, hgb⟩, fun g hg => ?_⟩
      rcases List.mem_append.1 hg with hg | hg
      · exact hall g hg
      · rw [List.mem_singleton.1 hg]
        simpa using hno

theorem isBest_foldl (fs gs : List Foreign) {o : Option PtpAnnounce} (h : IsBest o gs) :
    IsBest (fs.foldl (fun o f => betterMaster o f.ann) o) (gs ++ fs) := by
  induction fs generalizing o gs with
  | nil => rwa [List.append_nil]
  | cons f fs ih =>
    have hnext := ih (gs ++ [f]) (isBest_better h f)
    rwa [List.append_assoc] at hnext

theorem best_spec {p : Ptp} {lanB : Bool} {now : Nat} {b : PtpAnnounce} {f : Foreign} (hb : p.best lanB now = some b)
    (hf : f ∈ p.heard.get (lanId lanB)) (hq : f.qualified now = true) :
    keyLt (annKey f.ann) (annKey b) = false ∧ ∃ g ∈ p.heard.get (lanId lanB), g.qualified now = true ∧ g.ann = b := by
  have h := isBest_foldl ((p.heard.get (lanId lanB)).filter (Foreign.qualified now)) [] (o := none) rfl
  rw [show List.foldl _ none _ = p.best lanB now from rfl, hb, List.nil_append] at h
  obtain ⟨⟨g, hg, hgb⟩, hall⟩ := h
  obtain ⟨hg, hgq⟩ := List.mem_filter.1 hg
  exact ⟨hall f (List.mem_filter.2 ⟨hf, hq⟩), g, hg, hgq, hgb⟩

/-! ### Sync, Announce and the receipt timeout (R307, R308, R311) -/

section
variable {s : State} {lanB : Bool} {t : Nat}

theorem ptpSyncRx_eq {sync : PtpSync} (hnet : s.netOn = true) (hs : (s.touch t).ptpSupports sync.hdr (-4) 0 = true)
    (hm : s.ptp.fromMaster lanB sync.master (max s.now t) = true) : exec (.ptpSyncRx lanB sync t) s = .next
      (if sync.twoStep then { s.touch t with
        ptp := { s.ptp with twoStep := s.ptp.twoStep.set (lanId lanB) (some (sync.master, sync.seq)) } }
      else (s.touch t).ptpOffset sync.master sync.offset) := by
  refine (if_pos hnet).trans ((if_neg (by rw [hs]; decide)).trans ((if_pos hm).trans ?_))
  split <;> rfl

theorem ptpSyncRx_ignored {sync : PtpSync} (hnet : s.netOn = true) (hs : (s.touch t).ptpSupports sync.hdr (-4) 0 = false) :
    exec (.ptpSyncRx lanB sync t) s = .next (s.touch t).ptpIgnore :=
  (if_pos hnet).trans (if_pos (by rw [hs]; rfl))

theorem ptpFollowUpRx_ignored {fup : PtpFollowUp} (hnet : s.netOn = true)
    (hs : (s.touch t).ptpSupports fup.hdr (-4) 0 = false) :
    exec (.ptpFollowUpRx lanB fup t) s = .next (s.touch t).ptpIgnore :=
  (if_pos hnet).trans (if_pos (by rw [hs]; rfl))

/-- A state whose two-step Sync of a LAN no longer waits. -/
def unwaited (s : State) (lanB : Bool) : State :=
  { s with ptp := { s.ptp with twoStep := s.ptp.twoStep.set (lanId lanB) none } }

theorem ptpFollowUpRx_eq {fup : PtpFollowUp} (hnet : s.netOn = true) (hs : (s.touch t).ptpSupports fup.hdr (-4) 0 = true)
    (hw : s.ptp.twoStep.get (lanId lanB) = some (fup.master, fup.seq))
    (hm : s.ptp.fromMaster lanB fup.master (max s.now t) = true) :
    exec (.ptpFollowUpRx lanB fup t) s = .next ((unwaited (s.touch t) lanB).ptpOffset fup.master fup.offset) :=
  (if_pos hnet).trans ((if_neg (by rw [hs]; decide)).trans ((if_pos hw).trans (congrArg Host.Outcome.next (if_pos hm))))

theorem ptpAnnounceRx_ignored {a : PtpAnnounce} (hnet : s.netOn = true) (hs : (s.touch t).ptpSupports a.hdr 0 2 = false) :
    exec (.ptpAnnounceRx lanB a t) s = .next (s.touch t).ptpIgnore :=
  (if_pos hnet).trans (if_pos (by rw [hs]; rfl))

theorem ptpAnnounceRx_eq {a : PtpAnnounce} (hnet : s.netOn = true) (hs : (s.touch t).ptpSupports a.hdr 0 2 = true) :
    ∃ u, exec (.ptpAnnounceRx lanB a t) s = .next u ∧ u.ptp = s.ptp.announce lanB a (max s.now t) ∧ u.lanes = s.lanes := by
  refine ⟨_, (if_pos hnet).trans (if_neg (by rw [hs]; decide)), ?_⟩
  split
  · exact ⟨rfl, rfl⟩
  · exact ⟨ptp_raise .., lanes_raise ..⟩

/-- The clock on a LAN of its choice: the masters heard and the counter stay. -/
theorem useLan_frame (p : Ptp) (lanB : Bool) (now : Nat) : (p.useLan lanB now).heard = p.heard ∧
    (p.useLan lanB now).time = p.time ∧ (p.useLan lanB now).timedOut = p.timedOut ∧ (p.useLan lanB now).lanB = lanB := by
  unfold Ptp.useLan
  split
  next h => exact ⟨rfl, rfl, rfl, h⟩
  · exact ⟨rfl, rfl, rfl, rfl⟩

theorem lanId_other (lanB : Bool) : lanId (!lanB) ≠ lanId lanB := by
  cases lanB <;> decide

end

/-- The clock once an Announce has entered the masters of its LAN. -/
def heardAt (p : Ptp) (lanB : Bool) (a : PtpAnnounce) (now : Nat) : Ptp :=
  { p with heard := p.heard.set (lanId lanB) (hearMaster a now (p.heard.get (lanId lanB)))
           annLog := p.annLog.set (lanId lanB) a.hdr.logInterval.toNat }

/-- The clock once a LAN that has a qualified master counts again. -/
def heardGood (p : Ptp) (lanB : Bool) (now : Nat) (good : Bool) : Ptp :=
  if good then { p with quiet := p.quiet.set (lanId lanB) now, timedOut := p.timedOut.set (lanId lanB) false } else p

/-- The clock once such a LAN is taken where the one in use has timed out. -/
def tookLan (p : Ptp) (lanB : Bool) (a : PtpAnnounce) (now : Nat) : Ptp :=
  let good := (p.heard.get (lanId lanB)).any (fun f => decide (f.ann.identity = a.identity) && f.qualified now)
  let q := heardGood p lanB now good
  if good && q.timedOut.get (lanId q.lanB) then q.useLan lanB now else q

/-- The clock with the best master of the LAN in use. -/
def takeBest (p : Ptp) (now : Nat) : Ptp :=
  let m : Option U64 := (p.best p.lanB now).map (fun (b : PtpAnnounce) => b.identity)
  (if p.master = m then p else p.newMaster m).takeUtc now

section
variable (p : Ptp) (lanB : Bool) (a : PtpAnnounce) (now : Nat)

theorem announce_eq : p.announce lanB a now = takeBest (tookLan (heardAt p lanB a now) lanB a now) now := rfl

theorem heardGood_frame (good : Bool) : (heardGood p lanB now good).heard = p.heard ∧ (heardGood p lanB now good).time = p.time ∧
    (heardGood p lanB now good).lanB = p.lanB ∧
    (p.timedOut.get (lanId p.lanB) = false → (heardGood p lanB now good).timedOut.get (lanId p.lanB) = false) := by
  unfold heardGood
  split
  · refine ⟨rfl, rfl, rfl, fun h => ?_⟩
    show (p.timedOut.set (lanId lanB) false).get (lanId p.lanB) = false
    by_cases hl : lanId p.lanB = lanId lanB
    · rw [hl, Duo_get_set_self]
    · rwa [Duo_get_set_ne _ _ hl]
  · exact ⟨rfl, rfl, rfl, id⟩

theorem tookLan_frame : (tookLan p lanB a now).heard = p.heard ∧ (tookLan p lanB a now).time = p.time ∧
    (p.timedOut.get (lanId p.lanB) = false → (tookLan p lanB a now).lanB = p.lanB) := by
  unfold tookLan
  dsimp only
  generalize (p.heard.get (lanId lanB)).any (fun f => decide (f.ann.identity = a.identity) && f.qualified now) = good
  obtain ⟨h1, h2, h3, h4⟩ := heardGood_frame p lanB now good
  obtain ⟨u1, u2, -, -⟩ := useLan_frame (heardGood p lanB now good) lanB now
  split
  next hgone =>
    refine ⟨u1.trans h1, u2.trans h2, fun hin => ?_⟩
    rw [h3, h4 hin, Bool.and_false] at hgone
    contradiction
  · exact ⟨h1, h2, fun _ => h3⟩

theorem takeBest_frame : (takeBest p now).heard = p.heard ∧ (takeBest p now).time = p.time ∧
    (takeBest p now).lanB = p.lanB ∧
    (takeBest p now).master = (p.best p.lanB now).map (fun (b : PtpAnnounce) => b.identity) := by
  have hutc : ∀ q : Ptp, (q.takeUtc now).heard = q.heard ∧ (q.takeUtc now).time = q.time ∧ (q.takeUtc now).lanB = q.lanB ∧
      (q.takeUtc now).master = q.master := fun q => by
    unfold Ptp.takeUtc
    split <;> exact ⟨rfl, rfl, rfl, rfl⟩
  unfold takeBest
  dsimp only
  split
  next hm =>
    obtain ⟨h1, h2, h3, h4⟩ := hutc p
    exact ⟨h1, h2, h3, h4.trans hm⟩
  · exact hutc (p.newMaster _)

/-- What an Announce leaves: its master heard on its LAN alone, and the best of the LAN in use as the master (R308). -/
theorem announce_spec : (p.announce lanB a now).heard.get (lanId lanB) = hearMaster a now (p.heard.get (lanId lanB)) ∧
    (p.announce lanB a now).heard.get (lanId !lanB) = p.heard.get (lanId !lanB) ∧
    (p.announce lanB a now).master = ((p.announce lanB a now).best (p.announce lanB a now).lanB now).map
      (fun (b : PtpAnnounce) => b.identity) ∧
    (p.timedOut.get (lanId p.lanB) = false → (p.announce lanB a now).lanB = p.lanB) ∧
    (p.announce lanB a now).time = p.time := by
  obtain ⟨t1, t2, t3⟩ := tookLan_frame (heardAt p lanB a now) lanB a now
  obtain ⟨b1, b2, b3, b4⟩ := takeBest_frame (tookLan (heardAt p lanB a now) lanB a now) now
  rw [announce_eq]
  refine ⟨?_, ?_, ?_, fun h => b3.trans (t3 h), b2.trans t2⟩
  · rw [b1, t1]
    exact Duo_get_set_self _ _ _
  · rw [b1, t1]
    exact Duo_get_set_ne _ _ (lanId_other lanB)
  · rw [b4]
    unfold Ptp.best
    rw [b1, b3]

end

section
variable {s : State} {lanB : Bool} {t : Nat}

theorem unlock_frame (s : State) : s.unlock.ptp = { s.ptp with locked := false, goodSyncs := 0 } ∧
    s.unlock.uplink.launchHeld = [] ∧ s.unlock.lanes = s.lanes := by
  obtain ⟨hptp, hlanes, hheld⟩ := freeLaunches_frame { s with ptp := { s.ptp with locked := false, goodSyncs := 0 } }
  exact ⟨hptp, hheld rfl, hlanes⟩

/-- A state with a LAN that has had one receipt timeout. -/
def lanTimedOut (s : State) (lanB : Bool) : State :=
  { s with ptp := { s.ptp with timedOut := s.ptp.timedOut.set (lanId lanB) true } }

/-- A state whose clock leaves the LAN in use for the other (R308). -/
def leftLan (s : State) (lanB : Bool) : State :=
  let q := s.ptp.useLan (!lanB) s.now
  (State.unlock { s with ptp := q }).raise .info .newMaster .svc [if q.lanB then 1 else 0]

theorem leftLan_frame : (leftLan s lanB).ptp.timedOut = s.ptp.timedOut ∧
    (leftLan s lanB).ptp.lanB = (!lanB) ∧ (leftLan s lanB).ptp.locked = false ∧
    (leftLan s lanB).uplink.launchHeld = [] ∧ (leftLan s lanB).lanes = s.lanes := by
  obtain ⟨-, -, htimed, hlan⟩ := useLan_frame s.ptp (!lanB) s.now
  obtain ⟨hptp, hheld, hlanes⟩ := unlock_frame { s with ptp := s.ptp.useLan (!lanB) s.now }
  unfold leftLan
  dsimp only
  rw [ptp_raise, lanes_raise, uplink_raise, hptp]
  exact ⟨htimed, hlan, rfl, hheld, hlanes⟩

section
variable (hnet : s.netOn = true)
include hnet

theorem timeout_other (hg : s.ptp.quiet.get (lanId lanB) + s.ptp.timeoutNs lanB ≤ max s.now t) (hl : s.ptp.lanB ≠ lanB) :
    exec (.announceReceiptTimeout lanB t) s = .next (lanTimedOut (s.touch t) lanB) :=
  (if_pos hnet).trans ((if_pos hl).trans (congrArg Host.Outcome.next (if_pos (decide_eq_true hg))))

theorem timeout_leaves (hg : s.ptp.quiet.get (lanId lanB) + s.ptp.timeoutNs lanB ≤ max s.now t) (hl : s.ptp.lanB = lanB) :
    exec (.announceReceiptTimeout lanB t) s = .next (leftLan (lanTimedOut (s.touch t) lanB) lanB) :=
  (if_pos hnet).trans ((if_neg (not_not.2 hl)).trans ((if_pos (decide_eq_true hg)).trans
    (congrArg (fun u => Host.Outcome.next (leftLan u lanB)) (if_pos (decide_eq_true hg)))))

theorem timeout_late (hg : ¬s.ptp.quiet.get (lanId lanB) + s.ptp.timeoutNs lanB ≤ max s.now t) (hl : s.ptp.lanB = lanB)
    (hlate : s.ptp.syncAt + s.ptp.timeoutNs lanB ≤ max s.now t) :
    exec (.announceReceiptTimeout lanB t) s = .next (s.touch t).unlock := by
  have hno : ¬decide (s.ptp.quiet.get (lanId lanB) + s.ptp.timeoutNs lanB ≤ max s.now t) = true := by simpa using hg
  exact (if_pos hnet).trans ((if_neg (not_not.2 hl)).trans ((if_neg hno).trans ((if_pos hlate).trans
    (congrArg (fun u => Host.Outcome.next (State.unlock u)) (if_neg hno)))))

theorem timeout_none (hg : ¬s.ptp.quiet.get (lanId lanB) + s.ptp.timeoutNs lanB ≤ max s.now t)
    (h : s.ptp.lanB ≠ lanB ∨ ¬s.ptp.syncAt + s.ptp.timeoutNs lanB ≤ max s.now t) :
    exec (.announceReceiptTimeout lanB t) s = .next (s.touch t) := by
  have hno : ¬decide (s.ptp.quiet.get (lanId lanB) + s.ptp.timeoutNs lanB ≤ max s.now t) = true := by simpa using hg
  by_cases hl : s.ptp.lanB = lanB
  · exact (if_pos hnet).trans ((if_neg (not_not.2 hl)).trans ((if_neg hno).trans ((if_neg (h.resolve_left (not_not.2 hl))).trans
      (congrArg Host.Outcome.next (if_neg hno)))))
  · exact (if_pos hnet).trans ((if_pos hl).trans (congrArg Host.Outcome.next (if_neg hno)))

end

end

/-! ### The settled obligation -/

/-- Settles O35: an offset slews, waits, is refused or steps the clock as `judge` decides; the best master is the minimum of
the datasets; a timeout leaves the LAN in use. -/
theorem ptpOffsetsMasterAndDelay : Obligations.PtpOffsetsMasterAndDelay := by
  unfold Obligations.PtpOffsetsMasterAndDelay
  refine ⟨fun s lanB hdr mst seq o t => ?_, fun p lanB now b f hb hf hq => best_spec hb hf hq,
    fun s lanB a t port seq t1 rx tx turn t4 corr => ?_⟩
  · dsimp only
    intro hnet
    refine ⟨fun hs => ⟨ptpSyncRx_ignored hnet hs, ptpFollowUpRx_ignored hnet hs⟩, fun hs hm hmaster => ?_⟩
    refine ⟨(ptpSyncRx_eq hnet hs hm).trans (congrArg Host.Outcome.next (if_pos rfl)), ?_, fun hw => ?_⟩
    · have hexec := (ptpSyncRx_eq (sync := ⟨hdr, mst, seq, o, false⟩) hnet hs hm).trans
        (congrArg Host.Outcome.next (if_neg Bool.false_ne_true))
      obtain ⟨h1, h2, h3, h4⟩ := judged_ptpOffset (s := s.touch t) (o := o) hmaster
      exact ⟨fun a b => ⟨_, hexec, h1 a b⟩, fun a b => ⟨_, hexec, h2 a b⟩, fun a b => ⟨_, hexec, h3 a b⟩,
        fun a b c => ⟨_, hexec, h4 a b c⟩⟩
    · have hexec := ptpFollowUpRx_eq (fup := ⟨hdr, mst, seq, o⟩) hnet hs hw hm
      obtain ⟨h1, h2, h3, h4⟩ := judged_ptpOffset (s := unwaited (s.touch t) lanB) (o := o) hmaster
      exact ⟨fun a b => ⟨_, hexec, h1 a b⟩, fun a b => ⟨_, hexec, h2 a b⟩, fun a b => ⟨_, hexec, h3 a b⟩,
        fun a b c => ⟨_, hexec, h4 a b c⟩⟩
  · dsimp only
    intro hnet
    refine ⟨ptpAnnounceRx_ignored hnet, fun hs => ?_, fun hg => ?_, fun hg hl hlate => ?_, fun hg h => timeout_none hnet hg h,
      fun hsends => ⟨if_pos hsends, ?_⟩, fun hseq => ?_, ?_⟩
    · obtain ⟨u, hu, hptp, hlanes⟩ := ptpAnnounceRx_eq (lanB := lanB) hnet hs
      obtain ⟨h1, h2, h3, h4, h5⟩ := announce_spec s.ptp lanB a (max s.now t)
      rw [← hptp] at h1 h2 h3 h4 h5
      exact ⟨u, hu, h1, h2, h3, h4, h5, hlanes⟩
    · by_cases hl : s.ptp.lanB = lanB
      · obtain ⟨htimed, hlan, hlock, hheld, hlanes⟩ := leftLan_frame (s := lanTimedOut (s.touch t) lanB) (lanB := lanB)
        refine ⟨_, timeout_leaves hnet hg hl, ?_, fun _ => ⟨hlan, hlock, hheld⟩, fun hne => absurd hl hne, hlanes⟩
        rw [htimed]
        exact Duo_get_set_self _ _ _
      · exact ⟨_, timeout_other hnet hg hl, Duo_get_set_self _ _ _, fun heq => absurd heq hl, fun _ => ⟨rfl, rfl⟩, rfl⟩
    · obtain ⟨hptp, hheld, hlanes⟩ := unlock_frame (s.touch t)
      refine ⟨_, timeout_late hnet hg hl hlate, ?_, hheld, ?_, ?_, hlanes⟩ <;> rw [hptp]
      · exact hl
      · rfl
    · refine ⟨_, if_pos hsends, ?_⟩
      exact ⟨Tbl_get_set_self 0 s.ptp.pdelayAnswered port (seq % 65536 * 2 ^ 64 + (tx - rx) + 1), rfl, rfl⟩
    · refine ⟨_, if_pos ⟨hnet, hseq⟩, ?_⟩
      exact ⟨Tbl_get_set_self 0 s.ptp.linkDelay port ((t4 - Tbl.get 0 s.ptp.pdelayT1 port - turn) / 2), rfl⟩
    · refine ⟨_, if_pos hnet, ?_⟩
      exact ⟨Tbl_get_set_self 0 s.ptp.correction (otherPort port)
        (corr + ((tx : Int) - rx) + (Tbl.get 0 s.ptp.linkDelay port : Nat)), rfl, rfl⟩

end Sys2Proof.PtpRules
end

section
/-! ## Frames on the Wharf bus (R347, R352, R354-R359, R362, R364) -/

namespace Sys2Proof.WharfRules

open Sys2Proof Sys2Proof.Machine Sys2Proof.Laws Sys2Proof.QueueRules
open Sys2Proof.VoteFlag (foldl_preserves)

/-! ### Channels -/

section
variable {s : State} {ch : Nat}

@[simp] theorem chan_putChan_self (s : State) (ch : Nat) (c : WbChan) : (s.putChan ch c).chan ch = c :=
  Tbl_get_set_self ({} : WbChan) s.wb ch c

theorem chan_putChan_ne (s : State) {ch k : Nat} (c : WbChan) (h : k ≠ ch) : (s.putChan ch c).chan k = s.chan k :=
  Tbl_get_set_ne ({} : WbChan) s.wb c h

theorem chan_of_wb {s u : State} (h : u.wb = s.wb) (ch : Nat) : u.chan ch = s.chan ch := by
  unfold State.chan
  rw [h]

@[simp] theorem chan_raise (s : State) (c : LogClass) (n : EventName) (d : Die) (x : List Int) (ch : Nat) :
    (s.raise c n d x).chan ch = s.chan ch := chan_of_wb (wb_raise s c n d x) ch

@[simp] theorem chan_complete (s : State) (ch : Nat) (q : TxReq) (status k : Nat) :
    (s.complete ch q status).chan k = s.chan k := rfl

/-- A channel without the requests whose lifetime has passed at the head of its pending set (R356). -/
theorem chan_dropExpired (s : State) (ch : Nat) : (s.dropExpired ch).chan ch =
    { s.chan ch with pending := (splitExpired s.now (s.chan ch).pending).2 } := by
  have hfold : ∀ (qs : List TxReq) (u : State), (qs.foldl (fun s q => s.complete ch q 5) u).wb = u.wb := fun qs u =>
    foldl_preserves State.wb (fun (u : State) (q : TxReq) => u.complete ch q 5) (fun _ _ => rfl) qs u
  unfold State.dropExpired
  rw [chan_of_wb (hfold _ _), chan_putChan_self]

theorem chan_dropExpired_ne (s : State) {ch k : Nat} (h : k ≠ ch) : (s.dropExpired ch).chan k = s.chan k := by
  have hfold : ∀ (qs : List TxReq) (u : State), (qs.foldl (fun s q => s.complete ch q 5) u).wb = u.wb := fun qs u =>
    foldl_preserves State.wb (fun (u : State) (q : TxReq) => u.complete ch q 5) (fun _ _ => rfl) qs u
  unfold State.dropExpired
  rw [chan_of_wb (hfold _ _), chan_putChan_ne _ _ h]

theorem vitalSame_dropExpired (s : State) (ch : Nat) : vitalSame s (s.dropExpired ch) :=
  vitalSame_trans (vitalSame_putChan ..) (vitalSame_foldl _ (fun _ _ => vitalSame_complete ..) ..)

theorem vitalSame_raise (s : State) (c : LogClass) (n : EventName) (d : Die) (x : List Int) : vitalSame s (s.raise c n d x) :=
  ⟨lanes_raise .., module_raise ..⟩

end

/-! ### Reception -/

/-- The pair that decides is the first that matches (R352). -/
theorem firstPair_spec {c : WbChan} {f : CanFrame} {i a : Nat} (h : firstPair c f = some (i, a)) :
    pairMatches (Tbl.get 0 c.filters i) f = true ∧ ∀ j, j < i → pairMatches (Tbl.get 0 c.filters j) f = false := by
  obtain ⟨k, hk, heq⟩ := Option.map_eq_some_iff.1 h
  cases heq
  obtain ⟨hm, hi, hbefore⟩ := List.find?_range_eq_some.1 hk
  exact ⟨hm, fun j hj => by simpa using hbefore j hj⟩

section
variable {s : State} {ch i a : Nat} {f : CanFrame} {time : U48}

theorem canFrameRx_off {rx : CanRx} (h : (s.chan ch).bus = .busOff) : exec (.canFrameRx ch rx time) s = .next s :=
  if_neg (fun hg => hg.2.2 h)

theorem canFrameRx_frame (hon : s.wbOn = true) (hm : (s.chan ch).mode ≠ .off) (hb : (s.chan ch).bus ≠ .busOff) :
    exec (.canFrameRx ch (.frame f) time) s = .next (s.takeCan ch f time) := if_pos ⟨hon, hm, hb⟩

theorem canFrameRx_error (hon : s.wbOn = true) (hm : (s.chan ch).mode ≠ .off) (hb : (s.chan ch).bus ≠ .busOff) :
    exec (.canFrameRx ch (.error a i) time) s =
      .next (s.followErrors ch (recUp { s.chan ch with errs := Tbl.upd 0 (s.chan ch).errs a (· + 1) } i)) :=
  if_pos ⟨hon, hm, hb⟩

theorem mode_recDown (c : WbChan) : (recDown c).mode = c.mode := by
  unfold recDown
  split <;> rfl

/-- What becomes of a received frame with a matching pair (R352, R354). -/
theorem takeCan_matched (hr : f.remote = false)
    (hp : firstPair ((s.followErrors ch (recDown (s.chan ch))).chan ch) f = some (i, a)) : s.takeCan ch f time =
      let s0 := s.followErrors ch (recDown (s.chan ch))
      let c0 := s0.chan ch
      if a = 2 then s0
      else
        let p := (s0.queue (rxQueue ch a)).pushItem (rxRecord ch i c0 f time)
        if p.2 then s0.putQueue (rxQueue ch a) p.1 else s0.putChan ch { c0 with rxOverflow := c0.rxOverflow + 1 } := by
  refine (if_neg (by rw [hr]; exact Bool.false_ne_true)).trans ?_
  rw [hp] <;> rfl

theorem takeCan_unmatched (hr : f.remote = false)
    (hp : firstPair ((s.followErrors ch (recDown (s.chan ch))).chan ch) f = none) : s.takeCan ch f time =
      let s0 := s.followErrors ch (recDown (s.chan ch))
      s0.putChan ch { s0.chan ch with rxNoMatch := (s0.chan ch).rxNoMatch + 1 } := by
  refine (if_neg (by rw [hr]; exact Bool.false_ne_true)).trans ?_
  rw [hp] <;> rfl

end

/-! ### Requests (R355, R356) -/

theorem insertReq_perm (q : TxReq) (xs : List TxReq) : (insertReq q xs).Perm (q :: xs) := by
  induction xs with
  | nil => exact List.Perm.refl _
  | cons x xs ih =>
    unfold insertReq
    split
    · exact (ih.cons x).trans (List.Perm.swap q x xs)
    · exact List.Perm.refl _

theorem insertReq_sorted {q : TxReq} {xs : List TxReq} (h : xs.Pairwise (fun x y => arbKey x.frame ≤ arbKey y.frame)) :
    (insertReq q xs).Pairwise (fun x y => arbKey x.frame ≤ arbKey y.frame) := by
  induction xs with
  | nil => exact List.pairwise_singleton _ _
  | cons x xs ih =>
    obtain ⟨hx, hxs⟩ := List.pairwise_cons.1 h
    unfold insertReq
    split
    next hle =>
      refine List.pairwise_cons.2 ⟨fun y hy => ?_, ih hxs⟩
      rcases List.mem_cons.1 ((insertReq_perm q xs).mem_iff.1 hy) with rfl | hy
      · exact hle
      · exact hx y hy
    next hlt =>
      refine List.pairwise_cons.2 ⟨fun y hy => ?_, h⟩
      rcases List.mem_cons.1 hy with rfl | hy
      · omega
      · have := hx y hy
        omega

section
variable {s : State} {ch t : Nat}

theorem txRequestAdmit_eq {n : Nat} {q : TxReq} (hon : s.wbOn = true) (hm : (s.chan ch).mode ≠ .off)
    (hroom : (s.chan ch).pending.length < 32)
    (hp : parseReq (fromStart (s.queue (reqQueue ch)).words) (max s.now t) = some (n, q)) :
    exec (.txRequestAdmit ch t) s = .next (((s.touch t).putQueue (reqQueue ch)
      (Queue.mark { s.queue (reqQueue ch) with words := (fromStart (s.queue (reqQueue ch)).words).drop n })).putChan ch
        { s.chan ch with pending := insertReq q (s.chan ch).pending }) := by
  refine (if_pos ⟨hon, hm, hroom⟩).trans ?_
  have hp' : parseReq (fromStart ((s.touch t).queue (reqQueue ch)).words) (s.touch t).now = some (n, q) := hp
  rw [hp'] <;> rfl

/-- A frame that a channel latches: one that waits for another attempt, or the head of the pending set. -/
theorem latch_eq {c : WbChan} {q : TxReq} {rest : List TxReq} (h : c.retry = some q ∨ c.retry = none ∧ c.pending = q :: rest) :
    c.latch = some (q, { c with retry := none, pending := if c.retry = none then rest else c.pending }) := by
  obtain ⟨mode, cfgMode, shared, timing, filters, pending, retry, onBus⟩ := c
  unfold WbChan.latch
  rcases h with h | ⟨h, hp⟩
  · cases h
    rfl
  · cases h
    cases hp
    rfl

/-- The state of a channel's frame that starts, or does not where its window has no room (R356, R362). -/
theorem frameStart_eq {leftUs : Nat} {q : TxReq} {rest : List TxReq} (hon : s.wbOn = true)
    (hidle : (s.chan ch).onBus = none) (hbus : (s.chan ch).bus ≠ .busOff)
    (hmode : (s.chan ch).mode = .normal ∨ (s.chan ch).mode = .tide ∧ (s.chan ch).arbitrating = true)
    (hl : (s.chan ch).retry = some q ∨ (s.chan ch).retry = none ∧ (((s.touch t).dropExpired ch).chan ch).pending = q :: rest) :
    exec (.frameStart ch leftUs t) s = .next (
      let s1 := (s.touch t).dropExpired ch
      let c := s1.chan ch
      if c.mayStart leftUs q.frame then s1.putChan ch { c with
        pending := if (s.chan ch).retry = none then rest else c.pending, retry := none
        onBus := some { q with attempts := q.attempts + 1 }, onBusExclusive := false, onBusRef := false }
      else s1) := by
  have hretry : (((s.touch t).dropExpired ch).chan ch).retry = (s.chan ch).retry := by
    rw [chan_dropExpired]
    rfl
  have hlatch := latch_eq (c := ((s.touch t).dropExpired ch).chan ch) (q := q) (rest := rest) (by rw [hretry]; exact hl)
  rw [hretry] at hlatch
  refine (if_pos ⟨hon, by rw [show ((s.touch t).chan ch).onBus = none from hidle]; rfl, hbus, hmode⟩).trans ?_
  dsimp only
  rw [hlatch]
  dsimp only
  by_cases hs : (((s.touch t).dropExpired ch).chan ch).mayStart leftUs q.frame = true
  · rw [if_pos hs]
    exact if_pos hs
  · rw [if_neg hs]
    exact if_neg hs

end

/-! ### The end of a frame (R357, R358, R361, R364, R365) -/

section
variable {s : State} {ch t : Nat} {q : TxReq} {r : CanEnd}

/-- A channel whose counters have followed the end of its frame. -/
def followed (s : State) (ch t : Nat) (r : CanEnd) : State :=
  (s.touch t).followErrors ch (afterFrame (s.chan ch) r)

/-- What the end of the reference message does, by the channel as its counters leave it. -/
def endedRef (s : State) (ch : Nat) (r : CanEnd) : State :=
  if (s.chan ch).bus = .busOff then (s.putChan ch ((s.chan ch).endRef r)).busOff ch else s.putChan ch ((s.chan ch).endRef r)

/-- What the end of another frame does. -/
def endedEvent (s : State) (ch : Nat) (q : TxReq) (r : CanEnd) : State :=
  if (s.chan ch).bus = .busOff then (s.busOff ch).complete ch q 4
  else if r ≠ .ok ∧ mayRetry (s.chan ch) q = true then s.putChan ch { s.chan ch with onBus := none, retry := some q }
  else (s.putChan ch { s.chan ch with onBus := none, onBusExclusive := false }).complete ch q (endStatus (s.chan ch) q r)

theorem canFrameEnd_ref (hon : s.wbOn = true) (hbus : (s.chan ch).onBus = some q) (href : (s.chan ch).onBusRef = true) :
    exec (.canFrameEnd ch r t) s = .next (endedRef (followed s ch t r) ch r) := by
  have hon' : (s.touch t).wbOn = true := hon
  have hbus' : ((s.touch t).chan ch).onBus = some q := hbus
  show execCanFrameEnd ch r t s = _
  unfold execCanFrameEnd
  dsimp only
  rw [hon', hbus']
  exact if_pos href

theorem canFrameEnd_event (hon : s.wbOn = true) (hbus : (s.chan ch).onBus = some q) (href : (s.chan ch).onBusRef = false) :
    exec (.canFrameEnd ch r t) s = .next (endedEvent (followed s ch t r) ch q r) := by
  have hon' : (s.touch t).wbOn = true := hon
  have hbus' : ((s.touch t).chan ch).onBus = some q := hbus
  show execCanFrameEnd ch r t s = _
  unfold execCanFrameEnd
  dsimp only
  rw [hon', hbus']
  refine (if_neg (by rw [show ((s.touch t).chan ch).onBusRef = false from href]; exact Bool.false_ne_true)).trans ?_
  unfold endedEvent
  rw [apply_ite Host.Outcome.next, apply_ite Host.Outcome.next] <;> rfl

end

end Sys2Proof.WharfRules
end

section
/-! ## Recovery, tide rows, modes and configuration of a Wharf bus channel (R349, R350, R360-R366) -/

namespace Sys2Proof.WharfRules

open Sys2Proof Sys2Proof.Machine Sys2Proof.Laws Sys2Proof.QueueRules Sys2Proof.SvcUp
open Sys2Proof.VoteFlag (foldl_preserves)

/-- A state that has changed one channel, and events beside it. -/
def ChanOnly (s u : State) (ch : Nat) : Prop := (∀ k, k ≠ ch → u.chan k = s.chan k) ∧ u.lanes = s.lanes

/-! ### Recovery (R366) -/

section
variable {s : State} {ch t : Nat}

theorem busOffHoldoffEnd_eq {a : Nat} (hon : s.wbOn = true) (hb : (s.chan ch).bus = .busOff)
    (ha : (s.chan ch).busOffAt = some a) (hd : a + (s.chan ch).holdOffMs * 1000000 ≤ max s.now t) :
    exec (.busOffHoldoffEnd ch t) s = .next ((s.touch t).putChan ch { s.chan ch with holdOffDone := true }) := by
  have ha' : ((s.touch t).chan ch).busOffAt = some a := ha
  show execBusOffHoldoffEnd ch t s = _
  unfold execBusOffHoldoffEnd
  dsimp only
  split
  next b hb' =>
    cases hb'.symm.trans ha'
    exact if_pos (And.intro hon (And.intro hb hd))
  next hno => exact absurd (hno.symm.trans ha') (by simp)

theorem busOffRecovery_spec (hon : s.wbOn = true) (hb : (s.chan ch).bus = .busOff) (hd : (s.chan ch).holdOffDone = true) :
    ∃ u, exec (.busOffRecovery ch t) s = .next u ∧ (u.chan ch).bus = .active ∧ (u.chan ch).tec = 0 ∧
      (u.chan ch).rxErr = 0 ∧ (u.chan ch).mode = (s.chan ch).mode ∧ u.lanes = s.lanes := by
  refine ⟨_, if_pos (And.intro hon (And.intro hb hd)), ?_⟩
  rw [chan_dropExpired, chan_raise, chan_putChan_self]
  exact ⟨rfl, rfl, rfl, rfl, (vitalSame_dropExpired _ _).1.trans (lanes_raise ..)⟩

theorem busoffLimit_spec (hon : s.wbOn = true)
    (h8 : 8 ≤ ((s.chan ch).busOffs.filter (fun b => decide (max s.now t < b + 60000000000))).length) :
    ∃ u, exec (.busoffLimit ch t) s = .next u ∧ (u.chan ch).mode = .off ∧ (u.chan ch).status = 2 ∧ ChanOnly s u ch := by
  refine ⟨_, if_pos (And.intro hon h8), ?_⟩
  rw [chan_raise, chan_putChan_self]
  exact ⟨rfl, rfl, fun k hk => (chan_raise ..).trans (chan_putChan_ne _ _ hk), lanes_raise ..⟩

end

/-! ### Tide rows (R360-R362) -/

/-- The row that opens next. -/
def nextRow (c : WbChan) (tt : TideTable) : Nat := if c.tideRunning then (if c.row + 1 < tt.rows then c.row + 1 else 0) else 0

/-- A channel with its next row open; a shadow table takes effect at row 0. -/
def opened (c : WbChan) (tt : TideTable) : WbChan :=
  if nextRow c tt = 0 ∧ c.shadow.isSome then
    { c with row := nextRow c tt, col := 0, tideRunning := true, tide := c.shadow, shadow := none }
  else { c with row := nextRow c tt, col := 0, tideRunning := true }

theorem opened_spec (c : WbChan) (tt : TideTable) : ∃ x y, opened c tt =
    { c with row := nextRow c tt, col := 0, tideRunning := true, tide := x, shadow := y } := by
  unfold opened
  split <;> exact ⟨_, _, rfl⟩

section
variable {s : State} {ch t : Nat} {tt : TideTable}

/-- The channel as a row starts, by the bus and the frame on it. -/
def rowStarted (c : WbChan) (tt : TideTable) (now : Nat) : WbChan :=
  if c.bus = .busOff then opened c tt
  else if c.onBus.isSome then { opened c tt with waitRow := false, refFail := (opened c tt).refFail + 1 }
  else { opened c tt with
    waitRow := false, onBus := some ⟨refFrame c.refId (nextRow c tt), 0, 0, now, 1⟩, onBusExclusive := false, onBusRef := true }

theorem tideRowStart_eq (hon : s.wbOn = true) (hm : (s.chan ch).mode = .tide) (ht : (s.chan ch).tide = some tt) :
    exec (.tideRowStart ch t) s = .next ((s.touch t).putChan ch (rowStarted (s.chan ch) tt (max s.now t))) := by
  have hon' : (s.touch t).wbOn = true := hon
  have hm' : ((s.touch t).chan ch).mode = .tide := hm
  have ht' : ((s.touch t).chan ch).tide = some tt := ht
  show execTideRowStart ch t s = _
  unfold execTideRowStart
  dsimp only
  split
  next tbl _ _ htbl =>
    cases htbl.symm.trans ht'
    unfold rowStarted
    by_cases hb : (s.chan ch).bus = .busOff
    · rw [if_pos hb]
      exact if_pos hb
    · rw [if_neg hb]
      refine (if_neg hb).trans ?_
      by_cases hf : (s.chan ch).onBus.isSome = true
      · rw [if_pos hf]
        exact if_pos hf
      · rw [if_neg hf]
        exact if_neg hf
  next hno => exact absurd ht' (hno tt hon' hm')

theorem rowStarted_spec (c : WbChan) (tt : TideTable) (now : Nat) : (rowStarted c tt now).col = 0 ∧
    (rowStarted c tt now).tideRunning = true ∧ (rowStarted c tt now).row = nextRow c tt ∧
    (c.bus = .busOff → (rowStarted c tt now).onBus = c.onBus ∧ (rowStarted c tt now).waitRow = c.waitRow) ∧
    (c.bus ≠ .busOff → c.onBus = none →
      (rowStarted c tt now).onBus = some ⟨refFrame c.refId (nextRow c tt), 0, 0, now, 1⟩ ∧
      (rowStarted c tt now).onBusRef = true ∧ (rowStarted c tt now).waitRow = false ∧
      (rowStarted c tt now).refFail = c.refFail) ∧
    (c.bus ≠ .busOff → c.onBus.isSome = true → (rowStarted c tt now).onBus = c.onBus ∧
      (rowStarted c tt now).refFail = c.refFail + 1 ∧ (rowStarted c tt now).waitRow = false) := by
  obtain ⟨x, y, h⟩ := opened_spec c tt
  unfold rowStarted
  rw [h]
  split
  next hb => exact ⟨rfl, rfl, rfl, fun _ => ⟨rfl, rfl⟩, fun hno => absurd hb hno, fun hno => absurd hb hno⟩
  next hb =>
    split
    next hbus =>
      exact ⟨rfl, rfl, rfl, fun hoff => absurd hoff hb, fun _ hnone => absurd hbus (by rw [hnone]; decide),
        fun _ _ => ⟨rfl, rfl, rfl⟩⟩
    next hbus =>
      exact ⟨rfl, rfl, rfl, fun hoff => absurd hoff hb, fun _ _ => ⟨rfl, rfl, rfl, rfl⟩, fun _ hsome => absurd hsome hbus⟩

theorem nextRow_eq (c : WbChan) (tt : TideTable) :
    nextRow c tt = if c.tideRunning = true ∧ c.row + 1 < tt.rows then c.row + 1 else 0 := by
  unfold nextRow
  by_cases h : c.tideRunning = true <;> simp [h]

variable {col : Nat} (hon : s.wbOn = true) (hm : (s.chan ch).mode = .tide) (ht : (s.chan ch).tide = some tt)
  (hrun : (s.chan ch).tideRunning = true) (hcol : col < tt.cols.length)
  (hkind : cellKind (tideCell tt (s.chan ch).row col) = 1)
include hon hm ht hrun hcol hkind

theorem exclusiveWindow_missed (hb : (s.chan ch).bus = .busOff) : exec (.exclusiveWindow ch col) s =
    .next (s.putChan ch { s.chan ch with col := col, missed := (s.chan ch).missed + 1 }) := by
  show execExclusiveWindow ch col s = _
  unfold execExclusiveWindow
  dsimp only
  rw [hon, hm, ht]
  exact (if_pos ⟨hrun, hcol⟩).trans ((if_neg (not_not.2 hkind)).trans (if_pos hb))

theorem exclusiveWindow_starts {f : CanFrame} (hb : (s.chan ch).bus ≠ .busOff) (hw : (s.chan ch).waitRow = false)
    (hbus : (s.chan ch).onBus = none)
    (hf : Tbl.get none (s.chan ch).exclusive (cellBuf (tideCell tt (s.chan ch).row col)) = some f) :
    exec (.exclusiveWindow ch col) s = .next (s.putChan ch { s.chan ch with
      col := col, onBus := some ⟨f, 0, 0, s.now, 1⟩, onBusExclusive := true, onBusRef := false }) := by
  show execExclusiveWindow ch col s = _
  unfold execExclusiveWindow
  dsimp only
  rw [hon, hm, ht]
  refine (if_pos ⟨hrun, hcol⟩).trans ((if_neg (not_not.2 hkind)).trans ((if_neg hb).trans ?_))
  split
  next f' _ _ hf' =>
    rw [hf] at hf'
    cases hf'
    rfl
  next hno => exact absurd hf (hno f hw hbus)

end

/-! ### Modes (R348, R349) -/

/-- A channel in a mode keeps what decides which mode is due, and its requests. -/
theorem enter_spec (c : WbChan) (m : WbMode) (M : ModState) : (c.enter m).mode = m ∧ wbDue M (c.enter m) = wbDue M c ∧
    (c.enter m).next = c.next ∧ (c.enter m).pending = c.pending := by
  cases m <;> exact ⟨rfl, rfl, rfl, rfl⟩

section
variable {s : State} {ch : Nat}

theorem chan_placeWb (s : State) (ch : Nat) (c : WbChan) : (s.placeWb ch c).chan ch = c := by
  unfold State.placeWb
  dsimp only
  split
  · rw [chan_raise, chan_putChan_self]
  · split
    · rw [chan_raise, chan_putChan_self]
    · exact chan_putChan_self ..

theorem placeWb_frame (s : State) (ch : Nat) (c : WbChan) : ChanOnly s (s.placeWb ch c) ch ∧ vitalSame s (s.placeWb ch c) ∧
    ∀ k, k ≠ 120 → (s.placeWb ch c).queue k = s.queue k := by
  have hr : ∀ n x, ChanOnly s ((s.putChan ch c).raise .warn n .svc x) ch ∧ vitalSame s ((s.putChan ch c).raise .warn n .svc x) ∧
      ∀ k, k ≠ 120 → ((s.putChan ch c).raise .warn n .svc x).queue k = s.queue k := fun n x =>
    ⟨⟨fun k hk => (chan_raise ..).trans (chan_putChan_ne s c hk), lanes_raise ..⟩, vitalSame_raise ..,
      fun k hk => queue_raise (s.putChan ch c) .warn n .svc x hk⟩
  unfold State.placeWb
  dsimp only
  split
  · exact hr _ _
  · split
    · exact hr _ _
    · exact ⟨⟨fun k hk => chan_putChan_ne s c hk, rfl⟩, ⟨rfl, rfl⟩, fun _ _ => rfl⟩

/-- A channel that an online change configures anew keeps its requests and waits for nothing more (R349). -/
theorem renewWb_spec (h : (s.chan ch).next.isSome = true) : ((s.renewWb ch).chan ch).next = none ∧
    ((s.renewWb ch).chan ch).pending = (s.chan ch).pending ∧ ChanOnly s (s.renewWb ch) ch ∧
    (s.renewWb ch).module = s.module := by
  unfold State.renewWb
  dsimp only
  split
  next hn =>
    rw [hn] at h
    contradiction
  next hn =>
    rw [chan_putChan_self]
    exact ⟨rfl, rfl, ⟨fun k hk => chan_putChan_ne s _ hk, rfl⟩, rfl⟩
  next g hn =>
    rw [chan_placeWb]
    obtain ⟨honly, hvital, -⟩ := placeWb_frame s ch ((s.chan ch).renewed (wbConfigure ch g (s.wbMarked ch)))
    exact ⟨rfl, rfl, honly, hvital.2⟩

theorem renewWb_none (h : (s.chan ch).next = none) : s.renewWb ch = s := by
  unfold State.renewWb
  dsimp only
  rw [h]

theorem channelModeChange_eq (hon : s.wbOn = true) (hidle : (s.chan ch).onBus = none)
    (h : wbDue s.module (s.chan ch) ≠ (s.chan ch).mode ∨ (s.chan ch).next.isSome = true) :
    exec (.channelModeChange ch) s = .next ((s.renewWb ch).putChan ch
      (((s.renewWb ch).chan ch).enter (wbDue s.module ((s.renewWb ch).chan ch)))) :=
  if_pos ⟨hon, by rw [hidle]; rfl, h⟩

end

/-! ### A word of the block (R350, R352, R362, R363) -/

/-- A table fits the timing and the buffers of a channel (R363). -/
def tideFits (c : WbChan) (t : TideTable) : Bool :=
  match c.timing with
  | none => false
  | some bt => tideOk bt c.refId c.exclusive t

theorem takeTide_eq (c : WbChan) (t : TideTable) : c.takeTide t =
    if !tideFits c t then { c with status := if c.status = 0 then 3 else c.status }
    else
      let c1 := { c with status := if c.status = 3 then 0 else c.status }
      if c.tideRunning then { c1 with shadow := some t } else { c1 with tide := some t } := rfl

/-- What a table that is written leaves of its channel. -/
theorem takeTide_spec (c : WbChan) (t : TideTable) : ∃ x y n, c.takeTide t = { c with tide := x, shadow := y, status := n } ∧
    (c.tideRunning = true → x = c.tide) := by
  rw [takeTide_eq]
  dsimp only
  split
  · exact ⟨c.tide, c.shadow, _, rfl, fun _ => rfl⟩
  · split
    · exact ⟨c.tide, some t, _, rfl, fun _ => rfl⟩
    next hno => exact ⟨some t, c.shadow, _, rfl, fun h => absurd h hno⟩

/-- A frame of an exclusive buffer with the data written, as long as its DLC says. -/
def filled (f : CanFrame) (d : List Byte) : CanFrame :=
  { f with data := (d ++ List.replicate (dlcLen f.fdf f.dlc) 0).take (dlcLen f.fdf f.dlc) }

/-- What the write of a field leaves of its channel. -/
theorem takeField_spec (c : WbChan) (f : WbField) : (c.takeField f).pending = c.pending ∧ (c.takeField f).onBus = c.onBus ∧
    (c.takeField f).filters = (match f with
      | .pair n v => if n < 32 then Tbl.set 0 c.filters n v else c.filters
      | _ => c.filters) ∧
    (offOnly f = false → (c.takeField f).timing = c.timing ∧ (c.takeField f).cfgMode = c.cfgMode) ∧
    (c.tideRunning = true → (c.takeField f).tide = c.tide) ∧
    (∀ n g, Tbl.get none c.exclusive n = some g →
      ∃ g', Tbl.get none (c.takeField f).exclusive n = some g' ∧ g'.dlc = g.dlc ∧ g'.id = g.id) := by
  cases f with
  | plain => exact ⟨rfl, rfl, rfl, fun _ => ⟨rfl, rfl⟩, fun _ => rfl, fun n g h => ⟨g, h, rfl, rfl⟩⟩
  | timing t =>
    unfold WbChan.takeField
    dsimp only
    split <;> exact ⟨rfl, rfl, rfl, fun h => Bool.noConfusion h, fun _ => rfl, fun n g h => ⟨g, h, rfl, rfl⟩⟩
  | mode m => exact ⟨rfl, rfl, rfl, fun h => Bool.noConfusion h, fun _ => rfl, fun n g h => ⟨g, h, rfl, rfl⟩⟩
  | pair k v =>
    unfold WbChan.takeField
    dsimp only
    split <;> exact ⟨rfl, rfl, rfl, fun _ => ⟨rfl, rfl⟩, fun _ => rfl, fun n g h => ⟨g, h, rfl, rfl⟩⟩
  | buffer k d =>
    unfold WbChan.takeField
    dsimp only
    split
    · exact ⟨rfl, rfl, rfl, fun _ => ⟨rfl, rfl⟩, fun _ => rfl, fun n g h => ⟨g, h, rfl, rfl⟩⟩
    next f hf =>
      refine ⟨rfl, rfl, rfl, fun _ => ⟨rfl, rfl⟩, fun _ => rfl, fun n g h => ?_⟩
      show ∃ g', Tbl.get none (Tbl.set none c.exclusive k (some (filled f d))) n = some g' ∧ _
      by_cases hn : n = k
      · subst hn
        cases hf.symm.trans h
        exact ⟨filled f d, Tbl_get_set_self none c.exclusive n (some (filled f d)), rfl, rfl⟩
      · exact ⟨g, (Tbl_get_set_ne none c.exclusive (some (filled f d)) hn).trans h, rfl, rfl⟩
  | tide t =>
    obtain ⟨x, y, n, hc, hx⟩ := takeTide_spec c t
    show (c.takeTide t).pending = _ ∧ (c.takeTide t).onBus = _ ∧ (c.takeTide t).filters = _ ∧ (_ → (c.takeTide t).timing = _ ∧
      (c.takeTide t).cfgMode = _) ∧ (_ → (c.takeTide t).tide = _) ∧ ∀ n g, _ → ∃ g', Tbl.get none (c.takeTide t).exclusive n = _ ∧ _
    rw [hc]
    exact ⟨rfl, rfl, rfl, fun _ => ⟨rfl, rfl⟩, hx, fun n g h => ⟨g, h, rfl, rfl⟩⟩
  | restart => exact ⟨rfl, rfl, rfl, fun _ => ⟨rfl, rfl⟩, fun _ => rfl, fun n g h => ⟨g, h, rfl, rfl⟩⟩

/-- A field for OFF alone is no filter pair. -/
theorem filters_offOnly (c : WbChan) {f : WbField} (h : offOnly f = true) : (c.takeField f).filters = c.filters := by
  cases f with
  | timing t =>
    unfold WbChan.takeField
    dsimp only
    split <;> rfl
  | mode => rfl
  | plain => exact Bool.noConfusion h
  | pair => exact Bool.noConfusion h
  | buffer => exact Bool.noConfusion h
  | tide => exact Bool.noConfusion h
  | restart => exact Bool.noConfusion h

section
variable {s : State} {ch : Nat}

theorem chan_writeField (s : State) (ch : Nat) (f : WbField) : (s.writeField ch f).chan ch = (s.chan ch).takeField f := by
  unfold State.writeField
  dsimp only
  split
  · exact chan_putChan_self ..
  · exact chan_placeWb ..

theorem writeField_frame (s : State) (ch : Nat) (f : WbField) : ChanOnly s (s.writeField ch f) ch ∧
    vitalSame s (s.writeField ch f) ∧ ∀ k, k ≠ 120 → (s.writeField ch f).queue k = s.queue k := by
  unfold State.writeField
  dsimp only
  split
  · exact ⟨⟨fun k hk => chan_putChan_ne s _ hk, rfl⟩, ⟨rfl, rfl⟩, fun _ _ => rfl⟩
  · exact placeWb_frame s ch _

theorem lanes2of2_writeField (s : State) (ch : Nat) (f : WbField) : (s.writeField ch f).lanes2of2 = s.lanes2of2 := by
  unfold State.writeField
  dsimp only
  split
  · rfl
  · exact (VoteFlag.kept_placeWb s ch _).1

theorem lanes_settle_flag (h : s.flagOk) : s.settle.lanes = s.lanes ∧ s.settle.wb = s.wb ∧ s.settle.queues = s.queues ∧
    s.settle.regs = s.regs ∧ s.settle.module = s.module := by
  have hsame : (if s.lanes2of2 = decide (s.voters.length = 2) then s
      else { s.raiseModule .info .lanes2of2 [if decide (s.voters.length = 2) then 1 else 0] with
        lanes2of2 := decide (s.voters.length = 2) }) = s := if_pos h
  unfold State.settle
  dsimp only
  rw [hsame]
  exact ⟨rfl, rfl, rfl, rfl, rfl⟩

theorem blkAt_wb {off : Nat} (h : off < 0x8000) : blkAt (0x40020000 + off) = some (.wb, off) := by
  have hdiv : (0x40020000 + off) / 65536 = 0x4002 := by omega
  have hmod : (0x40020000 + off) % 65536 = off := by omega
  unfold blkAt
  rw [hdiv, hmod]
  rfl

/-- A write of 32 bits to a word of the block (R14, Table 16.1). -/
theorem registerWrite_wb {off t : Nat} {w : U64} (hon : s.svcOn = true) (hoff : off < 0x8000) (h4 : off % 4 = 0) :
    exec (.registerWrite (0x40020000 + off) 32 w t) s =
      .next ((s.touch t).writeWb (0x40020000 + off) off (w.setWidth 32)).settle := by
  have hbits : ¬(((32 : Nat) ≠ 32 ∧ (32 : Nat) ≠ 64) ∨ (0x40020000 + off) % (32 / 8) ≠ 0) := by omega
  have hmirror : ¬inMirror (0x40020000 + off) = true := by
    unfold inMirror
    simp only [Bool.and_eq_true, decide_eq_true_eq]
    omega
  have hreg : (s.touch t).write32 .wb (0x40020000 + off) off (w.setWidth 32) t =
      (s.touch t).writeWb (0x40020000 + off) off (w.setWidth 32) := by
    unfold State.write32
    rw [if_neg (by omega), if_neg (by omega)]
  show execRegisterWrite (0x40020000 + off) 32 w t s = _
  unfold execRegisterWrite
  dsimp only
  rw [if_neg (by rw [show (s.touch t).svcOn = true from hon]; decide), if_neg hbits, if_neg hmirror, blkAt_wb hoff]
  show fin ((s.touch t).write32 .wb (0x40020000 + off) off (w.setWidth 32) t) = _
  rw [hreg]
  rfl

/-- The state that a word of a channel leaves (R350): a field for OFF alone waits for that mode. -/
theorem writeWb_spec {addr off : Nat} {v : U32} (hoff : off < 0x8000) :
    let u := s.writeWb addr off v
    let ch := off / 0x2000
    let f := Config.wbField s.regs.file addr v
    ChanOnly s u ch ∧ vitalSame s u ∧ u.lanes2of2 = s.lanes2of2 ∧ (∀ k, k ≠ 120 → u.queue k = s.queue k) ∧
    (offOnly f = true ∧ (s.chan ch).mode ≠ .off ∧ u.chan ch = s.chan ch ∧
        (u.lock .wb).lwCount = min ((s.lock .wb).lwCount + 1) 255 ∧ (u.lock .wb).lastOffset = off ∨
      ¬(offOnly f = true ∧ (s.chan ch).mode ≠ .off) ∧ u.chan ch = (s.chan ch).takeField f) := by
  unfold State.writeWb
  dsimp only
  rw [if_neg (by omega)]
  generalize Config.wbField s.regs.file addr v = f
  split
  next hlock =>
    obtain ⟨hf, hm⟩ := hlock
    refine ⟨⟨fun k _ => chan_raise .., lanes_raise ..⟩, vitalSame_lockedWrite .., lanes2of2_raise ..,
      fun k hk => queue_raise _ _ _ _ _ hk, .inl ⟨hf, hm, chan_raise .., ?_, ?_⟩⟩ <;>
      rw [State.lockedWrite, lock_congr (regs_raise ..), lock_putLock_self]
  next hno =>
    obtain ⟨⟨hothers, hlanes⟩, hvital, hq⟩ := writeField_frame (s.storeWord .wb addr v) (off / 0x2000) f
    exact ⟨⟨hothers, hlanes⟩, hvital, lanes2of2_writeField .., hq, .inr ⟨hno, chan_writeField ..⟩⟩

end

/-! ### The settled obligation -/

/-- Settles O36: each step of a channel by its equation; a word of the block by the field it writes. -/
theorem wharfBus : Obligations.WharfBus := by
  unfold Obligations.WharfBus
  refine ⟨⟨fun s ch f time i a => ?_, fun s ch t leftUs n q rest r => ?_⟩, fun s ch t a col tt f => ?_, fun s off t w => ?_⟩
  · dsimp only
    refine ⟨firstPair_spec, fun _ _ hb => ⟨canFrameRx_off hb, canFrameRx_off hb⟩, fun hon hm hb => ?_⟩
    rw [mode_recDown] at hm
    refine ⟨canFrameRx_error hon hm hb, fun hl => congrArg WbChan.rxErr (if_neg hl), fun hr => ?_, fun hr hp => ?_, fun hr hp => ?_⟩
    · rw [canFrameRx_frame hon hm hb]
      exact congrArg Host.Outcome.next (if_pos hr)
    · rw [canFrameRx_frame hon hm hb, takeCan_unmatched hr hp]
    · rw [canFrameRx_frame hon hm hb, takeCan_matched hr hp]
      refine ⟨fun ha => congrArg Host.Outcome.next (if_pos ha), fun ha hfit => ?_, fun ha hfull => ?_⟩
      · exact congrArg Host.Outcome.next ((if_neg (by omega)).trans (if_pos hfit))
      · exact congrArg Host.Outcome.next ((if_neg (by omega)).trans (if_neg (by rw [hfull]; exact Bool.false_ne_true)))
  · dsimp only
    refine ⟨fun h => ⟨insertReq_sorted h, insertReq_perm q _⟩, fun hon => ⟨fun hm hroom hp => txRequestAdmit_eq hon hm hroom hp,
      fun hidle hb hmode hl => ?_, fun hbus href hb => ?_, fun hbus href => ?_⟩⟩
    · rw [frameStart_eq hon hidle hb hmode hl]
      exact ⟨fun hs => congrArg Host.Outcome.next (if_pos hs),
        fun hs => congrArg Host.Outcome.next (if_neg (by rw [hs]; exact Bool.false_ne_true))⟩
    · refine (canFrameEnd_ref hon hbus href).trans (congrArg Host.Outcome.next ((if_neg hb).trans ?_))
      have href : ∀ c : WbChan, c.endRef r = { c with
          onBus := none, onBusRef := false, refFail := c.refFail + (if r = .ok then 0 else 1) } := fun c => by
        unfold WbChan.endRef
        split <;> rfl
      rw [href]
      rfl
    · have hend := canFrameEnd_event (t := t) (r := r) hon hbus href
      refine ⟨fun hb => hend.trans (congrArg Host.Outcome.next (if_pos hb)),
        fun hb hr hm => hend.trans (congrArg Host.Outcome.next ((if_neg hb).trans (if_pos ⟨hr, hm⟩))),
        fun hb h => hend.trans (congrArg Host.Outcome.next ((if_neg hb).trans (if_neg ?_)))⟩
      rintro ⟨hr, hm⟩
      rcases h with h | h
      · exact hr h
      · rw [followed, show s.chan ch = (s.touch t).chan ch from rfl, h] at hm
        contradiction
  · dsimp only
    intro hon
    refine ⟨fun hb ha hd => busOffHoldoffEnd_eq hon hb ha hd, fun hb hd => busOffRecovery_spec hon hb hd,
      fun h8 => busoffLimit_spec hon h8, fun hm ht => ⟨?_, fun hrun hcol hkind =>
        ⟨exclusiveWindow_missed hon hm ht hrun hcol hkind, exclusiveWindow_starts hon hm ht hrun hcol hkind⟩⟩,
      fun hidle hnext hdue => ⟨?_, (enter_spec (s.chan ch) _ s.module).1⟩, fun hidle hnext => ?_,
      fun hbusy => if_neg (fun h => ?_)⟩
    · obtain ⟨h1, h2, h3, h4, h5, h6⟩ := rowStarted_spec (s.chan ch) tt (max s.now t)
      refine ⟨_, tideRowStart_eq hon hm ht, ?_⟩
      rw [chan_putChan_self, ← nextRow_eq]
      exact ⟨h1, h2, h3, fun k hk => chan_putChan_ne _ _ hk, rfl, h4, h5, h6⟩
    · have h := channelModeChange_eq hon hidle (.inl hdue)
      rwa [renewWb_none hnext] at h
    · obtain ⟨hn, hp, ⟨hothers, hlanes⟩, -⟩ := renewWb_spec hnext
      obtain ⟨e1, e2, e3, e4⟩ := enter_spec ((s.renewWb ch).chan ch) (wbDue s.module ((s.renewWb ch).chan ch)) s.module
      refine ⟨_, channelModeChange_eq hon hidle (.inr hnext), ?_⟩
      rw [chan_putChan_self]
      exact ⟨e3.trans hn, e4.trans hp, e1.trans e2.symm, fun k hk => (chan_putChan_ne _ _ hk).trans (hothers k hk), hlanes⟩
    · obtain ⟨-, hidle, -⟩ := h
      rw [Option.isNone_iff_eq_none.1 hidle] at hbusy
      contradiction
  · dsimp only
    intro hon hflag hoff h4
    obtain ⟨⟨hothers, -⟩, ⟨hlanes, hmod⟩, h2of2, hq, hchan⟩ :=
      writeWb_spec (s := s.touch t) (addr := 0x40020000 + off) (v := w.setWidth 32) hoff
    have hkept : VoteFlag.Kept s ((s.touch t).writeWb (0x40020000 + off) off (w.setWidth 32)) := ⟨h2of2, congrArg _ hlanes⟩
    obtain ⟨slanes, swb, squeues, sregs, smod⟩ := lanes_settle_flag (hkept.flagOk hflag)
    have schan : ∀ k, ((s.touch t).writeWb (0x40020000 + off) off (w.setWidth 32)).settle.chan k =
        ((s.touch t).writeWb (0x40020000 + off) off (w.setWidth 32)).chan k := fun k => chan_of_wb swb k
    obtain ⟨f1, f2, f3, f4, f5, f6⟩ := takeField_spec (s.chan (off / 0x2000))
      (Config.wbField s.regs.file (0x40020000 + off) (w.setWidth 32))
    refine ⟨_, registerWrite_wb hon hoff h4, ⟨slanes.trans hlanes, smod.trans hmod⟩, fun k hk => ?_,
      fun k hk => (schan k).trans (hothers k hk), ?_⟩
    · exact (congrArg (fun Q => Tbl.get (queueReset k) Q k) squeues).trans (hq k hk)
    rw [schan, lock_congr sregs]
    rcases hchan with ⟨hf, hm, hc, hcount, hoffset⟩ | ⟨hno, hc⟩
    · rw [hc]
      exact ⟨rfl, rfl, (filters_offOnly _ hf).symm.trans f3, fun _ => ⟨rfl, rfl, fun _ => ⟨rfl, hcount, hoffset⟩⟩, fun _ => rfl,
        fun n g hg => ⟨g, hg, rfl, rfl⟩⟩
    · rw [hc]
      refine ⟨f1, f2, f3, fun hm => ?_, f5, f6⟩
      have hf : offOnly (Config.wbField s.regs.file (0x40020000 + off) (w.setWidth 32)) = false := by
        by_contra hne
        exact hno ⟨by simpa using hne, hm⟩
      exact ⟨(f4 hf).1, (f4 hf).2, fun ht => absurd ht (by rw [hf]; exact Bool.false_ne_true)⟩

end Sys2Proof.WharfRules
end

section
/-! ## Local inputs (R323, R324, R337, R338, R342, R343) -/

namespace Sys2Proof.LocalRules

open Sys2Proof Sys2Proof.Machine Sys2Proof.Laws Sys2Proof.VoteRules Sys2Proof.ConsRules
open Sys2Proof.VoteFlag (foldl_preserves)

/-! ### Filters (R323) -/

/-- A filter of the other value follows a level at its n-th equal sample. -/
theorem filt_follows (n : Nat) (b : Bool) (hn : 1 ≤ n) (k : Nat) :
    (Filt.step n b)^[k] ⟨!b, 0⟩ = if k < n then ⟨!b, k⟩ else ⟨b, 0⟩ := by
  have hne : b ≠ !b := by cases b <;> decide
  induction k with
  | zero => rw [if_pos (by omega)]; rfl
  | succ k ih =>
    rw [Function.iterate_succ_apply', ih]
    unfold Filt.step
    by_cases hk : k < n
    · rw [if_pos hk]
      dsimp only
      rw [if_neg hne]
      by_cases hlast : n ≤ k + 1
      · rw [if_pos hlast, if_neg (by omega)]
      · rw [if_neg hlast, if_pos (by omega)]
    · rw [if_neg hk, if_pos rfl, if_neg (by omega)]

/-! ### One sample of the terminal paths (R324, R337) -/

/-- The level that a terminal path takes at a sample. -/
def sampledLevel (ln : LaneId) (c : LocalIoCfg) (sm : Sample) (i : InPaths) (ch : Nat) : Bool :=
  if decide (modeOf c ch = .input) && decide (i.slot = testSlot ln ch) then Tbl.get false i.level ch
  else rawBool (decide (modeOf c ch ≠ .output) && Tbl.get false i.level ch) (if sm.stagesOk then Tbl.get .off sm.vlio ch else .off)

/-- The paths with the first terminals sampled. -/
def terminals (ln : LaneId) (c : LocalIoCfg) (sm : Sample) (i : InPaths) (n : Nat) : InPaths :=
  (List.range n).foldl (fun i ch =>
    samplePath (filterOf c ch) ch (decide (modeOf c ch ≠ .output))
      (decide (modeOf c ch = .input) && decide (i.slot = testSlot ln ch))
      (if sm.stagesOk then Tbl.get .off sm.vlio ch else .off) i) { i with vliofOk := sm.stagesOk }

theorem terminals_spec (ln : LaneId) (c : LocalIoCfg) (sm : Sample) (i : InPaths) (n : Nat) :
    (terminals ln c sm i n).slot = i.slot ∧ (terminals ln c sm i n).vliofOk = sm.stagesOk ∧
    ∀ ch, Tbl.get false (terminals ln c sm i n).level ch = if ch < n then sampledLevel ln c sm i ch else Tbl.get false i.level ch := by
  induction n with
  | zero => exact ⟨rfl, rfl, fun ch => (if_neg (Nat.not_lt_zero ch)).symm⟩
  | succ n ih =>
    obtain ⟨hslot, hok, hlevel⟩ := ih
    have hstep : terminals ln c sm i (n + 1) = samplePath (filterOf c n) n (decide (modeOf c n ≠ .output))
        (decide (modeOf c n = .input) && decide ((terminals ln c sm i n).slot = testSlot ln n))
        (if sm.stagesOk then Tbl.get .off sm.vlio n else .off) (terminals ln c sm i n) := by
      unfold terminals
      rw [List.range_succ, List.foldl_append]
      rfl
    have hold : Tbl.get false (terminals ln c sm i n).level n = Tbl.get false i.level n := by
      rw [hlevel, if_neg (by omega)]
    rw [hstep]
    refine ⟨hslot, hok, fun ch => ?_⟩
    unfold samplePath
    dsimp only
    rw [hslot, hold]
    by_cases hch : ch = n
    · subst hch
      exact (Tbl_get_set_self _ _ _ _).trans (if_pos (Nat.lt_succ_self ch)).symm
    · rw [Tbl_get_set_ne _ _ _ hch, hlevel]
      by_cases hlt : ch < n
      · rw [if_pos hlt, if_pos (by omega)]
      · rw [if_neg hlt, if_neg (by omega)]

/-- What the later stages of a sample leave of a terminal. -/
def front (ch : Nat) (i : InPaths) : Bool × Bool := (Tbl.get false i.level ch, i.vliofOk)

section
variable {ch : Nat}

theorem front_set {key : Nat} (h : ch ≠ key) (b : Bool) (i : InPaths) :
    front ch { i with level := Tbl.set false i.level key b } = front ch i := by
  unfold front
  rw [Tbl_get_set_ne _ _ _ h]

theorem front_samplePath {n key : Nat} (h : ch ≠ key) (keep again : Bool) (lv : RawLevel) (i : InPaths) :
    front ch (samplePath n key keep again lv i) = front ch i := front_set h _ i

theorem front_sampleSupply {bit : Nat} (h : ch < 200) (lo hi mv : Nat) (i : InPaths) :
    front ch (sampleSupply bit lo hi mv i) = front ch i := front_set (by omega) _ i

theorem front_esFollow (k : Nat) (i : InPaths) : front ch (esFollow k i) = front ch i := by
  unfold esFollow
  dsimp only
  (repeat' split) <;> rfl

/-- A terminal stays through the rest of its sample. -/
theorem front_samplePaths (hch : ch < 48) (ln : LaneId) (c : LocalIoCfg) (step : Nat) (sm : Sample) (i : InPaths) :
    front ch (samplePaths ln c step sm i) = front ch (terminals ln c sm i 48) := by
  unfold samplePaths
  dsimp only
  refine (show front ch _ = front ch (esFollow 1 (esFollow 0 _)) from rfl).trans ?_
  rw [front_esFollow, front_esFollow]
  refine (foldl_preserves (front ch) _ (fun i (k : Nat) => ?_) _ _).trans ?_
  · rfl
  refine (foldl_preserves (front ch) _ (fun i (k : Nat) => ?_) _ _).trans ?_
  · exact (front_sampleSupply (by omega) _ _ _ _).trans (front_sampleSupply (by omega) _ _ _ _)
  refine (foldl_preserves (front ch) _ (fun i (k : Nat) => ?_) _ _).trans ?_
  · exact front_set (key := 100 + k) (by omega) _ i
  refine (foldl_preserves (front ch) _ (fun i (k : Nat) => ?_) _ _).trans ?_
  · rfl
  refine (foldl_preserves (front ch) _ (fun i (k : Nat) => ?_) _ _).trans ?_
  · exact front_samplePath (by omega) _ _ _ i
  rfl

end

theorem samplePaths_ok (ln : LaneId) (c : LocalIoCfg) (step : Nat) (sm : Sample) (i : InPaths) :
    (samplePaths ln c step sm i).vliofOk = sm.stagesOk := by
  have h := congrArg Prod.snd (front_samplePaths (ch := 0) (by omega) ln c step sm i)
  exact h.trans (terminals_spec ln c sm i 48).2.1

theorem samplePaths_level {ch : Nat} (hch : ch < 48) (ln : LaneId) (c : LocalIoCfg) (step : Nat) (sm : Sample) (i : InPaths) :
    Tbl.get false (samplePaths ln c step sm i).level ch = sampledLevel ln c sm i ch := by
  have h := congrArg Prod.fst (front_samplePaths hch ln c step sm i)
  exact h.trans (((terminals_spec ln c sm i 48).2.2 ch).trans (if_pos hch))

theorem vectorBit_blind {i : InPaths} (h : i.vliofOk = false) (c : LocalIoCfg) (dead : Nat → Bool) (b : Nat) :
    vectorBit c i dead b = false := if_pos (by rw [h]; rfl)

/-! ### What stays with a lane -/

/-- A lane with the vote, the switches and the coded words of another, and inputs of its own. -/
def InputsOf (L : Lane) (i : InPaths) (M : Lane) : Prop :=
  M.inp = i ∧ M.views = L.views ∧ M.switches = L.switches ∧ M.copy1 = L.copy1 ∧ M.copy2 = L.copy2

theorem holdFree_inputsOf (L : Lane) (i : InPaths) : HoldFree (InputsOf L i) := by
  intro M e h
  unfold Lane.hold
  split <;> exact h

section
variable {s : State} {ln : LaneId}

/-- A lane with new inputs, and an event of it. -/
theorem inputs_raiseLaneAll (i : InPaths) (es : List (LogClass × EventName × List Int)) :
    InputsOf (s.lane ln) i (((s.putLane ln { s.lane ln with inp := i }).raiseLaneAll ln es).lane ln) ∧
    ∀ m, m ≠ ln → ((s.putLane ln { s.lane ln with inp := i }).raiseLaneAll ln es).lane m = s.lane m := by
  refine ⟨raiseLaneAll_of (holdFree_inputsOf _ _) ln es ?_, fun m hm => ?_⟩
  · rw [lane_putLane_self]
    exact ⟨rfl, rfl, rfl, rfl, rfl⟩
  · rw [lane_raiseLaneAll_ne _ _ hm, lane_putLane_ne _ _ hm]

theorem inputs_raiseLane (i : InPaths) (c : LogClass) (n : EventName) (x : List Int) :
    InputsOf (s.lane ln) i (((s.putLane ln { s.lane ln with inp := i }).raiseLane ln c n x).lane ln) ∧
    ∀ m, m ≠ ln → ((s.putLane ln { s.lane ln with inp := i }).raiseLane ln c n x).lane m = s.lane m :=
  inputs_raiseLaneAll i [(c, n, x)]

end

/-! ### Emergency stops (R338, R342, R343) -/

section
variable {s : State} {ln : LaneId} {ch k : Nat}

/-- The inputs with a pair that its dips show to be stuck. -/
def stuckAt (i : InPaths) (k : Nat) : InPaths :=
  { i with stuck := Tbl.set false i.stuck k true, openSeen := Tbl.set false i.openSeen k false }

/-- The inputs with a discrepant pair. -/
def discAt (i : InPaths) (k : Nat) : InPaths :=
  { i with disc := Tbl.set false i.disc k true, openSeen := Tbl.set false i.openSeen k false }

theorem esFault_stuckAt (i : InPaths) (k : Nat) : esFault (stuckAt i k) k = true := by
  have h : Tbl.get false (stuckAt i k).stuck k = true := Tbl_get_set_self false i.stuck k true
  unfold esFault
  rw [h, Bool.or_true, Bool.true_or]

theorem esFault_discAt (i : InPaths) (k : Nat) : esFault (discAt i k) k = true := by
  have h : Tbl.get false (discAt i k).disc k = true := Tbl_get_set_self false i.disc k true
  unfold esFault
  rw [h, Bool.or_true]

theorem esStuck_eq (hc : Tbl.get false (s.lane ln).inp.esClosed ch = true) (hd : 3 ≤ Tbl.get 0 (s.lane ln).inp.esNoDip ch) :
    exec (.esStuck ln ch) s = .next ((s.putLane ln { s.lane ln with inp := stuckAt (s.lane ln).inp (ch / 2) }).raiseLane
      ln .fault .esStuck [(ch / 2 + 1 : Nat)]) :=
  if_pos (Bool.and_eq_true_iff.2 ⟨hc, decide_eq_true hd⟩)

theorem esDisc_eq (h : 10 * (if k = 0 then (s.lane ln).localCfg.td1Ms else (s.lane ln).localCfg.td2Ms) <
      Tbl.get 0 (s.lane ln).inp.esDiff k) :
    exec (.esDisc ln k) s = .next ((s.putLane ln { s.lane ln with inp := discAt (s.lane ln).inp k }).raiseLane
      ln .fault .esDisc [(k + 1 : Nat)]) :=
  if_pos h

/-- The lane once its task has read the emergency stops. -/
def esRead (L : Lane) : Lane :=
  { L with inp := { L.inp with
    esSample := L.inp.esClosed
    stage := [0, 1].foldl (fun t k => Tbl.set 0 t k (stageStep L.inp.esClosed k (Tbl.get 0 t k))) L.inp.stage } }

theorem esTask_eq (hon : s.laneOn ln = true) : exec (.esTask ln) s = .next (s.updLane ln (fun L => (esRead L).esHold)) :=
  if_pos hon

/-- The switches that stay closed are those that no emergency stop holds. -/
theorem mem_switches_esHold (L : Lane) (e : Nat × BitVec 3) :
    e ∈ L.esHold.switches ↔ e ∈ L.switches ∧ (e.1 < 48 ∨ L.esHold.esPermits (e.1 - 48) = true) := by
  have hperm : L.esHold.esPermits (e.1 - 48) = L.esPermits (e.1 - 48) := rfl
  rw [hperm]
  unfold Lane.esHold
  dsimp only
  rw [List.mem_filter, Bool.or_eq_true, decide_eq_true_eq]

end

/-! ### The test of an input (R324) -/

section
variable {s : State} {ln : LaneId} {ch : Nat} {on off : Bool}
  (hm : modeOf (s.lane ln).localCfg ch = .input) (hslot : (s.lane ln).inp.slot = testSlot ln ch)
include hm hslot

theorem inputTest_passed (hon : on = true) (hoff : off = false) : exec (.inputTest ln ch on off) s =
    .next (s.putLane ln { s.lane ln with inp := { (s.lane ln).inp with
      testFail := Tbl.upd 0 (s.lane ln).inp.testFail ch (· - 1) } }) :=
  (if_pos ⟨hm, hslot⟩).trans (if_pos (by rw [hon, hoff]; rfl))

/-- The inputs with a failed path. -/
def failedAt (i : InPaths) (ch : Nat) : InPaths := { i with testFail := Tbl.set 0 i.testFail ch 3 }

theorem inputTest_failed (h : on = false ∨ off = true) : exec (.inputTest ln ch on off) s =
    .next ((s.putLane ln { s.lane ln with inp := failedAt (s.lane ln).inp ch }).raiseLane ln .warn .inputTest [(ch : Nat)]) := by
  refine (if_pos ⟨hm, hslot⟩).trans (if_neg ?_)
  rcases h with rfl | rfl <;> simp

end

theorem vectorBit_failed (c : LocalIoCfg) (i : InPaths) {ch : Nat} (h : ch < 48) (dead : Nat → Bool) :
    vectorBit c (failedAt i ch) dead ch = false := by
  have hfail : Tbl.get 0 (failedAt i ch).testFail ch = 3 := Tbl_get_set_self 0 i.testFail ch 3
  unfold vectorBit
  rw [hfail, if_pos h]
  split
  · rfl
  · rw [show decide ((3 : Nat) = 0) = false from rfl, Bool.and_false, Bool.false_and]

/-! ### The settled obligation -/

/-- Settles O37: a sample is followed terminal by terminal; an emergency stop opens the switches its task holds. -/
theorem localInputPaths : Obligations.LocalInputPaths := by
  unfold Obligations.LocalInputPaths
  intro s ln sm ch k n t b on off
  dsimp only
  refine ⟨fun hn => ?_, fun hon => ⟨⟨_, if_pos hon, ?_⟩, ⟨_, esTask_eq hon, ?_⟩⟩, fun hc hd => ⟨_, esStuck_eq hc hd, ?_⟩,
    fun h => ⟨_, esDisc_eq h, ?_⟩, fun hm hslot => ⟨fun h1 h2 => ⟨_, inputTest_passed hm hslot h1 h2, ?_⟩,
      fun h => ⟨_, inputTest_failed hm hslot h, ?_⟩⟩⟩
  · rw [filt_follows n b hn k]
    split <;> rfl
  · obtain ⟨⟨hinp, hviews, hswitches, hcopy1, hcopy2⟩, hothers⟩ := inputs_raiseLaneAll (s := s.touch t) (ln := ln)
      (samplePaths ln (s.lane ln).localCfg (s.touch t).feedStep { sm with stagesOk := sm.stagesOk && s.fieldOn } (s.lane ln).inp)
      (newCross (s.lane ln).inp (samplePaths ln (s.lane ln).localCfg (s.touch t).feedStep
        { sm with stagesOk := sm.stagesOk && s.fieldOn } (s.lane ln).inp))
    refine ⟨hinp, fun hdark dead i => ?_, fun hm hch hslot => ?_, fun hm hch hslot hok => ?_,
      hviews, hswitches, hcopy1, hcopy2, hothers⟩
    · refine vectorBit_blind ?_ _ dead i
      exact (congrArg InPaths.vliofOk hinp).trans ((samplePaths_ok ..).trans hdark)
    · refine (congrArg (fun i : InPaths => Tbl.get false i.level ch) hinp).trans ((samplePaths_level hch ..).trans ?_)
      exact if_pos (by rw [hm, hslot]; simp)
    · have hlevel := (congrArg (fun i : InPaths => Tbl.get false i.level ch) hinp).trans (samplePaths_level hch ..)
      have hsample : sampledLevel ln (s.lane ln).localCfg { sm with stagesOk := sm.stagesOk && s.fieldOn } (s.lane ln).inp ch =
          rawBool (decide (modeOf (s.lane ln).localCfg ch ≠ .output) && Tbl.get false (s.lane ln).inp.level ch)
            (Tbl.get .off sm.vlio ch) := by
        refine (if_neg (by simp [hslot])).trans ?_
        dsimp only
        rw [if_pos hok]
      exact ⟨fun h => hlevel.trans (hsample.trans (by rw [h]; rfl)), fun h => hlevel.trans (hsample.trans (by rw [h]; rfl))⟩
  · have hself : (s.updLane ln (fun L => (esRead L).esHold)).lane ln = (esRead (s.lane ln)).esHold := lane_updLane_self ..
    rw [hself]
    exact ⟨mem_switches_esHold (esRead (s.lane ln)), rfl, rfl, rfl, rfl, fun m hm => lane_updLane_ne s _ hm⟩
  · obtain ⟨⟨hinp, hviews, hswitches, hcopy1, hcopy2⟩, hothers⟩ := inputs_raiseLane (s := s) (ln := ln) (stuckAt (s.lane ln).inp (ch / 2)) .fault .esStuck
      [(ch / 2 + 1 : Nat)]
    refine ⟨?_, hviews, hswitches, hcopy1, hcopy2, hothers⟩
    rw [hinp]
    exact esFault_stuckAt _ _
  · obtain ⟨⟨hinp, hviews, hswitches, hcopy1, hcopy2⟩, hothers⟩ := inputs_raiseLane (s := s) (ln := ln) (discAt (s.lane ln).inp k) .fault .esDisc
      [(k + 1 : Nat)]
    refine ⟨?_, hviews, hswitches, hcopy1, hcopy2, hothers⟩
    rw [hinp]
    exact esFault_discAt _ _
  · rw [lane_putLane_self]
    exact ⟨Tbl_get_upd_self 0 (s.lane ln).inp.testFail ch (· - 1), rfl, rfl, rfl, rfl, fun m hm => lane_putLane_ne s _ hm⟩
  · obtain ⟨⟨hinp, hviews, hswitches, hcopy1, hcopy2⟩, hothers⟩ := inputs_raiseLane (s := s) (ln := ln) (failedAt (s.lane ln).inp ch) .warn .inputTest
      [(ch : Nat)]
    refine ⟨?_, ⟨hviews, hswitches, hcopy1, hcopy2, hothers⟩, fun hch dead => ?_⟩
    · rw [hinp]
      exact Tbl_get_set_self 0 (s.lane ln).inp.testFail ch 3
    · rw [hinp]
      exact vectorBit_failed _ _ hch dead

end Sys2Proof.LocalRules
end

section
/-! ## Hawser STATUS and the state copy (R368-R376, R385-R387) -/

namespace Sys2Proof.PairRules

open Sys2Proof Sys2Proof.Machine Sys2Proof.Laws Sys2Proof.SvcUp Sys2Proof.VoteRules Sys2Proof.ConsRules
open Sys2Proof.RejoinRules Sys2Proof.PlaneRules Sys2Proof.ModuleRules
open Sys2Proof.VoteFlag (foldl_preserves)

/-! ### What a session's end and a self-test leave of the site (R114, R439) -/

/-- What the site is to the pair: the module's state, and its side of the pair. -/
def site (s : State) : ModState × Pair := (s.module, s.pair)

theorem site_of_outer {s t : State} (h : outer t = outer s) : site t = site s := by
  have h' := congrArg site h
  exact h'

theorem site_startRejoin (s : State) (ln : LaneId) : site (s.startRejoin ln) = site s := by
  rw [startRejoin_eq]
  have h : site (rejoinStarted s ln) = site s := by
    have h := site_of_outer (outer_raiseLane (s.mapLanes (startedLane s ln)) ln .info .rejoinStart [ln.num])
    exact h
  split
  · exact h
  · exact (site_of_outer (outer_excludeAgreed _ _ _)).trans h

theorem site_checkPilot (s : State) : site s.checkPilot = site s := by
  have hdrop : site s.dropPilot = site s := by
    unfold State.dropPilot
    split
    · rfl
    next p _ =>
      have h := site_of_outer (outer_raise s .change .pilotSession .svc (s.change.pilotBy ++ p.values))
      exact h
  unfold State.checkPilot State.endPilot
  dsimp only
  split
  · split
    · exact (site_startRejoin _ _).trans hdrop
    · exact hdrop
  · rfl

theorem site_dropTest (s : State) : site s.dropTest = site s := by
  unfold State.dropTest
  split
  · rfl
  · exact site_of_outer (outer_endTest _ _)

theorem site_shutdownGoesOn (s : State) : site s.shutdownGoesOn = site s := by
  unfold State.shutdownGoesOn
  split
  · exact site_dropTest s
  · rfl

/-- The planes of a module that stops for its self-test, or does not, send nothing where they sent nothing. -/
theorem sending_shutdownGoesOn {s : State} (h : ∀ q, (s.plane q).sending = false) (q : PlaneId) :
    (s.shutdownGoesOn.plane q).sending = false := by
  unfold State.shutdownGoesOn
  split
  · unfold State.beginBist State.plane
    dsimp only
    rw [get_map]
  · exact h q

theorem closeModule_spec (s : State) : s.closeModule.module = .closed ∧ ∀ q, (s.closeModule.plane q).sending = false := by
  have hmod : ((s.setModule .closed).checkPilot).module = .closed :=
    (congrArg Prod.fst (site_checkPilot (s.setModule .closed))).trans (module_setModule s .closed)
  unfold State.closeModule
  dsimp only
  refine ⟨(congrArg Prod.fst (site_shutdownGoesOn _)).trans hmod, fun q => sending_shutdownGoesOn (fun q => ?_) q⟩
  unfold State.plane
  rw [get_map]

theorem enterStandby_spec (s : State) (clm : U32) (c : CopyState) : (s.enterStandby clm c).module = .standby ∧
    (s.enterStandby clm c).pair.clm = clm ∧ (s.enterStandby clm c).pair.holder = false ∧
    ∀ q, ((s.enterStandby clm c).plane q).sending = false := by
  have hsite := site_checkPilot ((s.setModule .standby).setClaim clm)
  have hmod : (((s.setModule .standby).setClaim clm).checkPilot).module = .standby :=
    (congrArg Prod.fst hsite).trans (module_setModule s .standby)
  have hclm : (((s.setModule .standby).setClaim clm).checkPilot).pair.clm = clm := congrArg (fun x : ModState × Pair => x.2.clm) hsite
  unfold State.enterStandby
  dsimp only
  refine ⟨(congrArg Prod.fst (site_shutdownGoesOn _)).trans hmod,
    (congrArg (fun x : ModState × Pair => x.2.clm) (site_shutdownGoesOn _)).trans hclm,
    congrArg (fun x : ModState × Pair => x.2.holder) (site_shutdownGoesOn _), fun q => sending_shutdownGoesOn (fun q => ?_) q⟩
  unfold State.plane
  rw [get_map]

/-! ### STATUS (R368, R386, R387) -/

section
variable {s : State} {port : Nat} {hd : HawserHead} {st : HwStatus} {type : Byte}

theorem hawserTakes_iff : hawserTakes type hd = true ↔
    hd.fcsOk = true ∧ hd.etherType = 0x88B5 ∧ hd.version = 1 ∧ hd.type = type ∧ hd.length ≤ 1518 := by
  have het : hd.etherType.toNat = qlEtherType ↔ hd.etherType = 0x88B5 :=
    ⟨fun h => BitVec.eq_of_toNat_eq h, fun h => by rw [h]; rfl⟩
  unfold hawserTakes
  simp only [Bool.and_eq_true, decide_eq_true_eq, het, and_assoc]

/-- The module with a STATUS kept. -/
def statusKept (s : State) (pl : PlaneId) (st : HwStatus) : State :=
  { s with pair := { s.pair with
      status := s.pair.status.set pl (some st), linkUp := s.pair.linkUp.set pl true
      holderDownAt := if st.holderDown && decide (s.module = .standby) && later st.clm s.pair.clm then some s.farPlane.farCn
        else s.pair.holderDownAt } }

theorem hawserStatusRx_discards (h : hawserTakes 0x32 hd = false) : exec (.hawserStatusRx port hd st) s = .next s.settle :=
  if_neg (by rw [h, Bool.false_and, Bool.false_and]; exact Bool.false_ne_true)

/-- What the module does with a STATUS that it takes. -/
def judgedStatus (s : State) (st : HwStatus) : State :=
  if s.manDiffers st then s.closePair .pairManifest
  else if commandsNet s.module && decide (st.clm = s.pair.clm) && decide (st.unitB = s.pair.unitB) then s.closePair .unitClash
  else if commandsNet s.module && later st.clm s.pair.clm then s.loseClaim st.clm
  else s

theorem hawserStatusRx_eq (h : hawserTakes 0x32 hd = true) (hv : s.pair.variantP = true) (hon : s.planeOn (portPlane port) = true) :
    exec (.hawserStatusRx port hd st) s = .next (judgedStatus (statusKept s (portPlane port) st) st).settle := by
  refine (if_pos (by rw [h, hv, hon]; rfl)).trans ?_
  unfold judgedStatus
  rw [apply_ite State.settle, apply_ite State.settle, apply_ite State.settle, apply_ite Host.Outcome.next,
    apply_ite Host.Outcome.next, apply_ite Host.Outcome.next]
  rfl

theorem later_irrefl {n : Nat} (a : BitVec n) : later a a = false := by
  unfold later sdiff
  simp

theorem judged_plain (hnet : commandsNet s.module = false) (hd : s.manDiffers st = false) : judgedStatus s st = s := by
  unfold judgedStatus
  rw [hd, hnet] <;> rfl

/-- A module that has closed for its pair sends nothing. -/
theorem closePair_settled (s : State) (e : EventName) : (s.closePair e).settle.module = .closed ∧
    ∀ q, ((s.closePair e).settle.plane q).sending = false := by
  obtain ⟨hmod, hsend⟩ := closeModule_spec (s.raiseModule .fault e [])
  exact ⟨(module_settle _).trans hmod, fun q => by rw [plane_of_planes (planes_settle _)]; exact hsend q⟩

theorem judged_manDiffers (hd : s.manDiffers st = true) : judgedStatus s st = s.closePair .pairManifest := if_pos hd

theorem judged_clash (hnet : commandsNet s.module = true) (hd : s.manDiffers st = false) (hc : st.clm = s.pair.clm)
    (hu : st.unitB = s.pair.unitB) : judgedStatus s st = s.closePair .unitClash :=
  (if_neg (by rw [hd]; exact Bool.false_ne_true)).trans (if_pos (by rw [hnet, decide_eq_true hc, decide_eq_true hu]; rfl))

theorem judged_loses (hv : s.pair.variantP = true) (hnet : commandsNet s.module = true) (hd : s.manDiffers st = false)
    (hl : later st.clm s.pair.clm = true) : judgedStatus s st =
      (s.raiseModule .fault .claimLost [st.clm.toNat]).enterStandby (st.clm - 1) (.resync 0) := by
  have hne : st.clm ≠ s.pair.clm := by
    intro h
    rw [h, later_irrefl] at hl
    contradiction
  refine (if_neg (by rw [hd]; exact Bool.false_ne_true)).trans ((if_neg ?_).trans ((if_pos (by rw [hnet, hl]; rfl)).trans
    (if_pos ⟨hv, hnet⟩)))
  rw [decide_eq_false hne, Bool.and_false, Bool.false_and]
  exact Bool.false_ne_true

end

/-! ### The copy (R371-R375) -/

section
variable {s : State} {ln : LaneId} {port idx count : Nat} {hd : HawserHead}

theorem copyRx_eq {rec : CopyRec} (hst : s.module = .standby) (hon : s.planeOn (portPlane port) = true)
    (ha : (s.lane ln).active ln = true) (h : hawserTakes 0x30 hd = true) (hnew : Tbl.get none (s.lane ln).copyRecs idx = none) :
    exec (.copyRx ln port idx hd rec) s = .next (s.putLane ln { s.lane ln with
      copyRecs := Tbl.set none (s.lane ln).copyRecs idx (some rec) }) :=
  if_pos (by rw [h, hst, hon, ha, hnew]; rfl)

theorem sealRx_eq {x : Seal} (hst : s.module = .standby) (hv : s.pair.variantP = true)
    (hon : s.planeOn (portPlane port) = true) (ha : (s.lane ln).active ln = true) (h : hawserTakes 0x31 hd = true)
    (hnew : ∀ y ∈ (s.lane ln).copySeals, y.1.lane ≠ x.lane) : exec (.sealRx ln port hd x count) s =
      .next (s.putLane ln { s.lane ln with copySeals := (s.lane ln).copySeals ++ [(x, count)] }).settle := by
  have hno : (s.lane ln).copySeals.any (fun y => decide (y.1.lane = x.lane)) = false := by
    rw [List.any_eq_false]
    exact fun y hy => by simpa using hnew y hy
  exact (if_pos (by rw [h, hv, hon]; rfl)).trans ((if_pos hst).trans (if_pos ⟨ha, by rw [hno]; rfl⟩))

theorem length_agreeing {α β : Type} (f : α → Option β) (p : β → Bool) (xs : List α) :
    ((xs.filterMap f).filter p).length = (xs.filter (fun x => (f x).any p)).length := by
  induction xs with
  | nil => rfl
  | cons x xs ih =>
    cases hx : f x with
    | none => simp [hx, ih]
    | some y => by_cases hp : p y = true <;> simp [hx, hp, ih]

/-- An accepted copy is one that two lanes hold with the same digest (R373). -/
theorem acceptedCopy_spec {crc : U64} {rs : List CopyRec} (h : s.acceptedCopy = some (crc, rs)) :
    ∃ a b, a ≠ b ∧ s.votes a = true ∧ s.votes b = true ∧
      ((s.lane a).copyView a).map (·.1) = some crc ∧ ((s.lane b).copyView b).map (·.1) = some crc := by
  have h2 := List.find?_some h
  rw [decide_eq_true_eq, length_agreeing] at h2
  have hnd : (s.voters.filter (fun ln => ((s.lane ln).copyView ln).any (fun w => decide (w.1 = crc)))).Nodup :=
    (nodup_voters s).filter _
  have hin : ∀ ln ∈ s.voters.filter (fun ln => ((s.lane ln).copyView ln).any (fun w => decide (w.1 = crc))),
      s.votes ln = true ∧ ((s.lane ln).copyView ln).map (·.1) = some crc := fun ln hln => by
    obtain ⟨hv, hc⟩ := List.mem_filter.1 hln
    obtain ⟨w, hw, hcrc⟩ := (Option.any_eq_true _ _).1 hc
    exact ⟨(voters_iff s ln).1 hv, by rw [hw]; exact congrArg some (of_decide_eq_true hcrc)⟩
  revert h2 hnd hin
  generalize s.voters.filter (fun ln => ((s.lane ln).copyView ln).any (fun w => decide (w.1 = crc))) = xs
  intro h2 hnd hin
  match xs, h2, hnd, hin with
  | a :: b :: xs, _, hnd, hin =>
    obtain ⟨hva, hca⟩ := hin a (by simp)
    obtain ⟨hvb, hcb⟩ := hin b (by simp)
    refine ⟨a, b, ?_, hva, hvb, hca, hcb⟩
    rintro rfl
    exact (List.nodup_cons.1 hnd).1 (by simp)

/-- The state with the records and seals of the cycle gone. -/
def copyCleared (s : State) : State := s.mapLanes (fun _ L => { L with copyRecs := [], copySeals := [] })

theorem copyDecision_none (hst : s.module = .standby) (h : s.acceptedCopy = none) : exec .copyDecision s =
    .next (copyCleared { s with pair := { s.pair with
      copy := (s.copyStart none).miss, lastAccepted := false, transferSeen := false } }).settle := by
  refine (if_pos hst).trans ?_
  rw [h] <;> rfl

/-- The state in which an accepted copy has been applied (R374, R375). -/
def copyApplied (s : State) (rs : List CopyRec) (h : CopyHdr) : State :=
  let c0 := s.copyStart (some rs)
  let s2 := s.mapLanes (fun ln L => if L.active ln then rs.foldl (Lane.applyRec c0.chunks) L else L)
  copyCleared { s2 with pair := { s2.pair with
    copy := c0.accept rs (s.lane s.lead).cn, lastAccepted := true
    transferSeen := s.voters.any (fun ln => ((s.lane ln).ownSeal ln).any (fun (x : Seal × Nat) => x.1.transfer))
    copyHdr := some h } }

theorem copyDecision_accepted {crc : U64} {rs : List CopyRec} {h : CopyHdr} (hst : s.module = .standby)
    (hacc : s.acceptedCopy = some (crc, rs)) (hh : copyHeader rs = some h) (hsig : imageId s.man = some h.signature)
    (hsame : ∀ m, s.votes m = true → s.copyDiffers m crc = false) :
    exec .copyDecision s = .next (copyApplied s rs h).settle := by
  have hfits : s.copyFits rs = true := by
    unfold State.copyFits
    rw [hh]
    dsimp only
    rw [decide_eq_true hsig, Bool.true_or]
  have hbad : s.voters.filter (fun ln => s.copyDiffers ln crc) = [] := by
    rw [List.filter_eq_nil_iff]
    exact fun ln hln => by rw [hsame ln ((voters_iff s ln).1 hln)]; exact Bool.false_ne_true
  have hfollow : s.followSwitch rs = s := by
    unfold State.followSwitch
    split
    next h' new hh' _ =>
      cases hh.symm.trans hh'
      exact if_neg (fun hno => hno.1 hsig)
    · rfl
  refine (if_pos hst).trans ?_
  have hfilter : s.acceptedCopy.filter (fun v => s.copyFits v.2) = some (crc, rs) := by
    rw [hacc, Option.filter_some, hfits]
    rfl
  rw [hfilter]
  dsimp only
  rw [hbad, List.foldl_nil, hfollow, hh]
  rfl

theorem accept_ready_iff {n : Nat} {rs : List CopyRec} {cn : U32} :
    (CopyState.resync n).accept rs cn = .ready cn ↔ 66 ≤ n := by
  unfold CopyState.accept
  dsimp only
  split
  next h =>
    refine ⟨fun hc => ?_, fun hle => by omega⟩
    split at hc <;> cases hc
  next h =>
    split
    next h' => exact ⟨fun hc => (by cases hc), fun hle => by omega⟩
    next h' => exact ⟨fun _ => by omega, fun _ => rfl⟩

end

/-! ### The settled obligation -/

/-- Settles O38: a STATUS by what the module makes of it; a copy by the digests that two lanes share. -/
theorem hawserStatusAndCopy : Obligations.HawserStatusAndCopy := by
  unfold Obligations.HawserStatusAndCopy
  refine ⟨fun s port hd st ln phi => ?_, fun s ln port idx count hd rec x crc rs h k cn n => ?_⟩
  · dsimp only
    refine ⟨hawserTakes_iff, hawserStatusRx_discards, fun ht hv hon => ⟨fun hnet hd => ?_, fun hd => ?_,
      fun hnet hd hc hu => ?_, fun hnet hd hl => ?_⟩, fun hst hfar hin => if_pos ⟨hst, hfar, hin⟩, fun hv => ?_⟩
    · refine ⟨_, hawserStatusRx_eq ht hv hon, ?_⟩
      rw [judged_plain (s := statusKept s (portPlane port) st) hnet hd, pairOf_settle, module_settle, planes_settle]
      refine ⟨Duo_get_set_self s.pair.status (portPlane port) (some st), Duo_get_set_self s.pair.linkUp (portPlane port) true,
        rfl, rfl, rfl, fun h1 h2 h3 => ?_⟩
      exact if_pos (by rw [h1, h2, h3]; rfl)
    · refine ⟨_, hawserStatusRx_eq ht hv hon, ?_⟩
      rw [judged_manDiffers (s := statusKept s (portPlane port) st) hd]
      exact closePair_settled _ _
    · refine ⟨_, hawserStatusRx_eq ht hv hon, ?_⟩
      rw [judged_clash (s := statusKept s (portPlane port) st) hnet hd hc hu]
      exact closePair_settled _ _
    · refine ⟨_, hawserStatusRx_eq ht hv hon, ?_⟩
      rw [judged_loses (s := statusKept s (portPlane port) st) hv hnet hd hl]
      obtain ⟨hmod, hclm, hhold, hsend⟩ := enterStandby_spec
        ((statusKept s (portPlane port) st).raiseModule .fault .claimLost [st.clm.toNat]) (st.clm - 1) (.resync 0)
      rw [pairOf_settle, module_settle]
      exact ⟨hmod, hclm, hhold, fun q => by rw [plane_of_planes (planes_settle _)]; exact hsend q⟩
    · refine ⟨_, if_pos hv, ?_⟩
      rw [pair_raise, lanes_raise, module_raise]
      exact ⟨rfl, rfl, rfl, rfl⟩
  · dsimp only
    refine ⟨fun hst hon ha => ⟨fun ht hnew => copyRx_eq hst hon ha ht hnew, fun ht hv hnew => sealRx_eq hst hv hon ha ht hnew⟩,
      acceptedCopy_spec, fun hst hnone hup => ?_, fun hst hacc hh hsig hsame hup => ?_, accept_ready_iff, rfl⟩
    · refine ⟨_, copyDecision_none hst hnone, ?_⟩
      rw [pairOf_settle]
      exact ⟨rfl, rfl, fun m => (lane_settle (by exact hup) m).trans (lane_mapLanes s _ m)⟩
    · refine ⟨_, copyDecision_accepted hst hacc hh hsig hsame, ?_⟩
      rw [pairOf_settle]
      refine ⟨rfl, rfl, rfl, fun m ha => (lane_settle (by exact hup) m).trans ?_⟩
      refine (lane_mapLanes _ _ m).trans (congrArg (fun L : Lane => { L with copyRecs := [], copySeals := [] }) ?_)
      exact (lane_mapLanes s _ m).trans (if_pos ha)

end Sys2Proof.PairRules
end

section
/-! ## Takeover and handover (R378-R384) -/

namespace Sys2Proof.PairRules

open Sys2Proof Sys2Proof.Machine Sys2Proof.Laws Sys2Proof.SvcUp Sys2Proof.VoteRules Sys2Proof.ConsRules
open Sys2Proof.RejoinRules Sys2Proof.PlaneRules Sys2Proof.ModuleRules
open Sys2Proof.VoteFlag (foldl_preserves)

/-! ### What a takeover writes in a lane (R379, R380) -/

/-- What a takeover writes in a lane: its EPOCH, the cycle it counts from, and that no cycle of it has been completed. -/
def term (L : Lane) : U32 × U32 × Bool := (L.epoch, L.cnE, L.everCompleted)

theorem holdFree_term (x : U32 × U32 × Bool) : HoldFree (fun L => term L = x) := by
  intro L e h
  unfold Lane.hold
  split <;> exact h

theorem term_put (L : Lane) (k : Nat) (x : Int) : term (L.put k x) = term L := by
  unfold Lane.put
  split <;> rfl

theorem term_rollback (L : Lane) : term L.rollback = term L := by
  unfold Lane.rollback
  split
  · rfl
  · refine foldl_preserves term _ (fun M (r : Nat) => ?_) _ L
    split
    · rw [term_put, term_put, term_put]
    · rfl

theorem term_takeover (j epoch : U32) (roll : Bool) (me : LaneId) (L : Lane) :
    term (Lane.takeover j epoch roll me L) = (epoch, j, false) := by
  unfold Lane.takeover
  dsimp only
  split
  · exact term_rollback _
  · rfl

section
variable (s : State) (m : LaneId)

theorem term_raiseLane (ln : LaneId) (c : LogClass) (n : EventName) (x : List Int) :
    term ((s.raiseLane ln c n x).lane m) = term (s.lane m) := raiseLane_of (holdFree_term _) ln c n x rfl

theorem term_raiseModule (c : LogClass) (n : EventName) (x : List Int) :
    term ((s.raiseModule c n x).lane m) = term (s.lane m) := raiseModule_of (holdFree_term _) c n x rfl

theorem term_settle : term (s.settle.lane m) = term (s.lane m) := settle_of (holdFree_term _) rfl

theorem term_updLane (ln : LaneId) (f : Lane → Lane) (hf : ∀ L, term (f L) = term L) :
    term ((s.updLane ln f).lane m) = term (s.lane m) := by
  by_cases h : m = ln
  · subst h
    rw [lane_updLane_self, hf]
  · rw [lane_updLane_ne s f h]

theorem term_mapLanes (f : LaneId → Lane → Lane) (hf : ∀ ln L, term (f ln L) = term L) :
    term ((s.mapLanes f).lane m) = term (s.lane m) := by
  rw [lane_mapLanes, hf]

theorem term_setModule (M : ModState) : term ((s.setModule M).lane m) = term (s.lane m) := by
  unfold State.setModule
  split
  · rfl
  · exact term_raiseModule s m _ _ _

theorem term_latchX (L : Lane) : term L.latchX = term L := by
  unfold Lane.latchX
  split <;> rfl

theorem term_see (ln src : LaneId) (L : Lane) : term (Lane.see ln src L) = term L := by
  unfold Lane.see
  split
  · rfl
  · exact term_latchX (L.openPair ln src)

theorem term_leave (ln : LaneId) (c : Cause) (now : Nat) (L : Lane) : term (Lane.leave ln c now L) = term L :=
  term_latchX L.gate.openAll

theorem term_exclude (ln : LaneId) (c : Cause) : term ((s.exclude ln c).lane m) = term (s.lane m) := by
  have hout : term ((((s.updLane ln (Lane.leave ln c s.now)).raiseLane ln .fault .exclusion [ln.num, causeCode c]).endTest
      ln).lane m) = term (s.lane m) := by
    rw [lane_endTest, term_raiseLane, term_updLane _ _ _ _ (fun L => term_leave ln c s.now L)]
  unfold State.exclude
  cases s.testing with
  | true => rfl
  | false =>
    cases s.laneState ln with
    | inVote => exact hout
    | outTest => exact hout
    | rejoining => exact hout
    | outFault => rfl
    | laneOff => rfl

theorem term_excludeAgreed (ln : LaneId) (c : Cause) : term ((s.excludeAgreed ln c).lane m) = term (s.lane m) := by
  refine (foldl_preserves (fun u : State => term (u.lane m)) _ (fun u (k : LaneId) => ?_) _ _).trans (term_exclude s m ln c)
  split
  · rfl
  · exact term_updLane u m k _ (term_see k ln)

theorem term_startRejoin (ln : LaneId) : term ((s.startRejoin ln).lane m) = term (s.lane m) := by
  have hload : ∀ (cn : U32) (L : Lane), term (Lane.reload cn L) = term L := fun cn L => by
    unfold Lane.reload
    split <;> rfl
  have hstart : ∀ k L, term (startedLane s ln k L) = term L := fun k L => by
    unfold startedLane
    split
    · exact hload _ L.openAll
    · rfl
  have hstarted : term ((rejoinStarted s ln).lane m) = term (s.lane m) :=
    (term_raiseLane _ m ln .info .rejoinStart [ln.num]).trans (term_mapLanes s m _ hstart)
  rw [startRejoin_eq]
  split
  · exact hstarted
  · exact (term_excludeAgreed _ m ln _).trans hstarted

theorem planes_startRejoin (ln : LaneId) : (s.startRejoin ln).planes = s.planes := by
  have hstarted : (rejoinStarted s ln).planes = s.planes := by
    have h := planes_of_outer (outer_raiseLane (s.mapLanes (startedLane s ln)) ln .info .rejoinStart [ln.num])
    exact h
  rw [startRejoin_eq]
  split
  · exact hstarted
  · exact (planes_of_outer (outer_excludeAgreed _ _ _)).trans hstarted

end

/-! ### The sync of the new holder -/

section
variable (s : State) (pl q : PlaneId)

theorem site_sendSync : site (s.sendSync pl) = site s := by
  unfold State.sendSync
  dsimp only
  split <;> rfl

theorem lanes_sendSync : (s.sendSync pl).lanes = s.lanes := (sendSync_frame (pl := pl) s).2.2

theorem sending_sendSync : ((s.sendSync pl).plane q).sending = (s.plane q).sending := by
  unfold State.sendSync
  dsimp only
  split
  · cases pl <;> cases q <;> rfl
  · rfl

end

/-! ### A takeover (R378-R382) -/

section
variable {s : State} {h : CopyHdr} {j : U32} {trig : Nat}

/-- The words of two lanes' downlinks that a takeover rolls back (R382). -/
def rollsBack (s : State) (j : U32) : Bool := !s.acceptedFor j && (s.planes.a.sawDownlinkPrev || s.planes.b.sawDownlinkPrev)

/-- The EPOCH of a takeover (R295, R380). -/
def takeoverEpoch (s : State) (h : CopyHdr) : U32 := nextEpoch (latestOf (h.epoch :: s.voters.map (fun ln => (s.lane ln).flash.epoch)))

/-- The module with its lanes under the new EPOCH and the claim taken. -/
def claimed (s : State) (h : CopyHdr) (j : U32) (trig : Nat) : State :=
  let s1 := s.mapLanes (fun ln L => Lane.takeover j (takeoverEpoch s h) (rollsBack s j) ln L)
  let s2 := ((s1.setModule h.state).setClaim (h.clm + 2)).raiseModule .fault .takeover [((trig : Nat) : Int)]
  if rollsBack s j then s2.raiseModule .fault .rollback [] else s2

/-- The module as it begins to hold the site. -/
def holding (s : State) (j : U32) (roll : Bool) (trig : Nat) : State :=
  { s with
    pair := { s.pair with
      holder := true, copy := .none, holderDownAt := none, transferSeen := false, lastAccepted := false, copyHdr := none
      rollbackHold := roll, takeoverCn := some j, syncFrom := some (if trig = 0 then j else j + 1) }
    planes := s.planes.map (fun p => { p with sending := true, coldNext := false, stepNow := false }) }

/-- The module once its first sync has left, where a transfer asks for it at once. -/
def synced (s : State) (trig : Nat) : State := if trig = 0 then (s.sendSync .a).sendSync .b else s

theorem takeClaim_eq : s.takeClaim h j trig =
    let s5 := synced (holding (claimed s h j trig) j (rollsBack s j) trig) trig
    match s5.rot.active with
    | none => s5.noteCons
    | some ln => ((s5.endTest ln).startRejoin ln).noteCons := rfl

theorem term_claimed (m : LaneId) : term ((claimed s h j trig).lane m) = (takeoverEpoch s h, j, false) := by
  have hclaim : ∀ u : State, term ((u.setClaim (h.clm + 2)).lane m) = term (u.lane m) := fun u =>
    term_mapLanes u m _ (fun ln L => by split <;> rfl)
  have hbase : term ((((s.mapLanes (fun ln L => Lane.takeover j (takeoverEpoch s h) (rollsBack s j) ln L)).setModule
      h.state).setClaim (h.clm + 2)).lane m) = (takeoverEpoch s h, j, false) := by
    rw [hclaim, term_setModule, lane_mapLanes, term_takeover]
  unfold claimed
  dsimp only
  split
  · rw [term_raiseModule, term_raiseModule, hbase]
  · rw [term_raiseModule, hbase]

theorem site_claimed : (claimed s h j trig).module = h.state ∧ (claimed s h j trig).pair.clm = h.clm + 2 := by
  have hbase : ((s.mapLanes (fun ln L => Lane.takeover j (takeoverEpoch s h) (rollsBack s j) ln L)).setModule h.state).module =
      h.state := module_setModule _ _
  unfold claimed
  dsimp only
  split
  · exact ⟨(module_of_outer (outer_raiseModule ..)).trans ((module_of_outer (outer_raiseModule ..)).trans hbase),
      congrArg Pair.clm ((pair_of_outer (outer_raiseModule ..)).trans (pair_of_outer (outer_raiseModule ..)))⟩
  · exact ⟨(module_of_outer (outer_raiseModule ..)).trans hbase, congrArg Pair.clm (pair_of_outer (outer_raiseModule ..))⟩

theorem synced_frame (u : State) (trig : Nat) : site (synced u trig) = site u ∧ (synced u trig).lanes = u.lanes ∧
    ∀ q, ((synced u trig).plane q).sending = (u.plane q).sending := by
  unfold synced
  split
  · refine ⟨(site_sendSync _ _).trans (site_sendSync _ _), (lanes_sendSync _ _).trans (lanes_sendSync _ _), fun q => ?_⟩
    rw [sending_sendSync, sending_sendSync]
  · exact ⟨rfl, rfl, fun _ => rfl⟩

/-- What a takeover leaves of the module: the claim holder's side of the pair, planes that send, and lanes in their new
term. -/
theorem takeClaim_spec : site (s.takeClaim h j trig) = site (holding (claimed s h j trig) j (rollsBack s j) trig) ∧
    (∀ q, ((s.takeClaim h j trig).plane q).sending = true) ∧
    ∀ m, term ((s.takeClaim h j trig).lane m) = (takeoverEpoch s h, j, false) := by
  obtain ⟨hsite, hlanes, hsend⟩ := synced_frame (holding (claimed s h j trig) j (rollsBack s j) trig) trig
  have hterm : ∀ m, term ((synced (holding (claimed s h j trig) j (rollsBack s j) trig) trig).lane m) =
      (takeoverEpoch s h, j, false) := fun m =>
    (congrArg term (lane_of_lanes hlanes m)).trans (term_claimed m)
  have hsending : ∀ q, ((synced (holding (claimed s h j trig) j (rollsBack s j) trig) trig).plane q).sending = true := fun q => by
    rw [hsend]
    unfold holding State.plane
    dsimp only
    rw [get_map]
  rw [takeClaim_eq]
  dsimp only
  split
  · exact ⟨hsite, hsending, hterm⟩
  next ln _ =>
    refine ⟨((site_startRejoin _ _).trans (site_of_outer (outer_endTest _ _))).trans hsite, fun q => ?_, fun m => ?_⟩
    · refine (congrArg (fun P : Duo Plane => (P.get q).sending) ((planes_startRejoin _ ln).trans
        (planes_of_outer (outer_endTest _ ln)))).trans (hsending q)
    · exact (term_startRejoin _ m ln).trans ((congrArg term (lane_endTest _ ln m)).trans (hterm m))

theorem takeover_eq {k : U32} (hc : s.pair.copy = .ready k) (hh : s.pair.copyHdr = some h) (hst : s.module = .standby)
    (hfar : s.farOn = true) (h2 : 2 ≤ s.voters.length) (hk : sdiff s.farPlane.farCn k ≤ 2)
    (ht : s.takeoverTrigger s.farPlane.farCn = some trig) :
    exec .takeover s = .next (s.takeClaim h s.farPlane.farCn trig).settle := by
  show execTakeover s = _
  unfold execTakeover
  dsimp only
  rw [hc, hh]
  refine (if_pos ⟨hst, hfar, h2, hk⟩).trans ?_
  rw [ht] <;> rfl

end

/-! ### Handover (R384) -/

section
variable {s : State} {sess : Nat}

theorem handover_eq (hm : s.maintainer sess = true) : exec (.handover sess) s = .next
    (if (s.keepAlive sess).mayHandOver then
      State.logChange { s.keepAlive sess with pair := { s.pair with transferNext := true } } sess .handover [flag s.pair.unitB]
    else (s.keepAlive sess).logChange sess .commandRefused []) := by
  obtain ⟨a, ha⟩ := keepAlive_eq s sess
  refine (if_pos hm).trans ?_
  rw [ha]
  dsimp only
  rw [apply_ite Host.Outcome.next] <;> rfl

theorem mayHandOver_keepAlive (s : State) (sess : Nat) : (s.keepAlive sess).mayHandOver = s.mayHandOver := by
  obtain ⟨a, ha⟩ := keepAlive_eq s sess
  rw [ha] <;> rfl

theorem pair_keepAlive (s : State) (sess : Nat) : (s.keepAlive sess).pair = s.pair := by
  obtain ⟨a, ha⟩ := keepAlive_eq s sess
  rw [ha]

theorem module_keepAlive (s : State) (sess : Nat) : (s.keepAlive sess).module = s.module := by
  obtain ⟨a, ha⟩ := keepAlive_eq s sess
  rw [ha]

theorem logChange_frame (s : State) (n : Nat) (e : EventName) (x : List Int) : (s.logChange n e x).pair = s.pair ∧
    vitalSame s (s.logChange n e x) :=
  ⟨pair_of_outer (outer_logChange ..), lanes_logChange .., module_of_outer (outer_logChange ..)⟩

/-- The module once the silence of SVC and the loss of signal have been counted for a cycle. -/
def judgedCycle (s : State) : State := { s with pair := { s.pair with
  svcSilent := if s.uplink.up then 0 else s.pair.svcSilent + 1
  losCycles := if s.allLost then s.pair.losCycles + 1 else 0 } }

/-- The module that hands over with its next copy. -/
def handing (s : State) : State := { judgedCycle s with pair := { (judgedCycle s).pair with transferNext := true } }

theorem autoHandover_eq (hmay : s.mayHandOver = true) (hnext : s.pair.transferNext = false)
    (hdue : s.uplink.up = false ∧ 2 ≤ s.pair.svcSilent ∧ (∃ x, s.partner = some x ∧ x.svcOk = true) ∨
      s.allLost = true ∧ 1 ≤ s.pair.losCycles) :
    exec .autoHandover s = .next ((handing s).raiseChange .module .handover (noWho ++ [flag s.pair.unitB])) := by
  have hdue' : (decide (3 ≤ (judgedCycle s).pair.svcSilent) && s.partner.any (fun (x : HwStatus) => x.svcOk) ||
      decide (2 ≤ (judgedCycle s).pair.losCycles)) = true := by
    unfold judgedCycle
    dsimp only
    rcases hdue with ⟨hup, hsilent, x, hx, hok⟩ | ⟨hlost, hcycles⟩
    · rw [hup, hx, if_neg Bool.false_ne_true, decide_eq_true (by omega : 3 ≤ s.pair.svcSilent + 1), Option.any_some, hok]
      rfl
    · rw [if_pos hlost, decide_eq_true (by omega : 2 ≤ s.pair.losCycles + 1), Bool.or_true]
  have hguard : ((judgedCycle s).mayHandOver && (decide (3 ≤ (judgedCycle s).pair.svcSilent) &&
      s.partner.any (fun (x : HwStatus) => x.svcOk) || decide (2 ≤ (judgedCycle s).pair.losCycles)) &&
      !s.pair.transferNext) = true := by
    rw [hdue', show (judgedCycle s).mayHandOver = true from hmay, hnext]
    rfl
  exact if_pos hguard

theorem raiseChange_vital (d : Die) (n : EventName) (x : List Int) (ln : LaneId) :
    ((s.raiseChange d n x).lane ln).views = (s.lane ln).views ∧ ((s.raiseChange d n x).lane ln).switches = (s.lane ln).switches := by
  unfold State.raiseChange
  split
  · rw [lane_raise]
    exact ⟨rfl, rfl⟩
  · rw [lane_mapLanes]
    split <;> exact ⟨rfl, rfl⟩

end

/-! ### The settled obligation -/

/-- Settles O39: a takeover is followed to the lanes' new term and the pair; a handover marks the next copy. -/
theorem takeoverAndHandover : Obligations.TakeoverAndHandover := by
  unfold Obligations.TakeoverAndHandover
  intro s k h trig sess
  dsimp only
  refine ⟨fun hc hh hst hfar h2 hk ht => ?_, fun ha hs => if_pos (by rw [ha, hs]; rfl), fun hr he => if_pos ⟨hr, he⟩,
    fun hm => ⟨fun hmay => ⟨_, handover_eq hm, ?_⟩, fun hmay => ⟨_, handover_eq hm, ?_⟩⟩,
    fun hmay hnext hdue => ⟨_, autoHandover_eq hmay hnext hdue, ?_⟩⟩
  · obtain ⟨hsite, hsend, hterm⟩ := takeClaim_spec (s := s) (h := h) (j := s.farPlane.farCn) (trig := trig)
    obtain ⟨hmod, hclm⟩ := site_claimed (s := s) (h := h) (j := s.farPlane.farCn) (trig := trig)
    have hpair := congrArg Prod.snd hsite
    refine ⟨_, takeover_eq hc hh hst hfar h2 hk ht, ?_⟩
    rw [pairOf_settle, module_settle, show (s.takeClaim h s.farPlane.farCn trig).pair = _ from hpair]
    refine ⟨rfl, hclm, (congrArg Prod.fst hsite).trans hmod, rfl, rfl, rfl, fun q => ?_, fun ln => ?_⟩
    · rw [plane_of_planes (planes_settle _)]
      exact hsend q
    · have hln := (term_settle _ ln).trans (hterm ln)
      exact ⟨congrArg Prod.fst hln, congrArg (fun x : U32 × U32 × Bool => x.2.1) hln,
        congrArg (fun x : U32 × U32 × Bool => x.2.2) hln⟩
  · rw [if_pos (by rw [mayHandOver_keepAlive]; exact hmay)]
    obtain ⟨hpair, hlanes, hmod⟩ := logChange_frame { s.keepAlive sess with pair := { s.pair with transferNext := true } } sess
      .handover [flag s.pair.unitB]
    exact ⟨hpair, hlanes.trans (lanes_keepAlive s sess), hmod.trans (module_keepAlive s sess)⟩
  · rw [if_neg (by rw [mayHandOver_keepAlive, hmay]; exact Bool.false_ne_true)]
    obtain ⟨hpair, hlanes, hmod⟩ := logChange_frame (s.keepAlive sess) sess .commandRefused []
    exact ⟨hpair.trans (pair_keepAlive s sess), hlanes.trans (lanes_keepAlive s sess), hmod.trans (module_keepAlive s sess)⟩
  · have hout := outer_raiseChange (handing s) .module .handover (noWho ++ [flag s.pair.unitB])
    exact ⟨congrArg Pair.transferNext (pair_of_outer hout), module_of_outer (s := handing s) hout, fun ln => raiseChange_vital _ _ _ ln⟩

end Sys2Proof.PairRules
end

section
/-! ## Sessions, reading, exports and the commands that wait for the lanes (chapter 14) -/

namespace Sys2Proof.AccessRules

open Sys2Proof Sys2Proof.Machine Sys2Proof.Laws Sys2Proof.RejoinRules Sys2Proof.PairRules
open Sys2Proof.WharfRules (vitalSame_raise)
open Sys2Proof.QueueRules (vitalSame_trans)

/-! ### What a login reports (R396, R425, R483) -/

/-- A login that succeeds: the event, the session, and the greeting. -/
def loggedIn (s : State) (n : Nat) (a : Account) : State :=
  (s.raise .change .login .svc (accountWho n a.role)).updAccess (fun x =>
    { (x.putAccount n (some { a with fails := 0 })).putSession x.freeSession (some ⟨n, a.role, s.now⟩) with
      reply := s.greeting })

theorem login_next {s : State} {n t : Nat} {pw : List Byte} {a : Account} (hup : s.uplink.up = true)
    (ha : s.account n = some a) (hl : a.lockedAt = none) (hp : s.passwordOk a pw = true) :
    exec (.login n pw t) s = .next (loggedIn (s.touch t) n a) := by
  show execLogin n pw t s = _
  have hup0 : (s.touch t).uplink.up = true := hup
  have ha0 : (s.touch t).account n = some a := ha
  have hp0 : (s.touch t).passwordOk a pw = true := hp
  unfold execLogin
  simp only [hup0, ha0]
  exact (if_neg (by rw [hl]; exact Bool.false_ne_true)).trans (if_pos hp0)

/-- A module at SHUTDOWN_READY whose self-test marked SVC, still in CLOSED with the key closed: the factory account may
log in (R416), and the connection reports the mark (R483). -/
def atShutdownReady : State := { State.reset with
  module := .closed
  lanes := State.reset.lanes.map (fun L => { L with supC := { L.supC with keyClosed := true } })
  uplink := { up := true }
  bist := { ready := true, newMarks := [.svc] } }

theorem greeting_atShutdownReady : (atShutdownReady.touch 0).greeting = [0, 0, 9] := by decide

/-- Refutes O40: at SHUTDOWN_READY a login reports the results of the self-test after CFG_DEFAULTED and
LOG_CHANGE_AT_RISK, as R483 asks, so what it returns is not those two flags alone. -/
theorem not_sessionsAndAccounts : ¬ Obligations.SessionsAndAccounts := by
  unfold Obligations.SessionsAndAccounts
  intro h
  have hacc : atShutdownReady.account 0 = some ⟨.commissioner, 0, none, 0, none⟩ := rfl
  have hpw : atShutdownReady.passwordOk ⟨.commissioner, 0, none, 0, none⟩ [] = true := by decide
  obtain ⟨hlogin, -⟩ := h atShutdownReady 0 0 0 [] ⟨.commissioner, 0, none, 0, none⟩ ⟨0, .observer, 0⟩ .observer rfl
  obtain ⟨u, hu, -, hreply, -⟩ := (hlogin hacc rfl).1 hpw
  cases (login_next (t := 0) rfl hacc rfl hpw).symm.trans hu
  have hgreet : (atShutdownReady.touch 0).greeting = [0, 0] := hreply
  rw [greeting_atShutdownReady] at hgreet
  exact absurd hgreet (by decide)

/-! ### What reading and exporting leave alone (R415, R424, R425, R438) -/

theorem vitalSame_keepAlive (s : State) (sess : Nat) : vitalSame s (s.keepAlive sess) := by
  obtain ⟨a, ha⟩ := keepAlive_eq s sess
  rw [ha]
  exact ⟨rfl, rfl⟩

theorem log_keepAlive (s : State) (sess : Nat) : (s.keepAlive sess).log = s.log := by
  obtain ⟨a, ha⟩ := keepAlive_eq s sess
  rw [ha]

theorem snap_keepAlive (s : State) (sess : Nat) : (s.keepAlive sess).snap = s.snap := by
  obtain ⟨a, ha⟩ := keepAlive_eq s sess
  rw [ha]

theorem uplink_keepAlive (s : State) (sess : Nat) : (s.keepAlive sess).uplink = s.uplink := by
  obtain ⟨a, ha⟩ := keepAlive_eq s sess
  rw [ha]

/-- An event waits for its record: no slot of the logbook is written with it. -/
theorem slots_raise (s : State) (c : LogClass) (n : EventName) (d : Die) (x : List Int) :
    (s.raise c n d x).log.slots = s.log.slots := by
  unfold State.raise
  split
  · split
    · show (s.log.push _).slots = _
      unfold Logbook.push
      split <;> rfl
    · rfl
  · rfl

theorem readState_next {s : State} {sess : Nat} (h : s.reader sess = true) :
    exec (.readState sess) s = .next (s.answer sess s.report) := if_pos h

theorem readLogbook_whole {s : State} {sess slot : Nat} {r : LogRec} (h : s.reader sess = true ∧ s.power.pg.getLsbD 1 = true)
    (hr : Tbl.get none s.log.slots slot = some r) :
    exec (.readLogbook sess slot true) s = .next (s.answer sess (byteValues r.bytes)) := by
  refine (if_pos h).trans ?_
  rw [hr]
  rfl

theorem readLogbook_torn {s : State} {sess slot : Nat} {r : LogRec} (h : s.reader sess = true ∧ s.power.pg.getLsbD 1 = true)
    (hr : Tbl.get none s.log.slots slot = some r) :
    exec (.readLogbook sess slot false) s =
      .next ((s.raise .log .torn .svc [((slot : Nat) : Int)]).answer sess [((slot : Nat) : Int)]) := by
  refine (if_pos h).trans ?_
  rw [hr]
  rfl

theorem readBlackbox_next {s : State} {sess slot : Nat} {f : BbFrame} (h : s.reader sess = true ∧ s.power.pg.getLsbD 1 = true)
    (hf : s.snap.frameAt slot = some f) :
    exec (.readBlackbox sess slot) s = .next (s.answer sess (byteValues f.header)) := by
  refine (if_pos h).trans ?_
  rw [hf]
  rfl

theorem answer_frame (s : State) (sess : Nat) (x : List Int) : (s.answer sess x).access.reply = x ∧
    (s.answer sess x).log = s.log ∧ vitalSame s (s.answer sess x) :=
  ⟨rfl, log_keepAlive s sess, vitalSame_keepAlive s sess⟩

/-! ### Exports -/

/-- A frame once it has been exported (R438). -/
def exportedFrame (f : BbFrame) : BbFrame := { f with exported := true, prot := false }

/-- The module once a frame has been exported. -/
def exportedState (s : State) (sess slot : Nat) : State := { s.keepAlive sess with snap := { s.snap with
  ring := Tbl.upd none s.snap.ring slot (fun o => o.map exportedFrame) } }

theorem blackboxExport_next {s : State} {sess slot : Nat} (h : s.reader sess = true ∧ s.power.pg.getLsbD 1 = true) :
    exec (.blackboxExport sess slot) s = .next (exportedState s sess slot) := if_pos h

theorem exportedState_frame (s : State) (sess slot : Nat) :
    (exportedState s sess slot).snap.frameAt slot = (s.snap.frameAt slot).map exportedFrame ∧
      (∀ k, k ≠ slot → (exportedState s sess slot).snap.frameAt k = s.snap.frameAt k) ∧
      vitalSame s (exportedState s sess slot) :=
  ⟨Tbl_get_upd_self none s.snap.ring slot _, fun k hk => Tbl_get_upd_ne none s.snap.ring _ hk,
    vitalSame_keepAlive s sess⟩

/-- A record that LOG_EXPORT may mark: later than the mark, and written (R424). -/
def mayMark (g : Logbook) (seq : U32) : Bool :=
  (match g.exportMark with
    | none => true
    | some m => later seq m) && later g.seq seq

theorem mayMark_eq (g : Logbook) (seq : U32) :
    mayMark g seq = (g.exportMark.all (fun m => later seq m) && later g.seq seq) := by
  unfold mayMark
  cases g.exportMark <;> rfl

/-- The module once the logbook has been exported. -/
def logExported (s : State) (sess : Nat) (seq : U32) : State :=
  if mayMark s.log seq then
    { s.keepAlive sess with log := Logbook.judge { s.log with exportMark := some seq } }
  else s.keepAlive sess

theorem logExport_next {s : State} {sess : Nat} {seq : U32} (h : s.reader sess = true ∧ s.power.pg.getLsbD 1 = true) :
    exec (.logExport sess seq) s = .next (logExported s sess seq) := by
  refine (if_pos h).trans ?_
  by_cases hm : mayMark s.log seq = true
  · rw [show logExported s sess seq = _ from if_pos hm]
    exact if_pos hm
  · rw [show logExported s sess seq = _ from if_neg hm]
    exact if_neg hm

theorem logExported_frame (s : State) (sess : Nat) (seq : U32) :
    (logExported s sess seq).log.slots = s.log.slots ∧ vitalSame s (logExported s sess seq) ∧
      (logExported s sess seq).log.exportMark = if mayMark s.log seq then some seq else s.log.exportMark := by
  unfold logExported
  by_cases hm : mayMark s.log seq = true
  · rw [if_pos hm, if_pos hm]
    exact ⟨rfl, vitalSame_keepAlive s sess, rfl⟩
  · rw [if_neg hm, if_neg hm, log_keepAlive]
    exact ⟨rfl, vitalSame_keepAlive s sess, rfl⟩

/-! ### The commands that wait for the lanes (R200, R417) -/

/-- A command of a session waits at SVC under the next number, with the account and the role. -/
theorem sendCmd_waits {s : State} {sess : Nat} {e : Session} (h : s.session sess = some e) (c : LaneCmd) :
    (s.sendCmd sess c).uplink.cmdSeq = s.uplink.cmdSeq + 1 ∧
      (s.sendCmd sess c).uplink.cmds = s.uplink.cmds ++ [⟨s.uplink.cmdSeq + 1, e.account, e.role, c⟩] ∧
      vitalSame s (s.sendCmd sess c) := by
  unfold State.sendCmd
  rw [h]
  refine ⟨rfl, ?_, vitalSame_keepAlive s sess⟩
  exact congrArg (fun u : Uplink => u.cmds ++ [⟨s.uplink.cmdSeq + 1, e.account, e.role, c⟩]) (uplink_keepAlive s sess)

/-- The command of the table that asks the lanes for `c`, by a session whose role may. -/
theorem laneCommand_next {s : State} {sess n : Nat} {tgt : ForceTarget} {x : Int} {i : Instr} {c : LaneCmd}
    (h : s.maintainer sess = true ∧ (i = .restrictiveForce sess n ∧ c = .restrictiveForce n ∨
        i = .removeRestrictiveForce sess n ∧ c = .removeRestrictive n ∨
        i = .individualRelease sess n ∧ c = .individualRelease n) ∨
      s.commissioner sess = true ∧ (i = .forceValue sess tgt x ∧ c = .forceValue tgt x ∨
        i = .removeForcedValue sess tgt ∧ c = .removeForced tgt ∨ i = .onlineChange sess ∧ c = .onlineChange)) :
    exec i s = .next (s.sendCmd sess c) := by
  obtain ⟨hm, ⟨rfl, rfl⟩ | ⟨rfl, rfl⟩ | ⟨rfl, rfl⟩⟩ | ⟨hc, ⟨rfl, rfl⟩ | ⟨rfl, rfl⟩ | ⟨rfl, rfl⟩⟩ := h
  · exact if_pos hm
  · exact if_pos hm
  · exact if_pos hm
  · exact if_pos hc
  · exact if_pos hc
  · exact if_pos hc

/-- Settles O41: each read answers with what stands there, each exported record or frame moves its mark or its frame alone, and a
maintenance command joins the list that waits for the lanes. -/
theorem readingExportAndLaneCommands : Obligations.ReadingExportAndLaneCommands := by
  unfold Obligations.ReadingExportAndLaneCommands
  refine ⟨fun s sess slot seq r f hr => ⟨readState_next hr, fun hpg => ⟨fun hrec => ⟨?_, ?_⟩, fun hf => ⟨?_, ?_⟩, ?_⟩⟩,
    fun s sess n e tgt x i c he hi => ?_⟩
  · exact readLogbook_whole ⟨hr, hpg⟩ hrec
  · obtain ⟨hreply, hlog, hv⟩ := answer_frame (s.raise .log .torn .svc [((slot : Nat) : Int)]) sess [((slot : Nat) : Int)]
    exact ⟨_, readLogbook_torn ⟨hr, hpg⟩ hrec, hreply,
      (congrArg Logbook.slots hlog).trans (slots_raise s _ _ _ _), vitalSame_trans (vitalSame_raise s _ _ _ _) hv⟩
  · exact readBlackbox_next ⟨hr, hpg⟩ hf
  · obtain ⟨hself, hne, hv⟩ := exportedState_frame s sess slot
    refine ⟨_, blackboxExport_next ⟨hr, hpg⟩, ?_, hne, hv⟩
    rw [hself, hf]
    rfl
  · obtain ⟨hslots, hv, hmark⟩ := logExported_frame s sess seq
    refine ⟨_, logExport_next ⟨hr, hpg⟩, hslots, hv, fun ha hl => ?_, fun hno => ?_⟩
    · rw [hmark, mayMark_eq, ha, hl]
      rfl
    · rw [hmark, mayMark_eq, Bool.and_eq_false_iff.mpr hno]
      rfl
  · exact ⟨_, laneCommand_next hi, sendCmd_waits he c⟩

end Sys2Proof.AccessRules
end

section
/-! ## Signing keys, loading a manifest, activation and the switch (chapter 14) -/

namespace Sys2Proof.ChangeRules

open Sys2Proof Sys2Proof.Machine Sys2Proof.Laws Sys2Proof.VoteRules Sys2Proof.ConsRules Sys2Proof.RejoinRules
open Sys2Proof.ModuleRules Sys2Proof.AccessRules Sys2Proof.SvcUp
open Sys2Proof.WharfRules (vitalSame_raise)
open Sys2Proof.QueueRules (vitalSame_trans)
open Sys2Proof.VoteFlag (foldl_preserves)

/-! ### The configuration record (R395) -/

theorem later_succ (a : U32) : later (a + 1#32) a = true := by
  unfold later sdiff
  rw [show a + 1#32 - a = 1 by bv_omega]
  decide

theorem not_later_succ (a : U32) : later a (a + 1#32) = false := by
  unfold later sdiff
  rw [show a - (a + 1#32) = -1 by bv_omega]
  decide

/-- The record written last is the one that counts: it has the SEQ after that of the record before it. -/
theorem cfg_putCfg (f : LaneFlash) (g : CfgRec → CfgRec) :
    (f.putCfg g).cfg = some { g (f.cfg.getD {}) with seq := (f.cfg.getD {}).seq + 1 } := by
  unfold LaneFlash.putCfg LaneFlash.cfg
  rcases hA : f.cfgA with _ | a <;> rcases hB : f.cfgB with _ | b
  · simp
  · simp [not_later_succ]
  · simp [later_succ]
  · by_cases h : later b.seq a.seq = true
    · simp [h, not_later_succ]
    · simp [h, later_succ]

/-- The record before it stays in the other copy. -/
theorem putCfg_keeps {f : LaneFlash} {r : CfgRec} (g : CfgRec → CfgRec) (h : f.cfg = some r) :
    (f.putCfg g).cfgA = some r ∨ (f.putCfg g).cfgB = some r := by
  unfold LaneFlash.cfg at h
  unfold LaneFlash.putCfg
  rcases hA : f.cfgA with _ | a <;> rcases hB : f.cfgB with _ | b <;> simp only [hA, hB] at h ⊢
  · cases h
  · exact .inr h
  · exact .inl h
  · by_cases hl : later b.seq a.seq = true
    · rw [if_pos hl] at h ⊢
      exact .inr h
    · rw [if_neg hl] at h ⊢
      exact .inl h

theorem man_putCfg (f : LaneFlash) (g : CfgRec → CfgRec) (n : Nat) : (f.putCfg g).man n = f.man n := by
  unfold LaneFlash.putCfg
  split
  · split <;> rfl
  · rfl
  · rfl
  · rfl

theorem signers_putCfg (f : LaneFlash) (g : CfgRec → CfgRec) : (f.putCfg g).signers = f.signers := by
  unfold LaneFlash.putCfg
  split
  · split <;> rfl
  · rfl
  · rfl
  · rfl

theorem cfg_setMan (f : LaneFlash) (n : Nat) (m : Option Manifest) : (f.setMan n m).cfg = f.cfg := by
  unfold LaneFlash.setMan
  split <;> rfl

theorem man_setMan_self (f : LaneFlash) (n : Nat) (m : Option Manifest) : (f.setMan n m).man n = m := by
  unfold LaneFlash.setMan LaneFlash.man
  split <;> rfl

theorem target_lt (r : CfgRec) : r.target < 2 := by
  unfold CfgRec.target
  split <;> decide

theorem man_setMan_other (f : LaneFlash) (r : CfgRec) (m : Option Manifest) :
    (f.setMan r.target m).man (1 - r.target) = f.man (1 - r.target) := by
  unfold CfgRec.target
  split <;> rfl

theorem slotState_setSlot (r : CfgRec) (n st : Nat) (no : U32) : (r.setSlot n st no).slotState n = st := by
  unfold CfgRec.setSlot CfgRec.slotState
  split <;> rfl

/-! ### What a lane's flash holds after each write -/

/-- A lane whose flash holds a new record. -/
theorem cfgRec_putCfg (L : Lane) (f : LaneFlash) (g : CfgRec → CfgRec) (h : f.cfg = L.flash.cfg) :
    ({ L with flash := f.putCfg g } : Lane).cfgRec = { g L.cfgRec with seq := L.cfgRec.seq + 1 } := by
  unfold Lane.cfgRec
  rw [show ({ L with flash := f.putCfg g } : Lane).flash = f.putCfg g from rfl, cfg_putCfg, h]
  rfl

/-- The target slot holds the manifest `m` under the state `st`, and the other slot what it held. -/
def Slotted (L M : Lane) (m : Option Manifest) (st : Nat) : Prop :=
  M.flash.man L.cfgRec.target = m ∧ M.cfgRec.slotState L.cfgRec.target = st ∧
    M.flash.man (1 - L.cfgRec.target) = L.flash.man (1 - L.cfgRec.target) ∧ M.image = L.image

theorem slotted_put (L : Lane) (m : Option Manifest) (st : Nat) (no : U32) : Slotted L
    { L with flash := (L.flash.setMan L.cfgRec.target m).putCfg (fun r => r.setSlot L.cfgRec.target st no) } m st := by
  refine ⟨?_, ?_, ?_, rfl⟩
  · exact (man_putCfg _ _ _).trans (man_setMan_self _ _ _)
  · rw [cfgRec_putCfg L _ _ (cfg_setMan _ _ _)]
    exact slotState_setSlot L.cfgRec _ st no
  · exact (man_putCfg _ _ _).trans (man_setMan_other _ _ _)

theorem slotted_badTarget (L : Lane) : Slotted L L.badTarget none 3 := slotted_put L none 3 0

theorem slotted_takeBody (L : Lane) (man : Manifest) (good : Bool) :
    Slotted L (L.takeBody man good) (if good then some man else none) (if good then 1 else 3) := by
  unfold Lane.takeBody
  cases good
  · exact slotted_badTarget L
  · exact slotted_put L (some man) 1 man.hdr.number

theorem slotState_verifySlot {L : Lane} {slot : Nat} {m : Manifest} (h1 : L.cfgRec.slotState slot = 1)
    (hm : L.flash.man slot = some m) (ok : Bool) :
    (L.verifySlot slot ok).cfgRec.slotState slot = if ok && loadOk m then 2 else 3 := by
  unfold Lane.verifySlot
  rw [if_pos h1, hm]
  show ({ L with flash := _ } : Lane).cfgRec.slotState slot = _
  rw [cfgRec_putCfg L L.flash _ rfl]
  exact slotState_setSlot L.cfgRec slot _ _

/-! ### What a change command writes before it acts -/

/-- The state in which a change command has noted its session and its event. -/
theorem noted_frame (s : State) (sess : Nat) (e : EventName) (x : List Int) :
    ((s.keepAlive sess).logChange sess e x).lanes = s.lanes ∧ ((s.keepAlive sess).logChange sess e x).power = s.power ∧
      ((s.keepAlive sess).logChange sess e x).change = s.change ∧
      vitalSame s ((s.keepAlive sess).logChange sess e x) := by
  obtain ⟨a, ha⟩ := keepAlive_eq s sess
  rw [ha]
  exact ⟨lanes_raise _ _ _ _ _, power_raise _ _ _ _ _, change_raise _ _ _ _ _,
    vitalSame_trans (t := { s with access := a }) ⟨rfl, rfl⟩ (vitalSame_raise _ _ _ _ _)⟩

theorem lnIOn_of_power {s t : State} (h : t.power = s.power) (ln : LaneId) : t.lnIOn ln = s.lnIOn ln := by
  unfold State.lnIOn
  rw [h]

/-- A write of every flash that has power, seen in one lane. -/
theorem lane_mapFlash {s t : State} {ln : LaneId} (hl : t.lanes = s.lanes) (hp : t.power = s.power) (hon : s.lnIOn ln = true)
    (f : LaneFlash → LaneFlash) :
    (t.mapFlash f).lane ln = { s.lane ln with flash := f (s.lane ln).flash } := by
  unfold State.mapFlash
  rw [lane_mapLanes, if_pos ((lnIOn_of_power hp ln).trans hon), lane_of_lanes hl]

theorem refuse_frame (s : State) (sess : Nat) (x : List Int) :
    (s.refuse sess x).change = s.change ∧ vitalSame s (s.refuse sess x) := by
  obtain ⟨-, -, hc, hv⟩ := noted_frame s sess .commandRefused x
  exact ⟨hc, hv⟩

/-! ### Signing keys (R394) -/

/-- Signers other than one. -/
def otherSigners (f : LaneFlash) (signer : U64) : List (U64 × BitVec 776) :=
  f.signers.filter (fun e => decide (e.1 ≠ signer))

theorem signingKeyEnrol_next {s : State} {sess : Nat} {signer : U64} (key : BitVec 776) (hc : s.commissioner sess = true)
    (hm : s.module = .closed) (hlen : (otherSigners (s.lane s.lead).flash signer).length < 2) :
    exec (.signingKeyEnrol sess signer key) s =
      .next (((s.keepAlive sess).logChange sess .keyEnrolled [((signer.toNat : Nat) : Int)]).mapFlash (fun f =>
        { f with signers := otherSigners f signer ++ [(signer, key)] })) :=
  (if_pos hc).trans (if_pos (And.intro hm hlen))

theorem signingKeyRemove_next {s : State} {sess : Nat} {signer : U64} (hc : s.commissioner sess = true)
    (hm : s.module = .closed) :
    exec (.signingKeyRemove sess signer) s =
      .next (((s.keepAlive sess).logChange sess .keyRemoved [((signer.toNat : Nat) : Int)]).mapFlash (fun f =>
        { f with signers := otherSigners f signer })) :=
  (if_pos hc).trans (if_pos hm)

theorem signingKey_refused {s : State} {sess : Nat} {signer : U64} (key : BitVec 776) (hc : s.commissioner sess = true)
    (hm : s.module ≠ .closed) :
    exec (.signingKeyEnrol sess signer key) s = .next (s.refuse sess [((signer.toNat : Nat) : Int)]) ∧
      exec (.signingKeyRemove sess signer) s = .next (s.refuse sess [((signer.toNat : Nat) : Int)]) :=
  ⟨(if_pos hc).trans (if_neg (fun h => hm h.1)), (if_pos hc).trans (if_neg hm)⟩

theorem not_mem_otherSigners (f : LaneFlash) (signer : U64) (k : BitVec 776) : (signer, k) ∉ otherSigners f signer := by
  intro h
  exact (of_decide_eq_true (List.mem_filter.mp h).2) rfl

/-! ### A load (R397, R398) -/

theorem laneHeaderBad_keepAlive (s : State) (sess : Nat) : (s.keepAlive sess).laneHeaderBad = s.laneHeaderBad := by
  obtain ⟨a, ha⟩ := keepAlive_eq s sess
  rw [ha]
  rfl

theorem voters_keepAlive (s : State) (sess : Nat) : (s.keepAlive sess).voters = s.voters := by
  obtain ⟨a, ha⟩ := keepAlive_eq s sess
  rw [ha]
  rfl

/-- The slot a load of the module writes, as its events name it. -/
def loadSlot (s : State) (sess : Nat) : Nat := ((s.keepAlive sess).lane (s.keepAlive sess).lead).cfgRec.target

/-- A lane IN-VOTE refuses the header. -/
theorem manifestLoad_refused {s : State} {sess code : Nat} {hdr : ManHeader} {sig : Tri Bool}
    (hc : s.commissioner sess = true) (h : s.voters.findSome? (s.laneHeaderBad hdr sig) = some code) :
    exec (.manifestLoad sess hdr sig) s =
      .next ((s.keepAlive sess).logChange sess .manifestRefused (manVals hdr.number (loadSlot s sess) code)) := by
  have h' : (s.keepAlive sess).voters.findSome? ((s.keepAlive sess).laneHeaderBad hdr sig) = some code := by
    rw [voters_keepAlive, laneHeaderBad_keepAlive, h]
  refine (if_pos hc).trans ?_
  simp only [h']
  rfl

/-- Every powered lane empties its target slot, and the lanes that refuse the header say so. -/
def loadStarted (s0 : State) (sess slot : Nat) (hdr : ManHeader) (sig : Tri Bool) : State :=
  (s0.loadable.filter (fun ln => (s0.laneHeaderBad hdr sig ln).isSome)).foldl
    (fun s ln => s.raiseLane ln .change .manifestRefused
      (s0.who sess ++ manVals hdr.number slot ((s0.laneHeaderBad hdr sig ln).getD 0)))
    (s0.mapLanes (fun ln L => if s0.lnIOn ln then L.badTarget else L))

/-- The module that waits for the body. -/
def loading (s0 : State) (sess slot : Nat) (hdr : ManHeader) (sig : Tri Bool) : State :=
  let s2 := loadStarted s0 sess slot hdr sig
  { s2 with change := { s2.change with
      loading := some hdr, loader := s0.who sess
      loadLanes := s0.loadable.filter (fun ln => (s0.laneHeaderBad hdr sig ln).isNone), staged := none } }

theorem manifestLoad_next {s : State} {sess : Nat} {hdr : ManHeader} {sig : Tri Bool}
    (hc : s.commissioner sess = true) (h : s.voters.findSome? (s.laneHeaderBad hdr sig) = none) (hv : s.voters ≠ []) :
    exec (.manifestLoad sess hdr sig) s = .next (loading (s.keepAlive sess) sess (loadSlot s sess) hdr sig) := by
  have h' : (s.keepAlive sess).voters.findSome? ((s.keepAlive sess).laneHeaderBad hdr sig) = none := by
    rw [voters_keepAlive, laneHeaderBad_keepAlive, h]
  have hv' : (s.keepAlive sess).voters ≠ [] := by rwa [voters_keepAlive]
  refine (if_pos hc).trans ?_
  simp only [h']
  exact if_neg hv'

/-- With SVC up, the refusals of a load change no lane. -/
theorem lanes_loadStarted {s0 : State} (hup : s0.uplink.up = true) (sess slot : Nat) (hdr : ManHeader) (sig : Tri Bool) :
    (loadStarted s0 sess slot hdr sig).lanes =
      (s0.mapLanes (fun ln L => if s0.lnIOn ln then L.badTarget else L)).lanes := by
  have hkeep : ∀ (ls : List LaneId) (f : LaneId → List Int) (t : State), t.uplink.up = true →
      (ls.foldl (fun s ln => s.raiseLane ln .change .manifestRefused (f ln)) t).lanes = t.lanes := by
    intro ls f
    induction ls with
    | nil => exact fun _ _ => rfl
    | cons l ls ih =>
      intro t ht
      rw [List.foldl_cons, ih _ (by rw [State.raiseLane, if_pos ht]; exact (congrArg Uplink.up (uplink_raise _ _ _ _ _)).trans ht)]
      exact lanes_raiseLane ht _ _ _ _
  exact hkeep _ _ _ hup

theorem up_of_commissioner {s : State} {sess : Nat} (h : s.commissioner sess = true) : s.uplink.up = true := by
  unfold State.commissioner State.reader at h
  exact (Bool.and_eq_true_iff.mp (Bool.and_eq_true_iff.mp h).1).1

/-- What a load leaves in a lane that has power. -/
theorem slotted_loading {s : State} {sess : Nat} {ln : LaneId} (hc : s.commissioner sess = true) (hon : s.lnIOn ln = true)
    (slot : Nat) (hdr : ManHeader) (sig : Tri Bool) :
    Slotted (s.lane ln) ((loading (s.keepAlive sess) sess slot hdr sig).lane ln) none 3 := by
  have hup : (s.keepAlive sess).uplink.up = true := by
    rw [uplink_keepAlive]
    exact up_of_commissioner hc
  have hon' : (s.keepAlive sess).lnIOn ln = true := by
    obtain ⟨a, ha⟩ := keepAlive_eq s sess
    rw [ha]
    exact hon
  have hlane : (loading (s.keepAlive sess) sess slot hdr sig).lane ln = (s.lane ln).badTarget := by
    refine (lane_of_lanes (lanes_loadStarted hup sess slot hdr sig) ln).trans ?_
    rw [lane_mapLanes, if_pos hon', lane_of_lanes (lanes_keepAlive s sess)]
  rw [hlane]
  exact slotted_badTarget (s.lane ln)

/-- The lanes that take the body. -/
def takers (s : State) : List LaneId := s.change.loadLanes.filter s.lnIOn

/-- The body has been written and compared. -/
def bodyWritten (s : State) (man : Manifest) (hash : Tri Bool) : State :=
  let s1 := s.mapLanes (fun ln L =>
    if (takers s).contains ln then L.takeBody (Manifest.forLane man ln) (hash.get ln) else L)
  ({ s1 with change := { s1.change with loading := none, loadLanes := [] } } : State).raise .change
    (if (takers s).all (fun ln => hash.get ln) then .manifestLoaded else .manifestRefused) .svc
    (s.change.loader ++ manVals man.hdr.number (s.lane s.lead).cfgRec.target 0)

theorem manifestBodyWritten_next {s : State} {man : Manifest} (hash : Tri Bool) (h : s.change.loading = some man.hdr) :
    exec (.manifestBodyWritten man hash) s = .next (bodyWritten s man hash) := if_pos h

theorem lane_bodyWritten {s : State} {ln : LaneId} (man : Manifest) (hash : Tri Bool)
    (hload : s.change.loadLanes.contains ln = true) (hon : s.lnIOn ln = true) :
    (bodyWritten s man hash).lane ln = (s.lane ln).takeBody (Manifest.forLane man ln) (hash.get ln) := by
  have hin : (takers s).contains ln = true :=
    List.contains_iff_mem.mpr (List.mem_filter.mpr ⟨List.contains_iff_mem.mp hload, hon⟩)
  unfold bodyWritten
  rw [lane_raise]
  exact (lane_mapLanes s _ ln).trans (if_pos hin)

theorem change_bodyWritten (s : State) (man : Manifest) (hash : Tri Bool) :
    (bodyWritten s man hash).change.loading = none :=
  congrArg Change.loading (change_raise _ _ _ _ _)

/-! ### What one lane can read (R25) -/

theorem forLane_keys (m : Manifest) (ln : LaneId) :
    (∀ v, v ≠ ln → (Manifest.forLane m ln).body.laneKeys.get v = []) ∧
      (Manifest.forLane m ln).body.laneKeys.get ln = m.body.laneKeys.get ln ∧ (Manifest.forLane m ln).hdr = m.hdr := by
  refine ⟨fun v hv => ?_, Tri_get_set_self _ ln _, rfl⟩
  refine (Tri_get_set_ne _ _ hv).trans ?_
  cases v <;> rfl

/-! ### The background checks and the delta (R399, R409) -/

/-- The lanes whose slot is LOADED. -/
def checked (s : State) (slot : Nat) : List LaneId :=
  s.loadable.filter (fun ln => decide ((s.lane ln).cfgRec.slotState slot = 1))

theorem mem_loadable (s : State) (ln : LaneId) : ln ∈ s.loadable ↔ s.lnIOn ln = true := by
  unfold State.loadable
  rw [List.mem_filter]
  exact ⟨fun h => h.2, fun h => ⟨by cases ln <;> decide, h⟩⟩

/-- Each of those lanes has judged its slot. -/
def verified (s : State) (slot : Nat) (gcm : Tri Bool) : State :=
  s.mapLanes (fun ln L => if (checked s slot).contains ln then L.verifySlot slot (gcm.get ln) else L)

/-- The event the checks end with. -/
def verdict (s : State) (slot : Nat) (gcm : Tri Bool) : State :=
  (verified s slot gcm).raise .change
    (if (checked s slot).all (fun ln => decide (((verified s slot gcm).lane ln).cfgRec.slotState slot = 2))
      then .manifestVerified else .manifestRefused) .svc
    (noWho ++ manVals (((verified s slot gcm).lane ((checked s slot).headD .l1)).cfgRec.slotNo slot) slot 0)

theorem manifestVerified_next {s : State} {ln : LaneId} {slot : Nat} (gcm : Tri Bool) (h : ln ∈ checked s slot) :
    exec (.manifestVerified slot gcm) s = .next (verdict s slot gcm) :=
  if_neg (List.ne_nil_of_mem h)

theorem lane_verdict {s : State} {ln : LaneId} {slot : Nat} (gcm : Tri Bool) (h : ln ∈ checked s slot) :
    (verdict s slot gcm).lane ln = (s.lane ln).verifySlot slot (gcm.get ln) := by
  unfold verdict
  rw [lane_raise]
  exact (lane_mapLanes s _ ln).trans (if_pos (List.contains_iff_mem.mpr h))

theorem manifestStaged_agreed {s : State} {crcs : Tri U64} (hv : s.voters ≠ [])
    (h : ∀ v, s.votes v = true → crcs.get v = crcs.get s.lead ∧
      (s.lane v).cfgRec.slotState (s.lane v).cfgRec.target = 2) :
    exec (.manifestStaged crcs) s = .next { s with change := { s.change with staged := some s.deltaNow } } := by
  refine if_pos ⟨List.all_eq_true.mpr fun v hm => ?_, hv⟩
  obtain ⟨hcrc, hslot⟩ := h v ((votes_iff s v).mpr ((mem_voters s v).mp hm))
  exact Bool.and_eq_true_iff.mpr ⟨decide_eq_true hcrc, decide_eq_true hslot⟩

theorem manifestStaged_differs {s : State} {crcs : Tri U64} {v : LaneId} (hv : s.votes v = true)
    (h : crcs.get v ≠ crcs.get s.lead) :
    exec (.manifestStaged crcs) s = .next { s with change := { s.change with staged := none } } := by
  refine if_neg fun hall => h ?_
  have hvoter := List.all_eq_true.mp hall.1 v ((mem_voters s v).mpr ((votes_iff s v).mp hv))
  exact of_decide_eq_true (Bool.and_eq_true_iff.mp hvoter).1

theorem findSome_voters_none {s : State} {hdr : ManHeader} {sig : Tri Bool}
    (h : ∀ v, s.votes v = true → s.laneHeaderBad hdr sig v = none) :
    s.voters.findSome? (s.laneHeaderBad hdr sig) = none :=
  List.findSome?_eq_none_iff.mpr fun v hm => h v ((votes_iff s v).mpr ((mem_voters s v).mp hm))

theorem findSome_voters_some {s : State} {hdr : ManHeader} {sig : Tri Bool}
    (h : ∃ v, s.votes v = true ∧ (s.laneHeaderBad hdr sig v).isSome = true) :
    ∃ code, s.voters.findSome? (s.laneHeaderBad hdr sig) = some code := by
  obtain ⟨v, hv, hbad⟩ := h
  refine Option.isSome_iff_exists.mp (List.findSome?_isSome_iff.mpr ⟨v, ?_, hbad⟩)
  exact (mem_voters s v).mpr ((votes_iff s v).mp hv)

/-- Settles O42: each write of a flash is the write of one record or one slot (`cfg_putCfg`, `Slotted`), and a refusal
writes none. -/
theorem manifestLoading : Obligations.ManifestLoading := by
  unfold Obligations.ManifestLoading
  intro s sess slot hdr sig hash gcm man m signer key ln crcs f g
  refine ⟨⟨cfg_putCfg f g, fun r hr => putCfg_keeps g hr⟩, fun hc => ⟨fun hm hon => ⟨fun hlen => ?_, ?_⟩, fun hm => ?_, fun hbad => ?_,
    fun hgood hv => ?_⟩, fun hload hin hon => ?_, forLane_keys man ln, fun hon h1 hman => ?_, fun hv => ⟨?_, ?_⟩⟩
  · obtain ⟨hl, hp, -⟩ := noted_frame s sess .keyEnrolled [((signer.toNat : Nat) : Int)]
    refine ⟨_, signingKeyEnrol_next key hc hm hlen, ?_⟩
    rw [lane_mapFlash hl hp hon]
    exact List.mem_append_right _ (List.mem_singleton.mpr rfl)
  · obtain ⟨hl, hp, -⟩ := noted_frame s sess .keyRemoved [((signer.toNat : Nat) : Int)]
    refine ⟨_, signingKeyRemove_next hc hm, fun k => ?_⟩
    rw [lane_mapFlash hl hp hon]
    exact not_mem_otherSigners _ signer k
  · obtain ⟨henrol, hremove⟩ := signingKey_refused (signer := signer) key hc hm
    exact ⟨⟨_, henrol, (refuse_frame s sess _).2⟩, _, hremove, (refuse_frame s sess _).2⟩
  · obtain ⟨code, hcode⟩ := findSome_voters_some hbad
    obtain ⟨-, -, hch, hvs⟩ := noted_frame s sess .manifestRefused (manVals hdr.number (loadSlot s sess) code)
    exact ⟨_, manifestLoad_refused hc hcode, hch, hvs⟩
  · exact ⟨_, manifestLoad_next hc (findSome_voters_none hgood) hv, rfl, fun hon => slotted_loading hc hon _ hdr sig⟩
  · obtain ⟨hbody, hstate, hother, -⟩ := slotted_takeBody (s.lane ln) (Manifest.forLane man ln) (hash.get ln)
    refine ⟨_, manifestBodyWritten_next hash hload, change_bodyWritten s man hash, ?_⟩
    rw [lane_bodyWritten man hash hin hon]
    exact ⟨hstate, hbody, hother⟩
  · have hmem : ln ∈ checked s slot := List.mem_filter.mpr ⟨(mem_loadable s ln).mpr hon, decide_eq_true h1⟩
    refine ⟨_, manifestVerified_next gcm hmem, ?_⟩
    rw [lane_verdict gcm hmem]
    exact slotState_verifySlot h1 hman (gcm.get ln)
  · exact fun h => manifestStaged_agreed hv h
  · rintro ⟨v, hvote, hne⟩
    exact manifestStaged_differs hvote hne

/-! ### The switch of an online change (R410) -/

/-- A manifest whose body holds a key for each lane. It configures no word, element, controller or connection. -/
def keyed : Manifest where
  hdr := {
    magic := 0, format := 0, hdrLen := 0, reservedZero := true, site := 0, number := 0, base := 0, buildTime := 0, tc := 20
    testOnly := false, qlKeyset := 0, slKeyset := 0, qlPrev := 0, slPrev := 0, bodyLen := 0, iv := 0, gcmTag := 0
    bodyHash := 0, signerId := 0, ephemeral := 0, wrap := [], comboCount := 1, combo := [⟨0, 0, 0⟩], signature := 0 }
  body := {
    parts := [], routeHdr := ⟨0, true⟩, code := [], words := [], elems := [], ctrls := [], conns := []
    localIo := ⟨[], [], [], ⟨.group, .group, .group⟩, [], [], [], 20, 20⟩
    wb := [], timers := [], edges := [], demand := [], firstNew := [], routePart := [], slots := ⟨0, 0, 0, 0⟩
    laneKeys := ⟨[(0, 1)], [(0, 2)], [(0, 3)]⟩
    testIntervalH := 24, ipv4 := 0, gateways := ⟨0, 0⟩, vlan := none, ptpDomain := 0, partner := false }

/-- A lane IN-VOTE that has committed its cycle, and whose target slot holds that manifest as the lane can read it. -/
def keyedLane (ln : LaneId) : Lane where
  views := ⟨.inVote, .inVote, .inVote⟩
  committed := true
  supC := { keyClosed := true }
  image := some (Manifest.forLane keyed ln)
  flash := { man1 := some (Manifest.forLane keyed ln), cfgA := some { activeMan := some 0, slot1State := 2 } }

/-- Three such lanes at the end of the cycle before the switch cycle. -/
def switchDue : State := { State.reset with
  module := .operational
  lanes := ⟨keyedLane .l1, keyedLane .l2, keyedLane .l3⟩
  uplink := { up := true }
  change := { staged := some 0, switchCn := some 1 } }

theorem onlineRefusal_switchDue : switchDue.onlineRefusal = none := by decide

theorem switchDecision_switchDue :
    exec .switchDecision switchDue = .next (switchDue.switchNow (Manifest.forLane keyed .l1) 1).settle := by
  show execSwitchDecision switchDue = _
  have hcn : switchDue.change.switchCn = some 1 := rfl
  have hnew : switchDue.newMan = some (Manifest.forLane keyed .l1) := rfl
  unfold execSwitchDecision
  simp only [hcn, hnew, onlineRefusal_switchDue]
  rfl

/-- Refutes O43: each lane switches to the manifest of its own flash, which holds the keys of that lane alone (R25, R393),
so a lane that is not the lead does not run the lead's manifest. -/
theorem not_activationAndSwitch : ¬ Obligations.ActivationAndSwitch := by
  unfold Obligations.ActivationAndSwitch
  intro h
  obtain ⟨-, hswitch⟩ := h switchDue 0 0 0 0 ⟨0, 0, 0⟩ .l1 1 (Manifest.forLane keyed .l1) (0, 0)
  obtain ⟨u, hu, -, -, hlanes⟩ := (hswitch rfl rfl rfl).2.2 rfl onlineRefusal_switchDue
  cases switchDecision_switchDue.symm.trans hu
  obtain ⟨himage, -⟩ := hlanes .l2 rfl
  have hup : (switchDue.switchNow (Manifest.forLane keyed .l1) 1).uplink.up = true := rfl
  rw [lane_settle hup] at himage
  have hown : ((switchDue.switchNow (Manifest.forLane keyed .l1) 1).lane .l2).image = some (Manifest.forLane keyed .l2) := rfl
  have hkeys : Manifest.forLane keyed .l2 = Manifest.forLane keyed .l1 := Option.some.inj (hown.symm.trans himage)
  exact absurd (congrArg (fun m : Manifest => m.body.laneKeys) hkeys) (by decide)

end Sys2Proof.ChangeRules
end

section
/-! ## The Pilot session and its debugger (R109-R114) -/

namespace Sys2Proof.PilotRules

open Sys2Proof Sys2Proof.Machine Sys2Proof.Laws Sys2Proof.VoteRules Sys2Proof.ConsRules Sys2Proof.RejoinRules
open Sys2Proof.ModuleRules Sys2Proof.AccessRules Sys2Proof.ChangeRules Sys2Proof.SvcUp
open Sys2Proof.VoteFlag (foldl_preserves)

/-! ### The start of a session (R109, R110) -/

theorem pilot_settle (s : State) : s.settle.pilot = s.pilot ∧ s.settle.pilotDue = s.pilotDue := by
  have h := outer_settle s
  have hp := congrArg State.pilot h
  have hd := congrArg State.pilotDue h
  exact ⟨hp, hd⟩

/-- The state in which a session is asked for: who asks is noted. -/
def pilotAsked (s : State) (sess : Nat) : State :=
  { s.keepAlive sess with change := { (s.keepAlive sess).change with pilotBy := (s.keepAlive sess).who sess } }

theorem lanes_pilotAsked (s : State) (sess : Nat) : (pilotAsked s sess).lanes = s.lanes := lanes_keepAlive s sess

theorem up_pilotAsked {s : State} {sess : Nat} (h : s.commissioner sess = true) : (pilotAsked s sess).uplink.up = true := by
  show (s.keepAlive sess).uplink.up = true
  rw [uplink_keepAlive]
  exact up_of_commissioner h

/-- A session captures the cycle that Lane 1 is ready for, and waits for the next otherwise. -/
theorem pilotOpen_next {s : State} {sess : Nat} (hc : s.commissioner sess = true) (hm : (s.keepAlive sess).mayPilot = true) :
    exec (.pilotOpen sess) s = .next (State.settle (if s.lanes.l1.readyForPass1 then (pilotAsked s sess).capture
      else { pilotAsked s sess with pilotDue := true })) := by
  have hm' : (pilotAsked s sess).mayPilot = true := hm
  rw [← lanes_pilotAsked s sess]
  exact (if_pos hc).trans (if_pos hm')

theorem voters_of_mayPilot {s : State} (h : s.mayPilot = true) : s.voters = [.l1, .l2, .l3] := by
  unfold State.mayPilot at h
  simp only [Bool.and_eq_true, decide_eq_true_eq] at h
  exact voters_eq_all h.1.1.1.1.1.2

/-- What the capture leaves: Lane 1 outside the vote with every switch open, and the other two as they were. -/
theorem capture_frame (s : State) : s.capture.laneState .l1 = .outTest ∧ (s.capture.lane .l1).cause = .pilot ∧
    (s.capture.lane .l1).switches = [] ∧ s.capture.laneState .l2 = s.laneState .l2 ∧
    s.capture.laneState .l3 = s.laneState .l3 :=
  ⟨rfl, rfl, rfl, rfl, rfl⟩

/-! ### The end of a session (R114) -/

/-- What a lane shows once its memory is back at the committed state. -/
def shown (L : Lane) : Tri LaneState × Option Manifest := (L.views, L.image)

theorem shown_setWord (L : Lane) (p : Pass) (k : Nat) (c : Coded) : shown (L.setWord p k c) = shown L := by
  cases p <;> rfl

theorem shown_restore (L : Lane) : shown L.gate.restore = shown L := by
  unfold Lane.restore
  refine (foldl_preserves shown (fun L (e : Nat × Coded × Coded) => (L.setWord .p1 e.1 e.2.1).setWord .p2 e.1 e.2.2)
    (fun M e => ?_) _ _).trans ?_
  · rw [shown_setWord, shown_setWord]
  · exact foldl_preserves shown (fun L (e : JEntry) => L.setWord e.pass e.key e.pre)
      (fun M e => shown_setWord M _ _ _) _ _

/-- The state after the session: its record goes to the change log, and the memory of Lane 1 back. -/
theorem dropPilot_frame {s : State} {p : Pilot} (h : s.pilot = some p) :
    s.dropPilot.pilot = none ∧ s.dropPilot.pilotDue = false ∧ (∀ m, shown (s.dropPilot.lane m) = shown (s.lane m)) ∧
      s.dropPilot.module = s.module ∧ s.dropPilot.clxOk = s.clxOk ∧ s.dropPilot.uplink = s.uplink := by
  unfold State.dropPilot
  rw [h]
  refine ⟨rfl, rfl, fun m => ?_, module_raise _ _ _ _ _, clxOk_raise _ _ _ _ _, uplink_raise _ _ _ _ _⟩
  show shown (((s.raise .change .pilotSession .svc (s.change.pilotBy ++ p.values)).updLane .l1
    (fun L => L.gate.restore)).lane m) = _
  by_cases hm : m = .l1
  · subst hm
    rw [lane_updLane_self, lane_raise]
    exact shown_restore _
  · rw [lane_updLane_ne _ _ hm, lane_raise]

/-- At the end of its session Lane 1, out in test, rejoins the other two. -/
theorem pilotClose_rejoins {s : State} {p : Pilot} (hp : s.pilot = some p) (hout : s.laneState .l1 = .outTest)
    (hv : s.voters = [.l2, .l3]) (hr : runsCycle s.module = true) (hl : s.linksUp .l1 = true)
    (himg : ∀ v, s.votes v = true → imageId (s.lane v).image = imageId (s.lane .l1).image) :
    s.endPilot = rejoinStarted s.dropPilot .l1 ∧ s.endPilot.voters = [.l2, .l3] := by
  obtain ⟨-, -, hshown, hmod, hclx, -⟩ := dropPilot_frame hp
  have hstate : ∀ m, s.dropPilot.laneState m = s.laneState m := fun m =>
    congrArg (fun x : Tri LaneState × Option Manifest => x.1.get m) (hshown m)
  have himage : ∀ m, (s.dropPilot.lane m).image = (s.lane m).image := fun m => congrArg Prod.snd (hshown m)
  have hvoters := voters_of_laneState hstate
  have hnot : s.dropPilot.laneState .l1 ≠ .inVote := by rw [hstate, hout]; decide
  have hlinks : s.dropPilot.linksUp .l1 = true := by
    unfold State.linksUp
    rw [hclx]
    exact hl
  have hok : (rejoinStarted s.dropPilot .l1).rejoinOk .l1 = true :=
    rejoinOk_rejoinStarted hnot (by rw [hvoters, hv]; rfl) (by rwa [hmod])
      (fun v hvote => by rw [himage, himage]; exact himg v (by rwa [← votes_of_voters hvoters])) hlinks
  have hend : s.endPilot = rejoinStarted s.dropPilot .l1 := by
    have hcond : s.pilot.isSome = true ∧ s.dropPilot.laneState .l1 = .outTest := ⟨by rw [hp]; rfl, (hstate .l1).trans hout⟩
    refine (if_pos hcond).trans ?_
    rw [startRejoin_eq, if_pos hok]
  exact ⟨hend, by rw [hend, voters_rejoinStarted hnot, hvoters, hv]⟩

theorem rejoinStarted_pilot (s : State) (ln : LaneId) :
    (rejoinStarted s ln).pilot = s.pilot ∧ (rejoinStarted s ln).pilotDue = s.pilotDue :=
  ⟨pilot_raiseLane _ _ _ _ _, pilotDue_raiseLane _ _ _ _ _⟩

/-! ### The debugger (R111-R113) -/

section
variable {s : State} {p : Pilot}

theorem updPilot_some (h : s.pilot = some p) (f : Pilot → Pilot) : s.updPilot f = { s with pilot := some (f p) } := by
  unfold State.updPilot
  rw [h]
  rfl

theorem breakpointSet_next (h : s.pilot = some p) (hlen : p.breakpoints.length < 16) (core : CoreId) (idx occ : Nat) :
    exec (.pilotBreakpointSet core idx occ) s =
      .next { s with pilot := some { p with breakpoints := p.breakpoints ++ [(core.idx, idx, occ)] } } := by
  show execPilotBreakpointSet core idx occ s = _
  unfold execPilotBreakpointSet
  rw [updPilot_some h]
  simp only [h]
  exact if_pos hlen

theorem rerun_next (h : s.pilot = some p) : exec .pilotRerun s = .next { s.updLane .l1 (Lane.rewind p) with
    pilot := some { p with journal := [], ended := false, stoppedAt := none, reply := none } } := by
  have hu : (s.updLane .l1 (Lane.rewind p)).pilot = some p := h
  show execPilotRerun s = _
  unfold execPilotRerun
  simp only [h]
  rw [updPilot_some hu]
  rfl

theorem read_next (h : s.pilot = some p) (h1 : s.pilotPass1 = true) (core : CoreId) (tgt : PilotTarget) :
    exec (.pilotRead core tgt) s = .next { s with pilot := some { p with reply := s.lanes.l1.inspect core tgt } } := by
  refine (if_pos h1).trans ?_
  rw [updPilot_some h]
  rfl

/-- A write of the debugger, once the generated code of its core has run. -/
def pokes (s : State) (core : CoreId) (tgt : PilotTarget) (x : Int) (g : Lane × Core) :
    Host.Outcome State Fault Refusal :=
  match pilotApply .p1 core g.1 g.2 tgt x with
  | .error e => fin (s.codedFault .l1 core.idx .p1 (s.lanes.l1.cores.get core).pc g.2.clk e)
  | .ok r =>
    fin ((s.putLane .l1 { r.1 with cores := r.1.cores.set core r.2 }).updPilot (fun q => { q with
      journal := q.journal ++ [(core.idx, (s.lanes.l1.cores.get core).place.1, (s.lanes.l1.cores.get core).place.2, tgt, x)]
      reply := some x }))

theorem write_pokes (h : s.pilot = some p) (h1 : s.pilotPass1 = true) {core : CoreId} {tgt : PilotTarget} {x : Int}
    {g : Lane × Core} (hlen : p.journal.length < 256) (hmay : s.lanes.l1.mayPoke tgt x = true)
    (hg : s.lanes.l1.genTo .p1 core none = .ok g) : exec (.pilotWrite core tgt x) s = pokes s core tgt x g := by
  have hboth : p.journal.length < 256 ∧ s.lanes.l1.mayPoke tgt x = true := ⟨hlen, hmay⟩
  show execPilotWrite core tgt x s = _
  unfold execPilotWrite
  simp only [h, hg]
  exact (if_pos h1).trans (if_pos hboth)

theorem hit_next (h : s.pilot = some p) (h1 : s.pilotPass1 = true) {core : CoreId}
    (hb : p.breaks core (s.lanes.l1.cores.get core) = true) :
    exec (.pilotBreakpointHit core) s =
      .next { s with pilot := some { p with stoppedAt := some (core.idx, (s.lanes.l1.cores.get core).pc) } } := by
  have hboth : (s.pilotPass1 && p.breaks core (s.lanes.l1.cores.get core)) = true := by rw [h1, hb]; rfl
  show execPilotBreakpointHit core s = _
  unfold execPilotBreakpointHit State.stopAt
  rw [updPilot_some h]
  simp only [h]
  exact if_pos hboth

theorem pilotStep_next (h1 : s.pilotPass1 = true) (core : CoreId) :
    exec (.pilotStep core) s = .next ((issueFetched .l1 core s).stopAt core).settle := if_pos h1

/-- What an instruction leaves before the votes are judged. -/
def stepLane (n pc : Nat) (core : CoreId) (L : Lane) (c : Core) : Lane :=
  { L with cores := L.cores.set core { c with clk := c.clk + n, occ := Tbl.upd 0 c.occ pc (· + 1) } }

/-- The one instruction of a step, with no fault. -/
theorem issueFetched_ok {core : CoreId} {L : Lane} {c : Core} (hi : issuing s .l1 core .p1)
    (hop : (opOf (Tbl.get 0 s.lanes.l1.code (core.idx * 262144 + (s.lanes.l1.cores.get core).pc))).2 (tctx s .l1 core .p1) =
      .ok (L, c)) :
    issueFetched .l1 core s = s.putLane .l1
      (stepLane (opOf (Tbl.get 0 s.lanes.l1.code (core.idx * 262144 + (s.lanes.l1.cores.get core).pc))).1
        (tctx s .l1 core .p1).c.pc core L c) := by
  obtain ⟨hissues, hctx, hfetch⟩ := hi
  show issue .l1 core (opOf (Tbl.get 0 s.lanes.l1.code (core.idx * 262144 + (s.lanes.l1.cores.get core).pc))).1
    (opOf (Tbl.get 0 s.lanes.l1.code (core.idx * 262144 + (s.lanes.l1.cores.get core).pc))).2 s = _
  unfold issue
  simp only [hissues, hctx, hfetch, hop]
  rfl

/-- A step runs the instruction and stops at the next. -/
theorem pilotStep_steps (h : s.pilot = some p) (h1 : s.pilotPass1 = true) (hup : s.uplink.up = true) {core : CoreId}
    {L : Lane} {c : Core} (hi : issuing s .l1 core .p1)
    (hop : (opOf (Tbl.get 0 s.lanes.l1.code (core.idx * 262144 + (s.lanes.l1.cores.get core).pc))).2 (tctx s .l1 core .p1) =
      .ok (L, c)) :
    ∃ u, exec (.pilotStep core) s = .next u ∧
      u.lane .l1 = stepLane (opOf (Tbl.get 0 s.lanes.l1.code (core.idx * 262144 + (s.lanes.l1.cores.get core).pc))).1
        (tctx s .l1 core .p1).c.pc core L c ∧
      u.pilot = some { p with stoppedAt := some (core.idx, c.pc) } := by
  refine ⟨_, pilotStep_next h1 core, ?_⟩
  rw [issueFetched_ok hi hop]
  generalize (opOf (Tbl.get 0 s.lanes.l1.code (core.idx * 262144 + (s.lanes.l1.cores.get core).pc))).1 = n
  have hput : (s.putLane .l1 (stepLane n (tctx s .l1 core .p1).c.pc core L c)).pilot = some p := h
  unfold State.stopAt
  rw [updPilot_some hput]
  refine ⟨(lane_settle (by exact hup) .l1).trans rfl, (pilot_settle _).1.trans ?_⟩
  show some { p with stoppedAt := some (core.idx, ((L.cores.set core _).get core).pc) } = _
  rw [Quad_get_set_self]

end

/-- Settles O19: the session's start, its end with the rejoin of Lane 1, and each request of the debugger in pass 1. -/
theorem pilotSessionAndDebugger : Obligations.PilotSessionAndDebugger := by
  unfold Obligations.PilotSessionAndDebugger
  refine ⟨fun s sess p => ⟨fun hc hm => ⟨fun hready => ?_, fun hready => ?_⟩,
    fun hp hup hout hv hr hl h2 h3 => ?_⟩, fun s core p idx occ tgt x L c g w e => ?_⟩
  · have hnext := pilotOpen_next hc hm
    rw [if_pos hready] at hnext
    have hup : (pilotAsked s sess).capture.uplink.up = true := up_pilotAsked hc
    have hall := voters_of_mayPilot hm
    rw [voters_keepAlive] at hall
    have hvote : ∀ m, m ∈ [LaneId.l1, .l2, .l3] → (pilotAsked s sess).laneState m = .inVote := fun m hmem =>
      (laneState_of_lanes (lanes_pilotAsked s sess) m).trans ((mem_voters s m).mp (by rwa [hall]))
    obtain ⟨hstate, hcause, hsw, hl2, hl3⟩ := capture_frame (pilotAsked s sess)
    refine ⟨_, hnext, (congrArg Option.isSome (pilot_settle _).1).trans rfl, (laneState_settle _ _).trans hstate, ?_, ?_,
      (laneState_settle _ _).trans (hl2.trans (hvote .l2 (by decide))),
      (laneState_settle _ _).trans (hl3.trans (hvote .l3 (by decide)))⟩
    · rw [lane_settle hup, hcause]
    · rw [lane_settle hup, hsw]
  · have hnext := pilotOpen_next hc hm
    rw [if_neg (by rw [hready]; exact Bool.false_ne_true)] at hnext
    have hup : (pilotAsked s sess).uplink.up = true := up_pilotAsked hc
    exact ⟨_, hnext, (pilot_settle _).2, (lanes_settle (by exact hup)).trans (lanes_pilotAsked s sess)⟩
  · have himg : ∀ v, s.votes v = true → imageId (s.lane v).image = imageId (s.lane .l1).image := by
      intro v hvote
      have hmem := (voters_iff s v).mpr hvote
      rw [hv] at hmem
      rcases List.mem_cons.mp hmem with rfl | hmem
      · exact h2
      · cases List.mem_singleton.mp hmem
        exact h3
    obtain ⟨hend, hvoters⟩ := pilotClose_rejoins hp hout hv hr hl himg
    obtain ⟨hnone, hdue, -⟩ := dropPilot_frame hp
    obtain ⟨hpilot, hpdue⟩ := rejoinStarted_pilot s.dropPilot .l1
    refine ⟨s.endPilot.settle, rfl, ?_, ?_, ?_, (voters_of_laneState (laneState_settle _)).trans hvoters⟩
    · rw [(pilot_settle _).1, hend, hpilot, hnone]
    · rw [(pilot_settle _).2, hend, hpdue, hdue]
    · rw [laneState_settle, hend]
      exact laneState_rejoinStarted_self _ _
  · refine fun hp => ⟨fun hlen => breakpointSet_next hp hlen core idx occ, rerun_next hp, fun h1 => ⟨read_next hp h1 core tgt,
      fun hlen hmay hg => ⟨fun hw => ?_, fun he => ?_⟩, fun hb => hit_next hp h1 hb, fun hi hop hup => ?_⟩⟩
    · rw [write_pokes hp h1 hlen hmay hg]
      have hput : (s.putLane .l1 { w.1 with cores := w.1.cores.set core w.2 }).pilot = some p := hp
      unfold pokes
      rw [hw]
      show fin (State.updPilot _ _) = _
      rw [updPilot_some hput]
      rfl
    · rw [write_pokes hp h1 hlen hmay hg]
      unfold pokes
      rw [he]
      rfl
    · obtain ⟨u, hu, hlane, hpilot⟩ := pilotStep_steps hp h1 hup hi hop
      exact ⟨u, hu, hlane.trans (lane_retired_self hup ..).symm, hpilot⟩

end Sys2Proof.PilotRules
end

section
/-! ## Feeds, the power-fail warning and the return of power (chapter 17) -/

namespace Sys2Proof.PowerRules

open Sys2Proof Sys2Proof.Machine Sys2Proof.Laws Sys2Proof.VoteRules Sys2Proof.ConsRules Sys2Proof.RejoinRules
open Sys2Proof.ModuleRules Sys2Proof.AccessRules Sys2Proof.SvcUp
open Sys2Proof.WharfRules (vitalSame_raise)
open Sys2Proof.QueueRules (vitalSame_trans)
open Sys2Proof.VoteFlag (foldl_preserves)

/-! ### What stands of the logbook while events wait -/

/-- The logbook but for the events that wait and those dropped. -/
def books (g : Logbook) : Logbook := { g with q := [], dropped := 0 }

theorem books_push (g : Logbook) (e : Event) : books (g.push e) = books g := by
  unfold Logbook.push
  split <;> rfl

theorem books_raise (s : State) (c : LogClass) (n : EventName) (d : Die) (x : List Int) :
    books (s.raise c n d x).log = books s.log := by
  unfold State.raise
  split
  · split
    · exact books_push _ _
    · rfl
  · rfl

/-! ### Self-test items that are cut short, and loads that are broken off -/

/-- The module but for its lanes, its logbook, its event queues, and what a self-test or a load keeps. -/
def base (s : State) : State := { outer s with bist := {}, change := {}, draw := 0 }

theorem base_of_outer {s u : State} (h : outer u = outer s) : base u = base s := by
  have h' := congrArg (fun t : State => { t with bist := {}, change := {}, draw := 0 }) h
  exact h'

/-- A step that ends self-test items or a load: in the lanes it writes the flash alone. -/
def Trimmed (s u : State) : Prop :=
  base u = base s ∧ books u.log = books s.log ∧ ∀ ln, ∃ f, u.lane ln = { s.lane ln with flash := f }

theorem Trimmed.refl (s : State) : Trimmed s s := ⟨rfl, rfl, fun ln => ⟨(s.lane ln).flash, rfl⟩⟩

theorem Trimmed.trans {s t u : State} (h : Trimmed s t) (k : Trimmed t u) : Trimmed s u := by
  obtain ⟨hb, hg, hl⟩ := h
  obtain ⟨kb, kg, kl⟩ := k
  refine ⟨kb.trans hb, kg.trans hg, fun ln => ?_⟩
  obtain ⟨f, hf⟩ := hl ln
  obtain ⟨g, hg⟩ := kl ln
  exact ⟨g, by rw [hg, hf]⟩

theorem Trimmed.of_lanes {s u : State} (hb : base u = base s) (hg : books u.log = books s.log) (hl : u.lanes = s.lanes) :
    Trimmed s u :=
  ⟨hb, hg, fun ln => ⟨(s.lane ln).flash, lane_of_lanes hl ln⟩⟩

theorem trimmed_raise (s : State) (c : LogClass) (n : EventName) (d : Die) (x : List Int) : Trimmed s (s.raise c n d x) :=
  .of_lanes (base_of_outer (outer_raise s c n d x)) (books_raise s c n d x) (lanes_raise s c n d x)

theorem trimmed_updLane (s : State) (m : LaneId) (f : Lane → Lane) (h : ∀ L, ∃ g, f L = { L with flash := g }) :
    Trimmed s (s.updLane m f) := by
  refine ⟨base_of_outer (outer_updLane s m f), rfl, fun ln => ?_⟩
  by_cases hm : ln = m
  · subst hm
    rw [lane_updLane_self]
    exact h _
  · rw [lane_updLane_ne _ _ hm]
    exact ⟨(s.lane ln).flash, rfl⟩

theorem trimmed_putResult (s : State) (unit : Nat) (r : BistRec) (ms : List Mark) : Trimmed s (s.putResult unit r ms) := by
  unfold State.putResult
  split
  · exact trimmed_updLane s _ _ fun L => ⟨_, rfl⟩
  · exact .of_lanes rfl rfl rfl

theorem trimmed_bistDue (s : State) : Trimmed s s.bistDue := by
  unfold State.bistDue
  split
  · exact trimmed_raise _ _ _ _ _
  · exact .of_lanes rfl rfl rfl

theorem trimmed_endItem (s : State) (unit : Nat) (r : BistRec) (ms : List Mark) : Trimmed s (s.endItem unit r ms) := by
  have hraised := (trimmed_putResult s unit r ms).trans (trimmed_raise _ .bist .bistItem (unitDie unit)
    [((r.item : Nat) : Int), ((resultCode r.result : Nat) : Int), ((r.step : Nat) : Int), ((r.terminal : Nat) : Int),
      ((r.sigf.toNat : Nat) : Int), ((r.durMs : Nat) : Int)])
  have hnoted : ∀ b : Bist, Trimmed s { (s.putResult unit r ms).raise .bist .bistItem (unitDie unit)
      [((r.item : Nat) : Int), ((resultCode r.result : Nat) : Int), ((r.step : Nat) : Int), ((r.terminal : Nat) : Int),
        ((r.sigf.toNat : Nat) : Int), ((r.durMs : Nat) : Int)] with bist := b } := fun b =>
    hraised.trans (.of_lanes rfl rfl rfl)
  unfold State.endItem
  dsimp only
  split
  · exact (hnoted _).trans (trimmed_bistDue _)
  · exact hnoted _

theorem trimmed_cutUnit (s : State) (unit : Nat) : Trimmed s (s.cutUnit unit) := by
  unfold State.cutUnit
  split
  · exact .of_lanes rfl rfl rfl
  · exact (trimmed_endItem s unit _ []).trans (.of_lanes rfl rfl rfl)

theorem trimmed_cutUnits (us : List Nat) (s : State) : Trimmed s (us.foldr (fun u s => State.cutUnit s u) s) := by
  induction us with
  | nil => exact .refl s
  | cons u us ih => exact ih.trans (trimmed_cutUnit _ u)

theorem trimmed_cutBist (s : State) : Trimmed s s.cutBist := by
  unfold State.cutBist
  split
  · exact (trimmed_cutUnits bistUnits s).trans (.of_lanes rfl rfl rfl)
  · exact .refl s

theorem trimmed_breakLoad (s : State) : Trimmed s s.breakLoad := by
  unfold State.breakLoad
  split
  · exact .refl s
  · refine ⟨rfl, rfl, fun ln => ?_⟩
    refine (lane_mapLanes s _ ln).symm ▸ ?_
    split
    · exact ⟨_, rfl⟩
    · exact ⟨(s.lane ln).flash, rfl⟩

/-! ### The retention record (R405) -/

/-- A lane with another flash. -/
def reflash (f : LaneFlash) (L : Lane) : Lane := { L with flash := f }

theorem setWord_reflash (f : LaneFlash) (L : Lane) (p : Pass) (k : Nat) (c : Coded) :
    (reflash f L).setWord p k c = reflash f (L.setWord p k c) := by
  cases p <;> rfl

/-- The pre-images of the passes, and then those of the supervisor, put back. -/
def undoJournal (js : List JEntry) (L : Lane) : Lane := js.foldl (fun L e => L.setWord e.pass e.key e.pre) L

def undoSup (us : List (Nat × Coded × Coded)) (L : Lane) : Lane :=
  us.foldl (fun L e => (L.setWord .p1 e.1 e.2.1).setWord .p2 e.1 e.2.2) L

theorem undoJournal_reflash (f : LaneFlash) (js : List JEntry) (L : Lane) :
    undoJournal js (reflash f L) = reflash f (undoJournal js L) :=
  List.foldl_hom (reflash f) fun M e => setWord_reflash f M _ _ _

theorem undoSup_reflash (f : LaneFlash) (us : List (Nat × Coded × Coded)) (L : Lane) :
    undoSup us (reflash f L) = reflash f (undoSup us L) :=
  List.foldl_hom (reflash f) fun M e => by rw [setWord_reflash, setWord_reflash]

theorem restore_eq (L : Lane) : L.restore =
    { undoSup (undoJournal L.journal L).supUndo (undoJournal L.journal L) with journal := [], supUndo := [] } := rfl

theorem restore_reflash (f : LaneFlash) (L : Lane) : (reflash f L).restore = reflash f L.restore := by
  have hj : undoJournal (reflash f L).journal (reflash f L) = reflash f (undoJournal L.journal L) :=
    undoJournal_reflash f L.journal L
  rw [restore_eq, restore_eq, hj]
  generalize undoJournal L.journal L = M
  rw [show (reflash f M).supUndo = M.supUndo from rfl, undoSup_reflash]
  rfl

theorem toCommitted_reflash (f : LaneFlash) (L : Lane) : (reflash f L).toCommitted = reflash f L.toCommitted := by
  unfold Lane.toCommitted
  rw [restore_reflash]
  rfl

/-- The retention record says nothing of the flash. -/
theorem retention_reflash (f : LaneFlash) (L : Lane) : (reflash f L).retain.retention = L.retain.retention := by
  unfold Lane.retain
  rw [toCommitted_reflash]
  generalize L.toCommitted = M
  cases hi : M.image with
  | none => simp [reflash, hi]
  | some m =>
    have hi' : (reflash f M).image = some m := hi
    simp only [hi, hi']
    rfl

/-! ### Feeds (R465, R467) -/

/-- An event that is raised on a condition changes no power and nothing vital. -/
theorem raiseIf_frame (b : Bool) (s : State) (c : LogClass) (n : EventName) (d : Die) (x : List Int) :
    (if b then s.raise c n d x else s).power = s.power ∧ vitalSame s (if b then s.raise c n d x else s) := by
  cases b
  · exact ⟨rfl, rfl, rfl⟩
  · exact ⟨power_raise _ _ _ _ _, vitalSame_raise _ _ _ _ _⟩

theorem feedLevel_next (s : State) (feed mv : Nat) :
    ∃ u, exec (.feedLevelChange feed mv) s = .next u ∧ u.power = s.power.measure feed mv ∧ vitalSame s u :=
  ⟨_, rfl, raiseIf_frame _ { s with power := s.power.measure feed mv } .warn .feedLow .carrier [((feed + 1 : Nat) : Int)]⟩

/-! ### The warning, and the loss of power (R468) -/

/-- A lane at the warning. -/
theorem powerFail_frame (me : LaneId) (L : Lane) : (L.powerFail me).switches = [] ∧ (L.powerFail me).pass = none ∧
    (L.views.get me = .inVote → (L.powerFail me).retention = L.retain.retention) := by
  unfold Lane.powerFail
  split
  · exact ⟨rfl, rfl, fun _ => rfl⟩
  all_goals next h => exact ⟨rfl, rfl, fun hv => by rw [h] at hv; cases hv⟩

/-- The state at the warning, before the lanes are gated: the logbook has stopped, and no item and no load goes on. -/
def stopped (s : State) : State :=
  ({ s with log := { s.log with stopped := true, opsecCell := s.opsec } } : State).cutBist.breakLoad

/-- The module after the warning. -/
def warned (s : State) : State :=
  let s2 := (stopped s).mapLanes Lane.powerFail
  { s2 with
    module := .powerOff
    planes := s2.planes.map (fun p => { p with sending := false, running := false, coldNext := false, stop := .powerFail })
    pair := { s2.pair with listenUntil := none }
    power := { s2.power with pfw := true } }

theorem trimmed_stopped (s : State) :
    Trimmed { s with log := { s.log with stopped := true, opsecCell := s.opsec } } (stopped s) :=
  (trimmed_cutBist _).trans (trimmed_breakLoad _)

theorem powerFailWarning_next {s : State} (h1 : s.power.feedMv.1 < 15000) (h2 : s.power.feedMv.2 < 15000)
    (hon : s.power.on ≠ 0) (hp : s.power.pfw = false) : exec .powerFailWarning s = .next (warned s) :=
  if_pos (And.intro h1 (And.intro h2 (And.intro hon (by rw [hp]; rfl))))

theorem warned_lane (s : State) (ln : LaneId) : ((warned s).lane ln).switches = [] ∧ ((warned s).lane ln).pass = none ∧
    (s.laneState ln = .inVote → ((warned s).lane ln).retention = (s.lane ln).retain.retention) := by
  have hlane : (warned s).lane ln = ((stopped s).lane ln).powerFail ln := lane_mapLanes _ _ ln
  obtain ⟨-, -, hflash⟩ := trimmed_stopped s
  obtain ⟨f, hf⟩ := hflash ln
  obtain ⟨hsw, hpass, hret⟩ := powerFail_frame ln ((stopped s).lane ln)
  rw [hlane]
  refine ⟨hsw, hpass, fun hv => ?_⟩
  rw [hret (by rw [hf]; exact hv), hf]
  exact retention_reflash f (s.lane ln)

theorem warned_stopped (s : State) : (warned s).log.stopped = true :=
  congrArg Logbook.stopped (trimmed_stopped s).2.1

theorem unpowered_lane (s : State) (ln : LaneId) :
    s.unpowered.lane ln = { flash := (s.lane ln).flash, retention := (s.lane ln).retention } := by
  cases ln <;> rfl

/-! ### The sequencer (R473, R474) -/

/-- What the sequencer leaves: in the module it writes its own fields of the power and events alone. -/
def Sequenced (s u : State) : Prop :=
  ({ outer u with power := {} } : State) = { outer s with power := {} } ∧ books u.log = books s.log ∧ u.lanes = s.lanes ∧
    u.power.pg = s.power.pg ∧ u.power.reqMask = s.power.reqMask ∧ u.power.offByReq = s.power.offByReq

theorem Sequenced.trans {s t u : State} (h : Sequenced s t) (k : Sequenced t u) : Sequenced s u := by
  obtain ⟨ho, hg, hl, hp, hm, hr⟩ := h
  obtain ⟨ko, kg, kl, kp, km, kr⟩ := k
  exact ⟨ko.trans ho, kg.trans hg, kl.trans hl, kp.trans hp, km.trans hm, kr.trans hr⟩

theorem sequenced_domainMissed (s : State) (d : Domain) : Sequenced s (s.domainMissed d) := by
  unfold State.domainMissed
  refine ⟨?_, books_raise _ _ _ _ _, lanes_raise _ _ _ _ _, ?_⟩
  · have h := congrArg (fun t : State => { t with power := {} }) (outer_raise ({ s with power :=
      { s.power with on := s.power.on &&& ~~~domMask d, seqMissed := true } } : State) .warn .domainMissed .carrier
        [((domBit d : Nat) : Int)])
    exact h
  · rw [power_raise]
    exact ⟨rfl, rfl, rfl⟩

theorem sequenced_seqNext (ds : List Domain) (s : State) : Sequenced s (s.seqNext ds) := by
  induction ds generalizing s with
  | nil => exact ⟨rfl, rfl, rfl, rfl, rfl, rfl⟩
  | cons d ds ih =>
    unfold State.seqNext
    split
    · exact ih s
    · split
      · exact ⟨rfl, rfl, rfl, rfl, rfl, rfl⟩
      · exact (sequenced_domainMissed s d).trans (ih _)

theorem sequenced_powerOn (s : State) (mask : BitVec 12) : Sequenced s (s.powerOn mask) := by
  have hstart : Sequenced s { s with power := { s.power with seqByReq := false, seqMissed := false } } :=
    ⟨rfl, rfl, rfl, rfl, rfl, rfl⟩
  exact hstart.trans (sequenced_seqNext _ _)

section
variable {s u : State} (h : Sequenced s u)
include h

theorem module_of_sequenced : u.module = s.module := by
  have h' := congrArg State.module h.1
  exact h'

theorem change_of_sequenced : u.change = s.change := by
  have h' := congrArg State.change h.1
  exact h'

end

/-! ### Power comes back (R405, R471) -/

/-- The lanes as their age cells show them, and the marks read. -/
def aged (s0 : State) (off : Nat) : State :=
  (s0.mapLanes (fun ln L => { L with fresh := ageCell off s0.draw ln.idx })).applyMarks

/-- BOOT as it begins, before the sequencer. -/
def bootBegun (s0 : State) (off : Nat) : State :=
  { aged s0 off with
    module := .boot, draw := s0.draw + 1
    change := { (aged s0 off).change with bootAt := (aged s0 off).now }
    log := { (aged s0 off).log with pwrcyc := ((aged s0 off).log.pwrcyc + 1) % 2 ^ 24 }
    snap := { (aged s0 off).snap with staged := none } }

theorem powerGood_next {s : State} {t off : Nat} (hm : s.module = .powerOff) (hon : s.power.on = 0)
    (hf : s.power.pfOk.1 = true ∨ s.power.pfOk.2 = true) :
    exec (.powerGood t off) s = .next ((bootBegun (s.touch t) off).powerOn 0xFFF) :=
  if_pos (And.intro hm (And.intro hon hf))

theorem lane_bootBegun (s0 : State) (off : Nat) (ln : LaneId) :
    (bootBegun s0 off).lane ln = { s0.lane ln with fresh := ageCell off s0.draw ln.idx } :=
  lane_mapLanes s0 (fun ln L => { L with fresh := ageCell off s0.draw ln.idx }) ln

theorem ageCell_fresh {off : Nat} (draw idx : Nat) (h : off ≤ 1600000) : ageCell off draw idx = true := if_pos h

theorem ageCell_stale {off : Nat} (draw idx : Nat) (h : 2000000 ≤ off) : ageCell off draw idx = false :=
  (if_neg (by omega)).trans (if_pos h)

/-- Settles O44: the hysteresis of a feed, the warning with its retention records, what power-down leaves, and BOOT at
power-good. -/
theorem powerFailAndReturn : Obligations.PowerFailAndReturn := by
  unfold Obligations.PowerFailAndReturn
  intro s feed mv t off b
  refine ⟨fun h => if_pos h, fun h => (if_neg (by omega)).trans (if_pos h),
    fun h1 h2 => (if_neg (by omega)).trans (if_neg (by omega)), feedLevel_next s feed mv,
    fun h1 h2 hon hp => ?_, fun hp => ?_, fun hm hon hf => ?_⟩
  · exact ⟨_, powerFailWarning_next h1 h2 hon hp, rfl, rfl, warned_stopped s, fun q => by cases q <;> rfl, warned_lane s⟩
  · exact ⟨_, if_pos hp, rfl, rfl, rfl, rfl, rfl, rfl, unpowered_lane s⟩
  · have hseq := sequenced_powerOn (bootBegun (s.touch t) off) 0xFFF
    obtain ⟨-, hbooks, hlanes, -⟩ := sequenced_powerOn (bootBegun (s.touch t) off) 0xFFF
    refine ⟨_, powerGood_next hm hon hf, module_of_sequenced hseq, congrArg Change.bootAt (change_of_sequenced hseq),
      congrArg Logbook.pwrcyc hbooks, fun ln => ?_⟩
    rw [lane_of_lanes hlanes, lane_bootBegun]
    exact ⟨rfl, rfl, fun h => ageCell_fresh _ _ h, fun h => ageCell_stale _ _ h⟩

end Sys2Proof.PowerRules
end

section
/-! ## The power domains (R463, R465, R472, R473) -/

namespace Sys2Proof.PowerRules

open Sys2Proof Sys2Proof.Machine Sys2Proof.Laws Sys2Proof.VoteRules Sys2Proof.ConsRules Sys2Proof.RejoinRules
open Sys2Proof.ModuleRules Sys2Proof.AccessRules
open Sys2Proof.SwitchFrame (Still still_hold still_restore still_gate)
open Sys2Proof.QueueRules (lockRestarted rwl_of_unlocked)
open Sys2Proof.WharfRules (vitalSame_raise)
open Sys2Proof.NetRules (svcFree_deliverAll)
open Sys2Proof.QueueRules (vitalSame_trans)
open Sys2Proof.VoteFlag (foldl_preserves)

/-! ### Power stays with the votes (R208, R216) -/

section
variable {s u : State}

theorem power_of_outer (h : outer u = outer s) : u.power = s.power := by
  have h' := congrArg State.power h
  exact h'

theorem power_of_base (h : base u = base s) : u.power = s.power := by
  have h' := congrArg State.power h
  exact h'

theorem module_of_base (h : base u = base s) : u.module = s.module := by
  have h' := congrArg State.module h
  exact h'

theorem planes_of_base (h : base u = base s) : u.planes = s.planes := by
  have h' := congrArg State.planes h
  exact h'

theorem uplink_of_base (h : base u = base s) : u.uplink = s.uplink := by
  have h' := congrArg State.uplink h
  exact h'

end

theorem power_settle (s : State) : s.settle.power = s.power := by
  have h := congrArg State.power (outer_settle s)
  exact h

theorem power_setModule (s : State) (m : ModState) : (s.setModule m).power = s.power := by
  have h := congrArg State.power (outer_setModule s m)
  exact h

theorem power_dropTest (s : State) : s.dropTest.power = s.power := by
  unfold State.dropTest
  split
  · rfl
  · exact power_of_outer (outer_endTest _ _)

theorem power_dropPilot (s : State) : s.dropPilot.power = s.power := by
  unfold State.dropPilot
  split
  · rfl
  · exact power_raise _ _ _ _ _

theorem power_enterHalt (s : State) : s.enterHalt.power = s.power := by
  unfold State.enterHalt
  exact (power_raiseModule _ _ _ _).trans ((power_setModule _ _).trans ((power_dropPilot _).trans (power_dropTest s)))

theorem power_loseVote (s : State) : s.loseVote.power = s.power := by
  unfold State.loseVote
  split
  · exact (power_enterHalt _).trans (power_raiseModule _ _ _ _)
  · rfl

theorem power_linkFail (s : State) (l : ClxLink) : (s.linkFail l).power = s.power := by
  unfold State.linkFail
  dsimp only
  split
  · split
    · exact (power_of_outer (outer_excludeAgreed _ _ _)).trans (power_raiseLane _ _ _ _ _)
    · exact (power_loseVote _).trans (power_raiseLane _ _ _ _ _)
  · exact power_raiseLane _ _ _ _ _

theorem power_calibrate (s : State) (ln : LaneId) (trips : Trips) : (s.calibrate ln trips).power = s.power := by
  refine foldl_preserves State.power (State.judgeLink trips) (fun t l => ?_) _ _
  unfold State.judgeLink
  split
  · rfl
  · split
    · rfl
    · exact power_linkFail t l

theorem power_deliverAll (s : State) : s.deliverAll.power = s.power := by
  have h := congrArg State.power (svcFree_deliverAll s)
  exact h

/-! ### A domain that comes up (R473) -/

/-- No domain loses its power-good. -/
def PgUp (p q : Power) : Prop := ∀ n, p.pg.getLsbD n = true → q.pg.getLsbD n = true

theorem PgUp.of_eq {p q : Power} (h : q = p) : PgUp p q := by
  rw [h]
  exact fun _ hn => hn

theorem pgUp_restartLnC (p : Power) (ln : LaneId) : PgUp p (p.restartLnC ln) := by
  intro n hn
  unfold Power.restartLnC
  split
  · exact hn
  · exact (BitVec.getLsbD_or).trans (by rw [hn]; rfl)

theorem pgUp_startRejoin (s : State) (ln : LaneId) : PgUp s.power (s.startRejoin ln).power := by
  have hpower : (rejoinStarted s ln).power = s.power.restartLnC ln :=
    congrArg (fun p : Power => p.restartLnC ln) (power_raiseLane (s.mapLanes (startedLane s ln)) ln .info .rejoinStart [ln.num])
  rw [startRejoin_eq]
  split
  · rw [hpower]
    exact pgUp_restartLnC _ _
  · rw [power_of_outer (outer_excludeAgreed _ _ _), hpower]
    exact pgUp_restartLnC _ _

theorem pgUp_laneStart (s : State) (ln : LaneId) (trips : Trips) : PgUp s.power (s.laneStart ln trips).power := by
  unfold State.laneStart
  split
  · exact .of_eq rfl
  · split
    · exact .of_eq rfl
    · split
      · intro n hn
        refine pgUp_startRejoin _ ln n ?_
        rw [power_calibrate]
        exact hn
      · exact .of_eq rfl

theorem pgUp_domainUp (s : State) (d : Domain) (trips : Trips) : PgUp s.power (s.domainUp d trips).power := by
  unfold State.domainUp
  split
  · dsimp only
    split
    · exact pgUp_laneStart (s.updLane _ (fun L => { L with zeroised := false })) _ trips
    · exact .of_eq rfl
  · split
    · exact pgUp_laneStart s _ trips
    · exact .of_eq rfl
  · exact .of_eq rfl
  · split
    · exact .of_eq rfl
    · split
      · exact fun _ hn => hn
      · split
        · exact .of_eq (power_deliverAll _)
        · exact .of_eq rfl

theorem domBit_lt (d : Domain) : domBit d < 12 := by cases d <;> decide

/-- The domain of each bit of PWR_STAT. -/
def domAt : List Domain := [.aon, .nvm, .svc, .l1c, .l2c, .l3c, .l1i, .l2i, .l3i, .neta, .netb, .vliof]

theorem domAt_domBit (d : Domain) : domAt[domBit d]? = some d := by cases d <;> rfl

theorem domBit_inj {d e : Domain} (h : domBit d = domBit e) : d = e :=
  Option.some.inj ((domAt_domBit d).symm.trans ((congrArg (fun n => domAt[n]?) h).trans (domAt_domBit e)))

theorem domBit_surj {n : Nat} (h : n < 12) : ∃ d ∈ domOrder, domBit d = n := by
  have hall : ∀ n < 12, ∃ d ∈ domOrder, domBit d = n := by decide
  exact hall n h

theorem domMask_self (d : Domain) : (domMask d).getLsbD (domBit d) = true := by cases d <;> rfl

theorem domMask_other {d e : Domain} (h : e ≠ d) : (domMask e).getLsbD (domBit d) = false := by
  have hne : domBit d ≠ domBit e := fun hb => h (domBit_inj hb).symm
  have hd := domBit_lt d
  show ((1#12) <<< domBit e).getLsbD (domBit d) = false
  rw [BitVec.getLsbD_shiftLeft, BitVec.getLsbD_one]
  by_cases hlt : domBit d < domBit e
  · simp [hlt]
  · have hsub : ¬ domBit d - domBit e = 0 := by omega
    simp [hsub]

/-- The module once a domain is good, before the sequencer goes on. -/
def domainGood (s : State) (d : Domain) (trips : Trips) : State :=
  State.domainUp { s with power := { s.power with pg := s.power.pg ||| domMask d } } d trips

theorem domainPowerGood_next {s : State} {d : Domain} {r : List Domain} (trips : Trips) (h : s.power.seq = d :: r) :
    exec (.domainPowerGood d trips) s = .next ((domainGood s d trips).seqNext r).settle := by
  show execDomainPowerGood d trips s = _
  unfold execDomainPowerGood
  rw [h]
  exact if_pos rfl

theorem domainPgTimeout_next {s : State} {d : Domain} {r : List Domain} (h : s.power.seq = d :: r) :
    exec (.domainPgTimeout d) s = .next ((s.domainMissed d).seqNext r).settle := by
  show execDomainPgTimeout d s = _
  unfold execDomainPgTimeout
  rw [h]
  exact if_pos rfl

theorem pg_domainGood (s : State) (d : Domain) (trips : Trips) :
    (domainGood s d trips).power.pg.getLsbD (domBit d) = true := by
  refine pgUp_domainUp { s with power := { s.power with pg := s.power.pg ||| domMask d } } d trips _ ?_
  exact (BitVec.getLsbD_or).trans (by rw [domMask_self, Bool.or_true])

theorem getLsbD_clear (x y : BitVec 12) (n : Nat) (h : y.getLsbD n = true) : (x &&& ~~~y).getLsbD n = false := by
  rw [BitVec.getLsbD_and, BitVec.getLsbD_not, h]
  simp

theorem on_domainMissed (s : State) (d : Domain) : (s.domainMissed d).power.on = s.power.on &&& ~~~domMask d :=
  congrArg Power.on (power_raise _ _ _ _ _)

/-- A domain that the rest of the sequence does not name stays off. -/
theorem on_seqNext {d : Domain} {ds : List Domain} (hd : d ∉ ds) {s : State} (h : s.power.on.getLsbD (domBit d) = false) :
    (s.seqNext ds).power.on.getLsbD (domBit d) = false := by
  induction ds generalizing s with
  | nil => exact h
  | cons e ds ih =>
    obtain ⟨hne, hds⟩ := not_or.mp (fun hor => hd (List.mem_cons.mpr hor))
    unfold State.seqNext
    split
    · exact ih hds h
    · split
      · show (s.power.on ||| domMask e).getLsbD (domBit d) = false
        rw [BitVec.getLsbD_or, h, domMask_other (Ne.symm hne)]
        rfl
      · refine ih hds ?_
        rw [on_domainMissed, BitVec.getLsbD_and, h]
        rfl

/-! ### The loss of a lane's supply (R472) -/

/-- Outside a self-test no item runs: a unit's list alone is cleared. -/
theorem cutUnit_idle {s : State} (ht : s.testing = false) (unit : Nat) :
    s.cutUnit unit = { s with bist := { s.bist with left := Tbl.set [] s.bist.left unit [] } } := by
  have hrun : s.bist.running = false := (Bool.or_eq_false_iff.mp ht).1
  have hnone : s.itemRunning unit = none := by
    unfold State.itemRunning
    rw [hrun]
    rfl
  unfold State.cutUnit
  rw [hnone]

theorem cutUnit_idle_frame {s : State} (ht : s.testing = false) (unit : Nat) :
    (∀ m, (s.cutUnit unit).laneState m = s.laneState m) ∧ (s.cutUnit unit).module = s.module ∧
      (s.cutUnit unit).testing = false := by
  rw [cutUnit_idle ht]
  exact ⟨fun _ => rfl, rfl, ht⟩

theorem laneState_laneOff (s : State) (ln m : LaneId) :
    (s.laneOff ln).laneState m = if m = ln then .laneOff else s.laneState m := by
  unfold State.laneOff State.laneState
  rw [lane_endTest, lane_mapLanes]
  by_cases h : m = ln
  · subst h
    rw [if_pos rfl, if_pos rfl]
    exact Tri_get_set_self _ _ _
  · rw [if_neg h, if_neg h]
    exact Tri_get_set_ne _ _ h

theorem switches_laneOff_self (s : State) (ln : LaneId) : ((s.laneOff ln).lane ln).switches = [] := by
  unfold State.laneOff
  rw [lane_endTest, lane_mapLanes, if_pos rfl]
  rfl

theorem switches_laneOff_keep {s : State} {m : LaneId} (ln : LaneId) (h : (s.lane m).switches = []) :
    ((s.laneOff ln).lane m).switches = [] := by
  by_cases hm : m = ln
  · subst hm
    exact switches_laneOff_self s m
  · unfold State.laneOff
    rw [lane_endTest, lane_mapLanes, if_neg hm]
    show ((s.lane m).openPair m ln).switches = []
    unfold Lane.openPair
    rw [h]
    rfl

theorem outer_laneOff (s : State) (ln : LaneId) : outer (s.laneOff ln) = outer s :=
  (outer_endTest _ ln).trans (outer_mapLanes s _)

theorem module_laneOff (s : State) (ln : LaneId) : (s.laneOff ln).module = s.module := module_of_outer (outer_laneOff s ln)

theorem holdFree_still (L : Lane) : HoldFree (Still L) := fun M e h => h.trans (still_hold M e)

theorem still_raiseModule (s : State) (c : LogClass) (n : EventName) (x : List Int) (m : LaneId) :
    Still (s.lane m) ((s.raiseModule c n x).lane m) :=
  raiseModule_of (holdFree_still (s.lane m)) c n x ⟨rfl, rfl⟩

theorem still_settle (s : State) (m : LaneId) : Still (s.lane m) (s.settle.lane m) :=
  settle_of (holdFree_still (s.lane m)) ⟨rfl, rfl⟩

theorem still_dropPilot (s : State) (m : LaneId) : Still (s.lane m) (s.dropPilot.lane m) := by
  unfold State.dropPilot
  split
  · exact ⟨rfl, rfl⟩
  · next p hp =>
    show Still (s.lane m) (((s.raise .change .pilotSession .svc (s.change.pilotBy ++ p.values)).updLane .l1
      (fun L => L.gate.restore)).lane m)
    by_cases hm : m = .l1
    · subst hm
      rw [lane_updLane_self, lane_raise]
      exact (still_gate _).trans (still_restore _)
    · rw [lane_updLane_ne _ _ hm, lane_raise]
      exact ⟨rfl, rfl⟩

/-- A session of which Lane 1 is off ends without a rejoin. -/
theorem endPilot_off {s : State} (h : s.laneState .l1 = .laneOff) : s.endPilot = s.dropPilot := by
  refine if_neg fun hcond => ?_
  obtain ⟨-, hout⟩ := hcond
  have hstate : s.dropPilot.laneState .l1 = .laneOff :=
    (congrArg (fun V : Tri LaneState => V.get .l1) (still_dropPilot s .l1).1).trans h
  rw [hstate] at hout
  cases hout

theorem module_dropPilot (s : State) : s.dropPilot.module = s.module := by
  unfold State.dropPilot
  split
  · rfl
  · exact module_raise _ _ _ _ _

theorem voters_le (s : State) : s.voters.length ≤ 3 := (List.filter_sublist (l := LaneId.all)).length_le

/-- Two of three lanes still vote once the third is off. -/
theorem voters_after {s : State} {ln : LaneId} (h : ∀ m, s.laneState m = if m = ln then .laneOff else .inVote) :
    ¬ s.voters.length < 2 := by
  have hvotes : ∀ m, s.votes m = decide (m ≠ ln) := by
    intro m
    unfold State.votes
    rw [h m]
    by_cases hm : m = ln <;> simp [hm]
  have hvoters : s.voters = LaneId.all.filter (fun m => decide (m ≠ ln)) := List.filter_congr fun m _ => hvotes m
  rw [hvoters]
  cases ln <;> decide

/-- The module that has noted the loss of a lane's supply, before the votes are counted. -/
def lossNoted (s : State) (ln : LaneId) : State :=
  let s2 := (({ s with power := s.power.laneLoss ln true } : State).laneOff ln).raiseModule .fault .laneSupply [ln.num]
  if ln = .l1 then s2.endPilot else s2

theorem lossNoted_frame {s : State} {ln : LaneId} (hall : ∀ m, s.laneState m = .inVote) :
    (∀ m, (lossNoted s ln).laneState m = if m = ln then .laneOff else .inVote) ∧
      ((lossNoted s ln).lane ln).switches = [] ∧ (lossNoted s ln).module = s.module := by
  have hstate : ∀ m, ((({ s with power := s.power.laneLoss ln true } : State).laneOff ln).raiseModule .fault .laneSupply
      [ln.num]).laneState m = if m = ln then .laneOff else .inVote := by
    intro m
    refine raiseModule_of (holdFree_view m _) _ _ _ ?_
    refine (laneState_laneOff _ ln m).trans ?_
    rw [show ({ s with power := s.power.laneLoss ln true } : State).laneState m = s.laneState m from rfl, hall m]
  have hsw : (((({ s with power := s.power.laneLoss ln true } : State).laneOff ln).raiseModule .fault .laneSupply
      [ln.num]).lane ln).switches = [] :=
    (still_raiseModule _ _ _ _ _).2.trans (switches_laneOff_self _ ln)
  have hmod : ((({ s with power := s.power.laneLoss ln true } : State).laneOff ln).raiseModule .fault .laneSupply
      [ln.num]).module = s.module :=
    (module_raiseModule _ _ _ _).trans (module_laneOff _ ln)
  unfold lossNoted
  dsimp only
  split
  · next hl =>
    subst hl
    rw [endPilot_off ((hstate .l1).trans (if_pos rfl))]
    refine ⟨fun m => ?_, (still_dropPilot _ _).2.trans hsw, (module_dropPilot _).trans hmod⟩
    exact (congrArg (fun V : Tri LaneState => V.get m) (still_dropPilot _ m).1).trans (hstate m)
  · exact ⟨hstate, hsw, hmod⟩

theorem supplyLoss_off {s : State} {ln : LaneId} (hr : runsCycle s.module = true) (hall : ∀ m, s.laneState m = .inVote) :
    s.supplyLoss ln true = lossNoted s ln := by
  obtain ⟨hstate, -, hmod⟩ := lossNoted_frame (ln := ln) hall
  have hrun : runsCycle (lossNoted s ln).module = true := by rw [hmod]; exact hr
  refine (if_pos (Or.inl hr)).trans ((if_pos rfl).trans ((if_pos hrun).trans ?_))
  exact if_neg (voters_after hstate)

theorem supplyLoss_excludes {s : State} (ln : LaneId) (hr : runsCycle s.module = true) :
    s.supplyLoss ln false = ({ s with power := s.power.laneLoss ln false } : State).excludeAgreed ln .power :=
  (if_pos (Or.inl hr)).trans (if_neg Bool.false_ne_true)

/-! ### The loss of another domain (R472, Table 17.2) -/

theorem still_of_trimmed {s u : State} (h : Trimmed s u) (m : LaneId) : Still (s.lane m) (u.lane m) := by
  obtain ⟨-, -, hl⟩ := h
  obtain ⟨f, hf⟩ := hl m
  rw [hf]
  exact ⟨rfl, rfl⟩

/-- The loss of SVC, as the lanes note it. -/
def svcGone (s : State) : State :=
  (((s.cutUnit 5).svcDown).cutPower (domMask .svc)).raiseModule .fault .svcLost []

theorem svcGone_frame (s : State) : (svcGone s).uplink.up = false ∧ (svcGone s).module = s.module ∧
    ∀ m, Still (s.lane m) ((svcGone s).lane m) := by
  have hcut := trimmed_cutUnit s 5
  have hload := trimmed_breakLoad (s.cutUnit 5)
  refine ⟨congrArg Uplink.up (uplink_raiseModule _ _ _ _), ?_, fun m => ?_⟩
  · exact (module_raiseModule _ _ _ _).trans ((module_of_base hload.1).trans (module_of_base hcut.1))
  · refine raiseModule_of (holdFree_still (s.lane m)) _ _ _ ?_
    exact still_of_trimmed (hcut.trans hload) m

/-- The loss of a plane, as the lanes note it. -/
def planeGone (s : State) (pl : PlaneId) : State :=
  ((s.cutUnit (if pl.bit then 4 else 3)).planeDown pl).raiseModule .fault .planeLost [flag pl.bit]

theorem planes_planeGone (s : State) (pl : PlaneId) : (planeGone s pl).planes = s.planes.set pl {} := by
  refine (planes_raiseModule _ _ _ _).trans ?_
  show (s.cutUnit (if pl.bit then 4 else 3)).planes.set pl {} = _
  rw [planes_of_base (trimmed_cutUnit s _).1]

theorem cutPower_pg (s : State) (d : Domain) : (s.cutPower (domMask d)).power.pg.getLsbD (domBit d) = false :=
  getLsbD_clear _ _ _ (domMask_self d)

/-! ### PWR_REQ (R463) -/

theorem reqRefusal_congr {s t : State} (hl : t.lanes = s.lanes) (hm : t.module = s.module) (hp : t.power = s.power)
    (mask : BitVec 12) (off : Bool) : t.reqRefusal mask off = s.reqRefusal mask off := by
  have hv : t.voters = s.voters := voters_of_laneState fun m => laneState_of_lanes hl m
  unfold State.reqRefusal State.planeOn
  rw [hv, hm, hp]

section
variable {s : State} {mask : BitVec 12} {t : Nat}

theorem lockRestarted_frame (s : State) (b : Blk) (t : Nat) : (lockRestarted s b t).lanes = s.lanes ∧
    (lockRestarted s b t).module = s.module ∧ (lockRestarted s b t).power = s.power := ⟨rfl, rfl, rfl⟩

theorem pwrReqOn_next (hon : s.svcOn = true) (hk : ((s.lock .pwr).lapse (max s.now t)).unlocked = true) :
    exec (.pwrReqOn mask t) s = .next ((lockRestarted s .pwr t).requestOn mask).settle := by
  refine (if_pos hon).trans ?_
  rw [rwl_of_unlocked 4 _ hk]
  rfl

theorem pwrReqOff_next (hon : s.svcOn = true) (hk : ((s.lock .pwr).lapse (max s.now t)).unlocked = true) :
    exec (.pwrReqOff mask t) s = .next ((lockRestarted s .pwr t).requestOff mask).settle := by
  refine (if_pos hon).trans ?_
  rw [rwl_of_unlocked 4 _ hk]
  rfl

theorem requestOn_refused (h : s.reqRefusal mask false ≠ 0) :
    s.requestOn mask = s.noteReq mask false true (s.reqRefusal mask false) := if_pos h

theorem requestOff_refused (h : s.reqRefusal mask true ≠ 0) :
    s.requestOff mask = s.noteReq mask true true (s.reqRefusal mask true) := if_pos h

/-- An on-request that is taken: the sequence starts over the domains it names. -/
theorem requestOn_taken (h : s.reqRefusal mask false = 0) : (s.requestOn mask).power.reqMask = mask ∧
    (s.requestOn mask).power.pg = s.power.pg ∧ (s.requestOn mask).power.offByReq = s.power.offByReq &&& ~~~mask := by
  have heq : s.requestOn mask = State.seqNext { s.noteReq mask false false 0 with power :=
      { (s.noteReq mask false false 0).power with seqByReq := true, seqMissed := false
                                                  offByReq := s.power.offByReq &&& ~~~mask } } (domsOf mask) :=
    if_neg (not_not_intro h)
  rw [heq]
  generalize hs1 : ({ s.noteReq mask false false 0 with power := { (s.noteReq mask false false 0).power with
    seqByReq := true, seqMissed := false, offByReq := s.power.offByReq &&& ~~~mask } } : State) = s1
  obtain ⟨-, -, -, hpg, hmask, hoff⟩ := sequenced_seqNext (domsOf mask) s1
  rw [hpg, hmask, hoff, ← hs1]
  exact ⟨rfl, rfl, rfl⟩

end

/-! ### Domains that go off by a request -/

/-- A step that only takes power away, and leaves a lane that is off as it is. -/
def Darker (s u : State) : Prop :=
  (∀ n, s.power.pg.getLsbD n = false → u.power.pg.getLsbD n = false) ∧
  (u.power.resultDone = s.power.resultDone ∧ u.power.resultCode = s.power.resultCode) ∧
  ∀ m, s.laneState m = .laneOff → (s.lane m).switches = [] → u.laneState m = .laneOff ∧ (u.lane m).switches = []

theorem Darker.trans {s t u : State} (h : Darker s t) (k : Darker t u) : Darker s u := by
  obtain ⟨hp, ⟨hd, hc⟩, hl⟩ := h
  obtain ⟨kp, ⟨kd, kc⟩, kl⟩ := k
  refine ⟨fun n hn => kp n (hp n hn), ⟨kd.trans hd, kc.trans hc⟩, fun m hoff hsw => ?_⟩
  obtain ⟨hoff', hsw'⟩ := hl m hoff hsw
  exact kl m hoff' hsw'

theorem darker_cutPower (s : State) (mask : BitVec 12) : Darker s (s.cutPower mask) := by
  refine ⟨fun n hn => ?_, ⟨rfl, rfl⟩, fun m hoff hsw => ⟨hoff, hsw⟩⟩
  show (s.power.pg &&& ~~~mask).getLsbD n = false
  rw [BitVec.getLsbD_and, hn]
  rfl

theorem darker_laneOff (s : State) (ln : LaneId) : Darker s (s.laneOff ln) := by
  have hp := power_of_outer (outer_laneOff s ln)
  refine ⟨fun n hn => by rwa [hp], by rw [hp]; exact ⟨rfl, rfl⟩, fun m hoff hsw => ?_⟩
  refine ⟨?_, switches_laneOff_keep ln hsw⟩
  rw [laneState_laneOff, hoff]
  split <;> rfl

theorem darker_planeDown (s : State) (pl : PlaneId) : Darker s (s.planeDown pl) := by
  obtain ⟨hp, hr, hl⟩ := darker_cutPower s (if pl.bit then 0x400 else 0x200)
  exact ⟨hp, hr, hl⟩

/-- A domain that goes off: its own power-good falls, and a lane's domain takes its lane off. -/
theorem domainOff_spec (s : State) (d : Domain) : Darker s (s.domainOff d) ∧
    (s.domainOff d).power.pg.getLsbD (domBit d) = false ∧
    ∀ ln i, domLane d = some (ln, i) →
      (s.domainOff d).laneState ln = .laneOff ∧ ((s.domainOff d).lane ln).switches = [] := by
  have hlane : ∀ (mask : BitVec 12) (ln : LaneId), mask.getLsbD (domBit d) = true →
      Darker s ((s.cutPower mask).laneOff ln) ∧ ((s.cutPower mask).laneOff ln).power.pg.getLsbD (domBit d) = false ∧
        ((s.cutPower mask).laneOff ln).laneState ln = .laneOff ∧ (((s.cutPower mask).laneOff ln).lane ln).switches = [] := by
    intro mask ln hm
    refine ⟨(darker_cutPower s mask).trans (darker_laneOff _ ln), ?_, (laneState_laneOff _ ln ln).trans (if_pos rfl),
      switches_laneOff_self _ ln⟩
    rw [power_of_outer (outer_laneOff _ ln)]
    exact getLsbD_clear _ _ _ hm
  unfold State.domainOff
  split
  · next _ _ ln hd =>
    obtain ⟨hdark, hpg, hoff⟩ := hlane (domMask d) ln (domMask_self d)
    refine ⟨hdark, hpg, fun m i hm => ?_⟩
    cases hd.symm.trans hm
    exact hoff
  · next _ _ ln hd =>
    obtain ⟨hdark, hpg, hoff⟩ := hlane (domMask d ||| lnC ln) ln
      ((BitVec.getLsbD_or).trans (by rw [domMask_self]; rfl))
    refine ⟨hdark, hpg, fun m i hm => ?_⟩
    cases hd.symm.trans hm
    exact hoff
  · next pl hd hpl =>
    refine ⟨darker_planeDown s pl, ?_, fun m i hm => by rw [hd] at hm; cases hm⟩
    refine getLsbD_clear s.power.pg (if pl.bit then 0x400 else 0x200) _ ?_
    cases d <;> cases hpl <;> rfl
  · next hd hpl =>
    exact ⟨darker_cutPower s _, cutPower_pg s d, fun m i hm => by rw [hd] at hm; cases hm⟩

/-- Every domain of a list is off, and so is the lane of each. -/
theorem domainsOff_spec (ds : List Domain) (s : State) : Darker s (ds.foldl State.domainOff s) ∧
    ∀ d ∈ ds, (ds.foldl State.domainOff s).power.pg.getLsbD (domBit d) = false ∧
      ∀ ln i, domLane d = some (ln, i) → (ds.foldl State.domainOff s).laneState ln = .laneOff ∧
        ((ds.foldl State.domainOff s).lane ln).switches = [] := by
  induction ds generalizing s with
  | nil => exact ⟨⟨fun _ h => h, ⟨rfl, rfl⟩, fun _ h k => ⟨h, k⟩⟩, fun d hd => absurd hd List.not_mem_nil⟩
  | cons e ds ih =>
    obtain ⟨hdark, hpg, hoff⟩ := domainOff_spec s e
    obtain ⟨hrest, hall⟩ := ih (s.domainOff e)
    rw [List.foldl_cons]
    refine ⟨hdark.trans hrest, fun d hd => ?_⟩
    rcases List.mem_cons.mp hd with rfl | hmem
    · refine ⟨hrest.1 _ hpg, fun ln i hl => ?_⟩
      obtain ⟨hstate, hsw⟩ := hoff ln i hl
      exact hrest.2.2 ln hstate hsw
    · exact hall d hmem

theorem mem_domsOf {mask : BitVec 12} {d : Domain} : d ∈ domsOf mask ↔ mask.getLsbD (domBit d) = true := by
  unfold domsOf
  rw [List.mem_filter]
  exact ⟨fun h => h.2, fun h => ⟨by cases d <;> decide, h⟩⟩

/-- A lane that a mask names is named by one of its two domains. -/
theorem dom_of_maskLanes {mask : BitVec 12} {ln : LaneId} (h : ln ∈ maskLanes mask) :
    ∃ d ∈ domsOf mask, ∃ i, domLane d = some (ln, i) := by
  have hdoms : ∃ c i, domLane c = some (ln, false) ∧ domBit c = 3 + ln.idx ∧ domLane i = some (ln, true) ∧
      domBit i = 6 + ln.idx := by
    cases ln
    · exact ⟨.l1c, .l1i, rfl, rfl, rfl, rfl⟩
    · exact ⟨.l2c, .l2i, rfl, rfl, rfl, rfl⟩
    · exact ⟨.l3c, .l3i, rfl, rfl, rfl, rfl⟩
  obtain ⟨c, i, hc, hcb, hi, hib⟩ := hdoms
  have hbits := (List.mem_filter.mp h).2
  rcases Bool.or_eq_true_iff.mp hbits with hb | hb
  · exact ⟨c, mem_domsOf.mpr (by rw [hcb]; exact hb), _, hc⟩
  · exact ⟨i, mem_domsOf.mpr (by rw [hib]; exact hb), _, hi⟩

/-- No domain of a mask has power. -/
theorem masked_zero {x mask : BitVec 12} (h : ∀ d, mask.getLsbD (domBit d) = true → x.getLsbD (domBit d) = false) :
    x &&& mask = 0#12 := by
  refine BitVec.eq_of_getLsbD_eq fun n hn => ?_
  rw [BitVec.getLsbD_and, BitVec.getLsbD_zero]
  obtain ⟨d, -, rfl⟩ := domBit_surj hn
  by_cases hd : mask.getLsbD (domBit d) = true
  · exact Bool.and_eq_false_iff.mpr (.inl (h d hd))
  · exact Bool.and_eq_false_iff.mpr (.inr (Bool.eq_false_iff.mpr hd))

/-- An off-request that is taken. -/
theorem requestOff_taken {s : State} {mask : BitVec 12} (h : s.reqRefusal mask true = 0) :
    ((s.requestOff mask).power.resultDone = true ∧ (s.requestOff mask).power.resultCode = 0) ∧
      (s.requestOff mask).power.pg &&& mask = 0 ∧ ∀ ln ∈ maskLanes mask,
        (s.requestOff mask).laneState ln = .laneOff ∧ ((s.requestOff mask).lane ln).switches = [] := by
  obtain ⟨⟨-, ⟨hdone, hcode⟩, -⟩, hall⟩ := domainsOff_spec (domsOf mask).reverse (s.noteReq mask true true 0)
  have heq : s.requestOff mask = { (domsOf mask).reverse.foldl State.domainOff (s.noteReq mask true true 0) with
      power := { ((domsOf mask).reverse.foldl State.domainOff (s.noteReq mask true true 0)).power with
        offByReq := ((domsOf mask).reverse.foldl State.domainOff (s.noteReq mask true true 0)).power.offByReq ||| mask } } :=
    if_neg (not_not_intro h)
  rw [heq]
  refine ⟨⟨hdone.trans (Bool.or_true _), hcode.trans rfl⟩, ?_, fun ln hmem => ?_⟩
  · exact masked_zero fun d hd => (hall d (List.mem_reverse.mpr (mem_domsOf.mpr hd))).1
  · obtain ⟨d, hd, i, hl⟩ := dom_of_maskLanes hmem
    exact (hall d (List.mem_reverse.mpr hd)).2 ln i hl

/-! ### What is only reported (R465, R40, R484, R489) -/

theorem tempHigh_next (s : State) (n : Nat) (c : Int) :
    ∃ u, exec (.tempHigh n c) s = .next u ∧ u.power = { s.power with temps := Tbl.set 0 s.power.temps n c } ∧
      u.module = s.module ∧ ∀ m, Still (s.lane m) (u.lane m) := by
  by_cases hc : 105 < c
  · refine ⟨_, if_pos hc, ?_⟩
    split
    · exact ⟨power_raiseLane _ _ _ _ _, module_raiseLane _ _ _ _ _, fun m =>
        raiseLane_of (holdFree_still (s.lane m)) _ _ _ _ ⟨rfl, rfl⟩⟩
    · refine ⟨power_raise _ _ _ _ _, module_raise _ _ _ _ _, fun m => ?_⟩
      rw [lane_raise]
      exact ⟨rfl, rfl⟩
  · exact ⟨_, if_neg hc, rfl, rfl, fun m => ⟨rfl, rfl⟩⟩

theorem unitselChange_next (s : State) (a b : Bool) :
    ∃ u, exec (.unitselChange a b) s = .next u ∧ u.pair = { s.pair with unitPins := (a, b) } ∧ u.module = s.module := by
  by_cases h : s.module = .powerOff ∨ s.module = .boot
  · exact ⟨_, if_pos h, rfl, rfl⟩
  · exact ⟨_, if_neg h, pair_raiseModule _ _ _ _, module_raiseModule _ _ _ _⟩

/-- Settles O45: each domain of the sequence, each loss, each request, and each event that is only reported. -/
theorem powerDomains : Obligations.PowerDomains := by
  unfold Obligations.PowerDomains
  intro s d trips r ln mask t n a b c
  refine ⟨fun hseq => ⟨?_, fun hd => ?_⟩, fun hr ht hv => ⟨?_, fun h3 hup => ?_⟩,
    fun hpg => ⟨?_, ?_, ?_, ?_, ?_⟩, fun hon hk => ⟨fun h => ?_, fun h => ?_, fun h => ?_, fun h => ?_⟩,
    ⟨_, rfl, ?_, ?_⟩, ⟨_, rfl, ?_, ?_, fun l => ?_⟩, ?_, ?_⟩
  · refine ⟨_, domainPowerGood_next trips hseq, ?_⟩
    obtain ⟨-, -, -, hpg, -⟩ := sequenced_seqNext r (domainGood s d trips)
    rw [power_settle, hpg]
    exact pg_domainGood s d trips
  · refine ⟨_, domainPgTimeout_next hseq, ?_⟩
    obtain ⟨-, -, -, hpg, -⟩ := (sequenced_domainMissed s d).trans (sequenced_seqNext r (s.domainMissed d))
    rw [power_settle]
    refine ⟨hpg, on_seqNext hd ?_⟩
    rw [on_domainMissed]
    exact getLsbD_clear _ _ _ (domMask_self d)
  · obtain ⟨hstate, hmod, htest⟩ := cutUnit_idle_frame ht ln.idx
    refine ⟨_, rfl, leftVote_settle ?_⟩
    rw [supplyLoss_excludes ln (by rw [hmod]; exact hr)]
    exact laneOut_excludeAgreed .power htest (excludable_inVote ((hstate ln).trans hv))
  · obtain ⟨hstate, hmod, -⟩ := cutUnit_idle_frame ht ln.idx
    have hall : ∀ m, (s.cutUnit ln.idx).laneState m = .inVote := fun m =>
      (hstate m).trans (inVote_of_three (le_antisymm (voters_le s) h3) m)
    obtain ⟨hoff, hsw, hmod'⟩ := lossNoted_frame (ln := ln) hall
    refine ⟨_, rfl, ?_⟩
    rw [supplyLoss_off (by rw [hmod]; exact hr) hall]
    refine ⟨(laneState_settle _ ln).trans ((hoff ln).trans (if_pos rfl)), ?_, (module_settle _).trans (hmod'.trans hmod)⟩
    exact (still_settle _ _).2.trans hsw
  · rintro rfl
    refine ⟨_, if_pos hpg, module_settle _, fun l => ?_⟩
    refine (still_settle _ _).2.trans ?_
    rw [unpowered_lane]
  · rintro (rfl | rfl)
    · refine ⟨_, if_pos hpg, ?_, (module_settle _).trans (module_raise _ _ _ _ _)⟩
      rw [power_settle, power_raise]
      exact cutPower_pg s .nvm
    · refine ⟨_, if_pos hpg, ?_, (module_settle _).trans (module_raiseModule _ _ _ _)⟩
      rw [power_settle, power_raiseModule]
      exact cutPower_pg s .vliof
  · rintro rfl
    obtain ⟨hup, hmod, hstill⟩ := svcGone_frame s
    refine ⟨(svcGone s).settle, if_pos hpg, ?_, (module_settle _).trans hmod, fun l => ?_⟩
    · have h := congrArg State.uplink (outer_settle (svcGone s))
      exact (congrArg Uplink.up h).trans hup
    · exact (hstill l).trans (still_settle _ l)
  · rintro rfl
    refine ⟨(planeGone s .a).settle, if_pos hpg, ?_⟩
    rw [planes_settle, planes_planeGone]
    exact ⟨rfl, rfl⟩
  · rintro rfl
    refine ⟨(planeGone s .b).settle, if_pos hpg, ?_⟩
    rw [planes_settle, planes_planeGone]
    exact ⟨rfl, rfl⟩
  · refine ⟨_, pwrReqOn_next hon hk, ?_⟩
    have h' : (lockRestarted s .pwr t).reqRefusal mask false ≠ 0 := h
    rw [power_settle, requestOn_refused h']
    exact ⟨Bool.or_true _, rfl, rfl, rfl⟩
  · refine ⟨_, pwrReqOn_next hon hk, ?_⟩
    rw [power_settle]
    exact requestOn_taken (s := lockRestarted s .pwr t) h
  · refine ⟨_, pwrReqOff_next hon hk, ?_⟩
    have h' : (lockRestarted s .pwr t).reqRefusal mask true ≠ 0 := h
    rw [power_settle, requestOff_refused h']
    exact ⟨Bool.or_true _, rfl, rfl⟩
  · refine ⟨_, pwrReqOff_next hon hk, ?_⟩
    obtain ⟨⟨hdone, hcode⟩, hpg, hlanes⟩ := requestOff_taken (s := lockRestarted s .pwr t) h
    rw [power_settle]
    refine ⟨hdone, hcode, hpg, fun l hl => ?_⟩
    obtain ⟨hstate, hsw⟩ := hlanes l hl
    exact ⟨(laneState_settle _ l).trans hstate, (still_settle _ _).2.trans hsw⟩
  · rw [power_raise]
    split
    · rfl
    · exact Bool.and_false _
  · exact vitalSame_raise _ _ _ _ _
  · rw [power_raiseModule]
    split
    · rfl
    · exact Bool.and_false _
  · exact module_raiseModule _ _ _ _
  · exact (still_raiseModule _ _ _ _ l).2
  · obtain ⟨u, hu, hpair, hmod⟩ := unitselChange_next s a b
    exact ⟨u, hu, by rw [hpair], by rw [hpair], hmod⟩
  · obtain ⟨u, hu, hpower, hmod, hstill⟩ := tempHigh_next s n c
    refine ⟨u, hu, ?_, hmod, fun l => (hstill l).2⟩
    rw [hpower]
    exact Tbl_get_set_self 0 s.power.temps n c

end Sys2Proof.PowerRules
end

section
/-! ## Restarts, TEST, CLOSED, the planned shutdown and the self-test (R404-R406, R439, R443-R446, R476, R481, R483) -/

namespace Sys2Proof.PowerRules

open Sys2Proof Sys2Proof.Machine Sys2Proof.Laws Sys2Proof.VoteRules Sys2Proof.ConsRules Sys2Proof.RejoinRules
open Sys2Proof.ModuleRules Sys2Proof.AccessRules Sys2Proof.PairRules
open Sys2Proof.NetRules (svcFree_deliverAll lane_deliverAll)
open Sys2Proof.SwitchFrame (Still still_hold)
open Sys2Proof.VoteFlag (foldl_preserves)

/-! ### Entry to BOOT (R481) -/

section
variable (x : Option Retention)

theorem holdFree_retention : HoldFree (fun L => L.retention = x) := by
  intro L e h
  unfold Lane.hold
  split <;> exact h

end

theorem retention_setWord (L : Lane) (p : Pass) (k : Nat) (c : Coded) : (L.setWord p k c).retention = L.retention := by
  cases p <;> rfl

theorem retention_restore (L : Lane) : L.gate.restore.retention = L.retention := by
  rw [restore_eq]
  refine (foldl_preserves Lane.retention (fun L (e : Nat × Coded × Coded) => (L.setWord .p1 e.1 e.2.1).setWord .p2 e.1 e.2.2)
    (fun M e => ?_) _ _).trans ?_
  · rw [retention_setWord, retention_setWord]
  · exact foldl_preserves Lane.retention (fun L (e : JEntry) => L.setWord e.pass e.key e.pre)
      (fun M e => retention_setWord M _ _ _) _ _

theorem retention_dropPilot (s : State) (m : LaneId) : (s.dropPilot.lane m).retention = (s.lane m).retention := by
  unfold State.dropPilot
  split
  · rfl
  · next p hp =>
    show (((s.raise .change .pilotSession .svc (s.change.pilotBy ++ p.values)).updLane .l1
      (fun L => L.gate.restore)).lane m).retention = _
    by_cases hm : m = .l1
    · subst hm
      rw [lane_updLane_self, lane_raise]
      exact retention_restore _
    · rw [lane_updLane_ne _ _ hm, lane_raise]

theorem lane_dropTest (s : State) (m : LaneId) : s.dropTest.lane m = s.lane m := by
  unfold State.dropTest
  split
  · rfl
  · exact lane_endTest s _ m

/-- The module that has ended what goes on, with its state set to BOOT. -/
def ended (s : State) : State := (s.dropTest.dropPilot.cutBist.breakLoad).setModule .boot

theorem retention_ended (s : State) (m : LaneId) : ((ended s).lane m).retention = (s.lane m).retention := by
  have hcut : ((s.dropTest.dropPilot.cutBist.breakLoad).lane m).retention = (s.lane m).retention := by
    obtain ⟨-, -, hl⟩ := (trimmed_cutBist s.dropTest.dropPilot).trans (trimmed_breakLoad _)
    obtain ⟨f, hf⟩ := hl m
    rw [hf]
    exact (retention_dropPilot s.dropTest m).trans (by rw [lane_dropTest])
  unfold ended State.setModule
  split
  · exact hcut
  · exact raiseModule_of (holdFree_retention _) _ _ _ hcut

theorem module_deliverAll (s : State) : s.deliverAll.module = s.module := by
  have h := congrArg State.module (svcFree_deliverAll s)
  exact h

theorem change_deliverAll (s : State) : s.deliverAll.change = s.change := by
  have h := congrArg State.change (svcFree_deliverAll s)
  exact h

theorem applyMarks_frame (s : State) : s.applyMarks.module = s.module ∧ s.applyMarks.change = s.change ∧
    s.applyMarks.lanes = s.lanes := ⟨rfl, rfl, rfl⟩

/-- The planes that a mark holds off go down; no lane and no state does. -/
theorem planesHeld_frame (pls : List PlaneId) (s : State) :
    (pls.foldl (fun s pl => if s.marked (.plane pl) then s.planeDown pl else s) s).module = s.module ∧
      (pls.foldl (fun s pl => if s.marked (.plane pl) then s.planeDown pl else s) s).change = s.change ∧
      (pls.foldl (fun s pl => if s.marked (.plane pl) then s.planeDown pl else s) s).lanes = s.lanes :=
  ⟨foldl_preserves State.module _ (fun t pl => by split <;> rfl) pls s,
    foldl_preserves State.change _ (fun t pl => by split <;> rfl) pls s,
    foldl_preserves State.lanes _ (fun t pl => by split <;> rfl) pls s⟩

/-- The module in BOOT, and its lanes as BOOT takes them up. -/
theorem enterBoot_frame (s : State) (cold : Bool) : (s.enterBoot cold).module = .boot ∧
    (s.enterBoot cold).change.coldAsked = cold ∧ ∀ m, (s.enterBoot cold).lane m =
      { ((ended s).lane m).booting with heldEvents := [], lostEvents := 0, lateChanges := [] } := by
  unfold State.enterBoot
  extract_lets s1 acc chg bst s2 upl s3 s4 off pow
  have h1 : s1.module = .boot ∧ ∀ m, s1.lane m = ((ended s).lane m).booting :=
    ⟨module_setModule _ .boot, lane_mapLanes (ended s) (fun _ L => L.booting)⟩
  have h2 : s2.module = s1.module ∧ s2.change.coldAsked = cold ∧ ∀ m, s2.lane m =
      { s1.lane m with heldEvents := [], lostEvents := 0, lateChanges := [] } := by
    obtain ⟨hmod, hchange, hlanes⟩ := applyMarks_frame (State.deliverAll _)
    exact ⟨hmod.trans (module_deliverAll _), (congrArg Change.coldAsked hchange).trans (congrArg Change.coldAsked (change_deliverAll _)),
      fun m => (lane_of_lanes hlanes m).trans (lane_deliverAll _ m)⟩
  have h4 : s4.module = s2.module ∧ s4.change = s2.change ∧ s4.lanes = s2.lanes := planesHeld_frame [.a, .b] s3
  clear_value off s4 s2
  obtain ⟨hmod1, hlane1⟩ := h1
  obtain ⟨hmod2, hcold2, hlane2⟩ := h2
  obtain ⟨hmod4, hchange4, hlanes4⟩ := h4
  have hon := sequenced_powerOn { s4 with power := { s4.power with offByReq := 0 } } off
  refine ⟨(module_of_sequenced hon).trans (hmod4.trans (hmod2.trans hmod1)),
    (congrArg Change.coldAsked (change_of_sequenced hon)).trans ((congrArg Change.coldAsked hchange4).trans hcold2), fun m => ?_⟩
  obtain ⟨-, -, hlanes, -⟩ := hon
  refine (lane_of_lanes hlanes m).trans ((lane_of_lanes hlanes4 m).trans ?_)
  rw [hlane2, hlane1]

/-- After its entry to BOOT every lane is off with its switches open, and holds the retention record it had. -/
theorem enterBoot_spec (s : State) (cold : Bool) : (s.enterBoot cold).settle.module = .boot ∧
    (s.enterBoot cold).settle.change.coldAsked = cold ∧ ∀ ln, (s.enterBoot cold).settle.laneState ln = .laneOff ∧
      ((s.enterBoot cold).settle.lane ln).switches = [] ∧
      ((s.enterBoot cold).settle.lane ln).retention = (s.lane ln).retention := by
  obtain ⟨hmod, hcold, hlane⟩ := enterBoot_frame s cold
  generalize s.enterBoot cold = b at hmod hcold hlane
  refine ⟨(module_settle _).trans hmod, ?_, fun ln => ⟨?_, ?_, ?_⟩⟩
  · have h := congrArg State.change (outer_settle b)
    exact (congrArg Change.coldAsked h).trans hcold
  · rw [laneState_settle]
    unfold State.laneState
    rw [hlane]
    cases ln <;> rfl
  · rw [(still_settle _ ln).2, hlane]
    rfl
  · refine settle_of (holdFree_retention _) ?_
    rw [hlane]
    exact retention_ended s ln

/-! ### The commands that restart the module (R404-R406) -/

section
variable {s : State} {sess t : Nat}

theorem restartWarm_next (hm : s.maintainer sess = true) (hb : s.booted = true) :
    exec (.restartWarm sess t) s =
      .next ((((s.touch t).logChange sess .restart [1]).retainVoters).enterBoot false).settle :=
  if_pos (Bool.and_eq_true_iff.mpr (And.intro hm hb))

theorem restartCold_next (hm : s.maintainer sess = true) (hb : s.booted = true) :
    exec (.restartCold sess t) s = .next (((s.touch t).logChange sess .restart [2]).enterBoot true).settle :=
  if_pos (Bool.and_eq_true_iff.mpr (And.intro hm hb))

theorem bistAbort_next (hm : s.maintainer sess = true) (hb : s.bist.running = true) :
    exec (.bistAbort sess t) s = .next (((s.touch t).logChange sess .restart [3]).enterBoot false).settle :=
  if_pos (Bool.and_eq_true_iff.mpr (And.intro hm hb))

/-- At a warm restart the lanes IN-VOTE have written their retention record. -/
theorem retention_retainVoters {ln : LaneId} (e : EventName) (x : List Int) (h : s.laneState ln = .inVote) :
    (((((s.touch t).logChange sess e x).retainVoters).lane ln).retention) = (s.lane ln).retain.retention := by
  have hlane : ((s.touch t).logChange sess e x).lane ln = s.lane ln :=
    lane_of_lanes (lanes_logChange (s.touch t) sess e x) ln
  unfold State.retainVoters
  rw [lane_mapLanes, hlane]
  exact congrArg Lane.retention (if_pos h)

/-! ### The planned shutdown (R439) -/

/-- The module that has noted the command. -/
def shutdownAsked (s : State) (sess t : Nat) : State := ((s.touch t).logChange sess .powerDown []).keepAlive sess

theorem shutdownAsked_frame (s : State) (sess t : Nat) : (shutdownAsked s sess t).pair = s.pair ∧
    (shutdownAsked s sess t).module = s.module ∧ (shutdownAsked s sess t).lanes = s.lanes ∧
      (shutdownAsked s sess t).mayHandOver = s.mayHandOver := by
  have hpair : (shutdownAsked s sess t).pair = s.pair := (pair_keepAlive _ sess).trans (logChange_frame ..).1
  have hmod : (shutdownAsked s sess t).module = s.module := (module_keepAlive _ sess).trans (logChange_frame ..).2.2
  refine ⟨hpair, hmod, (lanes_keepAlive _ sess).trans (logChange_frame ..).2.1, ?_⟩
  unfold State.mayHandOver State.partnerReady
  rw [hpair, hmod]

/-- The shutdown waits for the module to stop commanding. -/
def shutdownWaits (s : State) (sess t : Nat) : State :=
  { shutdownAsked s sess t with bist := { (shutdownAsked s sess t).bist with shutdownDue := true } }

theorem plannedShutdown_eq (hm : s.maintainer sess = true) (hb : s.booted = true) (ht : s.testing = false) :
    exec (.plannedShutdown sess t) s =
      if (shutdownAsked s sess t).mayHandOver then
        fin { shutdownWaits s sess t with pair := { (shutdownWaits s sess t).pair with transferNext := true } }
      else if commandsNet (shutdownAsked s sess t).module then fin (shutdownWaits s sess t)
      else fin (shutdownAsked s sess t).beginBist := by
  have hcond : ((s.touch t).maintainer sess && (s.touch t).booted && !(s.touch t).testing) = true := by
    rw [show (s.touch t).maintainer sess = s.maintainer sess from rfl, show (s.touch t).booted = s.booted from rfl,
      show (s.touch t).testing = s.testing from rfl, hm, hb, ht]
    rfl
  exact if_pos hcond

theorem mayHandOver_commands (h : commandsNet s.module = false) : s.mayHandOver = false := by
  unfold State.mayHandOver
  rw [h, Bool.and_false, Bool.false_and]

theorem bist_settle (s : State) : s.settle.bist = s.bist := by
  have h := congrArg State.bist (outer_settle s)
  exact h

/-- A lane that has power is out in test once it has stopped for the self-test. -/
theorem stopForTest_out {me : LaneId} {L : Lane} (h : L.views.get me ≠ .laneOff) :
    (Lane.stopForTest me L).views.get me = .outTest ∧ (Lane.stopForTest me L).cause = .shutdown ∧ (Lane.stopForTest me L).switches = [] := by
  unfold Lane.stopForTest
  cases hv : L.views.get me with
  | laneOff => exact absurd hv h
  | inVote => exact ⟨Tri_get_set_self _ _ _, rfl, rfl⟩
  | outTest => exact ⟨hv, rfl, rfl⟩
  | outFault => exact ⟨Tri_get_set_self _ _ _, rfl, rfl⟩
  | rejoining => exact ⟨Tri_get_set_self _ _ _, rfl, rfl⟩

/-- A lane at the start of the self-test. -/
theorem beginBist_lane (s : State) (ln : LaneId) (h : s.laneState ln ≠ .laneOff) : s.beginBist.laneState ln = .outTest ∧
    (s.beginBist.lane ln).cause = .shutdown ∧ (s.beginBist.lane ln).switches = [] := by
  have hstop : (s.dropTest.mapLanes Lane.stopForTest).lane ln = Lane.stopForTest ln (s.lane ln) := by
    rw [lane_mapLanes, lane_dropTest]
  have hout : (Lane.stopForTest ln (s.lane ln)).views.get ln = .outTest ∧ (Lane.stopForTest ln (s.lane ln)).cause = .shutdown ∧
      (Lane.stopForTest ln (s.lane ln)).switches = [] := by
    exact stopForTest_out h
  have hshared : s.beginBist.lane ln = { Lane.stopForTest ln (s.lane ln) with
      views := Tri.ofFn (s.dropTest.mapLanes Lane.stopForTest).laneState } := by
    refine Eq.trans (lane_mapLanes (s.dropTest.mapLanes Lane.stopForTest) _ ln) ?_
    rw [hstop]
  obtain ⟨hview, hcause, hsw⟩ := hout
  unfold State.laneState
  rw [hshared]
  refine ⟨?_, hcause, hsw⟩
  have hown : (s.dropTest.mapLanes Lane.stopForTest).laneState ln = .outTest := by
    unfold State.laneState
    rw [hstop]
    exact hview
  cases ln <;> exact hown

/-! ### TEST and CLOSED (R161, R476) -/

/-- The module that has entered TEST. -/
def testEntered (s : State) (sess t : Nat) : State :=
  (((s.touch t).logChange sess .testEntry [((modCode (s.touch t).module : Nat) : Int)]).setModule .test).keepAlive sess

theorem enterTest_next (hc : s.commissioner sess = true) (hm : s.mayTest = true) :
    exec (.enterTest sess t) s = .next (testEntered s sess t).startQuayline.settle :=
  (if_pos (show (s.touch t).commissioner sess = true from hc)).trans (if_pos (show (s.touch t).mayTest = true from hm))

theorem enterTest_refused (hc : s.commissioner sess = true) (hm : s.mayTest = false) :
    exec (.enterTest sess t) s = .next ((s.touch t).refuse sess []).settle :=
  (if_pos (show (s.touch t).commissioner sess = true from hc)).trans
    (if_neg (by rw [show (s.touch t).mayTest = s.mayTest from rfl, hm]; exact Bool.false_ne_true))

theorem refuse_pair (s : State) (sess : Nat) (x : List Int) :
    (s.refuse sess x).pair = s.pair ∧ (s.refuse sess x).module = s.module := by
  obtain ⟨hpair, -, hmod⟩ := logChange_frame (s.keepAlive sess) sess .commandRefused x
  exact ⟨hpair.trans (pair_keepAlive s sess), hmod.trans (module_keepAlive s sess)⟩

/-- The module that is to leave TEST. -/
def testLeft (s : State) (sess t : Nat) : State :=
  ((s.touch t).logChange sess .testExit [((modCode (s.touch t).module : Nat) : Int)]).keepAlive sess

/-- It goes to RESTRICTED, on Quayline as it was or from a new start. -/
def testToRestricted (s : State) (sess t : Nat) : State :=
  let s2 := ((testLeft s sess t).setModule .restricted).checkPilot
  if s2.onQuayline then s2 else s2.startQuayline

theorem leaveTest_eq (hc : s.commissioner sess = true) (hm : s.module = .test) :
    exec (.leaveTest sess t) s =
      if (s.touch t).man.any (fun m => m.hdr.testOnly) then fin (testLeft s sess t).closeModule
      else fin (testToRestricted s sess t) :=
  (if_pos (show (s.touch t).commissioner sess = true from hc)).trans (if_pos (show (s.touch t).module = .test from hm))

theorem module_testToRestricted (s : State) (sess t : Nat) : (testToRestricted s sess t).module = .restricted := by
  have hmod : (((testLeft s sess t).setModule .restricted).checkPilot).module = .restricted :=
    (congrArg Prod.fst (site_checkPilot _)).trans (module_setModule _ _)
  unfold testToRestricted
  dsimp only
  split
  · exact hmod
  · exact hmod

theorem moduleClose_next (hc : s.commissioner sess = true) (hn : commandsNet s.module = true) :
    exec (.moduleClose sess) s =
      .next ((((s.logChange sess .moduleState [((modCode .closed : Nat) : Int)]).keepAlive sess).closeModule).settle) :=
  (if_pos hc).trans (if_pos hn)

end

/-! ### Verdicts and results of the self-test (R443-R446) -/

section
variable {s : State} {unit : Nat} {r : BistRec} {ms : List Mark}

theorem itemsLeft_of_left {u : State} (h : u.bist.left = s.bist.left) (k : Nat) : u.itemsLeft k = s.itemsLeft k := by
  unfold State.itemsLeft
  rw [h]

/-- Results and marks of the service flash: what an end of an item writes of them. -/
theorem bist_bistDue (s : State) : s.bistDue.bist = s.bist ∨ s.bistDue.bist = { s.bist with due := true } := by
  unfold State.bistDue
  split
  · exact .inl (bist_raise _ _ _ _ _)
  · exact .inr rfl

/-- The list of a unit loses the item that has ended; the others stay. -/
theorem bist_endItem (s : State) (unit : Nat) (r : BistRec) (ms : List Mark) : ∃ d : Bool,
    (s.endItem unit r ms).bist = { (s.putResult unit r ms).bist with
      left := Tbl.set [] (s.putResult unit r ms).bist.left unit
        (((s.putResult unit r ms).itemsLeft unit).filter (fun i => decide (i ≠ r.item)))
      full := (s.putResult unit r ms).bist.full && (decide (r.result = .pass) || decide (r.result = .fail))
      newMarks := if r.result = .fail then (s.putResult unit r ms).bist.newMarks ++ ms else (s.putResult unit r ms).bist.newMarks
      due := d } := by
  have hb := bist_raise (s.putResult unit r ms) .bist .bistItem (unitDie unit)
    [((r.item : Nat) : Int), ((resultCode r.result : Nat) : Int), ((r.step : Nat) : Int), ((r.terminal : Nat) : Int),
      ((r.sigf.toNat : Nat) : Int), ((r.durMs : Nat) : Int)]
  unfold State.endItem State.itemsLeft
  dsimp only
  rw [hb]
  split
  · rcases bist_bistDue { (s.putResult unit r ms).raise .bist .bistItem (unitDie unit)
      [((r.item : Nat) : Int), ((resultCode r.result : Nat) : Int), ((r.step : Nat) : Int), ((r.terminal : Nat) : Int),
        ((r.sigf.toNat : Nat) : Int), ((r.durMs : Nat) : Int)] with bist := _ } with h | h
    · exact ⟨_, h⟩
    · exact ⟨_, h⟩
  · exact ⟨_, rfl⟩

theorem left_putResult (s : State) (unit : Nat) (r : BistRec) (ms : List Mark) :
    (s.putResult unit r ms).bist.left = s.bist.left := by
  unfold State.putResult
  split <;> rfl

theorem lane_bistDue (s : State) (m : LaneId) : s.bistDue.lane m = s.lane m := by
  unfold State.bistDue
  split
  · exact lane_raise _ _ _ _ _ _
  · rfl

theorem lane_endItem (s : State) (unit : Nat) (r : BistRec) (ms : List Mark) (m : LaneId) :
    (s.endItem unit r ms).lane m = (s.putResult unit r ms).lane m := by
  unfold State.endItem
  dsimp only
  split
  · exact (lane_bistDue _ m).trans (lane_raise _ _ _ _ _ _)
  · exact lane_raise _ _ _ _ _ _

theorem itemsLeft_endItem_self (s : State) (unit : Nat) (r : BistRec) (ms : List Mark) :
    (s.endItem unit r ms).itemsLeft unit = (s.itemsLeft unit).filter (fun i => decide (i ≠ r.item)) := by
  obtain ⟨d, hb⟩ := bist_endItem s unit r ms
  unfold State.itemsLeft
  rw [hb]
  refine (Tbl_get_set_self [] _ unit _).trans ?_
  unfold State.itemsLeft
  rw [left_putResult]

theorem itemsLeft_endItem_ne (s : State) {unit k : Nat} (r : BistRec) (ms : List Mark) (h : k ≠ unit) :
    (s.endItem unit r ms).itemsLeft k = s.itemsLeft k := by
  obtain ⟨d, hb⟩ := bist_endItem s unit r ms
  unfold State.itemsLeft
  rw [hb]
  refine (Tbl_get_set_ne [] _ _ h).trans ?_
  rw [left_putResult]

/-- The result is stored where its unit keeps it. -/
theorem putResult_lane {ln : LaneId} (hu : unitLane unit = some ln) :
    r ∈ ((s.putResult unit r ms).lane ln).flash.bist ∧
      ((s.putResult unit r ms).lane ln).flash.marks = markList (s.lane ln).flash.marks r.item r.result r.absent ms := by
  unfold State.putResult
  rw [hu]
  dsimp only
  rw [lane_updLane_self]
  exact ⟨List.mem_append_right _ (List.mem_singleton.mpr rfl), rfl⟩

theorem putResult_service (hu : unitLane unit = none) :
    Tbl.get none (s.putResult unit r ms).bist.results (unit * 32 + r.item) = some r := by
  unfold State.putResult
  rw [hu]
  exact Tbl_get_set_self none s.bist.results (unit * 32 + r.item) (some r)

/-- A verdict that is neither PASS nor FAIL changes no mark. -/
theorem putResult_unmarked (h : r.result = .cut ∨ r.result = .notRun) :
    (∀ ln, ((s.putResult unit r ms).lane ln).flash.marks = (s.lane ln).flash.marks) ∧
      (s.putResult unit r ms).bist.stored = s.bist.stored := by
  have hsame : ∀ (l : List (Nat × Mark)) (key : Nat), markList l key r.result r.absent ms = l := by
    rcases h with h | h <;> rw [h] <;> exact fun _ _ => rfl
  unfold State.putResult
  split
  · next ln hu =>
    refine ⟨fun m => ?_, rfl⟩
    by_cases hm : m = ln
    · subst hm
      rw [lane_updLane_self]
      exact hsame _ _
    · rw [lane_updLane_ne _ _ hm]
  · exact ⟨fun _ => rfl, hsame _ _⟩

/-- After a PASS the marks of the item that remain are those of channels it did not run on. -/
theorem mem_markList_pass {l : List (Nat × Mark)} {key : Nat} {absent : List Nat} {m : Mark}
    (h : (key, m) ∈ markList l key .pass absent ms) : notRunOn absent m = true := by
  have hm := (List.mem_filter.mp h).2
  rcases Bool.or_eq_true_iff.mp hm with hk | hk
  · exact absurd rfl (of_decide_eq_true hk)
  · exact hk

/-- Zeroisation writes neither the lists of the units nor a flash. -/
theorem zeroise_frame (s : State) (unit : Nat) : (∀ k, (s.zeroise unit).itemsLeft k = s.itemsLeft k) ∧
    (s.zeroise unit).module = s.module ∧ (s.zeroise unit).bist.results = s.bist.results ∧
      (s.zeroise unit).bist.stored = s.bist.stored ∧
      ∀ m, Still (s.lane m) ((s.zeroise unit).lane m) ∧ ((s.zeroise unit).lane m).flash = (s.lane m).flash := by
  unfold State.zeroise
  split
  · next _ _ ln _ =>
    refine ⟨fun _ => rfl, rfl, rfl, rfl, fun m => ?_⟩
    by_cases hm : m = ln
    · subst hm
      rw [lane_updLane_self]
      exact ⟨⟨rfl, rfl⟩, rfl⟩
    · rw [lane_updLane_ne _ _ hm]
      exact ⟨⟨rfl, rfl⟩, rfl⟩
  · exact ⟨fun _ => rfl, rfl, rfl, rfl, fun _ => ⟨⟨rfl, rfl⟩, rfl⟩⟩
  · exact ⟨fun _ => rfl, rfl, rfl, rfl, fun _ => ⟨⟨rfl, rfl⟩, rfl⟩⟩

end

/-! ### The end of an item -/

/-- The verdict of an item as its unit reports it. -/
def itemVerdict (s : State) (unit item step : Nat) (cp : U64) (ready : Bool) : BistResult :=
  verdict item step (sigf cp step) (ready && (!scanItem item || s.zeroisedUnit unit))

/-- The record of an item, and what a FAIL of it marks. -/
def itemRecord (s : State) (unit item step : Nat) (cp : U64) (ready : Bool) (ms : Nat) (absent : List Nat) : BistRec :=
  ⟨item, itemVerdict s unit item step cp ready, step, itemTerminal item, sigf cp step, ms, if item = 9 then absent else []⟩

def itemMarks (s : State) (unit item step : Nat) (cp : U64) (ready : Bool) (found : List Mark) (absent : List Nat) : List Mark :=
  if itemVerdict s unit item step cp ready = .fail then
    (failMarks unit item found).filter (fun m => !notRunOn (if item = 9 then absent else []) m)
  else []

/-- The module once the item has ended. -/
def itemEnded (s : State) (unit item step : Nat) (cp : U64) (ready : Bool) (ms : Nat) (found : List Mark)
    (absent : List Nat) : State :=
  let s1 := s.endItem unit (itemRecord s unit item step cp ready ms absent) (itemMarks s unit item step cp ready found absent)
  if item = 1 ∧ itemVerdict s unit item step cp ready = .pass then s1.zeroise unit else s1

theorem bistItemEnd_next {s : State} {unit item step ms : Nat} {cp : U64} {ready : Bool} {found : List Mark}
    {absent : List Nat} (h : s.itemRunning unit = some item) :
    exec (.bistItemEnd unit item step cp ready ms found absent) s =
      .next (itemEnded s unit item step cp ready ms found absent) := if_pos h

theorem itemEnded_frame (s : State) (unit item step : Nat) (cp : U64) (ready : Bool) (ms : Nat) (found : List Mark)
    (absent : List Nat) :
    let s1 := s.endItem unit (itemRecord s unit item step cp ready ms absent) (itemMarks s unit item step cp ready found absent)
    let u := itemEnded s unit item step cp ready ms found absent
    (∀ k, u.itemsLeft k = s1.itemsLeft k) ∧ u.module = s1.module ∧ u.bist.results = s1.bist.results ∧
      u.bist.stored = s1.bist.stored ∧ ∀ m, Still (s1.lane m) (u.lane m) ∧ (u.lane m).flash = (s1.lane m).flash := by
  unfold itemEnded
  dsimp only
  split
  · exact zeroise_frame _ unit
  · exact ⟨fun _ => rfl, rfl, rfl, rfl, fun _ => ⟨⟨rfl, rfl⟩, rfl⟩⟩

/-- An item that takes too long is cut short. -/
def itemCutShort (s : State) (unit item step ms : Nat) : State :=
  let s1 := s.endItem unit ⟨item, .cut, step, itemTerminal item, (Config.cutReading s.draw).2.1, ms, []⟩ []
  { s1 with draw := s1.draw + 1 }

theorem bistItemOvertime_next {s : State} {unit item step ms : Nat} (h : s.itemRunning unit = some item)
    (hms : 2 * itemMs item < ms) :
    exec (.bistItemOvertime unit item step ms) s = .next (itemCutShort s unit item step ms) :=
  if_pos (And.intro h hms)

theorem shutdownReady_next {s : State} (hr : s.bist.running = true) (hall : ∀ k ∈ bistUnits, s.itemsLeft k = []) :
    ∃ u, exec .shutdownReady s = .next u ∧ u.bist.running = false ∧ u.bist.ready = true ∧ u.module = s.module ∧
      (s.bist.full = true → u.bist.lastFull = s.now) := by
  have hcond : (s.bist.running && bistUnits.all (fun u => decide (s.itemsLeft u = []))) = true := by
    rw [hr, Bool.true_and, List.all_eq_true]
    exact fun k hk => decide_eq_true (hall k hk)
  refine ⟨_, if_pos hcond, ?_⟩
  rw [bist_settle, module_settle]
  refine ⟨rfl, rfl, module_raiseModule _ _ _ _, fun hfull => ?_⟩
  have hbist : (s.raiseModule .info .shutdownReady []).bist = s.bist := bist_raiseModule _ _ _ _
  have hnow : (s.raiseModule .info .shutdownReady []).now = s.now := now_raiseModule _ _ _ _
  exact (if_pos (by rw [hbist]; exact hfull)).trans hnow

/-- The verdict, by its three tests (R443). -/
theorem verdict_spec (item step : Nat) (f : U64) (ready : Bool) :
    (ready = false → verdict item step f ready = .notRun) ∧
    (ready = true → step ≠ itemTerminal item → verdict item step f ready = .cut) ∧
    (ready = true → step = itemTerminal item → f = Config.bistExpected item → verdict item step f ready = .pass) ∧
    (ready = true → step = itemTerminal item → f ≠ Config.bistExpected item → verdict item step f ready = .fail) := by
  unfold verdict
  refine ⟨?_, ?_, ?_, ?_⟩
  · rintro rfl
    exact if_pos rfl
  · rintro rfl h
    exact (if_neg Bool.false_ne_true).trans (if_pos h)
  · rintro rfl h hf
    exact (if_neg Bool.false_ne_true).trans ((if_neg (not_not_intro h)).trans (if_pos hf))
  · rintro rfl h hf
    exact (if_neg Bool.false_ne_true).trans ((if_neg (not_not_intro h)).trans (if_neg hf))

/-- Settles O47: the restarts by `enterBoot_spec`, the shutdown by `beginBist_lane`, and an item of the self-test by what
`endItem` writes. -/
theorem moduleCommandsAndSelfTest : Obligations.ModuleCommandsAndSelfTest := by
  unfold Obligations.ModuleCommandsAndSelfTest
  refine ⟨fun s sess t => ⟨fun hm hb => ⟨?_, ?_, fun hr => ?_, fun ht => ⟨fun hmay => ?_, fun hmay hn => ?_, fun hn => ?_⟩⟩,
    fun hc => ⟨fun hmay => ?_, fun hmay => ?_, fun htest => ⟨fun hno => ?_, fun hyes => ?_⟩, fun hn => ?_⟩⟩,
    fun s unit item step ms cp ready found absent f => ?_⟩
  · obtain ⟨hmod, hcold, hlanes⟩ := enterBoot_spec (((s.touch t).logChange sess .restart [1]).retainVoters) false
    refine ⟨_, restartWarm_next hm hb, ⟨hmod, fun ln => ⟨(hlanes ln).1, (hlanes ln).2.1⟩⟩, hcold, fun ln hv => ?_⟩
    exact (hlanes ln).2.2.trans (retention_retainVoters .restart [1] hv)
  · obtain ⟨hmod, hcold, hlanes⟩ := enterBoot_spec ((s.touch t).logChange sess .restart [2]) true
    exact ⟨_, restartCold_next hm hb, ⟨hmod, fun ln => ⟨(hlanes ln).1, (hlanes ln).2.1⟩⟩, hcold⟩
  · obtain ⟨hmod, -, hlanes⟩ := enterBoot_spec ((s.touch t).logChange sess .restart [3]) false
    exact ⟨_, bistAbort_next hm hr, hmod, fun ln => ⟨(hlanes ln).1, (hlanes ln).2.1⟩⟩
  · obtain ⟨-, hmod, -, hmay'⟩ := shutdownAsked_frame s sess t
    refine ⟨_, (plannedShutdown_eq hm hb ht).trans (if_pos (hmay'.trans hmay)), ?_, ?_, (module_settle _).trans hmod⟩
    · rw [pairOf_settle]
    · rw [bist_settle]
      rfl
  · obtain ⟨hpair, hmod, -, hmay'⟩ := shutdownAsked_frame s sess t
    refine ⟨_, (plannedShutdown_eq hm hb ht).trans ((if_neg (by rw [hmay', hmay]; exact Bool.false_ne_true)).trans
      (if_pos (by rw [hmod]; exact hn))), ?_, (pairOf_settle _).trans hpair, (module_settle _).trans hmod⟩
    rw [bist_settle]
    rfl
  · obtain ⟨-, hmod, hlanes, hmay'⟩ := shutdownAsked_frame s sess t
    refine ⟨_, (plannedShutdown_eq hm hb ht).trans ((if_neg (by rw [hmay', mayHandOver_commands hn]; exact Bool.false_ne_true)).trans
      (if_neg (by rw [hmod, hn]; exact Bool.false_ne_true))), ?_, fun ln hoff => ?_⟩
    · rw [bist_settle]
      rfl
    · obtain ⟨hstate, hcause, hsw⟩ := beginBist_lane (shutdownAsked s sess t) ln (by rw [laneState_of_lanes hlanes]; exact hoff)
      obtain ⟨es, k, hheld⟩ := lane_settle_held (shutdownAsked s sess t).beginBist ln
      refine ⟨(laneState_settle _ ln).trans hstate, ?_, ?_⟩
      · rw [hheld]
        exact hcause
      · rw [hheld]
        exact hsw
  · refine ⟨_, enterTest_next hc hmay, (module_settle _).trans ?_, ?_⟩
    · exact (module_keepAlive _ sess).trans (module_setModule _ .test)
    · rw [pairOf_settle]
      rfl
  · obtain ⟨hpair, hmod⟩ := refuse_pair (s.touch t) sess []
    exact ⟨_, enterTest_refused hc hmay, (module_settle _).trans hmod, (pairOf_settle _).trans hpair⟩
  · have hany : ¬ (s.touch t).man.any (fun m => m.hdr.testOnly) = true := by
      intro h
      obtain ⟨m, hman, honly⟩ := (Option.any_eq_true _ _).mp h
      rw [hno m hman] at honly
      exact Bool.noConfusion honly
    exact ⟨_, (leaveTest_eq hc htest).trans (if_neg hany), (module_settle _).trans (module_testToRestricted s sess t)⟩
  · obtain ⟨m, hman, honly⟩ := hyes
    have hany : (s.touch t).man.any (fun m => m.hdr.testOnly) = true := by
      rw [show (s.touch t).man = some m from hman]
      exact honly
    exact ⟨_, (leaveTest_eq hc htest).trans (if_pos hany), (module_settle _).trans (closeModule_spec _).1⟩
  · obtain ⟨hmod, hsend⟩ := closeModule_spec ((s.logChange sess .moduleState [((modCode .closed : Nat) : Int)]).keepAlive sess)
    refine ⟨_, moduleClose_next hc hn, (module_settle _).trans hmod, fun q => ?_⟩
    have hplanes := planes_settle ((s.logChange sess .moduleState [((modCode .closed : Nat) : Int)]).keepAlive sess).closeModule
    exact (congrArg (fun P : Duo Plane => (P.get q).sending) hplanes).trans (hsend q)
  · obtain ⟨h1, h2, h3, h4⟩ := verdict_spec item step f ready
    refine ⟨h1, h2, h3, h4, fun hrun => ⟨?_, fun hms => ?_⟩, shutdownReady_next⟩
    · obtain ⟨hleft, hmod, hresults, hstored, hlanes⟩ := itemEnded_frame s unit item step cp ready ms found absent
      have hend := trimmed_endItem s unit (itemRecord s unit item step cp ready ms absent)
        (itemMarks s unit item step cp ready found absent)
      obtain ⟨d, hbist⟩ := bist_endItem s unit (itemRecord s unit item step cp ready ms absent)
        (itemMarks s unit item step cp ready found absent)
      have hflash : ∀ ln, ((itemEnded s unit item step cp ready ms found absent).lane ln).flash =
          ((s.putResult unit (itemRecord s unit item step cp ready ms absent)
            (itemMarks s unit item step cp ready found absent)).lane ln).flash := fun ln =>
        (hlanes ln).2.trans (congrArg Lane.flash (lane_endItem _ _ _ _ ln))
      refine ⟨_, bistItemEnd_next hrun, (hleft unit).trans (itemsLeft_endItem_self s unit _ _),
        fun k hk => (hleft k).trans (itemsLeft_endItem_ne s _ _ hk), hmod.trans (module_of_base hend.1),
        fun ln => (still_of_trimmed hend ln).trans (hlanes ln).1, fun ln hu => ?_, fun hu => ?_, fun hv => ⟨fun ln => ?_, ?_⟩,
        fun hv ln hu m hmem => ?_⟩
      · rw [hflash]
        exact (putResult_lane hu).1
      · rw [hresults, hbist]
        exact putResult_service (r := itemRecord s unit item step cp ready ms absent) hu
      · rw [hflash]
        exact (putResult_unmarked (r := itemRecord s unit item step cp ready ms absent) hv).1 ln
      · rw [hstored, hbist]
        exact (putResult_unmarked (r := itemRecord s unit item step cp ready ms absent) hv).2
      · rw [hflash, (putResult_lane hu).2] at hmem
        have hpass : (itemRecord s unit item step cp ready ms absent).result = .pass := hv
        rw [hpass] at hmem
        exact mem_markList_pass hmem
    · have hend := trimmed_endItem s unit
        ⟨item, .cut, step, itemTerminal item, (Config.cutReading s.draw).2.1, ms, []⟩ []
      obtain ⟨d, hbist⟩ := bist_endItem s unit
        ⟨item, .cut, step, itemTerminal item, (Config.cutReading s.draw).2.1, ms, []⟩ []
      refine ⟨_, bistItemOvertime_next hrun hms, ?_, itemsLeft_endItem_self s unit _ _, module_of_base hend.1⟩
      refine (congrArg Bist.full hbist).trans ?_
      exact Bool.and_false _

end Sys2Proof.PowerRules
end

section
/-! ## How BOOT ends (R477, R478, Table 17.4) -/

namespace Sys2Proof.BootRules

open Sys2Proof Sys2Proof.Machine Sys2Proof.Laws Sys2Proof.VoteRules Sys2Proof.ConsRules Sys2Proof.RejoinRules
open Sys2Proof.ModuleRules Sys2Proof.PairRules Sys2Proof.PowerRules
open Sys2Proof.NetRules (svcFree svcFree_configureWb)
open Sys2Proof.VoteFlag (foldl_preserves)

/-! ### The end in HALT -/

/-- No lane votes, and no switch is closed. -/
def Dead (u : State) : Prop := u.module = .halt ∧ u.voters = [] ∧ ∀ ln, (u.lane ln).switches = []

theorem dead_bootHalt (s : State) : Dead s.bootHalt := by
  have hlane : ∀ ln, (s.bootHalt.lane ln).views.get ln ≠ .inVote ∧ (s.bootHalt.lane ln).switches = [] := by
    intro ln
    have hfree : HoldFree (fun L => L.views.get ln ≠ .inVote ∧ L.switches = []) := by
      intro L e h
      unfold Lane.hold
      split <;> exact h
    refine raiseModule_of hfree _ _ _ ?_
    have hset : (fun L : Lane => L.views.get ln ≠ .inVote ∧ L.switches = [])
        ((s.mapLanes (fun ln L => { L.openAll with
          views := Tri.ofFn (fun ln => if s.lnIOn ln then .outFault else .laneOff)
          cause := if s.lnIOn ln then .halt else .none, phase := .idle })).lane ln) := by
      rw [lane_mapLanes]
      refine ⟨?_, rfl⟩
      show (Tri.ofFn (fun ln => if s.lnIOn ln then LaneState.outFault else .laneOff)).get ln ≠ .inVote
      rw [Tri_get_ofFn]
      split <;> decide
    unfold State.setModule
    split
    · exact hset
    · exact raiseModule_of hfree _ _ _ hset
  refine ⟨(module_raiseModule _ _ _ _).trans (module_setModule _ _), ?_, fun ln => (hlane ln).2⟩
  exact List.eq_nil_iff_forall_not_mem.mpr fun m hm => (hlane m).1 ((mem_voters _ m).mp hm)

theorem dead_of {s u : State} (h : Dead s) (hl : u.lanes = s.lanes) (hm : u.module = s.module) : Dead u := by
  obtain ⟨hmod, hv, hsw⟩ := h
  exact ⟨hm.trans hmod, (voters_of_laneState fun m => laneState_of_lanes hl m).trans hv, fun ln => by
    rw [lane_of_lanes hl]
    exact hsw ln⟩

theorem dead_settle {s : State} (h : Dead s) : Dead s.settle := by
  obtain ⟨hmod, hv, hsw⟩ := h
  exact ⟨(module_settle s).trans hmod, (voters_of_laneState (laneState_settle s)).trans hv, fun ln =>
    (still_settle s ln).2.trans (hsw ln)⟩

theorem bistAtBoot_frame (s : State) : s.bistAtBoot.lanes = s.lanes ∧ site s.bistAtBoot = site s := by
  have hraise : ∀ (t : State) (n : EventName), (t.raise .warn n .svc []).lanes = t.lanes ∧ site (t.raise .warn n .svc []) = site t :=
    fun t n => ⟨lanes_raise _ _ _ _ _, site_of_outer (outer_raise _ _ _ _ _)⟩
  unfold State.bistAtBoot
  extract_lets b s1
  have hdue : s1.lanes = s.lanes ∧ site s1 = site s := by
    dsimp only [s1]
    split
    · exact hraise _ _
    · exact ⟨rfl, rfl⟩
  clear_value s1
  split
  · exact ⟨(hraise _ _).1.trans hdue.1, (hraise _ _).2.trans hdue.2⟩
  · exact hdue

/-! ### The lanes as they start (R404, R406) -/

/-- A lane of a cold start: it votes, from CN 0, under its EPOCH. -/
def Begun (ln : LaneId) (epoch : U32) (L : Lane) : Prop := L.views.get ln = .inVote ∧ L.cn = 0 ∧ L.epoch = epoch

theorem holdFree_begun (ln : LaneId) (epoch : U32) : HoldFree (Begun ln epoch) := by
  intro L e h
  unfold Lane.hold
  split <;> exact h

/-- What a lane shows of its start. -/
def startShown (L : Lane) : Tri LaneState × U32 × U32 := (L.views, L.cn, L.epoch)

theorem begun_of_shown {ln : LaneId} {epoch : U32} {L M : Lane} (h : startShown M = startShown L) (hb : Begun ln epoch L) :
    Begun ln epoch M := by
  obtain ⟨hv, hcn, he⟩ := hb
  exact ⟨(congrArg (fun x : Tri LaneState × U32 × U32 => x.1.get ln) h).trans hv,
    (congrArg (fun x : Tri LaneState × U32 × U32 => x.2.1) h).trans hcn,
    (congrArg (fun x : Tri LaneState × U32 × U32 => x.2.2) h).trans he⟩

theorem startShown_put (L : Lane) (k : Nat) (x : Int) : startShown (L.put k x) = startShown L := by
  unfold Lane.put
  split <;> rfl

theorem startShown_codeFrames (L : Lane) : startShown L.codeFrames = startShown L := by
  refine foldl_preserves startShown _ (fun M (e : Nat × SigEntry) => ?_) L.sigs L
  split
  · exact startShown_put _ _ _
  · rfl

/-- A cold start on any image leaves the lane as it began. -/
theorem startShown_startOn (L : Lane) (img : Option Manifest) : startShown (L.startOn img none) = startShown L := by
  cases img with
  | none => rfl
  | some m => exact startShown_codeFrames _

theorem startShown_takePending (L : Lane) : startShown L.takePending = startShown L := by
  unfold Lane.takePending
  split
  · rfl
  · split <;> rfl

/-! ### What BOOT leaves of the site -/

section
variable {s : State} {o : BootObs} {vs : List LaneId}

theorem laneFailures_of {P : Lane → Prop} (hP : HoldFree P) {m : LaneId} (h : P (s.lane m)) : P ((s.laneFailures o).lane m) := by
  have hfold : ∀ (ls : List LaneId) (f : State → LaneId → State), (∀ t ln, P (t.lane m) → P ((f t ln).lane m)) →
      ∀ t, P (t.lane m) → P ((ls.foldl f t).lane m) := by
    intro ls f hf
    induction ls with
    | nil => exact fun t ht => ht
    | cons l ls ih => exact fun t ht => ih _ (hf t l ht)
  refine hfold LaneId.all _ (fun t ln ht => ?_) s h
  split
  · exact raiseLane_of hP _ _ _ _ ht
  · split
    · exact raiseLane_of hP _ _ _ _ ht
    · split
      · exact raiseLane_of hP _ _ _ _ ht
      · exact ht

theorem outer_laneFailures (s : State) (o : BootObs) : outer (s.laneFailures o) = outer s := by
  refine foldl_preserves outer _ (fun t ln => ?_) LaneId.all s
  split
  · exact outer_raiseLane _ _ _ _ _
  · split
    · exact outer_raiseLane _ _ _ _ _
    · split
      · exact outer_raiseLane _ _ _ _ _
      · rfl

/-- The agreed EPOCH is read from the flash, which the events of BOOT leave alone. -/
theorem newEpoch_laneFailures (s : State) (o : BootObs) : (s.laneFailures o).newEpoch = s.newEpoch := by
  have hpower : (s.laneFailures o).power = s.power := power_of_outer (outer_laneFailures s o)
  have hflash : ∀ ln, ((s.laneFailures o).lane ln).flash = (s.lane ln).flash := fun ln =>
    laneFailures_of (P := fun L => L.flash = (s.lane ln).flash) (fun L e h => by
      unfold Lane.hold
      split <;> exact h) rfl
  have hrecords : (s.laneFailures o).recordLanes = s.recordLanes := List.filter_congr fun ln _ => by
    unfold State.lnIOn
    rw [hpower]
  unfold State.newEpoch
  rw [hrecords]
  simp only [hflash]

theorem site_startWb (s : State) : site s.startWb = site s ∧ s.startWb.lanes = s.lanes := by
  unfold State.startWb
  split
  · exact ⟨rfl, rfl⟩
  · split
    · next b _ _ =>
      obtain ⟨hfree, hlanes⟩ := svcFree_configureWb s b
      have hsite := congrArg site hfree
      exact ⟨hsite, hlanes⟩
    · exact ⟨rfl, rfl⟩

/-- The causes are logged one by one. -/
theorem site_causes (es : List (EventName × List Int)) (s : State) :
    site (es.foldl (fun (s : State) e => s.raiseModule .fault e.1 e.2) s) = site s :=
  foldl_preserves site _ (fun _ _ => site_of_outer (outer_raiseModule _ _ _ _)) es s

/-- The bus of the image that runs, and the lanes that rejoin. -/
def bootBus (rejoining : List LaneId) (s4 : State) : State := rejoining.foldl (fun s ln => s.startRejoin ln) s4.startWb

/-- The restart as it is logged. -/
def bootSaid (s : State) (warm : Bool) (s5 : State) : State :=
  (s5.raise .change .restart .svc [-1, 0, if warm then 1 else 0, if s.bootDefaulted then 1 else 0]).raiseModule .info
    (if warm then .warmStart else .coldStart) []

/-- A fall back to the previous firmware is logged. -/
def bootFell (s : State) (o : BootObs) (s7 : State) : State :=
  if s.bootPrev o then s7.raise .change .firmwareFallback .svc (noWho ++ comboVals (s.bootCombo o)) else s7

/-- What BOOT adds once the module state is set: the bus, the lanes that rejoin, and events. -/
def bootTail (s : State) (o : BootObs) (warm : Bool) (rejoining : List LaneId) (s4 : State) : State :=
  (bootFell s o (bootSaid s warm (bootBus rejoining s4))).bistAtBoot.noteCons

theorem site_bootSaid (s : State) (warm : Bool) (s5 : State) : site (bootSaid s warm s5) = site s5 :=
  (site_of_outer (outer_raiseModule _ _ _ _)).trans (site_of_outer (outer_raise _ _ _ _ _))

theorem site_bootFell (s : State) (o : BootObs) (s7 : State) : site (bootFell s o s7) = site s7 := by
  unfold bootFell
  split
  · exact site_of_outer (outer_raise _ _ _ _ _)
  · rfl

theorem site_bootBus (rs : List LaneId) (s4 : State) : site (bootBus rs s4) = site s4 :=
  (foldl_preserves site _ (fun t ln => site_startRejoin t ln) rs _).trans (site_startWb s4).1

theorem noteCons_frame (s : State) : site s.noteCons = site s ∧ s.noteCons.lanes = s.lanes := ⟨rfl, rfl⟩

theorem site_bootTail (s : State) (o : BootObs) (warm : Bool) (rs : List LaneId) (s4 : State) :
    site (bootTail s o warm rs s4) = site s4 :=
  (noteCons_frame _).1.trans ((bistAtBoot_frame _).2.trans ((site_bootFell s o _).trans ((site_bootSaid s warm _).trans
    (site_bootBus rs s4))))

/-- The lanes after the end of a cold start, where none has to rejoin. -/
theorem bootTail_of {P : Lane → Prop} (hP : HoldFree P) {m : LaneId} {s4 : State} {warm : Bool} (h : P (s4.lane m)) :
    P ((bootTail s o warm [] s4).lane m) := by
  have h5 : P ((bootBus [] s4).lane m) := by
    show P (s4.startWb.lane m)
    rwa [lane_of_lanes (site_startWb s4).2]
  have h7 : P ((bootSaid s warm (bootBus [] s4)).lane m) := by
    refine raiseModule_of hP _ _ _ ?_
    rwa [lane_raise]
  have h8 : P ((bootFell s o (bootSaid s warm (bootBus [] s4))).lane m) := by
    unfold bootFell
    split
    · rwa [lane_raise]
    · exact h7
  unfold bootTail
  rwa [lane_of_lanes (noteCons_frame _).2, lane_of_lanes (bistAtBoot_frame _).1]

/-- The lanes that start IN-VOTE: of a warm start those that hold the record. -/
def bootStarters (s : State) (vs : List LaneId) : Option (Retention × Manifest) → List LaneId
  | none => vs
  | some r => s.recordHolders vs r.1

/-- The module with its lanes started and its claim read, before its state is set. -/
def bootStarted (s : State) (o : BootObs) (vs : List LaneId) : State :=
  (State.startModule (((s.laneFailures o).startLanes o vs (bootStarters s vs (s.warmFrom o vs)) (s.warmFrom o vs)).mapLanes
    (fun ln L => if s.lnIOn ln then L.takePending else L)) s o vs).setClaim (s.storedClaim (s.bootImage o (vs.headD .l1)))

theorem bootDone_eq (s : State) (o : BootObs) (vs : List LaneId) : s.bootDone o vs =
    bootTail s o (s.warmFrom o vs).isSome
      (vs.filter (fun ln => !(bootStarters s vs (s.warmFrom o vs)).contains ln))
      ((bootStarted s o vs).bootEnds (s.closedCauses o vs (s.bootImage o (vs.headD .l1)))
        (s.otherHolds (s.bootImage o (vs.headD .l1)))) := by
  unfold State.bootDone bootTail bootFell bootSaid bootBus bootStarted bootStarters
  rfl

/-! ### The three states a start ends in -/

theorem bootEnds_closed {es : List (EventName × List Int)} (h : es ≠ []) (t : State) (other : Option HwStatus) :
    (t.bootEnds es other).module = .closed := by
  cases es with
  | nil => exact absurd rfl h
  | cons e es =>
    have hsite := site_causes (e :: es) (t.setModule .closed)
    exact (congrArg Prod.fst hsite).trans (module_setModule t .closed)

theorem bootEnds_standby (t : State) (p : HwStatus) : (t.bootEnds [] (some p)).module = .standby ∧
    (t.bootEnds [] (some p)).pair.clm = p.clm - 1 := by
  obtain ⟨hmod, hclm, -⟩ := enterStandby_spec (t.setModule .standby) (p.clm - 1) (.resync 0)
  exact ⟨hmod, hclm⟩

theorem bootEnds_restricted (t : State) : (t.bootEnds [] none).module = .restricted ∧
    (t.bootEnds [] none).pair.listenUntil.isSome = true := ⟨module_setModule t .restricted, rfl⟩

theorem bootEnds_restricted_of {P : Lane → Prop} (hP : HoldFree P) {m : LaneId} {t : State} (h : P (t.lane m)) :
    P ((t.bootEnds [] none).lane m) := by
  show P ((t.setModule .restricted).lane m)
  unfold State.setModule
  split
  · exact h
  · exact raiseModule_of hP _ _ _ h

/-! ### The lanes of a cold start -/

/-- A lane as the start leaves it, before its links are calibrated. -/
def laneBegun (t : State) (o : BootObs) (epoch : U32) (views : Tri LaneState) (ln : LaneId) (L : Lane) : Lane :=
  ((L.openAll.started 0 epoch views).startOn (t.bootImage o ln) none).latchInputs t.dead t.power.pfOk

theorem begun_laneBegun (t : State) (o : BootObs) (epoch : U32) {views : Tri LaneState} {ln : LaneId} (L : Lane)
    (hv : views.get ln = .inVote) : Begun ln epoch (laneBegun t o epoch views ln L) := by
  have hstarted : Begun ln epoch (L.openAll.started 0 epoch views) := ⟨hv, rfl, rfl⟩
  exact begun_of_shown (startShown_startOn _ _) hstarted

/-- Links that all calibrate fail none, and change nothing of a lane but its latencies. -/
theorem bootCalibrate_shown (t : State) (vs : List LaneId) (h : ∀ l : ClxLink, tripsOk (o.trips.link l) = true) (m : LaneId) :
    startShown ((t.bootCalibrate o vs).lane m) = startShown (t.lane m) := by
  unfold State.bootCalibrate
  extract_lets s1 s2
  rw [foldl_stays _ s2 _ fun l _ => if_neg (by rw [h l]; simp)]
  show startShown (s1.lane m) = _
  refine (congrArg startShown (lane_mapLanes t _ m)).trans ?_
  split <;> rfl

theorem startLanes_begun {t : State} {ln : LaneId} (hmem : ln ∈ vs) (h : ∀ l : ClxLink, tripsOk (o.trips.link l) = true) :
    Begun ln t.newEpoch ((t.startLanes o vs vs none).lane ln) := by
  have hin : vs.contains ln = true := List.contains_iff_mem.mpr hmem
  unfold State.startLanes
  extract_lets views epoch cn s1
  refine begun_of_shown (bootCalibrate_shown s1 vs h ln) ?_
  have hview : views.get ln = .inVote := (Tri_get_ofFn _ ln).trans (if_pos hin)
  have hlane : s1.lane ln = laneBegun t o epoch views ln (t.lane ln) := by
    refine (lane_mapLanes t _ ln).trans ((if_pos hin).trans ?_)
    exact if_pos hin
  rw [hlane]
  exact begun_laneBegun t o epoch _ hview

theorem setClaim_shown (t : State) (clm : U32) (m : LaneId) : startShown ((t.setClaim clm).lane m) = startShown (t.lane m) := by
  refine (congrArg startShown (lane_mapLanes t _ m)).trans ?_
  split <;> rfl

theorem bootStarted_begun (hw : s.warmFrom o vs = none) (h : ∀ l : ClxLink, tripsOk (o.trips.link l) = true) {ln : LaneId}
    (hmem : ln ∈ vs) : Begun ln s.newEpoch ((bootStarted s o vs).lane ln) := by
  unfold bootStarted
  rw [hw]
  refine begun_of_shown (setClaim_shown _ _ ln) ?_
  show Begun ln s.newEpoch ((((s.laneFailures o).startLanes o vs vs none).mapLanes
    (fun ln L => if s.lnIOn ln then L.takePending else L)).lane ln)
  rw [lane_mapLanes, ← newEpoch_laneFailures s o]
  have hstart := startLanes_begun (t := s.laneFailures o) hmem h
  split
  · exact begun_of_shown (startShown_takePending _) hstart
  · exact hstart

/-- In a cold start every lane that meets the conditions votes. -/
theorem bootDone_begun (hw : s.warmFrom o vs = none) (hcauses : s.closedCauses o vs (s.bootImage o (vs.headD .l1)) = [])
    (hother : s.otherHolds (s.bootImage o (vs.headD .l1)) = none) (h : ∀ l : ClxLink, tripsOk (o.trips.link l) = true)
    {ln : LaneId} (hmem : ln ∈ vs) : Begun ln s.newEpoch ((s.bootDone o vs).settle.lane ln) := by
  have hrest : vs.filter (fun ln => !(bootStarters s vs none).contains ln) = [] := by
    refine List.filter_eq_nil_iff.mpr fun m hm => ?_
    show ¬ (!vs.contains m) = true
    rw [List.contains_iff_mem.mpr hm]
    exact Bool.false_ne_true
  rw [bootDone_eq, hw, hrest, hcauses, hother]
  refine settle_of (holdFree_begun ln _) (bootTail_of (holdFree_begun ln _) (bootEnds_restricted_of (holdFree_begun ln _) ?_))
  exact bootStarted_begun hw h hmem

theorem site_bootDone (s : State) (o : BootObs) (vs : List LaneId) : site (s.bootDone o vs).settle =
    site ((bootStarted s o vs).bootEnds (s.closedCauses o vs (s.bootImage o (vs.headD .l1)))
      (s.otherHolds (s.bootImage o (vs.headD .l1)))) := by
  have hsettle : site (s.bootDone o vs).settle = site (s.bootDone o vs) := by
    unfold site
    rw [module_settle, pairOf_settle]
  rw [hsettle, bootDone_eq, site_bootTail]

theorem parts_of_site {s u : State} (h : site u = site s) : u.module = s.module ∧ u.pair = s.pair :=
  ⟨congrArg Prod.fst h, congrArg Prod.snd h⟩

theorem bootDone_standby {p : HwStatus} (hcauses : s.closedCauses o vs (s.bootImage o (vs.headD .l1)) = [])
    (hother : s.otherHolds (s.bootImage o (vs.headD .l1)) = some p) :
    (s.bootDone o vs).settle.module = .standby ∧ (s.bootDone o vs).settle.pair.clm = p.clm - 1 := by
  obtain ⟨hmod, hpair⟩ := parts_of_site (site_bootDone s o vs)
  rw [hmod, hpair, hcauses, hother]
  exact bootEnds_standby _ p

theorem bootDone_restricted (hcauses : s.closedCauses o vs (s.bootImage o (vs.headD .l1)) = [])
    (hother : s.otherHolds (s.bootImage o (vs.headD .l1)) = none) :
    (s.bootDone o vs).settle.module = .restricted ∧ (s.bootDone o vs).settle.pair.listenUntil.isSome = true := by
  obtain ⟨hmod, hpair⟩ := parts_of_site (site_bootDone s o vs)
  rw [hmod, hpair, hcauses, hother]
  exact bootEnds_restricted _

theorem bootComplete_next {t : Nat} (hm : s.module = .boot) (hv : 2 ≤ ((s.touch t).bootVoters o).length) :
    exec (.bootComplete t o) s = .next ((s.touch t).bootDone o ((s.touch t).bootVoters o)).settle :=
  (if_pos (show (s.touch t).module = .boot from hm)).trans (if_neg (not_lt.mpr hv))

theorem bootComplete_halts {t : Nat} (hm : s.module = .boot) (hv : ((s.touch t).bootVoters o).length < 2) :
    exec (.bootComplete t o) s = .next (((s.touch t).laneFailures o).bootHalt.bistAtBoot).settle :=
  (if_pos (show (s.touch t).module = .boot from hm)).trans (if_pos hv)

theorem bootTimeout_halts {t : Nat} (hm : s.module = .boot) (ht : s.change.bootAt + 10000000000 ≤ max s.now t) :
    exec (.bootTimeout t) s = .next (((s.touch t).raiseModule .fault .bootTimeout []).bootHalt).settle :=
  if_pos (And.intro hm ht)

end

/-- Settles O46: HALT by `dead_bootHalt`, the other three ends by `site_bootDone`, and the lanes of a cold start by
`bootDone_begun`. -/
theorem bootOutcome : Obligations.BootOutcome := by
  unfold Obligations.BootOutcome
  intro s t o p s0 vs causes other halted hm
  refine ⟨fun ht => ?_, fun hv => ?_, fun hv => ⟨fun hcauses => ?_, fun hcauses hother => ?_, fun hcauses hother => ?_⟩⟩
  · exact ⟨_, bootTimeout_halts hm ht, dead_settle (dead_bootHalt _)⟩
  · obtain ⟨hlanes, hsite⟩ := bistAtBoot_frame ((s0.laneFailures o).bootHalt)
    exact ⟨_, bootComplete_halts hm hv, dead_settle (dead_of (dead_bootHalt _) hlanes (parts_of_site hsite).1)⟩
  · obtain ⟨hmod, -⟩ := parts_of_site (site_bootDone s0 o vs)
    exact ⟨_, bootComplete_next hm hv, hmod.trans (bootEnds_closed hcauses _ _)⟩
  · obtain ⟨hmod, hpair⟩ := bootDone_standby hcauses hother
    exact ⟨_, bootComplete_next hm hv, hmod, hpair⟩
  · obtain ⟨hmod, hlisten⟩ := bootDone_restricted hcauses hother
    exact ⟨_, bootComplete_next hm hv, hmod, hlisten,
      fun hw htrips ln hmem => bootDone_begun hw hcauses hother htrips hmem⟩

end Sys2Proof.BootRules
end

section
/-! ## Logbook records, repeats and drops (R422, R426-R429) -/

namespace Sys2Proof.LogRules

open Sys2Proof Sys2Proof.Machine Sys2Proof.Laws

/-! ### The length of a record (R426) -/

theorem length_fitTo (n : Nat) (bs : List Byte) : (fitTo n bs).length = n := by
  simp [fitTo]

theorem length_stampBytes (t : LogStamp) (rep : Nat) : (t.bytes rep).length = 26 := by
  unfold LogStamp.bytes cnField
  split <;> simp [Laws.leBytes_length]

/-- 4 bytes of SEQ, 26 of time and REPEAT, 14 to the end of the repeat's time, 76 of DATA, 4 reserved, and the CRC. -/
theorem length_recordBytes (r : LogRec) : r.bytes.length = 128 := by
  simp [LogRec.bytes, LogRec.body, Event.dataBytes, cnField, length_stampBytes, length_fitTo, Laws.leBytes_length]

/-! ### Writing an event -/

section
variable (s : State) (e : Event)

/-- The logbook with a new record of an event in its next slot. -/
def freshLog : Logbook :=
  { s.log with slots := Tbl.set none s.log.slots s.log.slot (some (s.recordOf e))
               newest := some s.log.slot, next := slotAfter s.log.slot, seq := s.log.seq + 1 }

/-- The logbook with an event counted as a repeat of the record `r` in slot `n`. -/
def repeatLog (n : Nat) (r : LogRec) : Logbook :=
  { s.log with slots := Tbl.set none s.log.slots n (some (r.again (e.deferred.getD s.opsec) s.subsec e.cn)) }

/-- Judging LOG_CHANGE_AT_RISK leaves the record slots. -/
theorem slots_judge (g : Logbook) : g.judge.slots = g.slots := rfl

theorem get_freshLog_self : Tbl.get none (freshLog s e).judge.slots s.log.slot = some (s.recordOf e) := by
  rw [slots_judge]
  exact Tbl_get_set_self none s.log.slots s.log.slot (some (s.recordOf e))

theorem get_freshLog_ne {k : Nat} (h : k ≠ s.log.slot) :
    Tbl.get none (freshLog s e).judge.slots k = Tbl.get none s.log.slots k := by
  rw [slots_judge]
  exact Tbl_get_set_ne none s.log.slots (some (s.recordOf e)) h

variable {n : Nat} {x : LogRec}

theorem get_repeatLog_self : Tbl.get none (repeatLog s e n x).judge.slots n =
    some (x.again (e.deferred.getD s.opsec) s.subsec e.cn) := by
  rw [slots_judge]
  exact Tbl_get_set_self none s.log.slots n (some (x.again (e.deferred.getD s.opsec) s.subsec e.cn))

theorem get_repeatLog_ne {k : Nat} (h : k ≠ n) :
    Tbl.get none (repeatLog s e n x).judge.slots k = Tbl.get none s.log.slots k := by
  rw [slots_judge]
  exact Tbl_get_set_ne none s.log.slots (some (x.again (e.deferred.getD s.opsec) s.subsec e.cn)) h

variable {s e}

theorem newestRec_eq_some (h : s.log.newestRec = some x) : ∃ n, s.log.newest = some n ∧ Tbl.get none s.log.slots n = some x := by
  unfold Logbook.newestRec at h
  split at h
  · cases h
  next n hn => exact ⟨n, hn, h⟩

theorem newestRec_of_slot (hn : s.log.newest = some n) (hx : Tbl.get none s.log.slots n = some x) : s.log.newestRec = some x := by
  unfold Logbook.newestRec
  rw [hn]
  exact hx

theorem writeRecord_first (h : s.log.newestRec = none) : s.writeRecord e = { s with log := (freshLog s e).judge } := by
  unfold State.writeRecord
  dsimp only
  split
  next hr _ =>
    rw [h] at hr
    cases hr
  next => rfl

theorem writeRecord_after (hr : s.log.newestRec = some x) (hn : s.log.newest = some n) : s.writeRecord e =
    if isRepeat x e (e.deferred.getD s.opsec) s.subsec then { s with log := (repeatLog s e n x).judge }
    else { s with log := (freshLog s e).judge } := by
  unfold State.writeRecord
  dsimp only
  split
  next hy hm =>
    cases hr.symm.trans hy
    cases hn.symm.trans hm
    rfl
  next hno => exact absurd hn (hno x n hr)

/-- An event that repeats no record becomes a record of its own. -/
theorem writeRecord_fresh (h : s.log.newestRec = none ∨
    s.log.newestRec = some x ∧ isRepeat x e (e.deferred.getD s.opsec) s.subsec = false) :
    s.writeRecord e = { s with log := (freshLog s e).judge } := by
  rcases h with h | ⟨hx, hrep⟩
  · exact writeRecord_first h
  · obtain ⟨n, hn, -⟩ := newestRec_eq_some hx
    exact (writeRecord_after hx hn).trans (if_neg (by rw [hrep]; exact Bool.false_ne_true))

/-- A repeat is counted in the newest record. -/
theorem writeRecord_repeat (hn : s.log.newest = some n) (hx : Tbl.get none s.log.slots n = some x)
    (hrep : isRepeat x e (e.deferred.getD s.opsec) s.subsec = true) :
    s.writeRecord e = { s with log := (repeatLog s e n x).judge } :=
  (writeRecord_after (newestRec_of_slot hn hx) hn).trans (if_pos hrep)

theorem writeRecord_frame (s : State) (e : Event) :
    (s.writeRecord e).lanes = s.lanes ∧ (s.writeRecord e).module = s.module ∧
    (s.writeRecord e).log.q = s.log.q ∧ (s.writeRecord e).log.dropped = s.log.dropped := by
  unfold State.writeRecord
  dsimp only
  split
  · split <;> exact ⟨rfl, rfl, rfl, rfl⟩
  · exact ⟨rfl, rfl, rfl, rfl⟩

end

/-! ### LOG_EVENT -/

/-- The module as the controller takes the oldest event from its queue. -/
def logTaken (s : State) (t : Nat) (r : List Event) : State :=
  { s.touch t with log := { s.log with q := r } }

/-- The module as the controller turns to the events it has dropped. -/
def dropsTaken (s : State) (t : Nat) : State :=
  { s.touch t with log := { s.log with dropped := 0 } }

/-- The LOG record's event: how many events were dropped (R428). -/
def dropEvent (s : State) (t : Nat) : Event :=
  ⟨.log, .logDrop, .svc, [((s.log.dropped : Nat) : Int)], (s.touch t).eventCn .svc, none⟩

section
variable {s : State} {t : Nat} {e : Event} {r : List Event}

theorem logEvent_takes (hw : s.logWrites = true) (hd : s.log.dropped = 0) (hq : s.log.q = e :: r) :
    exec (.logEvent t) s = .next ((logTaken s t r).writeRecord e) := by
  have hno : ¬ (0 < s.log.dropped ∧ s.log.q.length < logQueueCap) := fun h => absurd h.1 (by omega)
  refine (if_pos hw).trans ((if_neg hno).trans ?_)
  show (match s.log.q with | [] => _ | e :: r => _) = _
  rw [hq] <;> rfl

theorem logEvent_drops (hw : s.logWrites = true) (hd : 0 < s.log.dropped) (hroom : s.log.q.length < 256) :
    exec (.logEvent t) s = .next ((dropsTaken s t).writeRecord (dropEvent s t)) :=
  (if_pos hw).trans (if_pos ⟨hd, hroom⟩)

end

theorem slotAfter_inside {n : Nat} (h : n + 1 < 524288) : slotAfter n = n + 1 := if_pos h

/-- Settles O48: a repeat rewrites the newest record and keeps SEQ; any other event takes the next slot. -/
theorem logbookRecords : Obligations.LogbookRecords := by
  unfold Obligations.LogbookRecords
  intro s t e r n x g s0 opsec hw
  refine ⟨fun hd hq => ⟨fun hnew => ?_, fun hn hx hrep => ?_⟩, fun hd hroom => ?_, slotAfter_inside, rfl⟩
  · have hfresh := writeRecord_fresh (s := logTaken s t r) (e := e) (x := x) hnew
    refine ⟨_, (logTaken s t r).recordOf e, (logEvent_takes hw hd hq).trans (congrArg _ hfresh), rfl, rfl, rfl, rfl,
      get_freshLog_self _ _, rfl, rfl, rfl, rfl, rfl, rfl, rfl, rfl, rfl, rfl, rfl, rfl,
      length_recordBytes _, fun k hk => get_freshLog_ne _ _ hk, rfl, rfl⟩
  · have hagain := writeRecord_repeat (s := logTaken s t r) (e := e) hn hx hrep
    exact ⟨_, (logEvent_takes hw hd hq).trans (congrArg _ hagain), rfl, rfl, rfl, get_repeatLog_self _ _,
      fun k hk => get_repeatLog_ne _ _ hk, rfl, rfl⟩
  · obtain ⟨hlanes, hmodule, hq, hdropped⟩ := writeRecord_frame (dropsTaken s t) (dropEvent s t)
    refine ⟨_, logEvent_drops hw hd hroom, hdropped, hq, ⟨hlanes, hmodule⟩, fun hnone => ?_⟩
    rw [writeRecord_fresh (s := dropsTaken s t) (x := x) (Or.inl hnone)]
    exact ⟨_, get_freshLog_self _ _, rfl, rfl⟩

end Sys2Proof.LogRules
end

section
/-! ## Snapshot windows, banks and black-box frames (R433-R438, R462) -/

namespace Sys2Proof.SnapRules

open Sys2Proof Sys2Proof.Machine Sys2Proof.Laws
open Sys2Proof.ServiceFrame (Vital vital_latchLane vital_latchAll vital_updLane vitals)

theorem views_of_vital {s u : State} (h : Vital s u) (ln : LaneId) :
    (u.lane ln).views = (s.lane ln).views ∧ (u.lane ln).switches = (s.lane ln).switches := by
  have hv := h.lane ln
  simp only [vitals, Prod.mk.injEq] at hv
  obtain ⟨hviews, hswitches, -⟩ := hv
  exact ⟨hviews, hswitches⟩

theorem laneState_of_vital {s u : State} (h : Vital s u) (ln : LaneId) : u.laneState ln = s.laneState ln :=
  congrArg (fun v => v.get ln) (views_of_vital h ln).1

/-! ### Latching the network banks (R434) -/

theorem bank_latchNet (qs : Tbl Queue) (L : Lane) : (L.latchNet qs).bank.isSome = true := by
  unfold Lane.latchNet
  split
  next h => rw [h]; rfl
  · rfl

theorem lane_latchLane_self (s : State) {ln : LaneId} (h : s.laneState ln ≠ .laneOff) :
    (s.latchLane ln).lane ln = (s.lane ln).latchNet (s.laneQueues ln) := by
  unfold State.latchLane
  rw [if_neg h, lane_updLane_self]

theorem lane_latchLane_ne (s : State) {ln m : LaneId} (h : m ≠ ln) : (s.latchLane ln).lane m = s.lane m := by
  unfold State.latchLane
  split
  · rfl
  · exact lane_updLane_ne _ _ h

/-- A bank that a lane has latched stays while another lane, or the same, latches. -/
theorem bank_latchLane (s : State) (ln m : LaneId) (h : (s.lane m).bank.isSome = true) :
    ((s.latchLane ln).lane m).bank.isSome = true := by
  by_cases hm : m = ln
  · subst hm
    unfold State.latchLane
    split
    · exact h
    · rw [lane_updLane_self]
      exact bank_latchNet _ _
  · rw [lane_latchLane_ne s hm]
    exact h

theorem bank_foldl_latchLane (xs : List LaneId) (s : State) {m : LaneId} (hon : s.laneState m ≠ .laneOff)
    (h : (s.lane m).bank.isSome = true ∨ m ∈ xs) : ((xs.foldl State.latchLane s).lane m).bank.isSome = true := by
  induction xs generalizing s with
  | nil => exact h.resolve_right List.not_mem_nil
  | cons ln xs ih =>
    refine ih (s.latchLane ln) (by rwa [laneState_of_vital (vital_latchLane s ln)]) ?_
    rcases h with h | h
    · exact Or.inl (bank_latchLane s ln m h)
    · rcases List.mem_cons.1 h with rfl | h
      · rw [lane_latchLane_self s hon]
        exact Or.inl (bank_latchNet _ _)
      · exact Or.inr h

theorem lanes_latchAll (s : State) : s.latchAll.lanes = (LaneId.all.foldl State.latchLane s).lanes := by
  unfold State.latchAll
  rfl

theorem bank_latchAll (s : State) {m : LaneId} (hon : s.laneState m ≠ .laneOff) : (s.latchAll.lane m).bank.isSome = true := by
  have h := bank_foldl_latchLane LaneId.all s hon (Or.inr (by cases m <;> decide))
  unfold State.lane at h ⊢
  rwa [lanes_latchAll]

/-! ### The request of a source (R433-R435) -/

/-- The module once the network has acknowledged the request of a source. -/
def acked (s : State) (x : SnapSource) : State :=
  match sourceLane x with
  | some ln => s.updLane ln (fun L => { L with snapUnacked := false })
  | none => s

/-- The module with the frame of a trigger put into assembly over the banks as they stand, and its window open. -/
def triggered (s : State) (x : SnapSource) (reg : Nat) (rs : Tri (Option (Nat × Nat × Nat))) : State :=
  let u := s.stage (s.frame (sourceMask x) (protects x) false reg rs)
  { u with snap := { u.snap with windowAt := some u.now } }

theorem triggered_spec (s : State) (x : SnapSource) (reg : Nat) (rs : Tri (Option (Nat × Nat × Nat))) :
    (triggered s x reg rs).snap.windowAt = some s.now ∧
    (∃ g, (triggered s x reg rs).snap.staged = some g ∧ g.sources = sourceMask x) ∧
    (triggered s x reg rs).snap.svcBank = s.snap.svcBank ∧ (triggered s x reg rs).lanes = s.lanes ∧
    Vital s (triggered s x reg rs) := ⟨rfl, ⟨_, rfl, rfl⟩, rfl, rfl, rfl, rfl, rfl, rfl⟩

/-- The module once a request has joined the frame in assembly. -/
def joinedFrame (s : State) (x : SnapSource) (count : Bool) (reg : Nat) (rs : Tri (Option (Nat × Nat × Nat))) : Snap :=
  { s.snap with staged := s.snap.staged.map (fun f => f.join x count reg rs) }

/-- A grouping window is open. -/
def windowOpen (s : State) : Bool :=
  match s.snap.windowAt with
  | none => false
  | some w => decide (s.now ≤ w + 10000)

/-- What the network does with a request it has acknowledged. -/
def taken (s : State) (x : SnapSource) (reg : Nat) (rs : Tri (Option (Nat × Nat × Nat))) : State :=
  if windowOpen s then { s with snap := joinedFrame s x false reg rs }
  else if s.frozen then { s with snap := { joinedFrame s x true reg rs with windowAt := some s.now } }
  else triggered s.latchAll x reg rs

theorem snapTake_eq (s : State) (x : SnapSource) (reg : Nat) :
    s.snapTake x reg = taken (acked s x) x reg (s.reasonsOf x) := by
  unfold State.snapTake acked
  cases sourceLane x <;> rfl

section
variable (s : State) (x : SnapSource)

theorem vital_acked : Vital s (acked s x) := by
  unfold acked
  split
  · exact vital_updLane _ _ _ rfl
  · exact ⟨rfl, rfl, rfl, rfl⟩

theorem snap_acked : (acked s x).snap = s.snap ∧ (acked s x).now = s.now := by
  unfold acked
  split <;> exact ⟨rfl, rfl⟩

theorem bank_acked (m : LaneId) : ((acked s x).lane m).bank = (s.lane m).bank := by
  unfold acked
  split
  next ln _ =>
    by_cases hm : m = ln
    · subst hm
      rw [lane_updLane_self]
    · rw [lane_updLane_ne _ _ hm]
  · rfl

theorem any_toList (T : Tri Lane) (p : Lane → Bool) : T.toList.any p = LaneId.all.any (fun ln => p (T.get ln)) := rfl

theorem frozen_acked : (acked s x).frozen = s.frozen := by
  have hbank : ∀ m, ((acked s x).lanes.get m).bank = (s.lanes.get m).bank := bank_acked s x
  unfold State.frozen
  rw [any_toList, any_toList, (snap_acked s x).1]
  simp only [hbank]

end

section
variable {s : State} {x : SnapSource} {reg : Nat}

/-- Outside a window and with no bank frozen, a request is the trigger of a new frame. -/
theorem taken_triggers {rs : Tri (Option (Nat × Nat × Nat))} (hw : s.snap.windowAt = none) (hf : s.frozen = false) :
    taken s x reg rs = triggered s.latchAll x reg rs := by
  have hclosed : windowOpen s = false := by rw [windowOpen, hw]
  unfold taken
  rw [hclosed, hf]
  exact (if_neg Bool.false_ne_true).trans (if_neg Bool.false_ne_true)

/-- Within the window, a request joins the frame in assembly. -/
theorem taken_joins {w : Nat} {rs : Tri (Option (Nat × Nat × Nat))} (hw : s.snap.windowAt = some w)
    (hin : s.now ≤ w + 10000) : taken s x reg rs = { s with snap := joinedFrame s x false reg rs } :=
  if_pos (by rw [windowOpen, hw]; exact decide_eq_true hin)

theorem sourceMask_bit (x : SnapSource) : (sourceMask x).getLsbD (sourceBit x) = true := by
  have hbit : sourceBit x < 16 := by
    cases x with
    | tally ln | exclusion ln => cases ln <;> decide
    | register => exact (by decide : 6 < 16)
    | snapIn => decide
  unfold sourceMask
  rw [BitVec.getLsbD_shiftLeft]
  simp [hbit]

theorem now_latchAll (s : State) : s.latchAll.now = s.now := (SteadyFrame.steady_latchAll s).2.1

theorem svcBank_latchAll (s : State) : s.latchAll.snap.svcBank.isSome = true := by
  unfold State.latchAll
  rfl

end

/-- What a trigger leaves: the window open, the frame with its source in assembly, the banks latched, the vote and the
switches as they were. -/
theorem snapTake_spec {s : State} {x : SnapSource} {reg : Nat} (hw : s.snap.windowAt = none) (hf : s.frozen = false) :
    (s.snapTake x reg).snap.windowAt = some s.now ∧
    (∃ g, (s.snapTake x reg).snap.staged = some g ∧ g.sources.getLsbD (sourceBit x) = true) ∧
    (∀ m, s.laneState m ≠ .laneOff → ((s.snapTake x reg).lane m).bank.isSome = true) ∧
    (s.snapTake x reg).snap.svcBank.isSome = true ∧ (s.snapTake x reg).module = s.module ∧
    ∀ m, ((s.snapTake x reg).lane m).views = (s.lane m).views ∧ ((s.snapTake x reg).lane m).switches = (s.lane m).switches := by
  obtain ⟨hsnap, hnow⟩ := snap_acked s x
  obtain ⟨hwindow, ⟨g, hg, hsources⟩, hsvc, hlanes, hframe⟩ :=
    triggered_spec (acked s x).latchAll x reg (s.reasonsOf x)
  have hvital := (vital_acked s x).trans ((vital_latchAll (acked s x)).trans hframe)
  rw [snapTake_eq, taken_triggers (by rw [hsnap, hw]) (by rw [frozen_acked, hf])]
  refine ⟨hwindow.trans (congrArg some ((now_latchAll _).trans hnow)), ⟨g, hg, ?_⟩, fun m hm => ?_, ?_,
    hvital.2.1, views_of_vital hvital⟩
  · rw [hsources]
    exact sourceMask_bit x
  · rw [State.lane, hlanes]
    exact bank_latchAll (acked s x) (by rwa [laneState_of_vital (vital_acked s x)])
  · rw [hsvc]
    exact svcBank_latchAll _

/-! ### The frame slots (R437, R438) -/

theorem olderSlot_mem (x : Snap) (a b : Nat) : olderSlot x a b = a ∨ olderSlot x a b = b := by
  unfold olderSlot
  split
  · split
    · exact Or.inr rfl
    · exact Or.inl rfl
  · exact Or.inl rfl
  · exact Or.inr rfl

theorem oldestSlot_mem {x : Snap} {ns : List Nat} {n : Nat} (h : oldestSlot x ns = some n) : n ∈ ns := by
  induction ns generalizing n with
  | nil => cases h
  | cons a r ih =>
    unfold oldestSlot at h
    split at h
    · cases h
      exact List.mem_cons_self
    next m hm =>
      cases h
      rcases olderSlot_mem x a m with h | h <;> rw [h]
      · exact List.mem_cons_self
      · exact List.mem_cons_of_mem _ (ih hm)

/-- A slot chosen among those not PROTECTED holds no PROTECTED frame. -/
theorem prot_of_mem_slotsWith {x : Snap} {skip : List Nat} {n : Nat} {g : BbFrame} (h : n ∈ x.slotsWith skip false)
    (hg : x.frameAt n = some g) : g.prot = false := by
  obtain ⟨-, hn⟩ := List.mem_filter.1 h
  rw [hg] at hn
  exact of_decide_eq_true (Bool.and_eq_true_iff.1 hn).2

/-- The snapshot state in which a frame finds its slot. -/
def roomFor (s : State) (f : BbFrame) : Snap := if f.prot then s.snap.makeRoom s.badFrames else s.snap

/-- The snapshot state once a frame stands in its slot. -/
def frameStored (s : State) (f : BbFrame) (n : Nat) : Snap :=
  { roomFor s f with ring := Tbl.set none (roomFor s f).ring n (some f), staged := none }

section
variable {s : State} {f : BbFrame} {n : Nat}

theorem frameWritten_eq (hs : s.snap.staged = some f) (hp : s.bbPower = true)
    (ho : oldestSlot (roomFor s f) ((roomFor s f).slotsWith s.badFrames false) = some n) :
    exec .blackboxFrameWritten s = .next (State.raise { s with snap := frameStored s f n } .snap .snapFrame .svc
      [(f.seq.toNat : Int), (f.sources.toNat : Int), ((n : Nat) : Int)]) := by
  show execBlackboxFrameWritten s = _
  unfold execBlackboxFrameWritten
  split
  next h => cases h.symm.trans hs
  next g h =>
    cases h.symm.trans hs
    refine (if_pos hp).trans ?_
    show (match oldestSlot (roomFor s f) ((roomFor s f).slotsWith s.badFrames false) with
      | none => _
      | some n => _) = _
    rw [ho] <;> rfl

theorem frameAt_stored_self : (frameStored s f n).frameAt n = some f :=
  Tbl_get_set_self none (roomFor s f).ring n (some f)

theorem frameAt_stored_ne {k : Nat} (h : k ≠ n) : (frameStored s f n).frameAt k = (roomFor s f).frameAt k :=
  Tbl_get_set_ne none (roomFor s f).ring (some f) h

end

/-! ### A lane that latches its own bank (R435) -/

/-- The module once a lane has latched its own bank. -/
def selfLatched (s : State) (ln : LaneId) : State :=
  (s.latchLane ln).updLane ln (fun L => { L with snapUnacked := false })

theorem snapLocalLatch_lanes {s : State} {ln : LaneId} (h : (s.lane ln).snapUnacked = true) :
    ∃ u, exec (.snapLocalLatch ln) s = .next u ∧ u.lanes = (selfLatched s ln).lanes := by
  show ∃ u, execSnapLocalLatch ln s = .next u ∧ _
  unfold execSnapLocalLatch
  rw [if_pos h]
  dsimp only
  split
  · exact ⟨_, rfl, rfl⟩
  · split <;> exact ⟨_, rfl, rfl⟩

theorem vital_selfLatched (s : State) (ln : LaneId) : Vital s (selfLatched s ln) :=
  (vital_latchLane s ln).trans (vital_updLane _ _ _ rfl)

/-! ### The settled obligation -/

section
variable {s : State} {t : Nat}

theorem snapRequest_eq {src : SnapSource} (hup : s.uplink.up = true) :
    exec (.snapRequest src t) s = .next ((s.touch t).snapTake src 0) := if_pos hup

theorem snapinEdge_eq {held : Nat} (hup : s.uplink.up = true) (hheld : 10000 ≤ held) :
    exec (.snapinEdge held t) s = .next ((s.touch t).snapTake .snapIn 0) := if_pos ⟨hup, hheld⟩

theorem snpTrigGo_eq {v : U32} (hon : s.svcOn = true) (hv : v.getLsbD 31 = true) : exec (.snpTrigGo v t) s =
    .next (((s.touch t).wrote .snp).snapTake (.register (decide (s.module = .halt))) (v.toNat % 65536)) :=
  (if_pos hon).trans (if_pos hv)

theorem snpBankRelease_eq {v : U32} (hon : s.svcOn = true) :
    exec (.snpBankRelease v) s = .next ((s.wrote .snp).release v) := if_pos hon

end

/-- Settles O49: a trigger latches every bank, a request within its window joins the frame, and a frame never goes over a
PROTECTED one. -/
theorem snapshotsAndFrames : Obligations.SnapshotsAndFrames := by
  unfold Obligations.SnapshotsAndFrames
  intro s src t held ln v f n outcome
  refine ⟨fun hup hw hf => ⟨⟨_, snapRequest_eq hup, snapTake_spec (s := s.touch t) hw hf⟩,
      fun hheld => ⟨_, snapinEdge_eq hup hheld, snapTake_spec (s := s.touch t) (x := .snapIn) hw hf⟩⟩,
    fun hon hw hf hv => ⟨_, snpTrigGo_eq hon hv,
      snapTake_spec (s := (s.touch t).wrote .snp) (x := .register (decide (s.module = .halt))) hw hf⟩,
    fun hup hin hs => ?joins, rfl, fun hun hon => ?own, fun hs hp => ?frame, fun hon => ?release⟩
  case joins =>
    obtain ⟨w, hw, hin⟩ := hin
    obtain ⟨hsnap, hnow⟩ := snap_acked (s.touch t) src
    refine ⟨_, snapRequest_eq hup, ?_⟩
    rw [snapTake_eq, taken_joins ((congrArg Snap.windowAt hsnap).trans hw) (by rw [hnow]; exact hin)]
    refine ⟨congrArg (·.planeBanks) hsnap, congrArg (·.svcBank) hsnap, bank_acked (s.touch t) src,
      f.join src false 0 ((s.touch t).reasonsOf src), ?_, rfl, rfl⟩
    exact congrArg (Option.map _) ((congrArg Snap.staged hsnap).trans hs)
  case own =>
    obtain ⟨u, hu, hlanes⟩ := snapLocalLatch_lanes hun
    have hlane : ∀ m, u.lane m = (selfLatched s ln).lane m := fun m => congrArg (fun T => T.get m) hlanes
    have hself : (selfLatched s ln).lane ln =
        { (s.lane ln).latchNet (s.laneQueues ln) with snapUnacked := false } := by
      unfold selfLatched
      rw [lane_updLane_self, lane_latchLane_self s hon]
    refine ⟨u, hu, ?_, ?_, ?_, fun m hm => ?_⟩
    · rw [hlane, hself]
      exact bank_latchNet _ _
    · rw [hlane, hself]
    · rw [hlane]
      exact (views_of_vital (vital_selfLatched s ln) ln).1
    · rw [hlane]
      exact (lane_updLane_ne _ _ hm).trans (lane_latchLane_ne s hm)
  case frame =>
    intro x ho
    refine ⟨⟨_, frameWritten_eq hs hp ho, ?_, ?_, fun k hk => ?_, WharfRules.vitalSame_raise ..⟩,
      fun g hg => prot_of_mem_slotsWith (oldestSlot_mem ho) hg⟩
    · rw [snap_raise]
      exact frameAt_stored_self
    · rw [snap_raise]
      rfl
    · rw [snap_raise]
      exact frameAt_stored_ne hk
  case release =>
    refine ⟨_, snpBankRelease_eq hon, fun m => ?_, rfl, rfl⟩
    have hlane : (((s.wrote .snp).release v).lane m) = { s.lane m with
        bank := if v.getLsbD m.idx then none else (s.lane m).bank
        xbank := if v.getLsbD (6 + m.idx) then none else (s.lane m).xbank } := lane_mapLanes _ _ m
    rw [hlane]
    exact ⟨rfl, rfl, rfl⟩

end Sys2Proof.SnapRules
end

section
/-! ## The lock, the access rules of the address map, and the mirrors (R14, R448-R450) -/

namespace Sys2Proof.RegisterRules

open Sys2Proof Sys2Proof.Machine Sys2Proof.Laws Sys2Proof.QueueRules
open Sys2Proof.WharfRules (lanes_settle_flag)
open Sys2Proof.ModuleRules (outer_settle)

/-! ### The lock of a block (R450) -/

theorem blkIdx_injective {b c : Blk} (h : blkIdx b = blkIdx c) : b = c := by
  cases b <;> cases c <;> simp_all [blkIdx]

theorem lock_putLock_ne (s : State) {b c : Blk} (k : Lock) (h : c ≠ b) : (s.putLock b k).lock c = s.lock c :=
  Tbl_get_set_ne ({} : Lock) s.regs.locks k (fun hi => h (blkIdx_injective hi))

theorem vitalSame_putLock (s : State) (b : Blk) (k : Lock) : vitalSame s (s.putLock b k) := ⟨rfl, rfl⟩

section
variable (k : Lock) (now : Nat)

theorem keyWord_first : keyWord k 0xA5C3 now = { k with seq1 := true } := rfl

theorem keyWord_zero : keyWord k 0 now = { k with seq1 := false, unlocked := false } := rfl

theorem keyWord_second (h : k.seq1 = true) : keyWord k 0x3C5A now = { k with seq1 := false, unlocked := true, since := now } :=
  (if_neg (by decide)).trans ((if_neg (by decide)).trans (if_pos ⟨rfl, h⟩))

theorem keyWord_alone (h : k.seq1 = false) : keyWord k 0x3C5A now = { k with seq1 := false } :=
  (if_neg (by decide)).trans ((if_neg (by decide)).trans
    (if_neg (fun hk => absurd (h.symm.trans hk.2) Bool.false_ne_true)))

theorem keyWord_other {v : U32} (h0 : v ≠ 0) (h1 : v ≠ 0xA5C3) (h2 : v ≠ 0x3C5A) : keyWord k v now = { k with seq1 := false } := by
  unfold keyWord
  rw [if_neg h0, if_neg h1, if_neg (fun h => h2 h.1)]

end

section
variable {s : State} {b : Blk} {t : Nat}

theorem lockKeyWrite_eq {v : U32} (hon : s.svcOn = true) : exec (.lockKeyWrite b v t) s =
    .next ((s.touch t).putLock b (keyWord ((s.lock b).lapse (max s.now t)) v (max s.now t))) := if_pos hon

theorem lockRead_eq (hon : s.svcOn = true) : exec (.lockRead b) s =
    .next { s.putLock b { s.lock b with lwCount := 0 } with
      regs := { (s.putLock b { s.lock b with lwCount := 0 }).regs with readOut := (s.lock b).word } } := if_pos hon

theorem lockTimeout_eq (hon : s.svcOn = true) (hu : (s.lock b).unlocked = true)
    (hlate : (s.lock b).since + 10000000 ≤ max s.now t) :
    exec (.lockTimeout b t) s = .next ((s.touch t).putLock b { s.lock b with unlocked := false }) :=
  (if_pos hon).trans (congrArg ok (if_pos ⟨hu, hlate⟩))

end

/-! ### A write at an address (R14, R448, R449) -/

section
variable {s : State} {addr bits t : Nat} {w : U64}

theorem registerWrite_badWidth (hon : s.svcOn = true) (h : bits ≠ 32 ∧ bits ≠ 64 ∨ addr % (bits / 8) ≠ 0) :
    exec (.registerWrite addr bits w t) s = .next (s.touch t).badWidth.settle := by
  have hp : ¬ (!(s.touch t).svcOn) = true := by rw [show (s.touch t).svcOn = true from hon]; decide
  exact (if_neg hp).trans (if_pos h)

/-- An access of 32 bits that is aligned goes on to the address map. -/
theorem registerWrite_aligned (hon : s.svcOn = true) (h4 : addr % 4 = 0) : exec (.registerWrite addr 32 w t) s =
    if inMirror addr then fin { s.touch t with regs := { s.regs with mirrorWr := s.regs.mirrorWr + 1 } }
    else match blkAt addr with
      | some (b, off) => fin ((s.touch t).writeBlk b addr off 32 w t)
      | none => fin (s.touch t) := by
  have hp : ¬ (!(s.touch t).svcOn) = true := by rw [show (s.touch t).svcOn = true from hon]; decide
  have hbits : ¬(((32 : Nat) ≠ 32 ∧ (32 : Nat) ≠ 64) ∨ addr % (32 / 8) ≠ 0) := by omega
  exact (if_neg hp).trans (if_neg hbits)

theorem registerWrite_mirror (hon : s.svcOn = true) (h4 : addr % 4 = 0) (hm : inMirror addr = true) :
    exec (.registerWrite addr 32 w t) s =
      .next (State.settle { s.touch t with regs := { s.regs with mirrorWr := s.regs.mirrorWr + 1 } }) :=
  (registerWrite_aligned hon h4).trans (if_pos hm)

theorem registerWrite_none (hon : s.svcOn = true) (h4 : addr % 4 = 0) (hm : inMirror addr = false) (hb : blkAt addr = none) :
    exec (.registerWrite addr 32 w t) s = .next (s.touch t).settle := by
  refine (registerWrite_aligned hon h4).trans ((if_neg (by rw [hm]; exact Bool.false_ne_true)).trans ?_)
  rw [hb] <;> rfl

theorem is64_lockKey (b : Blk) : is64 b 0xFFF8 = false := by
  cases b <;> decide

/-- LOCK_KEY stands at the same offset of every block. -/
theorem registerWrite_lockKey {b : Blk} {u : State} (hon : s.svcOn = true) (h4 : addr % 4 = 0) (hm : inMirror addr = false)
    (hb : blkAt addr = some (b, 0xFFF8)) (hu : exec (.lockKeyWrite b (w.setWidth 32) t) (s.touch t) = .next u) :
    exec (.registerWrite addr 32 w t) s = .next u.settle := by
  have hblk : (s.touch t).writeBlk b addr 0xFFF8 32 w t = u := by
    refine (if_pos rfl).trans ((if_neg (by rw [is64_lockKey]; exact Bool.false_ne_true)).trans ((if_pos rfl).trans ?_))
    exact congrArg (fun r => after r (s.touch t)) hu
  refine (registerWrite_aligned hon h4).trans ((if_neg (by rw [hm]; exact Bool.false_ne_true)).trans ?_)
  rw [hb, ← hblk] <;> rfl

/-- What settling leaves where the flag of the two-lane mode stands right. -/
theorem settle_quiet {u : State} (h : u.flagOk) : vitalSame u u.settle ∧ u.settle.queues = u.queues ∧ u.settle.chk = u.chk ∧
    u.settle.regs = u.regs := by
  obtain ⟨hlanes, -, hqueues, hregs, hmodule⟩ := lanes_settle_flag h
  have hchk := congrArg State.chk (outer_settle u)
  exact ⟨⟨hlanes, hmodule⟩, hqueues, hchk, hregs⟩

end

/-! ### The mirrors (R449) -/

theorem mirrorRefresh_eq {s : State} {ln : LaneId} (hup : s.uplink.up = true) (hpg : s.power.pg.getLsbD (6 + ln.idx) = true)
    (hon : s.laneState ln ≠ .laneOff) : exec (.mirrorRefresh ln) s = .next { s with regs := { s.regs with
      mirrors := s.regs.mirrors.set ln
        (some ((s.lane ln).netBank (s.queues.filter (fun e => decide (queueLane e.1 = some ln)))))
      mirrorCn := s.regs.mirrorCn.set ln (s.lane ln).cn } } := if_pos ⟨hup, hpg, hon⟩

/-- Settles O50: the lock follows the words of its key, and an access the map does not take changes its count alone. -/
theorem lockAndAddressMap : Obligations.LockAndAddressMap := by
  unfold Obligations.LockAndAddressMap
  intro s b v t addr bits w ln k hon
  refine ⟨⟨_, lockKeyWrite_eq hon, vitalSame_putLock _ _ _, ?_⟩, ⟨_, lockRead_eq hon, rfl, ?_, ?_, rfl, rfl⟩,
    fun hu hlate => ⟨_, lockTimeout_eq hon hu hlate, ?_, vitalSame_putLock _ _ _⟩, fun _ hflag => ?writes,
    fun h4 hm hb => ⟨_, lockKeyWrite_eq hon, registerWrite_lockKey hon h4 hm hb (lockKeyWrite_eq hon)⟩,
    fun hup hpg hoff => ⟨_, mirrorRefresh_eq hup hpg hoff, Tri_get_set_self .., ⟨_, Tri_get_set_self .., rfl, rfl, rfl, rfl⟩,
      rfl, rfl⟩⟩
  · rw [lock_putLock_self]
    refine ⟨?_, ?_, ?_, ?_, ?_, fun c hc => lock_putLock_ne _ _ hc⟩
    · rintro rfl
      exact ⟨rfl, rfl⟩
    · rintro rfl hk
      rw [keyWord_second _ _ hk]
      exact ⟨rfl, rfl, rfl⟩
    · rintro rfl hk
      rw [keyWord_alone _ _ hk]
      exact ⟨rfl, rfl⟩
    · rintro rfl
      exact ⟨rfl, rfl⟩
    · intro h0 h1 h2
      rw [keyWord_other _ _ h0 h1 h2]
      exact ⟨rfl, rfl⟩
  · exact congrArg Lock.lwCount (lock_putLock_self s b { s.lock b with lwCount := 0 })
  · exact (congrArg Lock.unlocked (lock_putLock_self s b { s.lock b with lwCount := 0 })).trans rfl
  · rw [lock_putLock_self]
  case writes =>
    refine ⟨fun hbad => ⟨_, registerWrite_badWidth hon hbad, ?_⟩, ?_, ?_⟩
    · exact settle_quiet (u := (s.touch t).badWidth) hflag
    · rintro rfl h4 hm
      exact ⟨_, registerWrite_mirror hon h4 hm, settle_quiet
        (u := { s.touch t with regs := { s.regs with mirrorWr := s.regs.mirrorWr + 1 } }) hflag⟩
    · rintro rfl h4 hm hb
      obtain ⟨hvital, -, -, hregs⟩ := settle_quiet (u := s.touch t) hflag
      exact ⟨_, registerWrite_none hon h4 hm hb, hvital, hregs⟩

end Sys2Proof.RegisterRules
end

section
/-! ## The check engines and the PTP registers (R311, R457-R460, R464) -/

namespace Sys2Proof.EngineRules

open Sys2Proof Sys2Proof.Machine Sys2Proof.Laws Sys2Proof.QueueRules
open Sys2Proof.WharfRules (vitalSame_raise)

/-! ### What a command does to one engine -/

@[simp] theorem chkEngine_putChk_self (s : State) (n : Nat) (e : CheckEngine) : (s.putChk n e).chkEngine n = e :=
  Tbl_get_set_self ({} : CheckEngine) s.chk n e

theorem chkEngine_putChk_ne (s : State) {n k : Nat} (e : CheckEngine) (h : k ≠ n) : (s.putChk n e).chkEngine k = s.chkEngine k :=
  Tbl_get_set_ne ({} : CheckEngine) s.chk e h

theorem vitalSame_putChk (s : State) (n : Nat) (e : CheckEngine) : vitalSame s (s.putChk n e) := ⟨rfl, rfl⟩

section
variable {s : State} {n : Nat}

theorem chkStart_eq {init : Bool} (hon : s.svcOn = true) :
    exec (.chkStart n init) s = .next ((s.wrote .chk).putChk n ((s.chkEngine n).start init)) := if_pos hon

theorem chkValueWrite_eq {v : U64} (hon : s.svcOn = true) :
    exec (.chkValueWrite n v) s = .next ((s.wrote .chk).putChk n ((s.chkEngine n).setValue v)) := if_pos hon

theorem chkScanEnd_eq {err : Option Nat} (hon : s.svcOn = true) :
    exec (.chkScanEnd n err) s = .next (s.putChk n ((s.chkEngine n).finish s.mem err)) := if_pos hon

theorem chkAbort_eq (hon : s.svcOn = true) : exec (.chkAbort n) s =
    .next { (s.wrote .chk).putChk n ((s.chkEngine n).abort s.mem (Config.scanProgress s.draw)) with draw := s.draw + 1 } :=
  if_pos hon

end

/-! ### START, VALUE and the end of a scan (R457-R459) -/

section
variable {e : CheckEngine} {init : Bool} {v : U64} {m : Memory} {o p : Nat}

theorem start_busy (h : e.busy = true) : e.start init = { e with startIgn := true } := if_pos h

theorem start_empty (h : e.busy = false) (hl : e.len = 0) : e.start init = { e with done := true, code := 0, remain := 0 } := by
  unfold CheckEngine.start
  rw [if_neg (by rw [h]; exact Bool.false_ne_true), if_pos hl]

theorem start_width (h : e.busy = false) (hl : e.len ≠ 0)
    (hw : 2 ^ e.w ≤ e.poly.toNat ∨ 2 ^ e.w ≤ e.init.toNat ∨ 2 ^ e.w ≤ e.xorout.toNat) :
    e.start init = { e with done := true, code := 2, remain := e.len } := by
  unfold CheckEngine.start
  rw [if_neg (by rw [h]; exact Bool.false_ne_true), if_neg hl, if_pos hw]

theorem start_narrow (h : e.busy = false) (hl : e.len ≠ 0) (hp : e.poly.toNat < 2 ^ e.w) (hi : e.init.toNat < 2 ^ e.w)
    (hx : e.xorout.toNat < 2 ^ e.w) : e.start init =
      if !scanRegion e.addr e.len then { e with done := true, code := 1, remain := e.len }
      else { e with value := if init then e.init else e.value, busy := true, remain := e.len } := by
  have hw : ¬ (2 ^ e.w ≤ e.poly.toNat ∨ 2 ^ e.w ≤ e.init.toNat ∨ 2 ^ e.w ≤ e.xorout.toNat) := by
    rintro (h | h | h) <;> omega
  unfold CheckEngine.start
  rw [if_neg (by rw [h]; exact Bool.false_ne_true), if_neg hl, if_neg hw]

theorem setValue_busy (h : e.busy = true) : e.setValue v = { e with startIgn := true } := if_pos h

theorem setValue_idle (h : e.busy = false) : e.setValue v = { e with value := v } :=
  if_neg (by rw [h]; exact Bool.false_ne_true)

theorem finish_whole (h : e.busy = true) : e.finish m none = { e with
    value := e.run (Memory.readBytes m e.addr e.len), busy := false, done := true, code := 0, remain := 0 } := by
  refine (if_pos h).trans ?_
  show e.stop m e.len 0 = _
  unfold CheckEngine.stop
  rw [Nat.sub_self]

theorem finish_error (h : e.busy = true) (ho : o < e.len) :
    e.finish m (some o) = e.stop m ((e.addr + o) / 8 * 8 - e.addr) 4 := (if_pos h).trans (if_pos ho)

/-- An abort has processed whole words, or the scan to its end (R459). -/
theorem abort_spec (h : e.busy = true) : ∃ n code, e.abort m p = e.stop m n code ∧ n ≤ e.len ∧
    (code = 3 ∧ (e.addr + n) % 8 = 0 ∨ code = 0 ∧ n = e.len) := by
  have heq : e.abort m p = if (e.addr + p + 7) / 8 * 8 - e.addr < e.len then
      e.stop m ((e.addr + p + 7) / 8 * 8 - e.addr) 3 else e.stop m e.len 0 := if_pos h
  rw [heq]
  split
  next hin => exact ⟨_, 3, rfl, hin.le, Or.inl ⟨rfl, by omega⟩⟩
  · exact ⟨_, 0, rfl, Nat.le_refl _, Or.inr ⟨rfl, rfl⟩⟩

end

/-! ### PTP_MODE and PTP_INCR (R311, R464) -/

section
variable {s : State} {t : Nat} {v : U64} {w : U32} {p : Ptp}

theorem ptpModeWrite_eq (hon : s.svcOn = true) (hu : ((s.lock .ptp).lapse (max s.now t)).unlocked = true) :
    exec (.ptpModeWrite w t) s = .next { lockRestarted s .ptp t with
      ptp := { s.ptp with gx2 := w.getLsbD 0, slew500 := w.getLsbD 1 } } :=
  (if_pos hon).trans (congrArg ok (rwl_of_unlocked 0 _ hu))

/-- INCR, its modes and its range flag do not move with the counter. -/
theorem advance_frame (p : Ptp) (now : Nat) : (p.advance now).incr = p.incr ∧ (p.advance now).gx2Now = p.gx2Now ∧
    (p.advance now).slew500Now = p.slew500Now := ⟨rfl, rfl, rfl⟩

theorem writeIncr_idle (h : p.gx2Now = false) : p.writeIncr v = p := if_neg (by rw [h]; exact Bool.false_ne_true)

theorem writeIncr_taken (h : p.gx2Now = true) (hlo : incrNominal ≤ v.toNat % 2 ^ 40 + slewLimit p.slew500Now)
    (hhi : v.toNat % 2 ^ 40 ≤ incrNominal + slewLimit p.slew500Now) :
    p.writeIncr v = { p with incr := BitVec.ofNat 40 (v.toNat % 2 ^ 40) } :=
  (if_pos h).trans (if_neg (by omega))

theorem writeIncr_refused (h : p.gx2Now = true) (hout : v.toNat % 2 ^ 40 + slewLimit p.slew500Now < incrNominal ∨
    incrNominal + slewLimit p.slew500Now < v.toNat % 2 ^ 40) :
    p.writeIncr v = { p with incrRange := true, incrRefused := p.incrRefused + 1 } :=
  (if_pos h).trans (if_pos hout)

theorem ptpIncrWrite_spec (hon : s.svcOn = true) : ∃ u, exec (.ptpIncrWrite v) s = .next u ∧ vitalSame s u ∧
    u.ptp = (s.ptp.advance s.now).writeIncr v := by
  refine ⟨_, if_pos hon, ?_⟩
  split
  · exact ⟨vitalSame_raise .., ptp_raise ..⟩
  · exact ⟨⟨rfl, rfl⟩, rfl⟩

end

/-- Settles O52: an engine judges START before it scans, and INCR follows a write within the slew limit alone. -/
theorem checkEnginesAndPtpRegisters : Obligations.CheckEnginesAndPtpRegisters := by
  unfold Obligations.CheckEnginesAndPtpRegisters
  intro s n o v w t init e hon
  refine ⟨fun hidle => ⟨⟨_, chkStart_eq hon, vitalSame_putChk _ _ _, fun k hk => chkEngine_putChk_ne _ _ hk, ?_⟩, ?_⟩,
    fun hbusy => ⟨⟨_, chkStart_eq hon, ?_, rfl, rfl⟩, ⟨_, chkValueWrite_eq hon, ?_, rfl, rfl⟩,
      ⟨_, chkScanEnd_eq hon, vitalSame_putChk _ _ _, ?_⟩, fun ho => ⟨_, chkScanEnd_eq hon, vitalSame_putChk _ _ _, ?_⟩, ?_⟩,
    fun hu => ⟨_, ptpModeWrite_eq hon hu, ⟨rfl, rfl⟩, rfl⟩, ?_⟩
  · rw [chkEngine_putChk_self]
    refine ⟨fun hl => ?_, fun hl hw => ?_, fun hl hp hi hx => ?_⟩
    · rw [start_empty hidle hl]
      exact ⟨rfl, rfl, hidle⟩
    · rw [start_width hidle hl hw]
      exact ⟨rfl, hidle⟩
    · rw [start_narrow hidle hl hp hi hx]
      refine ⟨fun hr => ?_, fun hr => ?_⟩
      · rw [if_pos (by rw [hr]; rfl)]
        exact ⟨rfl, hidle⟩
      · rw [if_neg (by rw [hr]; decide)]
  · rw [chkValueWrite_eq hon, setValue_idle hidle]
  · rw [chkEngine_putChk_self, start_busy hbusy]
  · rw [chkEngine_putChk_self, setValue_busy hbusy]
  · rw [chkEngine_putChk_self, finish_whole hbusy]
  · rw [chkEngine_putChk_self, finish_error hbusy ho]
    rfl
  · obtain ⟨p, code, heq, hp, hcode⟩ := abort_spec (m := s.mem) (p := Config.scanProgress s.draw) hbusy
    have hengine : ∀ d, State.chkEngine { (s.wrote .chk).putChk n
        ((s.chkEngine n).abort s.mem (Config.scanProgress s.draw)) with draw := d } n = (s.chkEngine n).stop s.mem p code :=
      fun d => (chkEngine_putChk_self (s.wrote .chk) n _).trans heq
    refine ⟨_, p, chkAbort_eq hon, ⟨rfl, rfl⟩, ?_, hp, ?_, ?_, ?_⟩
    · rw [hengine]
      rfl
    · rw [hengine]
      rfl
    · rw [hengine]
      rfl
    · rw [hengine]
      exact hcode
  · obtain ⟨u, hu, hvital, hptp⟩ := ptpIncrWrite_spec (v := v) hon
    refine ⟨u, hu, hvital, fun hoff => ?_, fun hgx2 => ⟨fun hlo hhi => ?_, fun hout => ?_⟩⟩
    · rw [hptp, writeIncr_idle (p := s.ptp.advance s.now) hoff]
      rfl
    · rw [hptp, writeIncr_taken (p := s.ptp.advance s.now) hgx2 hlo hhi]
    · rw [hptp, writeIncr_refused (p := s.ptp.advance s.now) hgx2 hout]
      exact ⟨rfl, rfl⟩

end Sys2Proof.EngineRules
end

section
/-! ## The lane's tick, tick markers, wake requests and the two passes (R44, R52-R55, R58, R59, R63, R64, R77, R102, R104) -/

namespace Sys2Proof.CycleRules

open Sys2Proof Sys2Proof.Machine Sys2Proof.Laws Sys2Proof.SvcUp Sys2Proof.VoteRules Sys2Proof.ConsRules
open Sys2Proof.AgreeRules (lane_raiseLaneAll)

/-! ### The tick (R52, R54, R55) -/

/-- How far a lane moves its next tick: by the far tick in STANDBY, else by the markers. -/
def tickStep (s : State) (ln : LaneId) : Int := if s.module = .standby then s.phiShift else tickShift ln (s.lane ln)

/-- The corrections a lane holds after its tick, the newest first. -/
def tickCorrections (s : State) (ln : LaneId) : List Int := (tickStep s ln :: (s.lane ln).corrections).take 16

/-- The trim a lane's corrections ask for. -/
def askedTrim (s : State) (ln : LaneId) : Int := trimOf (tcOf (s.lane ln).image) (tickCorrections s ln)

/-- The switch reports of a lane at its tick. -/
def tickReports (s : State) (ln : LaneId) (mids : List (Nat × Nat × Nat)) : List (LogClass × EventName × List Int) :=
  switchReports ln (s.lane ln) (mids.map (fun e => (e.1, e.2.1, midLevel e.2.2)))

/-- A lane as its tick leaves it. -/
def tickedLane (s : State) (ln : LaneId) (mids : List (Nat × Nat × Nat)) : Lane :=
  { ((s.lane ln).clearCycle.latchInputs s.dead s.power.pfOk) with
    cn := (s.lane ln).cn + 1, corrections := tickCorrections s ln, trim := limitTrim (askedTrim s ln)
    tickMove := tickStep s ln, stuckShown := (tickReports s ln mids).map (·.2.2)
    strobeCn := if decide ((s.lane ln).views.get ln = .inVote) then some ((s.lane ln).cn + 1) else none }

/-- The module once a lane has ticked, before its clock is judged. -/
def ticked (s : State) (ln : LaneId) (mids : List (Nat × Nat × Nat)) : State :=
  (s.putLane ln (tickedLane s ln mids)).raiseLaneAll ln (tickReports s ln mids)

theorem limitTrim_eq (x : Int) : limitTrim x = max (-50000) (min 50000 x) := by
  unfold limitTrim clampInt
  split
  · omega
  · split <;> omega

section
variable {s : State} {ln : LaneId} {mids : List (Nat × Nat × Nat)} {t : Nat}

theorem agreedTick_eq (hrun : runsCycle s.module = true) (hst : s.laneState ln = .inVote ∨ s.laneState ln = .rejoining) :
    exec (.agreedTick ln t mids) s = .next ((s.touch t).tickLane ln mids).settle := by
  show (match runsCycle s.module, s.laneState ln with
    | true, .inVote => fin ((s.touch t).tickLane ln mids)
    | true, .rejoining => fin ((s.touch t).tickLane ln mids)
    | _, _ => fin (s.touch t)) = _
  rcases hst with h | h <;> rw [hrun, h] <;> rfl

theorem tickLane_eq (s : State) (ln : LaneId) (mids : List (Nat × Nat × Nat)) : s.tickLane ln mids =
    if s.votes ln && clockBad ln (s.lane ln) (tickShift ln (s.lane ln)) (askedTrim s ln) then
      (ticked s ln mids).exclude ln .clock
    else if s.votes ln && ticksApart ln (s.lane ln) then (ticked s ln mids).loseVote
    else ticked s ln mids := rfl

/-- The clock is judged of a lane IN-VOTE alone. -/
theorem tickLane_good (h : s.laneState ln = .inVote ∧
      clockBad ln (s.lane ln) (tickShift ln (s.lane ln)) (askedTrim s ln) = false ∧ ticksApart ln (s.lane ln) = false ∨
    s.laneState ln = .rejoining) : s.tickLane ln mids = ticked s ln mids := by
  rw [tickLane_eq]
  rcases h with ⟨-, hclock, hapart⟩ | hst
  · rw [hclock, hapart, Bool.and_false]
    rfl
  · rw [show s.votes ln = false by rw [State.votes, hst]; rfl]
    rfl

theorem outer_ticked (s : State) (ln : LaneId) (mids : List (Nat × Nat × Nat)) : outer (ticked s ln mids) = outer s := by
  rw [ticked, outer_raiseLaneAll]
  rfl

theorem lane_ticked_self (hup : s.uplink.up = true) : (ticked s ln mids).lane ln = tickedLane s ln mids := by
  unfold ticked
  rw [lane_raiseLaneAll (by exact hup), lane_putLane_self]

theorem lane_ticked_ne (hup : s.uplink.up = true) {m : LaneId} (h : m ≠ ln) : (ticked s ln mids).lane m = s.lane m := by
  unfold ticked
  rw [lane_raiseLaneAll (by exact hup), lane_putLane_ne _ _ h]

theorem laneState_ticked (hup : s.uplink.up = true) (hst : s.laneState ln = .inVote) :
    (ticked s ln mids).laneState ln = .inVote := by
  rw [State.laneState, lane_ticked_self hup]
  exact hst

/-- A lane whose clock is bad leaves the vote (R54). -/
theorem tickLane_clock (hst : s.laneState ln = .inVote) (hup : s.uplink.up = true) (ht : s.testing = false)
    (hbad : clockBad ln (s.lane ln) (tickShift ln (s.lane ln)) (askedTrim s ln) = true) :
    LaneOut ln .clock ((s.tickLane ln mids).lane ln) := by
  rw [tickLane_eq, hbad, (votes_iff s ln).2 hst]
  exact laneOut_exclude .clock ((testing_of_outer (outer_ticked s ln mids)).trans ht)
    (excludable_inVote (laneState_ticked hup hst))

theorem module_loseVote {s : State} (hrun : runsCycle s.module = true) (ht : s.testing = false) : s.loseVote.module = .halt := by
  have hcond : (runsCycle s.module && !s.testing) = true := by rw [hrun, ht]; rfl
  unfold State.loseVote
  rw [if_pos hcond]
  exact module_enterHalt _

/-- Two ticks too far apart end the vote of the module (R55). -/
theorem tickLane_apart (hrun : runsCycle s.module = true) (hst : s.laneState ln = .inVote) (ht : s.testing = false)
    (hgood : clockBad ln (s.lane ln) (tickShift ln (s.lane ln)) (askedTrim s ln) = false)
    (hapart : ticksApart ln (s.lane ln) = true) : (s.tickLane ln mids).module = .halt := by
  have houter := outer_ticked s ln mids
  rw [tickLane_eq, hgood, hapart, (votes_iff s ln).2 hst]
  exact module_loseVote (by rw [module_of_outer houter]; exact hrun) ((testing_of_outer houter).trans ht)

end

/-- What a tick that is not judged bad leaves. -/
theorem ticked_settled {s : State} {ln : LaneId} {mids : List (Nat × Nat × Nat)} (hup : s.uplink.up = true) :
    (ticked s ln mids).settle.lane ln = tickedLane s ln mids ∧
    (∀ m, m ≠ ln → (ticked s ln mids).settle.lane m = s.lane m) ∧
    (ticked s ln mids).settle.now = s.now ∧ (ticked s ln mids).settle.module = s.module := by
  have houter := outer_ticked s ln mids
  have hlane := lane_settle (s := ticked s ln mids) (by rw [uplink_of_outer houter]; exact hup)
  have hnow := congrArg State.now (ModuleRules.outer_settle (ticked s ln mids))
  have hnow' := congrArg State.now houter
  refine ⟨(hlane ln).trans (lane_ticked_self hup), fun m hm => (hlane m).trans (lane_ticked_ne hup hm), ?_,
    (module_settle _).trans (module_of_outer houter)⟩
  exact Eq.trans hnow hnow'

/-! ### Markers and wake requests (R52, R59) -/

section
variable {s : State} {ln src : LaneId}

theorem tickMarkerRx_eq {l : ClxLink} {rx : Int} (hl : linkOf ln src = some l) (hok : s.clxOk.link l = true)
    (hrun : runsCycle s.module = true) (hst : s.laneState src = .inVote) :
    exec (.tickMarkerRx ln src rx) s = .next (s.updLane ln (fun L =>
      if rx < 0 then { L with thetaNext := L.thetaNext.set src (some (rx - L.latency.get src)) }
      else { L with theta := L.theta.set src (some (rx - L.latency.get src)) })) := by
  have hcond : ((match linkOf ln src with
      | some l => s.clxOk.link l
      | none => false) && runsCycle s.module && decide (s.laneState src = .inVote)) = true := by
    rw [hl, hrun, hst]
    show (s.clxOk.link l && true && true) = true
    rw [hok]
    rfl
  exact if_pos hcond

theorem wakeRequest_eq (ha : (s.lane ln).active ln = true) (hrun : runsPasses s.module = true) :
    exec (.wakeRequest ln) s = .next (s.updLane ln (fun L => { L with wakeRequested := true })) :=
  if_pos (by rw [ha, hrun]; rfl)

theorem wakeDeadline_eq {a b : Bool} (hw : (s.lane ln).wakeRequested = true) (hack : (a && b) = false) :
    exec (.wakeDeadline ln a b) s = fin ((s.raiseLane ln .fault .wakeFault [ln.num]).exclude ln .clock) :=
  if_pos (by rw [hw, hack]; rfl)

theorem wakeDeadline_leaves {a b : Bool} (hw : (s.lane ln).wakeRequested = true) (hack : (a && b) = false)
    (hv : s.votes ln = true) (ht : s.testing = false) : ∃ u, exec (.wakeDeadline ln a b) s = .next u ∧ leftVote u ln .clock := by
  rw [wakeDeadline_eq hw hack]
  refine leftVote_fin (laneOut_exclude .clock ((testing_of_bist (bist_raiseLane s _ _ _ _)).trans ht)
    (excludable_inVote ?_))
  rw [laneState_raiseLane]
  exact (votes_iff s ln).1 hv

end

/-! ### The start of a pass (R77, R102, R104) -/

/-- A lane at the start of a pass of the cycle `cn`: its registers cleared, and each core that has a partition running on
the signature of the cycle. -/
def PassStarted (p : Pass) (cn : U32) (L : Lane) : Prop :=
  L.pass = some p ∧
  ∀ c, (L.cores.get c).v = [] ∧ (L.cores.get c).p = [] ∧ (L.cores.get c).x = [] ∧ (L.cores.get c).pc = 0 ∧
    (L.cores.get c).clk = 0 ∧ (L.cores.get c).loops = [] ∧
    ((L.part c).isSome = true → (L.cores.get c).running = true ∧
      (L.cores.get c).sg = BitVec.ofNat 64 (cn.toNat * 2 ^ 32 + 0xA5A0 + c.idx))

theorem cores_startPass (L : Lane) (p : Pass) (c : CoreId) : (L.startPass p).cores.get c = startCore L p c := by
  cases c <;> rfl

theorem startCore_reset (L : Lane) (p : Pass) (c : CoreId) :
    (startCore L p c).v = [] ∧ (startCore L p c).p = [] ∧ (startCore L p c).x = [] ∧ (startCore L p c).pc = 0 ∧
    (startCore L p c).clk = 0 ∧ (startCore L p c).loops = [] := by
  unfold startCore
  dsimp only
  split <;> exact ⟨rfl, rfl, rfl, rfl, rfl, rfl⟩

theorem startCore_runs {L : Lane} {c : CoreId} (p : Pass) (h : (L.part c).isSome = true) :
    (startCore L p c).running = true ∧ (startCore L p c).sg = BitVec.ofNat 64 (L.cn.toNat * 2 ^ 32 + 0xA5A0 + c.idx) := by
  unfold startCore
  dsimp only
  rw [if_pos h]
  exact ⟨rfl, rfl⟩

theorem passStarted_startPass (L : Lane) (p : Pass) : PassStarted p L.cn (L.startPass p) := by
  refine ⟨rfl, fun c => ?_⟩
  rw [cores_startPass]
  obtain ⟨hv, hp, hx, hpc, hclk, hloops⟩ := startCore_reset L p c
  exact ⟨hv, hp, hx, hpc, hclk, hloops, fun h => startCore_runs p h⟩

/-- What a pass that starts leaves of its lane: an event the lane holds does not touch it. -/
def StartedLane (p : Pass) (cn : U32) (ph : Phase) (V : Tri LaneState) (L : Lane) : Prop :=
  PassStarted p cn L ∧ L.phase = ph ∧ L.views = V

theorem holdFree_startedLane (p : Pass) (cn : U32) (ph : Phase) (V : Tri LaneState) : HoldFree (StartedLane p cn ph V) := by
  intro L e h
  unfold Lane.hold
  split <;> exact h

theorem closePass_frame (L : Lane) : L.closePass.cn = L.cn ∧ L.closePass.views = L.views := by
  unfold Lane.closePass
  dsimp only
  split <;> exact ⟨rfl, rfl⟩

section
variable {s : State} {ln : LaneId}

/-- Where no session waits, PASS1 starts on the state as it stands. -/
theorem pass1Start_eq (hdue : s.pilotDue = false) (ha : (s.lane ln).active ln = true) (hrun : runsPasses s.module = true)
    (hp : (s.lane ln).phase = .pAgree) (hd : (s.lane ln).decided = true) : exec (.pass1Start ln) s =
    if (s.lane ln).repairs.isEmpty then fin (s.putLane ln ((s.lane ln).startPass .p1)) else fin (s.excludeAgreed ln .agree) := by
  have hsame : (if s.pilotDue && decide (ln = .l1) && s.votes .l1 && (s.lane ln).readyForPass1 then s.capture else s) = s :=
    if_neg (by rw [hdue]; exact Bool.false_ne_true)
  show execPass1Start ln s = _
  unfold execPass1Start
  dsimp only
  rw [hsame, ha, hrun, hp, hd]
  rfl

theorem readyForPass1_spec {L : Lane} (h : L.readyForPass1 = true) :
    L.phase = .pAgree ∧ L.decided = true ∧ L.repairs.isEmpty = true := by
  obtain ⟨hpd, hr⟩ := Bool.and_eq_true_iff.1 h
  obtain ⟨hp, hd⟩ := Bool.and_eq_true_iff.1 hpd
  exact ⟨of_decide_eq_true hp, hd, hr⟩

theorem pass2Start_eq (ha : (s.lane ln).active ln = true) (hp : (s.lane ln).phase = .pass1) (hovr : (s.lane ln).ovr = false) :
    exec (.pass2Start ln) s = fin (s.putLane ln ((s.lane ln).closePass.startPass .p2)) :=
  if_pos (by rw [ha, hp, hovr]; rfl)

/-! ### The budget (R63, R64) -/

theorem passBudgetCheck_eq (hpilot : s.pilot = none) (hp : (s.lane ln).pass.isSome = true) :
    exec (.passBudgetCheck ln) s = fin ((s.putLane ln (if overrunNow (s.lane ln) then
        { (s.lane ln).gate with ovr := true, phase := .waitCons } else (s.lane ln).closePass.gate)).raiseLaneAll ln
      (overBudget (s.lane ln))) := by
  have hno : s.piloted ln = false := by rw [State.piloted, hpilot, Option.isSome_none, Bool.and_false]
  obtain ⟨p, hp⟩ := Option.isSome_iff_exists.1 hp
  show execPassBudgetCheck ln s = _
  unfold execPassBudgetCheck
  dsimp only
  rw [hno]
  split
  · rfl
  next hno => exact absurd rfl (hno p hp)

/-- What a pass within its budget leaves of its lane. -/
def ClosedPass1 (sig : U64) (L : Lane) : Prop :=
  L.sig1 = sig ∧ L.pass = none ∧ ∀ c, (L.cores.get c).running = false

theorem holdFree_closedPass1 (sig : U64) : HoldFree (ClosedPass1 sig) := by
  intro L e h
  unfold Lane.hold
  split <;> exact h

theorem closedPass1_gate {L : Lane} (h : L.pass = some .p1) : ClosedPass1 (passSig L) L.closePass.gate := by
  obtain ⟨hpass, -, hcores⟩ := gate_off L.closePass
  refine ⟨?_, hpass, hcores⟩
  show L.closePass.sig1 = _
  unfold Lane.closePass
  dsimp only
  rw [h]

end

/-- A lane that starts a pass keeps what it starts with as the module settles. -/
theorem started_fin {s : State} {ln : LaneId} {p : Pass} {cn : U32} {ph : Phase} {V : Tri LaneState} {M : Lane}
    (h : StartedLane p cn ph V M) : ∃ u, fin (s.putLane ln M) = .next u ∧ StartedLane p cn ph V (u.lane ln) :=
  ⟨_, rfl, settle_of (holdFree_startedLane p cn ph V) (by rwa [lane_putLane_self])⟩

/-- Settles O8: the tick by what `tickLane` judges, and the passes by what `startPass` and `closePass` leave. -/
theorem tickMarkersAndPasses : Obligations.TickMarkersAndPasses := by
  unfold Obligations.TickMarkersAndPasses
  refine ⟨?tick, ?judged,
    fun s ln src rx l a b => ⟨fun hl hok hrun hv => tickMarkerRx_eq hl hok hrun hv, fun ha hrun => wakeRequest_eq ha hrun,
      fun hw hack hv ht => wakeDeadline_leaves hw hack hv ht⟩,
    ?passes⟩
  case tick =>
    intro s ln t mids L dist shift cs trim hrun hup hst
    obtain ⟨hself, hne, hnow, hmod⟩ := ticked_settled (s := s.touch t) (ln := ln) (mids := mids) hup
    have hex : exec (.agreedTick ln t mids) s = .next (ticked (s.touch t) ln mids).settle := by
      rw [agreedTick_eq hrun (hst.imp_left And.left), tickLane_good (s := s.touch t) hst]
    refine ⟨_, hex, ?_⟩
    rw [hself]
    exact ⟨rfl, rfl, rfl, rfl, limitTrim_eq _, rfl, rfl, rfl, rfl, rfl, rfl, hne, hnow, hmod⟩
  case judged =>
    intro s ln t mids L shift trim hrun hst ht hup
    exact ⟨fun hbad => ⟨_, agreedTick_eq hrun (Or.inl hst),
        leftVote_settle (tickLane_clock (s := s.touch t) hst hup ht hbad)⟩,
      fun hgood hapart => ⟨_, agreedTick_eq hrun (Or.inl hst),
        (module_settle _).trans (tickLane_apart (s := s.touch t) hrun hst ht hgood hapart)⟩⟩
  intro s ln L started
  refine ⟨fun hdue hpilot ha hrun hready => ?first, fun hpilot ha hp hovr => ?second, fun hpilot hp hover => ?overrun,
    fun hpilot hp hover hup => ?closed, fun hdue ha hrun hp hd hrep ht => ?repairs⟩
  case first =>
    obtain ⟨hp, hd, hrep⟩ := readyForPass1_spec hready
    rw [pass1Start_eq hdue ha hrun hp hd, if_pos hrep]
    obtain ⟨u, hu, hstart, hphase, hviews⟩ :=
      started_fin (s := s) (ln := ln) ⟨passStarted_startPass (s.lane ln) .p1, rfl, rfl⟩
    exact ⟨u, hu, hstart, hphase, hviews⟩
  case second =>
    obtain ⟨hcn, hviews⟩ := closePass_frame (s.lane ln)
    have hstarted := passStarted_startPass (s.lane ln).closePass .p2
    rw [hcn] at hstarted
    rw [pass2Start_eq ha hp hovr]
    obtain ⟨u, hu, hstart, hphase, hviews⟩ := started_fin (s := s) (ln := ln) ⟨hstarted, rfl, hviews⟩
    exact ⟨u, hu, hstart, hphase, hviews⟩
  case overrun =>
    rw [passBudgetCheck_eq hpilot hp, if_pos hover]
    rfl
  case closed =>
    have hsome : (s.lane ln).pass.isSome = true := by rw [hp]; rfl
    rw [passBudgetCheck_eq hpilot hsome, if_neg (by rw [hover]; exact Bool.false_ne_true)]
    obtain ⟨hsig, hpass, hcores⟩ : ClosedPass1 (passSig (s.lane ln)) (State.lane (State.settle
        ((s.putLane ln (s.lane ln).closePass.gate).raiseLaneAll ln (overBudget (s.lane ln)))) ln) :=
      settle_of (holdFree_closedPass1 _) (raiseLaneAll_of (holdFree_closedPass1 _) ln _
        (by rw [lane_putLane_self]; exact closedPass1_gate hp))
    exact ⟨_, rfl, hsig, hpass, hcores⟩
  case repairs =>
    rw [pass1Start_eq hdue ha hrun hp hd, if_neg (by rw [List.isEmpty_iff]; exact hrep)]
    exact leftVote_fin (laneOut_excludeAgreed .agree ht (excludable_of_active ha))

end Sys2Proof.CycleRules
end
